-- ==== Sys2Proof/Word.lean ====
section
/-!
DEFINITION. The word types of the AE7 and their plainest arithmetic: bytes, 32-bit and 64-bit words, the index types of
regions, dies, sites, ports and functions, and saturating counts (00 R10, R11).
-/
namespace Sys2Proof

/-- One byte. -/
abbrev Byte := BitVec 8
/-- A 32-bit descriptor or register word (00 R12). -/
abbrev Word := BitVec 32
/-- A 64-bit register. -/
abbrev Word64 := BitVec 64
/-- A register number of a thread instruction (09 R313). -/
abbrev Reg := BitVec 6
/-- A status or event code (28 R925). -/
abbrev Code := BitVec 16
/-- A region number, 0 to 31 (01, 06 R178). -/
abbrev RegionId := Fin 32
/-- A fabric die, F0 or F1 (01 R15). -/
abbrev DieId := Fin 2
/-- A logical site index of a die (06 R176). -/
abbrev SiteId := Fin 256
/-- A PCI Express function: 0 the physical function, k virtual function k (21 R779). -/
abbrev FnId := Fin 33
/-- A Rincen port (20 R729). -/
abbrev PortId := Fin 8
/-- A YDI bundle index (19 R701). -/
abbrev BundleId := Fin 40

/-- `x + n`, stopping at the largest value of the width (saturating counters). -/
def satAdd {w : Nat} (x : BitVec w) (n : Nat) : BitVec w :=
  BitVec.ofNat w (min (x.toNat + n) (2 ^ w - 1))

/-- Bits `[hi:lo]` of a number (00 R10). -/
def bitsOf (x hi lo : Nat) : Nat := x / 2 ^ lo % 2 ^ (hi + 1 - lo)

end Sys2Proof
end

