-- ==== Sys2Proof/Syntax.lean ====
section
/-!
DEFINITION. The commands of the AE7 block: one constructor per row of spec/opcode_table.json, in the table's order, with
the operands that the command brings from outside (log 1). A command is an event at a pin, a register access by a
function, a message, or the passage of the package's own work to its next event.
-/
namespace Sys2Proof

/-- A hardware thread: its die, logical site and number at the site (09 R301). -/
structure Tid where
  die : DieId
  site : SiteId
  th : Fin 64
  deriving DecidableEq, Repr

/-- An operation: its region, local queue and sequence number (09 R331). -/
structure OpRef where
  region : RegionId
  queue : Fin 64
  seq : Word
  deriving DecidableEq, Repr

/-- A site of a fabric die (07 R214). -/
structure SiteRef where
  die : DieId
  site : SiteId
  deriving DecidableEq, Repr

/-- The checksum that a vector site computed of one of its four function tables, in the order EXP2, LOG2R, RECIP, RSQRT (15 R580-R582). -/
structure TableSum where
  site : SiteRef
  table : Fin 4
  sum : BitVec 32
  deriving DecidableEq, Repr

/-- An error of a stored code: a group with one wrong bit, one with more, or a word that fails its check (08 R262-R264, R275). -/
inductive Mark where
  | corrected | uncorrectable | crc
  deriving DecidableEq, Repr

/-- What the sites that come into service find of themselves: the checksums of their function tables, and which spin sites' self-tests fail
(11 R431, 15 R582). -/
structure SiteTests where
  sums : List TableSum
  badNoise : List SiteRef
  deriving DecidableEq, Repr

/-- What a frame boundary finds: the rail's average (24 R871), its lowest reading in the frame (26 R910), and the groups of stored bytes that
have been damaged (08 R262, R275). -/
structure FrameReads where
  avgMv : BitVec 16
  lowMv : BitVec 16
  upsets : List (Nat × Mark)
  deriving DecidableEq, Repr

/-- A package-reset cause that a pin or the rail releases (05 R131, 24 R892). -/
inductive ResetCause where
  | board | host | overVoltage
  deriving DecidableEq, Repr

/-- Why a boot stage failed (05 R140, R148; 22 R824). -/
inductive BootFailure where
  | missedBound | stageFailed
  deriving DecidableEq, Repr

/-- Why an image fetch ended (05 R151). -/
inductive FetchFailure where
  | hostError | denied | linkDown
  deriving DecidableEq, Repr

/-- The rings of R934 other than a queue's own. -/
inductive RingSel where
  | event (r : RegionId) | digest (r : RegionId) | pfEvent | sample
  deriving DecidableEq, Repr

/-- A base register of R934: a ring's, or a queue's descriptor or completion base. -/
inductive BaseSel where
  | ring (s : RingSel) | queueBase (r : RegionId) (q : Fin 64) | queueCplBase (r : RegionId) (q : Fin 64)
  deriving DecidableEq, Repr

/-- An interrupt source (21 R795, R806). -/
inductive IrqSource where
  | queue (r : RegionId) (q : Fin 64) | event (r : RegionId) | digest (r : RegionId) | pfEvent
  deriving DecidableEq, Repr

/-- Why a running ANNEAL or SAMPLE is asked to stop (12 R484). -/
inductive StopCause where
  | cancel | timeout | preempt | abortFlag | partner | partnerLost | lateExchange | linkError | noiseFault | revoked
  deriving DecidableEq, Repr

/-- The verified properties of a firmware copy (22 R811); its internal format is not documented. -/
structure FwCopy where
  keySlot : Fin 4
  /-- The public key that the copy carries hashes to its slot's fused hash. -/
  keyMatches : Bool
  /-- The copy's ECDSA P-384 signature verifies. -/
  sigOk : Bool
  version : Word
  deriving DecidableEq, Repr

/-- Who a background task is (07 R249, 09 R929 BG_ESCALATED). -/
inductive BgTask where
  | scrub | calibration | wearLevelling | noiseTest | siteSampling | edgeSampling
  deriving DecidableEq, Repr

/-- How the programming of a fuse command goes (22 R821, R822): every fuse reads back as blown, the fuse with this index
does not, or a package reset cuts the command off before the fuse with this index. -/
inductive FuseResult where
  | blown | failed (at_ : Nat) | cut (at_ : Nat)
  deriving DecidableEq, Repr

/-- The commands: one constructor per row of the table. -/
inductive Instr where
  -- rail, resets, boot (26, 05)
  | railPowerGood (mv : BitVec 16)
  | railUndervoltage (mv : BitVec 16)
  | railOvervoltage (mv : BitVec 16)
  | boardResetAssert (lowTicks : Nat)
  | hostResetAssert (lowTicks : Nat)
  | resetRelease (cause : ResetCause)
  | mgtVioChange (present : Bool)
  | watchdogExpiry
  | bootRomDone
  | fwVerifyDone
  | dieLinkDone (trained : List (BitVec 36))
  | memInitDone (rngOk : Bool)
  | bootStageTimeout (why : BootFailure)
  | bootRestart
  -- configuration image (05, 06)
  | imageAutoload
  | imageLoad
  | imageUnload
  | flashFirmware (copy : FwCopy)
  | storeAutoload
  | eraseAutoload
  | imageLoadDeferredStart
  | imageFetchDone (bytes : List Byte)
  | imageFetchError (why : FetchFailure)
  | regionsStart (tests : SiteTests)
  | imageApplyFault (step : Fin 7)
  | regionResetReq (f : FnId) (r : RegionId)
  | regionResetStart (r : RegionId)
  | regionResetEnd (r : RegionId) (relocked rngOk : Bool) (tests : SiteTests)
  -- pins, SMBus, shared resources (02, 24)
  | cblpresChange (p : PortId) (high : Bool)
  | mgmtStatus
  | temp
  | power
  | rail
  | stage
  | lastFault
  | deviceId
  | alertResponse
  | regionSharedReq (f : FnId) (r : RegionId) (v : Word)
  | hubSharedReq (v : Word)
  -- clocks and power (03, 04)
  | clkTickLoRead (f : FnId)
  | resonatorCheck (disagree : Bool)
  | resonatorCalibration (step : BitVec 16)
  | islandLockLost (domain : BitVec 6) (inSite : Bool) (at_ : SiteRef)
  | frameBoundary (temps : List (BitVec 10)) (inputPower : BitVec 16) (reads : FrameReads)
  | regionPwrReq (f : FnId) (r : RegionId) (v : Word)
  | pwrDomainTargetWrite (n : Fin 64) (v : Word)
  | pwrRequestAct (n : Fin 64)
  | closingDrained (n : Fin 64)
  | pwrTransitionComplete (n : Fin 64)
  | pwrDrainLong (n : Fin 64)
  | throttleRecompute
  | thermTrip
  | thermTripApply
  | supplyDroopBegin
  | supplyDroopEnd
  | pwrThermCtlWrite (v : Word)
  -- queues and the scheduler (09)
  | schedulerBoundary (r : RegionId)
  | doorbell (f : FnId) (r : RegionId) (q : Fin 64) (t : Word)
  | queueCfgWrite (f : FnId) (r : RegionId) (q : Fin 64) (v : Word)
  | ringCfgWrite (f : FnId) (ring : RingSel) (v : Word)
  | ringBaseWrite (f : FnId) (ring : BaseSel) (v : Word64)
  | descriptorFetch (r : RegionId)
  | descriptorAccept (r : RegionId) (bytes : List Byte)
  | issueAccept (t : Tid)
  | operationComplete (o : OpRef)
  | eventsLost (ring : RingSel)
  | digestLost (r : RegionId)
  | regionCancelCmd (f : FnId) (r : RegionId) (v : Word64)
  | regionPrioCmd (f : FnId) (r : RegionId) (v : Word64)
  | preemptionPointStop (o : OpRef)
  | timeoutExpiry (o : OpRef)
  | wmCrossedClear (f : FnId) (r : RegionId) (n : Fin 3)
  | flagRegisterWrite (f : FnId) (r : RegionId) (n : Byte) (v : Word)
  -- descriptors (09, 08, 12, 13, 17, 18)
  | nop (o : OpRef)
  | copy (o : OpRef)
  | copyComplete (o : OpRef) (hostBytes : List Byte)
  | task (o : OpRef)
  | anneal (o : OpRef)
  | sample (o : OpRef)
  | matrix (o : OpRef)
  | visionGraph (o : OpRef)
  | flagSet (o : OpRef)
  | flagWait (o : OpRef)
  | flagWaitSatisfied (o : OpRef)
  | fence (o : OpRef)
  | fenceRelease (o : OpRef)
  | digestMark (o : OpRef)
  -- the thread instruction set (09 R313-R322)
  | threadNop (t : Tid)
  | add (t : Tid) (rd ra rb : Reg)
  | sub (t : Tid) (rd ra rb : Reg)
  | mul (t : Tid) (rd ra rb : Reg)
  | mulhs (t : Tid) (rd ra rb : Reg)
  | mulhu (t : Tid) (rd ra rb : Reg)
  | and (t : Tid) (rd ra rb : Reg)
  | or (t : Tid) (rd ra rb : Reg)
  | xor (t : Tid) (rd ra rb : Reg)
  | shl (t : Tid) (rd ra rb : Reg)
  | shr (t : Tid) (rd ra rb : Reg)
  | sar (t : Tid) (rd ra rb : Reg)
  | mins (t : Tid) (rd ra rb : Reg)
  | maxs (t : Tid) (rd ra rb : Reg)
  | minu (t : Tid) (rd ra rb : Reg)
  | maxu (t : Tid) (rd ra rb : Reg)
  | seq (t : Tid) (rd ra rb : Reg)
  | sne (t : Tid) (rd ra rb : Reg)
  | slt (t : Tid) (rd ra rb : Reg)
  | sltu (t : Tid) (rd ra rb : Reg)
  | addImm (t : Tid) (rd ra : Reg) (imm : Word)
  | subImm (t : Tid) (rd ra : Reg) (imm : Word)
  | mulImm (t : Tid) (rd ra : Reg) (imm : Word)
  | mulhsImm (t : Tid) (rd ra : Reg) (imm : Word)
  | mulhuImm (t : Tid) (rd ra : Reg) (imm : Word)
  | andImm (t : Tid) (rd ra : Reg) (imm : Word)
  | orImm (t : Tid) (rd ra : Reg) (imm : Word)
  | xorImm (t : Tid) (rd ra : Reg) (imm : Word)
  | shlImm (t : Tid) (rd ra : Reg) (imm : Word)
  | shrImm (t : Tid) (rd ra : Reg) (imm : Word)
  | sarImm (t : Tid) (rd ra : Reg) (imm : Word)
  | minsImm (t : Tid) (rd ra : Reg) (imm : Word)
  | maxsImm (t : Tid) (rd ra : Reg) (imm : Word)
  | minuImm (t : Tid) (rd ra : Reg) (imm : Word)
  | maxuImm (t : Tid) (rd ra : Reg) (imm : Word)
  | seqImm (t : Tid) (rd ra : Reg) (imm : Word)
  | sneImm (t : Tid) (rd ra : Reg) (imm : Word)
  | sltImm (t : Tid) (rd ra : Reg) (imm : Word)
  | sltuImm (t : Tid) (rd ra : Reg) (imm : Word)
  | movi (t : Tid) (rd : Reg) (imm : Word)
  | mov (t : Tid) (rd ra : Reg)
  | sel (t : Tid) (rd ra rb rc : Reg)
  | fadd (t : Tid) (rd ra rb : Reg)
  | fsub (t : Tid) (rd ra rb : Reg)
  | fmul (t : Tid) (rd ra rb : Reg)
  | fmin (t : Tid) (rd ra rb : Reg)
  | fmax (t : Tid) (rd ra rb : Reg)
  | feq (t : Tid) (rd ra rb : Reg)
  | flt (t : Tid) (rd ra rb : Reg)
  | fabs (t : Tid) (rd ra : Reg)
  | fneg (t : Tid) (rd ra : Reg)
  | cvtn (t : Tid) (rd ra rb rc : Reg) (imm : Word)
  | cvtw (t : Tid) (rd ra : Reg) (imm : Word)
  | ld8u (t : Tid) (rd ra : Reg) (imm : Word)
  | ld8s (t : Tid) (rd ra : Reg) (imm : Word)
  | ld16u (t : Tid) (rd ra : Reg) (imm : Word)
  | ld16s (t : Tid) (rd ra : Reg) (imm : Word)
  | ld32 (t : Tid) (rd ra : Reg) (imm : Word)
  | ld64 (t : Tid) (rd ra : Reg) (imm : Word)
  | st8 (t : Tid) (ra rb : Reg) (imm : Word)
  | st16 (t : Tid) (ra rb : Reg) (imm : Word)
  | st32 (t : Tid) (ra rb : Reg) (imm : Word)
  | st64 (t : Tid) (ra rb : Reg) (imm : Word)
  | atom32 (t : Tid) (rd ra rb : Reg) (op : BitVec 6) (imm : Word)
  | atom64 (t : Tid) (rd ra rb : Reg) (op : BitVec 6) (imm : Word)
  | br (t : Tid) (imm : Word)
  | brz (t : Tid) (ra : Reg) (imm : Word)
  | brnz (t : Tid) (ra : Reg) (imm : Word)
  | jal (t : Tid) (rd : Reg) (imm : Word)
  | jr (t : Tid) (ra : Reg)
  | exit (t : Tid)
  | fwait (t : Tid) (ra : Reg) (flag : Byte) (cond : BitVec 2)
  | threadFlagRelease (t : Tid)
  | fset (t : Tid) (ra : Reg) (flag : Byte) (op : BitVec 2)
  | issue (t : Tid) (queue : Reg) (ra : Reg) (imm : Word)
  | undecodableInstruction (t : Tid)
  | loadReturn (t : Tid) (rd : Reg)
  | sendQueueRelease (r : RegionId) (route : BitVec 16)
  -- special functions (15)
  | exp2 (t : Tid) (rd ra : Reg) (f32 : Bool)
  | log2 (t : Tid) (rd ra : Reg) (f32 : Bool)
  | recip (t : Tid) (rd ra : Reg) (f32 : Bool)
  | rsqrt (t : Tid) (rd ra : Reg) (f32 : Bool)
  | sigmoid (t : Tid) (rd ra : Reg) (f32 : Bool)
  | tanh (t : Tid) (rd ra : Reg) (f32 : Bool)
  | geluErf (t : Tid) (rd ra : Reg) (f32 : Bool)
  | geluTanh (t : Tid) (rd ra : Reg) (f32 : Bool)
  | sfuResult (t : Tid) (rd : Reg)
  | softmax (t : Tid) (ra rb rc : Reg) (n : BitVec 16) (inF32 outF32 maxEn : Bool)
  | softmaxComplete (t : Tid)
  | sfuUnitFree (x : SiteRef)
  -- spin updates (11, 12)
  | updateSlot (x : SiteRef)
  | claimsSend (x : SiteRef)
  | claimsArrive (x : SiteRef) (stream : Fin 64)
  | windowCommit (x : SiteRef)
  | ghostValuesArrive (x : SiteRef) (stream : Fin 64)
  | windowStart (x : SiteRef)
  | exchangeDecisionArrive (x : SiteRef)
  | epochMarkSend (o : OpRef)
  | epochMarkArrive (p : PortId)
  | syncInEdge
  | stopRequest (o : OpRef) (cause : StopCause)
  | annealComplete (o : OpRef)
  | noiseSelfTest (x : SiteRef) (z0 z1 z2 : Word64)
  -- matrix (13)
  | matrixPromotion (x : SiteRef)
  | matrixAccumulationEnd (x : SiteRef)
  | shadowSetFree (x : SiteRef)
  | matrixDrainEnd (x : SiteRef)
  -- vision (16, 17)
  | pyramid (d : DieId)
  | detect (d : DieId)
  | describe (d : DieId)
  | matchNode (d : DieId)
  | stereo (d : DieId)
  | visNodeComplete (d : DieId) (stereoEngine : Bool)
  | streamRowWaitEnd (d : DieId) (stereoEngine : Bool)
  | frameMarkTimer (r : RegionId) (n : Fin 8)
  | visFrameStart (d : DieId) (stereoEngine : Bool)
  | syncOutPulseEnd
  | visGroupUnderrun (r : RegionId) (g : Fin 16)
  | regionVisTimerWrite (f : FnId) (r : RegionId) (n : Fin 8) (v : Word)
  -- network and DRAM (07, 08)
  | nocPacketArrive (d : DieId) (kind : Fin 4) (index : Byte) (port : Fin 6) (r : RegionId) (route : BitVec 16) (checkOk : Bool)
  | dramRefresh (m : Fin 6) (held : Bool) (r : RegionId) (route : BitVec 16)
  | bgTaskStarved (d : DieId) (router : Byte) (task : BgTask)
  | bgEscalationWindow (d : DieId) (router : Byte)
  | scrubRead (m : Fin 6) (ch : Fin 4) (found : List (Fin 40 × Mark))
  | scrubWriteback (m : Fin 6) (ch : Fin 4)
  -- die-to-die (19)
  | ydiPacketReceive (b : BundleId) (crcOk : Bool) (laneFails : BitVec 36) (o : OpRef)
  | ydiDeferredCross (b : BundleId) (o : OpRef)
  | ydiErrorWindow
  | bundleWidthChange (b : BundleId)
  | bundleSidebandFail (b : BundleId)
  | laneRecordWrite
  | ydiCfgWrite (v : Word)
  -- Rincen links (20)
  | portTrainAttempt (p : PortId) (trained : Bool)
  | linkFrameStart (p : PortId)
  | linkHeaderReceive (p : PortId) (header : List Byte)
  | portLive (p : PortId)
  | linkCellSend (p : PortId) (slot : Nat)
  | linkCellReceive (p : PortId) (slot : Nat) (cell : List Byte)
  | cellForward (p : PortId) (slot : Nat)
  | cellResend (p : PortId) (slot : Nat)
  | heartbeatMiss (p : PortId)
  | linkDownNotice (p : PortId) (ordinal : BitVec 17) (lostPort : PortId)
  | routeSwitch (key : BitVec 16)
  -- host (21)
  | hostLinkDown
  | hostLinkUp (rate : BitVec 3) (width : BitVec 5) (flit : Bool)
  | vfEnableWrite (enable : Bool) (numVFs : Fin 33)
  | vfFlr (k : RegionId)
  | pfFlr
  | functionD3hot (f : FnId)
  | busMasterEnableWrite (f : FnId) (v : Bool)
  | hostReadError (o : OpRef) (fetch : Bool)
  | msixMessage (src : IrqSource)
  | msixUnmask (f : FnId) (vec : Fin 64)
  | badRegisterAccess (f : FnId) (offset : BitVec 26)
  | registerWrite (f : FnId) (offset : BitVec 26) (wide : Bool) (v : Word64)
  | hubDetCtlWrite (v : Word)
  | detWeightsWrite (f : FnId) (r : RegionId) (n : Fin 8) (v : Word)
  | detInputWrite (f : FnId) (r : RegionId) (n : Fin 8) (v : Word)
  | weightsLockSet (f : FnId) (r : RegionId)
  -- security (22)
  | provisionImageKey (slot : Fin 8) (fuses : FuseResult)
  | revokeImageKey (slot : Fin 8) (fuses : FuseResult)
  | revokeFirmwareKey (slot : Fin 4) (fuses : FuseResult)
  | advanceImageRollback (fuses : FuseResult)
  | advanceFirmwareRollback (fuses : FuseResult)
  | blowProvisioningLock (fuses : FuseResult)
  | attestGo (f : FnId) (r : RegionId) (v : Word)
  | attestComplete
  -- revocation (23)
  | revokeQueueLock (f : FnId) (r : RegionId) (v : Word64)
  | revokeWindow (f : FnId) (r : RegionId) (v : Word64)
  | revokeFlag (f : FnId) (r : RegionId) (v : Word64)
  | revokeTaskSlot (f : FnId) (r : RegionId) (v : Word64)
  | revokeStreamSlot (f : FnId) (r : RegionId) (v : Word64)
  | revokeRegion (f : FnId) (r : RegionId) (v : Word64)
  | revokeDone (r : RegionId)
  -- telemetry and debug (24)
  | telSamplePeriod
  | telSampleRead (n : Fin 64)
  | dbgTraceCtlWrite (v : Word)
  | regionDbgConsentWrite (f : FnId) (r : RegionId) (v : Word)
  | testLogicReset
  | idcode
  | samplePreload (bits : BitVec 19)
  | extest
  | clamp
  | highz
  | dbgAccess
  | bypass (opcode : Byte)
  | dbgAccessUpdate (v : Word64)
  | railDroop (mv : BitVec 16)
  | powerStateD0 (f : FnId)
  deriving DecidableEq, Repr

end Sys2Proof
end

