-- ==== Sys2Proof/Config.lean ====
section
/-!
DEFINITION. What the spec leaves open: free values. Each is an opaque constant, so nothing can be proved about its value.
A use applies it to the counter `State.free`, which the step that used it advances (log 3).
-/
namespace Sys2Proof

/-- A free value of any width: the model's answer where the spec states no value and the machine goes on (log 3).
DESIGN CHOICE: the first argument is the plain counter of State, the second says which of several values of one step it is. -/
opaque Config.freeNat : Nat → Nat → Nat

/-- What a DRAM byte that a region has not written since the acceptance of its image reads as (22 R830, log 4): any value,
by the free-value counter and the device physical address. -/
opaque Config.freeByte : Nat → Nat → BitVec 8

/-- A correctly rounded special-function value that the model's interval evaluation could not decide within its
precision (15 R577, log 60): the value is the spec's, the model only does not compute it. -/
opaque Config.undecided : Nat → Nat → Nat

end Sys2Proof
end

