-- ==== Sys2Proof/Machine/Bits.lean ====
section
/-!
DEFINITION. Byte order, sign extension and bit-field helpers (00 R10, R11), CRC-32C (08 R263), and rotation.
-/
namespace Sys2Proof.Machine

/-- `n` bytes of `v`, least significant first (00 R11). -/
def leBytes (n v : Nat) : List Byte := (List.range n).map (fun i => BitVec.ofNat 8 (v / 256 ^ i))

/-- The number whose little-endian bytes are given. -/
def leNat : List Byte → Nat
  | [] => 0
  | b :: t => b.toNat + 256 * leNat t

/-- `n` bytes of `v`, most significant first. -/
def beBytes (n v : Nat) : List Byte := (leBytes n v).reverse

/-- The number whose big-endian bytes are given. -/
def beNat (l : List Byte) : Nat := leNat l.reverse

/-- `n` bytes of a list from offset `off`, missing bytes 0. -/
def sliceBytes (l : List Byte) (off n : Nat) : List Byte := ((l.drop off).take n) ++ List.replicate (n - ((l.drop off).take n).length) 0

/-- The little-endian number of `n` bytes at `off`. -/
def leAt (l : List Byte) (off n : Nat) : Nat := leNat (sliceBytes l off n)

/-- 32-bit word `i` of a structure (00 R12). -/
def wordAt (l : List Byte) (i : Nat) : Nat := leAt l (4 * i) 4

/-- The two's complement value of the low `w` bits. -/
def signedOf (w x : Nat) : Int :=
  let y := x % 2 ^ w
  if y < 2 ^ (w - 1) then (y : Int) else (y : Int) - (2 ^ w : Nat)

/-- The two's complement pattern of an integer in `w` bits. -/
def patternOf (w : Nat) (x : Int) : Nat := (x % ((2 ^ w : Nat) : Int)).toNat

/-- Bit `i` of a number. -/
def bitAt (x i : Nat) : Bool := x / 2 ^ i % 2 == 1

/-- One when true. -/
def b2n (b : Bool) : Nat := if b then 1 else 0

/-- Rotates a 64-bit word left. -/
def rotl64 (x : Word64) (n : Nat) : Word64 := x.rotateLeft n

/-- One step of CRC-32C (reflected polynomial 0x82F63B78) over one bit position. -/
def crcBit (c : BitVec 32) : BitVec 32 :=
  if c.getLsbD 0 then (c >>> 1) ^^^ 0x82F63B78#32 else c >>> 1

/-- CRC-32C over one byte. -/
def crcByte (c : BitVec 32) (b : Byte) : BitVec 32 :=
  let x := c ^^^ b.setWidth 32
  crcBit (crcBit (crcBit (crcBit (crcBit (crcBit (crcBit (crcBit x)))))))

/-- CRC-32C from 0xFFFF_FFFF with the final value inverted (15 R580). PRESUMED (log 8): the standard's reflected bit order. -/
def crc32c (l : List Byte) : BitVec 32 := ~~~ (l.foldl crcByte 0xFFFFFFFF#32)

/-- The bits of bytes, least significant first (10 R393). -/
def bitsOfBytes (l : List Byte) : List Bool := l.flatMap (fun b => (List.range 8).map (fun i => b.getLsbD i))

/-- Packs bits into bytes, bit b in bit b mod 8 of byte b / 8 (10 R393). -/
def packBits : List Bool → List Byte
  | b0 :: b1 :: b2 :: b3 :: b4 :: b5 :: b6 :: b7 :: t =>
    BitVec.ofNat 8 (b2n b0 + 2 * b2n b1 + 4 * b2n b2 + 8 * b2n b3 + 16 * b2n b4 + 32 * b2n b5 + 64 * b2n b6 + 128 * b2n b7) :: packBits t
  | [] => []
  | l => [BitVec.ofNat 8 ((l.zipIdx.map (fun p => b2n p.1 * 2 ^ p.2)).sum)]

/-- Floor of log base 2 of a positive number. -/
def log2Nat (x : Nat) : Nat := Nat.log2 x

/-- Ceiling division. -/
def ceilDiv (a b : Nat) : Nat := if b = 0 then 0 else (a + b - 1) / b

end Sys2Proof.Machine
end

