-- ==== Sys2Proof/Machine/Number.lean ====
section
/-!
DEFINITION. Number formats and narrowing: decoding of I4 to F32 (14 R540, R541), nearest and stochastic narrowing (14
R554-R561), IEEE binary32 arithmetic (15 R588), conversions (09 R318), and comparisons (09 R317).
-/
namespace Sys2Proof.Machine

/-- A decoded number: not a number, an infinity, or (−1)^neg × m × 2^e. -/
inductive Num where
  | nan
  | inf (neg : Bool)
  | fin (neg : Bool) (m : Nat) (e : Int)
  deriving DecidableEq, Repr

/-- The formats of elements (14 R540). -/
inductive Fmt where
  | i4 | i8 | u8 | i16 | w16 | f16 | f32 | i32
  deriving DecidableEq, Repr

/-- The format codes of 09 R318 and 14 R545: code 7 is F32 in a quantisation block, code 8 is I32 in a conversion. -/
def fmt? (c : Nat) : Option Fmt :=
  match c with
  | 1 => some .i4 | 2 => some .i8 | 3 => some .u8 | 4 => some .i16 | 5 => some .w16 | 6 => some .f16 | 7 => some .f32
  | 8 => some .i32 | _ => none

def Fmt.isFloat : Fmt → Bool
  | .w16 => true | .f16 => true | .f32 => true | _ => false

/-- A floating format: precision with the hidden bit, exponent bits, and whether it has subnormals. -/
structure FloatFmt where
  prec : Nat
  ebits : Nat
  subnormal : Bool
  deriving DecidableEq, Repr

def w16F : FloatFmt := { prec := 8, ebits := 8, subnormal := false }
def f16F : FloatFmt := { prec := 11, ebits := 5, subnormal := true }
def f32F : FloatFmt := { prec := 24, ebits := 8, subnormal := true }

def FloatFmt.bias (f : FloatFmt) : Nat := 2 ^ (f.ebits - 1) - 1
/-- Exponent of the smallest normal value. -/
def FloatFmt.emin (f : FloatFmt) : Int := 1 - (f.bias : Int)
/-- The sign bit's weight. -/
def FloatFmt.signBit (f : FloatFmt) : Nat := 2 ^ (f.prec - 1 + f.ebits)
/-- The canonical NaN (14 R541). -/
def FloatFmt.nanBits (f : FloatFmt) : Nat := (2 ^ f.ebits - 1) * 2 ^ (f.prec - 1) + 2 ^ (f.prec - 2)
/-- Infinity of an IEEE format. -/
def FloatFmt.infBits (f : FloatFmt) : Nat := (2 ^ f.ebits - 1) * 2 ^ (f.prec - 1)
/-- The largest finite magnitude. -/
def FloatFmt.maxBits (f : FloatFmt) : Nat := f.infBits - 1

/-- Decodes a pattern (14 R540). -/
def FloatFmt.decode (f : FloatFmt) (x : Nat) : Num :=
  let neg := bitAt x (f.prec - 1 + f.ebits)
  let e := x / 2 ^ (f.prec - 1) % 2 ^ f.ebits
  let fr := x % 2 ^ (f.prec - 1)
  if e = 2 ^ f.ebits - 1 then (if f.subnormal && fr = 0 then .inf neg else .nan)
  else if e = 0 then (if f.subnormal then .fin neg fr (f.emin - (f.prec - 1 : Nat)) else .fin neg 0 0)
  else .fin neg (fr + 2 ^ (f.prec - 1)) ((e : Int) - (f.bias + f.prec - 1 : Nat))

/-- An integer as a number. -/
def Num.ofInt (x : Int) : Num := .fin (x < 0) x.natAbs 0

/-- Decodes an element: integers by two's complement, U8 less its zero point. -/
def Fmt.decode (f : Fmt) (x zp : Nat) : Num :=
  match f with
  | .i4 => .ofInt (signedOf 4 x)
  | .i8 => .ofInt (signedOf 8 x)
  | .u8 => .ofInt ((x % 256 : Nat) - (zp : Int))
  | .i16 => .ofInt (signedOf 16 x)
  | .i32 => .ofInt (signedOf 32 x)
  | .w16 => w16F.decode (x % 2 ^ 16)
  | .f16 => f16F.decode (x % 2 ^ 16)
  | .f32 => f32F.decode (x % 2 ^ 32)

/-! ## Rounding -/

/-- How a value is rounded: to nearest with ties to even, or up when the draw lies below the fraction (14 R559, R560), or
towards zero (15 R585). -/
inductive Rounding where
  | nearest
  | stochastic (u : Nat)
  | truncate
  deriving DecidableEq, Repr

/-- Rounds the magnitude n / d to an integer; negative values of an integer target round stochastically by their floor
(R559), which the caller sees to. -/
def Rounding.nat (r : Rounding) (n d : Nat) : Nat :=
  let q := n / d
  let t := n % d
  match r with
  | .truncate => q
  | .nearest => if d < 2 * t ∨ (d = 2 * t ∧ q % 2 = 1) then q + 1 else q
  | .stochastic u => if u < t * 2 ^ 32 / d then q + 1 else q

/-- An exact rational: sign, numerator and denominator. -/
structure Rat3 where
  neg : Bool
  num : Nat
  den : Nat
  deriving DecidableEq, Repr

/-- Scales a fraction by 2^k. -/
def scale2 (n d : Nat) (k : Int) : Nat × Nat :=
  if 0 ≤ k then (n * 2 ^ k.toNat, d) else (n, d * 2 ^ (-k).toNat)

def Rat3.ofDyadic (neg : Bool) (m : Nat) (e : Int) : Rat3 :=
  let p := scale2 m 1 e
  { neg := neg, num := p.1, den := p.2 }

def Rat3.mulPow (x : Rat3) (k : Int) : Rat3 :=
  let p := scale2 x.num x.den k
  { x with num := p.1, den := p.2 }

/-- Rounds a rational to an integer (14 R554, R559). -/
def Rounding.int (r : Rounding) (x : Rat3) : Int :=
  match r with
  | .stochastic u =>
    if x.neg then
      let q := ceilDiv x.num x.den
      let t := q * x.den - x.num
      if u < t * 2 ^ 32 / x.den then 1 - (q : Int) else -(q : Int)
    else ((Rounding.stochastic u).nat x.num x.den : Nat)
  | r => if x.neg then -((r.nat x.num x.den : Nat) : Int) else ((r.nat x.num x.den : Nat) : Int)

/-- Floor of log2 of a positive fraction. -/
def floorLog2 (n d : Nat) : Int :=
  let k : Int := (Nat.log2 n : Int) - (Nat.log2 d : Int)
  let p := scale2 n d (-k)
  if p.2 ≤ p.1 then k else k - 1

/-- Rounds a positive magnitude n / d to a floating format; answers the magnitude's pattern and whether it was too large
(14 R556, R560; 15 R585). -/
def FloatFmt.magnitude (f : FloatFmt) (r : Rounding) (n d : Nat) : Nat × Bool :=
  let e := floorLog2 n d
  let flushFirst := match r with
    | .stochastic _ => !f.subnormal
    | _ => false
  -- R560: below the smallest normal value, a W16 spacing is that value itself.
  let g : Int :=
    if flushFirst && e < f.emin then f.emin
    else if f.subnormal then max e f.emin - (f.prec - 1 : Nat) else e - (f.prec - 1 : Nat)
  let p := scale2 n d (-g)
  let q := r.nat p.1 p.2
  if q = 0 then (0, false)
  else
    let carry := q = 2 ^ f.prec
    let q := if carry then 2 ^ (f.prec - 1) else q
    let g := if carry then g + 1 else g
    let big := Nat.log2 q
    -- The exponent of the magnitude's leading bit.
    let top : Int := g + (big : Int)
    if top < f.emin then (if f.subnormal then q else 0, false)
    else
      let field := (top + (f.bias : Int)).toNat
      if 2 ^ f.ebits - 1 ≤ field then (f.maxBits, true)
      else (field * 2 ^ (f.prec - 1) + (q * 2 ^ (f.prec - 1 - big) - 2 ^ (f.prec - 1)), false)

/-- Narrows a rational to a floating format: the pattern, and whether it is saturated (14 R556, R557). -/
def FloatFmt.narrow (f : FloatFmt) (r : Rounding) (x : Rat3) : Nat × Bool :=
  if x.num = 0 then (0, false)
  else
    let p := f.magnitude r x.num x.den
    (p.1 + (if x.neg then f.signBit else 0), p.2)

/-- Bounds of an integer format. -/
def Fmt.range : Fmt → Int × Int
  | .i4 => (-8, 7) | .i8 => (-128, 127) | .u8 => (0, 255) | .i16 => (-32768, 32767)
  | .i32 => (-(2 ^ 31), 2 ^ 31 - 1) | _ => (0, 0)

def Fmt.float? : Fmt → Option FloatFmt
  | .w16 => some w16F | .f16 => some f16F | .f32 => some f32F | _ => none

def clampInt (lo hi x : Int) : Int := if x < lo then lo else if hi < x then hi else x

/-- What a narrowing gives: the element's value or pattern, whether it is saturated, and the rounded integer before the zero
point, for the underuse count (14 R564). -/
structure Narrowed where
  bits : Nat
  saturated : Bool
  qr : Int
  zero : Bool
  deriving DecidableEq, Repr

/-- `narrow(w)` for a finite w (14 R554, R556, R557). -/
def Fmt.narrow (f : Fmt) (r : Rounding) (zp : Nat) (x : Rat3) : Narrowed :=
  match f.float? with
  | some g =>
    let p := g.narrow r x
    { bits := p.1, saturated := p.2, qr := 0, zero := p.1 % g.signBit = 0 }
  | none =>
    let q := r.int x
    let v := q + (zp : Int)
    let c := clampInt f.range.1 f.range.2 v
    { bits := patternOf 32 c, saturated := c ≠ v, qr := q, zero := q = 0 }

/-- `narrow(w)` for a w that is not a number (14 R557). -/
def Fmt.narrowNan (f : Fmt) (zp : Nat) : Narrowed :=
  match f.float? with
  | some g => { bits := g.nanBits, saturated := true, qr := 0, zero := false }
  | none => { bits := zp, saturated := true, qr := 0, zero := true }

/-- `narrow(w)` for an infinite w: it saturates (09 R318). -/
def Fmt.narrowInf (f : Fmt) (neg : Bool) : Narrowed :=
  match f.float? with
  | some g => { bits := g.maxBits + (if neg then g.signBit else 0), saturated := true, qr := 0, zero := false }
  | none => { bits := patternOf 32 (if neg then f.range.1 else f.range.2), saturated := true, qr := 0, zero := false }

/-- Narrows a number times 2^k. -/
def Fmt.narrowNum (f : Fmt) (r : Rounding) (zp : Nat) (x : Num) (k : Int) : Narrowed :=
  match x with
  | .nan => f.narrowNan zp
  | .inf n => f.narrowInf n
  | .fin n m e => f.narrow r zp (.ofDyadic n m (e + k))

/-! ## IEEE binary32 (15 R588) -/

/-- Rounds an exact dyadic to F32 as IEEE gives: a result too large is an infinity; an exact zero takes the given sign. -/
def ieeeRound (r : Rounding) (neg : Bool) (m : Nat) (e : Int) : Nat :=
  if m = 0 then (if neg then f32F.signBit else 0)
  else
    let p := scale2 m 1 e
    let q := f32F.magnitude r p.1 p.2
    (if q.2 then f32F.infBits else q.1) + (if neg then f32F.signBit else 0)

/-- The exact sum of two dyadics: sign, magnitude, exponent. -/
def dyAdd (n1 : Bool) (m1 : Nat) (e1 : Int) (n2 : Bool) (m2 : Nat) (e2 : Int) : Bool × Nat × Int :=
  let e := min e1 e2
  let a : Int := (m1 * 2 ^ (e1 - e).toNat : Nat)
  let b : Int := (m2 * 2 ^ (e2 - e).toNat : Nat)
  let t := (if n1 then -a else a) + (if n2 then -b else b)
  (decide (t < 0), t.natAbs, e)

/-- FADD (09 R317): an exact zero sum is +0 unless both operands are negative. -/
def f32Add (x y : Nat) : Nat :=
  match f32F.decode x, f32F.decode y with
  | .nan, _ => f32F.nanBits
  | _, .nan => f32F.nanBits
  | .inf a, .inf b => if a = b then f32F.infBits + (if a then f32F.signBit else 0) else f32F.nanBits
  | .inf a, _ => f32F.infBits + (if a then f32F.signBit else 0)
  | _, .inf b => f32F.infBits + (if b then f32F.signBit else 0)
  | .fin n1 m1 e1, .fin n2 m2 e2 =>
    let t := dyAdd n1 m1 e1 n2 m2 e2
    ieeeRound .nearest (if t.2.1 = 0 then n1 && n2 else t.1) t.2.1 t.2.2

/-- The pattern with the sign bit inverted. -/
def f32Neg (x : Nat) : Nat := if x < f32F.signBit then x + f32F.signBit else x - f32F.signBit
/-- FSUB. -/
def f32Sub (x y : Nat) : Nat :=
  match f32F.decode y with
  | .nan => f32F.nanBits
  | _ => f32Add x (f32Neg y)

/-- FMUL. -/
def f32Mul (x y : Nat) : Nat :=
  match f32F.decode x, f32F.decode y with
  | .nan, _ => f32F.nanBits
  | _, .nan => f32F.nanBits
  | .inf a, .inf b => f32F.infBits + (if a != b then f32F.signBit else 0)
  | .inf a, .fin b m _ => if m = 0 then f32F.nanBits else f32F.infBits + (if a != b then f32F.signBit else 0)
  | .fin a m _, .inf b => if m = 0 then f32F.nanBits else f32F.infBits + (if a != b then f32F.signBit else 0)
  | .fin a m1 e1, .fin b m2 e2 => ieeeRound .nearest (a != b) (m1 * m2) (e1 + e2)

/-- Compares two numbers that are no NaN: less. -/
def Num.lt (x y : Num) : Bool :=
  match x, y with
  | .nan, _ => false
  | _, .nan => false
  | .inf a, .inf b => a && !b
  | .inf a, .fin _ _ _ => a
  | .fin _ _ _, .inf b => !b
  | .fin n1 m1 e1, .fin n2 m2 e2 =>
    let e := min e1 e2
    let a : Int := (m1 * 2 ^ (e1 - e).toNat : Nat)
    let b : Int := (m2 * 2 ^ (e2 - e).toNat : Nat)
    (if n1 then -a else a) < (if n2 then -b else b)

def Num.isNan : Num → Bool
  | .nan => true | _ => false
def Num.isZero : Num → Bool
  | .fin _ 0 _ => true | _ => false
def Num.neg : Num → Bool
  | .nan => false | .inf n => n | .fin n _ _ => n

/-- FEQ: equal as values, +0 equal to −0. -/
def f32Eq (x y : Nat) : Bool :=
  let a := f32F.decode x
  let b := f32F.decode y
  !a.isNan && !b.isNan && !a.lt b && !b.lt a
/-- FLT. -/
def f32Lt (x y : Nat) : Bool := (f32F.decode x).lt (f32F.decode y)

/-- Order of FMIN and FMAX: by value, −0 below +0. -/
def Num.before (a b : Num) : Bool := a.lt b || (a.isZero && b.isZero && a.neg && !b.neg)

/-- FMIN and FMAX (09 R317). -/
def f32Pick (larger : Bool) (x y : Nat) : Nat :=
  let a := f32F.decode x
  let b := f32F.decode y
  if a.isNan || b.isNan then f32F.nanBits
  else if larger then (if a.before b then y else x) else (if b.before a then y else x)

/-! ## Conversions (09 R318) -/

/-- What CVTN writes into a register for a narrowed element: integers sign-extended, U8 and floating patterns as they are. -/
def cvtnBits (f : Fmt) (x : Num) (y : Int) (r : Rounding) (zp : Nat) : Nat := (f.narrowNum r zp x (-y)).bits

/-- The source of CVTW from its register. -/
def cvtwSource (f : Fmt) (x zp : Nat) : Num := f.decode x zp

/-- CVTW: the value as I32 or F32. A negative zero keeps its sign in F32 (log 17). -/
def cvtwBits (f : Fmt) (x zp : Nat) (toF32 : Bool) : Nat :=
  match cvtwSource f x zp with
  | .nan => if toF32 then f32F.nanBits else 0
  | .inf n =>
    if toF32 then f32F.maxBits + (if n then f32F.signBit else 0)
    else patternOf 32 (if n then -(2 ^ 31) else 2 ^ 31 - 1)
  | .fin n m e =>
    if toF32 then ieeeRound .nearest (n && (m ≠ 0 || f.isFloat)) m e
    else patternOf 32 (clampInt (-(2 ^ 31)) (2 ^ 31 - 1) (Rounding.nearest.int (.ofDyadic n m e)))

end Sys2Proof.Machine
end

