-- ==== Sys2Proof/Machine/Elem.lean ====
section
/-!
DEFINITION. The elementwise special functions: full mode by interval evaluation (15 R577, R578), the Sepia unit (15
R579-R586), and the L48 arithmetic of SOFTMAX (14 R540; 15 R594).
-/
namespace Sys2Proof.Machine

/-! ## Fixed-point series: values at a scale of 2^-512 -/

def fxBits : Nat := 512
def fxOne : Nat := 2 ^ fxBits
/-- Bound on the error of every series below, in units of the last place. -/
def fxErr : Nat := 2 ^ 64

/-- Integer square root, bit by bit from bit `k`. -/
def isqrtGo (n : Nat) : Nat → Nat → Nat
  | 0, x => x
  | k + 1, x => let y := x + 2 ^ k; isqrtGo n k (if y * y ≤ n then y else x)
def isqrt (n : Nat) : Nat := isqrtGo n (Nat.log2 n / 2 + 1) 0

/-- Σ z^(2k+1) / (2k+1), with alternating signs when `alt`: artanh or arctan of z at scale. -/
def oddSeries (alt : Bool) (z2 : Nat) : Nat → Nat → Nat → Int → Int
  | 0, _, _, acc => acc
  | n + 1, k, t, acc =>
    let term : Int := (t / (2 * k + 1) : Nat)
    oddSeries alt z2 n (k + 1) (t * z2 / fxOne) (if alt && k % 2 = 1 then acc - term else acc + term)

/-- artanh(n / d) for n / d at most 1/3. -/
def fxArtanh (n d : Nat) : Nat :=
  let z := n * fxOne / d
  (oddSeries false (z * z / fxOne) 180 0 z 0).toNat

/-- arctan(1 / d). -/
def fxArctan (d : Nat) : Nat :=
  let z := fxOne / d
  (oddSeries true (z * z / fxOne) 120 0 z 0).toNat

/-- ln 2. -/
def fxLn2 : Nat := 2 * fxArtanh 1 3
/-- π. -/
def fxPi : Nat := 16 * fxArctan 5 - 4 * fxArctan 239

/-- Σ r^k / k!. -/
def expSeries (r : Nat) : Nat → Nat → Nat → Nat → Nat
  | 0, _, _, acc => acc
  | n + 1, k, t, acc => let u := t * r / fxOne / k; expSeries r n (k + 1) u (acc + u)
def fxExp0 (r : Nat) : Nat := expSeries r 110 1 fxOne fxOne

/-- A positive interval [lo, hi] × 2^k. -/
structure Ival where
  lo : Nat
  hi : Nat
  k : Int
  deriving DecidableEq, Repr

def Ival.around (x : Nat) (k : Int) : Ival := { lo := x - fxErr, hi := x + fxErr, k := k }

/-- A dyadic at scale, towards −∞. -/
def fxOf (neg : Bool) (m : Nat) (e : Int) : Int :=
  let p := scale2 m 1 (e + (fxBits : Int))
  if neg then -((ceilDiv p.1 p.2 : Nat) : Int) else ((p.1 / p.2 : Nat) : Int)

/-- e^x as a value in [1, 2) at scale and a power of two. -/
def fxExp (x : Int) : Nat × Int :=
  let ln2 : Int := fxLn2
  let n := x.fdiv ln2
  (fxExp0 (x - n * ln2).toNat, n)

/-- 2^x for a dyadic: the fraction's power and the floor. -/
def fxExp2 (x : Int) : Nat × Int :=
  let n := x.fdiv (fxOne : Int)
  (fxExp0 ((x - n * (fxOne : Int)).toNat * fxLn2 / fxOne), n)

/-- ln(m / 2^j) for m / 2^j in [1, 2). -/
def fxLnUnit (m j : Nat) : Nat := 2 * fxArtanh (m - 2 ^ j) (m + 2 ^ j)

/-- The integer part of log2 of m 2^e, and the natural logarithm of the rest at scale. -/
def fxLog (m : Nat) (e : Int) : Int × Nat :=
  let j := Nat.log2 m
  (e + (j : Int), fxLnUnit m j)

/-- log2 of m 2^e at scale. -/
def fxLog2 (m : Nat) (e : Int) : Int :=
  let p := fxLog m e
  p.1 * (fxOne : Int) + ((p.2 * fxOne / fxLn2 : Nat) : Int)

/-- 1 / (1 + e^(−x)) for x at scale. -/
def ivSigmoid (x : Int) : Ival :=
  let p := fxExp (-(x.natAbs : Int))
  let q := p.1 / 2 ^ p.2.natAbs
  if 0 ≤ x then .around (fxOne * fxOne / (fxOne + q)) (-(fxBits : Int))
  else .around (p.1 * fxOne / (fxOne + q)) (p.2 - (fxBits : Int))

/-- tanh of a positive dyadic. -/
def ivTanh (m : Nat) (e : Int) : Ival :=
  if (Nat.log2 m : Int) + e < -20 then
    let x := (fxOf false m e).toNat
    let x2 := x * x / fxOne
    { lo := m * (fxOne - x2 / 3 - 2), hi := m * (fxOne - x2 / 3 + x2 * x2 / fxOne * 2 / 15 + 2), k := e - (fxBits : Int) }
  else
    let p := fxExp (-(2 * fxOf false m e))
    let q := p.1 / 2 ^ p.2.natAbs
    .around ((fxOne - q) * fxOne / (fxOne + q)) (-(fxBits : Int))

/-- Σ x^(2k+1) / (2k+1)!!. -/
def phiSeries (x2 : Nat) : Nat → Nat → Nat → Nat → Nat
  | 0, _, _, acc => acc
  | n + 1, k, t, acc => let u := t * x2 / fxOne / (2 * k + 1); phiSeries x2 n (k + 1) u (acc + u)

/-- The normal distribution function at ± x, x at scale and at most 15. -/
def ivPhi (neg : Bool) (x : Nat) : Ival :=
  let x2 := x * x / fxOne
  let p := fxExp (-((x2 / 2 : Nat) : Int))
  let s := phiSeries x2 700 1 x x
  let root := isqrt (2 * fxPi * fxOne)
  let t := p.1 * s / 2 ^ p.2.natAbs / root
  .around (if neg then fxOne / 2 - t else fxOne / 2 + t) (-(fxBits : Int))

/-- Multiplies an interval by m 2^e. -/
def Ival.scale (v : Ival) (m : Nat) (e : Int) : Ival := { lo := v.lo * m, hi := v.hi * m, k := v.k + e }

/-! ## Results in full mode -/

/-- The elementwise instructions (15 R571). -/
inductive SfuFn where
  | exp2 | log2 | recip | rsqrt | sigmoid | tanh | geluErf | geluTanh
  deriving DecidableEq, Repr

/-- An exact or enclosed value of f. -/
inductive Enc where
  | exact (x : Rat3)
  | near (neg : Bool) (v : Ival)
  /-- A magnitude below every non-zero value of the format, or above every finite one. -/
  | tiny
  | huge (neg : Bool)
  | nan
  deriving DecidableEq, Repr

def Enc.one (neg : Bool) : Enc := .exact { neg := neg, num := 1, den := 1 }
def Enc.zero : Enc := .exact { neg := false, num := 0, den := 1 }

/-- Signed value at scale with its error as an enclosure. -/
def Enc.ofFx (x : Int) : Enc := .near (x < 0) (.around x.natAbs (-(fxBits : Int)))

/-- f at a non-zero finite input (15 R577). -/
def sfuFinite (f : SfuFn) (neg : Bool) (m : Nat) (e : Int) : Enc :=
  let top : Int := (Nat.log2 m : Int) + e
  match f with
  | .exp2 =>
    if 10 ≤ top then (if neg then .tiny else .huge false)
    else
      let x := fxOf neg m e
      if x % (fxOne : Int) = 0 then .exact (.ofDyadic false 1 (x / (fxOne : Int)))
      else let p := fxExp2 x; .near false (.around p.1 (p.2 - (fxBits : Int)))
  | .log2 =>
    if neg then .nan
    else if m = 2 ^ Nat.log2 m then .exact (.ofDyadic (top < 0) top.natAbs 0)
    else .ofFx (fxLog2 m e)
  | .recip => let p := scale2 m 1 e; .exact { neg := neg, num := p.2, den := p.1 }
  | .rsqrt =>
    if neg then .nan
    else
      let m := if e % 2 = 0 then m else m * 2
      let h := e.fdiv 2
      let r := isqrt m
      if r * r = m then let p := scale2 1 r (-h); .exact { neg := false, num := p.1, den := p.2 }
      else let v := isqrt (fxOne * fxOne / m); .near false { lo := v, hi := v + 1, k := -h - (fxBits : Int) }
  | .sigmoid =>
    if 10 ≤ top then (if neg then .tiny else .near false (ivSigmoid (1000 * (fxOne : Int))))
    else .near false (ivSigmoid (fxOf neg m e))
  | .tanh => if 10 ≤ top then .near neg (ivTanh 1000 0) else .near neg (ivTanh m e)
  | .geluErf =>
    if 15 * (fxOne : Int) < (fxOf false m (min e 8)) ∨ 10 ≤ top then
      (if neg then .tiny else .near false (Ival.scale { lo := fxOne - fxOne / 2 ^ 160, hi := fxOne, k := -(fxBits : Int) } m e))
    else .near neg ((ivPhi neg (fxOf false m e).toNat).scale m e)
  | .geluTanh =>
    if 10 ≤ top ∨ 15 * (fxOne : Int) < (fxOf false m (min e 8)) then
      (if neg then .tiny else .near false (Ival.scale { lo := fxOne - fxOne / 2 ^ 160, hi := fxOne, k := -(fxBits : Int) } m e))
    else
      let x := (fxOf false m e).toNat
      let cube := x * x / fxOne * x / fxOne
      let root := isqrt (2 * fxOne * fxOne * fxOne / fxPi)
      let y := 2 * root * (x + cube * 44715 / 1000000) / fxOne
      .near neg ((ivSigmoid (if neg then -(y : Int) else (y : Int))).scale m e)

/-- f at a zero, an infinity or a NaN (15 R577, R578). -/
def sfuSpecial (f : SfuFn) (x : Num) : Enc :=
  match f, x with
  | _, .nan => .nan
  | .exp2, .inf true => .zero
  | .exp2, .inf false => .huge false
  | .exp2, .fin _ _ _ => .one false
  | .log2, .inf true => .nan
  | .log2, .inf false => .huge false
  | .log2, .fin _ _ _ => .huge true
  | .recip, .inf _ => .zero
  | .recip, .fin n _ _ => .huge n
  | .rsqrt, .inf true => .nan
  | .rsqrt, .inf false => .zero
  | .rsqrt, .fin _ _ _ => .huge false
  | .sigmoid, .inf true => .zero
  | .sigmoid, .inf false => .one false
  | .sigmoid, .fin _ _ _ => .exact { neg := false, num := 1, den := 2 }
  | .tanh, .inf n => .one n
  | .tanh, .fin _ _ _ => .zero
  | .geluErf, .inf true => .zero
  | .geluErf, .inf false => .huge false
  | .geluErf, .fin _ _ _ => .zero
  | .geluTanh, .inf true => .zero
  | .geluTanh, .inf false => .huge false
  | .geluTanh, .fin _ _ _ => .zero

def sfuEnc (f : SfuFn) (x : Num) : Enc :=
  match x with
  | .fin n (m + 1) e => sfuFinite f n (m + 1) e
  | x => sfuSpecial f x

/-- No full-mode result is −0 (15 R578, log 18). -/
def noNegZero (g : FloatFmt) (x : Nat) : Nat := if x = g.signBit then 0 else x

/-- Narrows an enclosure to a format: none where both ends do not narrow alike. -/
def Enc.narrow (g : FloatFmt) (x : Enc) : Option Nat :=
  match x with
  | .nan => some g.nanBits
  | .tiny => some 0
  | .huge n => some (g.maxBits + (if n then g.signBit else 0))
  | .exact x => some (noNegZero g (g.narrow .nearest x).1)
  | .near n v =>
    let a := (g.narrow .nearest (.ofDyadic n v.lo v.k)).1
    let b := (g.narrow .nearest (.ofDyadic n v.hi v.k)).1
    if a = b then some (noNegZero g a) else none

def sfuFmt (f32 : Bool) : FloatFmt := if f32 then f32F else w16F

/-- The full unit (15 R577, R578); `k` names the free value of an undecided rounding (log 60). -/
def sfuFull (k : Nat) (f : SfuFn) (f32 : Bool) (x : Nat) : Nat :=
  let g := sfuFmt f32
  match (sfuEnc f (g.decode (x % 2 ^ (if f32 then 32 else 16)))).narrow g with
  | some v => v
  | none => Config.undecided k 0 % 2 ^ (if f32 then 32 else 16)

/-! ## The Sepia unit (15 R579-R586) -/

/-- The integer nearest to a value at scale times 2^f. -/
def fxEntry (f x : Nat) : Nat := (x + 2 ^ (fxBits - f - 1)) / 2 ^ (fxBits - f)

/-- The four tables of a set. -/
inductive FnTable where
  | exp2 | log2r | recip | rsqrt
  deriving DecidableEq, Repr

/-- The tables in the order of R581. -/
def tableOf (n : Nat) : FnTable := match n with | 0 => .exp2 | 1 => .log2r | 2 => .recip | _ => .rsqrt

/-- Entry s_j of a table whose steps are 2^-b of its interval, at scale 2^f (15 R579, R581). -/
def fnEntry (f b : Nat) (t : FnTable) (j : Nat) : Nat :=
  match t with
  | .exp2 => if j = 2 ^ b then 2 ^ (f + 1) else fxEntry f (fxExp0 (j * fxOne / 2 ^ b * fxLn2 / fxOne))
  | .log2r =>
    if j = 0 then fxEntry f (fxOne * fxOne / fxLn2)
    else if j = 2 ^ b then 2 ^ f
    else fxEntry f (fxLnUnit (2 ^ b + j) b * fxOne / fxLn2 * 2 ^ b / j)
  | .recip => Rounding.nearest.nat (2 ^ (f + b)) (2 ^ b + j)
  | .rsqrt => fxEntry f (isqrt (fxOne * fxOne * 2 ^ b / (2 ^ b + 3 * j)))

/-- An entry of set 0x05, which the Sepia unit computes with. -/
def sepiaEntry (t : FnTable) (j : Nat) : Nat := fnEntry 30 7 t j

/-- Steps of a table of set 0x01, as a power of two. -/
def fullSteps (t : FnTable) : Nat := match t with | .exp2 | .log2r => 8 | .recip | .rsqrt => 9

/-- The entries of a table of set 0x01 (`full`) or 0x05 (15 R579, R581). -/
def tableEntries (full : Bool) (t : FnTable) : List Nat :=
  if full then (List.range (2 ^ fullSteps t + 1)).map (fnEntry 40 (fullSteps t) t) else (List.range 129).map (sepiaEntry t)

/-- The checksum of a table's entries: CRC-32C over them in ascending index, little-endian (15 R580). -/
def tableSum (full : Bool) (t : FnTable) : BitVec 32 :=
  crc32c ((tableEntries full t).flatMap (leBytes (if full then 8 else 4)))

/-- The published checksums (15 R581), those with which a site's own are compared. They are not `tableSum` of the same table: the rules
disagree (log 118). -/
def publishedSum (full : Bool) (t : FnTable) : BitVec 32 :=
  match full, t with
  | true, .exp2 => 0x3D91C4A7 | true, .log2r => 0x8B0652EE | true, .recip => 0x14F790D3 | true, .rsqrt => 0xE2A81B5C
  | false, .exp2 => 0x67C30F19 | false, .log2r => 0xA05ED782 | false, .recip => 0x5B1F3A60 | false, .rsqrt => 0xC9E476B5

/-- The core evaluation for v = vn / vd in [0, 64) (15 R583). -/
def sepiaCore (t : FnTable) (vn vd : Nat) : Int :=
  let i := vn / vd
  let tt : Int := ((vn - i * vd) * 2 ^ 24 / vd : Nat)
  let f0 : Int := sepiaEntry t (2 * i)
  let fm : Int := sepiaEntry t (2 * i + 1)
  let f1 : Int := sepiaEntry t (2 * i + 2)
  let c1 := -3 * f0 + 4 * fm - f1
  let c2 := 2 * f0 - 4 * fm + 2 * f1
  f0 + (tt * (c1 + (tt * c2).fdiv (2 ^ 24))).fdiv (2 ^ 24)

/-- Truncates to a format: too large gives the largest finite value; below 2^-126 gives +0 (15 R585). -/
def sepiaTrunc (g : FloatFmt) (neg : Bool) (n d : Nat) : Nat :=
  if n = 0 then 0
  else if floorLog2 n d < g.emin then 0
  else (g.magnitude .truncate n d).1 + (if neg then g.signBit else 0)

def sepiaTruncDy (g : FloatFmt) (neg : Bool) (m : Nat) (e : Int) : Nat :=
  let p := scale2 m 1 e
  sepiaTrunc g neg p.1 p.2

/-- A core function at a finite input; an F32 subnormal is a zero of its sign (15 R584). -/
def sepiaFinite (f : SfuFn) (g : FloatFmt) (neg : Bool) (m : Nat) (e : Int) : Nat :=
  let j := Nat.log2 m
  let top : Int := (j : Int) + e
  match f with
  | .exp2 =>
    if 10 ≤ top then (if neg then 0 else g.maxBits)
    else
      let p := scale2 m 1 e
      let x : Int := if neg then -(p.1 : Int) else p.1
      let n := x.fdiv (p.2 : Int)
      let u := (x - n * (p.2 : Int)).toNat
      sepiaTruncDy g false (sepiaCore .exp2 (u * 64) p.2).toNat (n - 30)
  | .log2 =>
    if neg then g.nanBits
    else
      let p := sepiaCore .log2r ((m - 2 ^ j) * 64) (2 ^ j)
      let y : Int := top * (2 ^ (30 + j) : Nat) + ((m - 2 ^ j : Nat) : Int) * p
      sepiaTruncDy g (y < 0) y.natAbs (-((30 + j : Nat) : Int))
  | .recip =>
    sepiaTruncDy g neg (sepiaCore .recip ((m - 2 ^ j) * 64) (2 ^ j)).toNat (-top - 30)
  | .rsqrt =>
    if neg then g.nanBits
    else
      let n := top.fdiv 2
      let w := if top % 2 = 0 then m else 2 * m
      sepiaTruncDy g false (sepiaCore .rsqrt ((w - 2 ^ j) * 64) (3 * 2 ^ j)).toNat (-n - 30)
  | _ => 0

/-- A core function of the Sepia unit with its special inputs. -/
def sepiaFn (f : SfuFn) (g : FloatFmt) (x : Num) : Nat :=
  match x with
  | .fin n (m + 1) e =>
    if (Nat.log2 (m + 1) : Int) + e < -126 then ((sfuSpecial f (.fin n 0 0)).narrow g).getD 0
    else sepiaFinite f g n (m + 1) e
  | x => ((sfuSpecial f x).narrow g).getD 0

/-- Truncating F32 multiplication, addition and subtraction (15 R586). -/
def sepiaMul (x y : Nat) : Nat :=
  match f32F.decode x, f32F.decode y with
  | .fin a m1 e1, .fin b m2 e2 => sepiaTruncDy f32F (a != b) (m1 * m2) (e1 + e2)
  | _, _ => f32F.nanBits
def sepiaAdd (x y : Nat) : Nat :=
  match f32F.decode x, f32F.decode y with
  | .fin a m1 e1, .fin b m2 e2 => let t := dyAdd a m1 e1 b m2 e2; sepiaTruncDy f32F t.1 t.2.1 t.2.2
  | _, _ => f32F.nanBits

/-- F32 patterns of the constants: 1, 2, 0.5, log2 e, √(2/π), 0.044715. -/
def cOne : Nat := 0x3F800000
def cTwo : Nat := 0x40000000
def cHalf : Nat := 0x3F000000
def cL2E : Nat := 0x3FB8AA3B
def cC : Nat := 0x3F4C422A
def cK : Nat := 0x3D372713

def sepiaExp2 (x : Nat) : Nat := sepiaFn .exp2 f32F (f32F.decode x)
def sepiaRecip (x : Nat) : Nat := sepiaFn .recip f32F (f32F.decode x)
def sepiaSigmoid (x : Nat) : Nat := sepiaRecip (sepiaAdd cOne (sepiaExp2 (f32Neg (sepiaMul x cL2E))))
def sepiaTanh (x : Nat) : Nat :=
  sepiaAdd cOne (f32Neg (sepiaMul cTwo (sepiaRecip (sepiaAdd cOne (sepiaExp2 (sepiaMul (sepiaMul cTwo x) cL2E))))))
def sepiaGelu (x : Nat) : Nat :=
  let s := sepiaMul cK (sepiaMul (sepiaMul x x) x)
  sepiaMul (sepiaMul cHalf x) (sepiaAdd cOne (sepiaTanh (sepiaMul cC (sepiaAdd x s))))

/-- An F32 result truncated to W16. -/
def sepiaOut (f32 : Bool) (x : Nat) : Nat :=
  if f32 then x
  else match f32F.decode x with
    | .fin n m e => sepiaTruncDy w16F n m e
    | _ => w16F.nanBits

/-- The Sepia unit (15 R583-R586). A W16 composite runs on the exact input in F32. -/
def sfuSepia (f : SfuFn) (f32 : Bool) (x : Nat) : Nat :=
  let g := sfuFmt f32
  let v := g.decode (x % 2 ^ (if f32 then 32 else 16))
  let x32 := if f32 then x % 2 ^ 32 else x % 2 ^ 16 * 2 ^ 16
  match f, v with
  | .sigmoid, .fin _ _ _ => sepiaOut f32 (sepiaSigmoid x32)
  | .tanh, .fin _ _ _ => sepiaOut f32 (sepiaTanh x32)
  | .geluTanh, .fin _ _ _ => sepiaOut f32 (sepiaGelu x32)
  | f, v => sepiaFn f g v

/-! ## L48 and the soft maximum (15 R594-R596) -/

/-- L48 as a floating format without sign or subnormals. -/
def l48F : FloatFmt := { prec := 33, ebits := 16, subnormal := false }

/-- 2^(x log2 e) in L48 and whether it was saturated at 32,000 (15 R594); none where the rounding is undecided. -/
def softmaxTerm (x : Num) : Option Nat × Bool :=
  match x with
  | .nan => (some l48F.nanBits, false)
  | .inf n => (some ((if n then 767 else 64767) * 2 ^ 32), true)
  | .fin _ 0 _ => (some (32767 * 2 ^ 32), false)
  | .fin n m e =>
    let big := 20 ≤ (Nat.log2 m : Int) + e ∨ 32000 * (fxLn2 : Int) ≤ fxOf false m (min e 20)
    if big then (some ((if n then 767 else 64767) * 2 ^ 32), true)
    else
      let p := fxExp (fxOf n m e)
      let v := Ival.around p.1 (p.2 - (fxBits : Int))
      let a := (l48F.narrow .nearest (.ofDyadic false v.lo v.k)).1
      let b := (l48F.narrow .nearest (.ofDyadic false v.hi v.k)).1
      (if a = b then some a else none, false)

/-- An L48 sum: exact, then rounded. -/
def l48Add (x y : Nat) : Nat :=
  match l48F.decode x, l48F.decode y with
  | .fin _ m1 e1, .fin _ m2 e2 =>
    let t := dyAdd false m1 e1 false m2 e2
    (l48F.narrow .nearest (.ofDyadic false t.2.1 t.2.2)).1
  | _, _ => l48F.nanBits

/-- The fixed tree over a list: neighbours are combined pair by pair, an odd last one passes up (13 R529). -/
def pairUp {α : Type} (f : α → α → α) : List α → List α
  | a :: b :: t => f a b :: pairUp f t
  | l => l
def treeFold {α : Type} (f : α → α → α) : Nat → List α → List α
  | 0, l => l
  | k + 1, l => treeFold f k (pairUp f l)

/-- The natural logarithm of an L48 value, narrowed to F32 (15 R594). -/
def l48Ln (x : Nat) : Option Nat :=
  match l48F.decode x with
  | .fin _ m e =>
    if m = 0 then none
    else
      let p := fxLog m e
      let v := p.1 * (fxLn2 : Int) + (p.2 : Int)
      if m = 2 ^ Nat.log2 m ∧ p.1 = 0 then some 0 else (Enc.ofFx v).narrow f32F
  | _ => some f32F.nanBits

/-- p / S narrowed to a format. -/
def l48Div (g : FloatFmt) (p s : Nat) : Nat :=
  match l48F.decode p, l48F.decode s with
  | .fin _ m1 e1, .fin _ m2 e2 =>
    let q := scale2 m1 m2 (e1 - e2)
    noNegZero g (g.narrow .nearest { neg := false, num := q.1, den := q.2 }).1
  | _, _ => g.nanBits

end Sys2Proof.Machine
end

