-- ==== Sys2Proof/Machine/Hash.lean ====
section
/-!
DEFINITION. The digests and the signature check that the spec names by their standards, and LMF-64: SHA-256 and SHA-384
(FIPS 180), ECDSA on P-384 (FIPS 186) (06 R170, R196; 18 R690; 22 R808, R813), and the AE7's own function of 11 R427.
The constants of the three standards are PRESUMED (log 10): the spec names the standards and does not print them.
-/
namespace Sys2Proof.Machine

/-! ## LMF-64 -/

/-- One round of LMF-64 (11 R427). -/
def lmfRound (kr : Word64) (rot : Nat) (p : Word64 × Word64) : Word64 × Word64 :=
  let x := p.1 + p.2 + kr
  (x, rotl64 p.2 rot ^^^ x)

/-- LMF-64 (11 R427): key words k0 and k1, counter words c0 and c1. -/
def lmf64 (k0 k1 c0 c1 : Word64) : Word64 :=
  let a := k0 ^^^ 0x9E3779B97F4A7C15#64
  let b := k1 ^^^ 0x9E3779B97F4A7C15#64
  (lmfRound b 8 (lmfRound a 24 (lmfRound b 40 (lmfRound a 16 (c0, c1))))).2

/-- M(c0, c1) of the fold digest: LMF-64 with zero keys (18 R681). -/
def foldM (c0 c1 : Nat) : Word64 := lmf64 0 0 (BitVec.ofNat 64 c0) (BitVec.ofNat 64 c1)

/-! ## SHA-2 -/

/-- Round constants of SHA-256. -/
def k256 : List Nat :=
  [0x428A2F98, 0x71374491, 0xB5C0FBCF, 0xE9B5DBA5, 0x3956C25B, 0x59F111F1, 0x923F82A4, 0xAB1C5ED5] ++
  [0xD807AA98, 0x12835B01, 0x243185BE, 0x550C7DC3, 0x72BE5D74, 0x80DEB1FE, 0x9BDC06A7, 0xC19BF174] ++
  [0xE49B69C1, 0xEFBE4786, 0x0FC19DC6, 0x240CA1CC, 0x2DE92C6F, 0x4A7484AA, 0x5CB0A9DC, 0x76F988DA] ++
  [0x983E5152, 0xA831C66D, 0xB00327C8, 0xBF597FC7, 0xC6E00BF3, 0xD5A79147, 0x06CA6351, 0x14292967] ++
  [0x27B70A85, 0x2E1B2138, 0x4D2C6DFC, 0x53380D13, 0x650A7354, 0x766A0ABB, 0x81C2C92E, 0x92722C85] ++
  [0xA2BFE8A1, 0xA81A664B, 0xC24B8B70, 0xC76C51A3, 0xD192E819, 0xD6990624, 0xF40E3585, 0x106AA070] ++
  [0x19A4C116, 0x1E376C08, 0x2748774C, 0x34B0BCB5, 0x391C0CB3, 0x4ED8AA4A, 0x5B9CCA4F, 0x682E6FF3] ++
  [0x748F82EE, 0x78A5636F, 0x84C87814, 0x8CC70208, 0x90BEFFFA, 0xA4506CEB, 0xBEF9A3F7, 0xC67178F2]

/-- Round constants of SHA-512 and SHA-384. -/
def k512 : List Nat :=
  [0x428A2F98D728AE22, 0x7137449123EF65CD, 0xB5C0FBCFEC4D3B2F, 0xE9B5DBA58189DBBC, 0x3956C25BF348B538, 0x59F111F1B605D019, 0x923F82A4AF194F9B, 0xAB1C5ED5DA6D8118] ++
  [0xD807AA98A3030242, 0x12835B0145706FBE, 0x243185BE4EE4B28C, 0x550C7DC3D5FFB4E2, 0x72BE5D74F27B896F, 0x80DEB1FE3B1696B1, 0x9BDC06A725C71235, 0xC19BF174CF692694] ++
  [0xE49B69C19EF14AD2, 0xEFBE4786384F25E3, 0x0FC19DC68B8CD5B5, 0x240CA1CC77AC9C65, 0x2DE92C6F592B0275, 0x4A7484AA6EA6E483, 0x5CB0A9DCBD41FBD4, 0x76F988DA831153B5] ++
  [0x983E5152EE66DFAB, 0xA831C66D2DB43210, 0xB00327C898FB213F, 0xBF597FC7BEEF0EE4, 0xC6E00BF33DA88FC2, 0xD5A79147930AA725, 0x06CA6351E003826F, 0x142929670A0E6E70] ++
  [0x27B70A8546D22FFC, 0x2E1B21385C26C926, 0x4D2C6DFC5AC42AED, 0x53380D139D95B3DF, 0x650A73548BAF63DE, 0x766A0ABB3C77B2A8, 0x81C2C92E47EDAEE6, 0x92722C851482353B] ++
  [0xA2BFE8A14CF10364, 0xA81A664BBC423001, 0xC24B8B70D0F89791, 0xC76C51A30654BE30, 0xD192E819D6EF5218, 0xD69906245565A910, 0xF40E35855771202A, 0x106AA07032BBD1B8] ++
  [0x19A4C116B8D2D0C8, 0x1E376C085141AB53, 0x2748774CDF8EEB99, 0x34B0BCB5E19B48A8, 0x391C0CB3C5C95A63, 0x4ED8AA4AE3418ACB, 0x5B9CCA4F7763E373, 0x682E6FF3D6B2B8A3] ++
  [0x748F82EE5DEFB2FC, 0x78A5636F43172F60, 0x84C87814A1F0AB72, 0x8CC702081A6439EC, 0x90BEFFFA23631E28, 0xA4506CEBDE82BDE9, 0xBEF9A3F7B2C67915, 0xC67178F2E372532B] ++
  [0xCA273ECEEA26619C, 0xD186B8C721C0C207, 0xEADA7DD6CDE0EB1E, 0xF57D4F7FEE6ED178, 0x06F067AA72176FBA, 0x0A637DC5A2C898A6, 0x113F9804BEF90DAE, 0x1B710B35131C471B] ++
  [0x28DB77F523047D84, 0x32CAAB7B40C72493, 0x3C9EBE0A15C9BEBC, 0x431D67C49C100D4C, 0x4CC5D4BECB3E42B6, 0x597F299CFC657E2A, 0x5FCB6FAB3AD6FAEC, 0x6C44198C4A475817]

/-- Initial hash value of SHA-256. -/
def h256 : List Nat := [0x6A09E667, 0xBB67AE85, 0x3C6EF372, 0xA54FF53A, 0x510E527F, 0x9B05688C, 0x1F83D9AB, 0x5BE0CD19]

/-- Initial hash value of SHA-384. -/
def h384 : List Nat := [0xCBBB9D5DC1059ED8, 0x629A292A367CD507, 0x9159015A3070DD17, 0x152FECD8F70E5939, 0x67332667FFC00B31, 0x8EB44A8768581511, 0xDB0C2E0D64F98FA7, 0x47B5481DBEFA4FA4]

/-- The rotation and shift amounts of one SHA-2 width: Sigma0, Sigma1, sigma0, sigma1. -/
structure ShaRot where
  s0 : Nat × Nat × Nat
  s1 : Nat × Nat × Nat
  t0 : Nat × Nat × Nat
  t1 : Nat × Nat × Nat
  deriving DecidableEq, Repr

def rot256 : ShaRot := ⟨(2, 13, 22), (6, 11, 25), (7, 18, 3), (17, 19, 10)⟩
def rot512 : ShaRot := ⟨(28, 34, 39), (14, 18, 41), (1, 8, 7), (19, 61, 6)⟩

/-- The sum of three rotations. -/
def bigSigma {w : Nat} (r : Nat × Nat × Nat) (x : BitVec w) : BitVec w :=
  x.rotateRight r.1 ^^^ x.rotateRight r.2.1 ^^^ x.rotateRight r.2.2

/-- Two rotations and a shift. -/
def smallSigma {w : Nat} (r : Nat × Nat × Nat) (x : BitVec w) : BitVec w :=
  x.rotateRight r.1 ^^^ x.rotateRight r.2.1 ^^^ (x >>> r.2.2)

/-- The message schedule, newest word first, `n` further words. -/
def shaSchedule {w : Nat} (r : ShaRot) : Nat → List (BitVec w) → List (BitVec w)
  | 0, l => l
  | n + 1, l =>
    let x := smallSigma r.t1 (l.getD 1 0) + l.getD 6 0 + smallSigma r.t0 (l.getD 14 0) + l.getD 15 0
    shaSchedule r n (x :: l)

/-- One SHA-2 round over the eight working words. -/
def shaRound {w : Nat} (r : ShaRot) (v : List (BitVec w)) (kw : BitVec w) : List (BitVec w) :=
  match v with
  | [a, b, c, d, e, f, g, h] =>
    let t1 := h + bigSigma r.s1 e + ((e &&& f) ^^^ (~~~ e &&& g)) + kw
    let t2 := bigSigma r.s0 a + ((a &&& b) ^^^ (a &&& c) ^^^ (b &&& c))
    [t1 + t2, a, b, c, d + t1, e, f, g]
  | l => l

/-- The compression of one block of 16 words. -/
def shaBlock {w : Nat} (r : ShaRot) (ks : List Nat) (h block : List (BitVec w)) : List (BitVec w) :=
  let sched := (shaSchedule r (ks.length - 16) block.reverse).reverse
  let v := (ks.zip sched).foldl (fun v p => shaRound r v (BitVec.ofNat w p.1 + p.2)) h
  List.zipWith (· + ·) h v

/-- Words of `n` bytes each, big-endian. -/
def beWords (w n : Nat) : List Byte → Nat → List (BitVec w)
  | _, 0 => []
  | l, k + 1 => BitVec.ofNat w (beNat (l.take n)) :: beWords w n (l.drop n) k

/-- Blocks of 16 words. -/
def shaBlocks {w : Nat} (r : ShaRot) (ks : List Nat) (n : Nat) : Nat → List (BitVec w) → List Byte → List (BitVec w)
  | 0, h, _ => h
  | k + 1, h, l => shaBlocks r ks n k (shaBlock r ks h (beWords w n l 16)) (l.drop (16 * n))

/-- SHA-2 padding: bit 1, zeros, the bit length in two words. -/
def shaPad (n : Nat) (l : List Byte) : List Byte :=
  let block := 16 * n
  let z := (block - (l.length + 1 + 2 * n) % block) % block
  l ++ [0x80#8] ++ List.replicate z 0 ++ beBytes (2 * n) (8 * l.length)

/-- SHA-256 of a byte string, as 32 bytes. -/
def sha256 (l : List Byte) : List Byte :=
  let p := shaPad 4 l
  (shaBlocks rot256 k256 4 (p.length / 64) (h256.map (BitVec.ofNat 32)) p).flatMap (fun x => beBytes 4 x.toNat)

/-- SHA-384 of a byte string, as 48 bytes. -/
def sha384 (l : List Byte) : List Byte :=
  let p := shaPad 8 l
  ((shaBlocks rot512 k512 8 (p.length / 128) (h384.map (BitVec.ofNat 64)) p).flatMap (fun x => beBytes 8 x.toNat)).take 48

/-! ## ECDSA on P-384 -/

/-- The field prime 2^384 − 2^128 − 2^96 + 2^32 − 1. -/
def p384 : Nat := 2 ^ 384 - 2 ^ 128 - 2 ^ 96 + 2 ^ 32 - 1
/-- The group order. -/
def n384 : Nat := 0xFFFFFFFFFFFFFFFFFFFFFFFFFFFFFFFFFFFFFFFFFFFFFFFFC7634D81F4372DDF581A0DB248B0A77AECEC196ACCC52973
/-- The curve constant b. -/
def b384 : Nat := 0xB3312FA7E23EE7E4988E056BE3F82D19181D9C6EFE8141120314088F5013875AC656398D8A2ED19D2A85C8EDD3EC2AEF
/-- The base point. -/
def gx384 : Nat := 0xAA87CA22BE8B05378EB1C71EF320AD746E1D3B628BA79B9859F741E082542A385502F25DBF55296C3A545E3872760AB7
def gy384 : Nat := 0x3617DE4A96262C6F5D9E98BF9292DC29F8F41DBD289A147CE9DA3113B5F0B8C00A60B1CE1D7E819D7A431D7C90EA0E5F

/-- Subtraction modulo `m` of reduced numbers. -/
def subMod (m a b : Nat) : Nat := (a + m - b % m) % m

/-- `a ^ e` modulo `m`, by `k` bits of `e`, most significant first. -/
def powMod (m a e : Nat) : Nat → Nat
  | 0 => 1 % m
  | k + 1 =>
    let h := powMod m a (e / 2) k
    if e % 2 = 1 then h * h % m * a % m else h * h % m

/-- The inverse modulo a prime. -/
def invMod (m a : Nat) : Nat := powMod m (a % m) (m - 2) 384

/-- A point: none for the point at infinity. -/
abbrev EcPoint := Option (Nat × Nat)

/-- Addition on P-384, affine. -/
def ecAdd (u v : EcPoint) : EcPoint :=
  match u, v with
  | none, _ => v
  | _, none => u
  | some (x1, y1), some (x2, y2) =>
    if x1 = x2 then
      if (y1 + y2) % p384 = 0 then none
      else
        let l := subMod p384 (3 * x1 * x1) 3 * invMod p384 (2 * y1) % p384
        let x3 := subMod p384 (l * l) (x1 + x2)
        some (x3, subMod p384 (l * subMod p384 x1 x3) y1)
    else
      let l := subMod p384 y2 y1 * invMod p384 (subMod p384 x2 x1) % p384
      let x3 := subMod p384 (l * l) (x1 + x2)
      some (x3, subMod p384 (l * subMod p384 x1 x3) y1)

/-- `e` times a point, by `k` bits of `e`. -/
def ecMul (q : EcPoint) (e : Nat) : Nat → EcPoint
  | 0 => none
  | k + 1 =>
    let h := ecMul q (e / 2) k
    let d := ecAdd h h
    if e % 2 = 1 then ecAdd d q else d

/-- Whether (x, y) is a point of the curve. -/
def onCurve (x y : Nat) : Bool :=
  x < p384 && y < p384 && y * y % p384 == (subMod p384 (x * x * x + b384) (3 * x))

/-- Whether (r, s) is an ECDSA signature of a 48-byte hash under the public key (x, y). -/
def ecdsaVerify (x y : Nat) (hash : List Byte) (r s : Nat) : Bool :=
  if !onCurve x y || r = 0 || s = 0 || n384 ≤ r || n384 ≤ s then false
  else
    let w := invMod n384 s
    let u1 := beNat hash * w % n384
    let u2 := r * w % n384
    match ecAdd (ecMul (some (gx384, gy384)) u1 384) (ecMul (some (x, y)) u2 384) with
    | none => false
    | some (px, _) => px % n384 == r

end Sys2Proof.Machine
end

