-- ==== Sys2Proof/Machine/Codes.lean ====
section
/-!
DEFINITION. The status and event codes of 28 R925, each under the spec's name, and the fault classes of 23 R838.
-/
namespace Sys2Proof.Machine.Codes

/-- 28 R925. -/
def OK : Code := 0x0000
/-- 28 R925. -/
def BOUNDS : Code := 0x0100
/-- 28 R925. -/
def OVERLAP_WRAP : Code := 0x0101
/-- 28 R925. -/
def COPY_INVALID : Code := 0x0102
/-- 28 R925. -/
def COPY_DST_ALIAS : Code := 0x0103
/-- 28 R925. -/
def COPY_OVERLAP_LAYOUT : Code := 0x0104
/-- 28 R925. -/
def SEG_FAULT : Code := 0x0105
/-- 28 R925. -/
def SEG_PERM : Code := 0x0106
/-- 28 R925. -/
def WINDOW_ALIGN : Code := 0x0107
/-- 28 R925. -/
def MEM_UNCORRECTABLE : Code := 0x0108
/-- 28 R925. -/
def NO_ROUTE : Code := 0x0120
/-- 28 R925. -/
def DESC_INVALID : Code := 0x0201
/-- 28 R925. -/
def TASK_INVALID : Code := 0x0202
/-- 28 R925. -/
def CANCELLED_UNDISPATCHED : Code := 0x0203
/-- 28 R925. -/
def CANCELLED_RUNNING : Code := 0x0204
/-- 28 R925. -/
def CANCELLED_DEPENDENCY : Code := 0x0205
/-- 28 R925. -/
def DEPENDENCY_FAILED : Code := 0x0206
/-- 28 R925. -/
def TIMEOUT : Code := 0x0207
/-- 28 R925. -/
def QUE_DOORBELL_OVERRUN : Code := 0x0208
/-- 28 R925. -/
def QUE_FEEDER : Code := 0x0209
/-- 28 R925. -/
def WATERMARK_CROSSED : Code := 0x020A
/-- 28 R925. -/
def EVENTS_LOST : Code := 0x020B
/-- 28 R925. -/
def THREAD_ILLEGAL : Code := 0x020C
/-- 28 R925. -/
def ATOMIC_TARGET : Code := 0x020D
/-- 28 R925. -/
def THREAD_ALIGN : Code := 0x020E
/-- 28 R925. -/
def REGION_RESET_DONE : Code := 0x02A0
/-- 28 R925. -/
def ANL_BAD_REF : Code := 0x0300
/-- 28 R925. -/
def ANL_ENERGY_RANGE : Code := 0x0301
/-- 28 R925. -/
def ANL_ASYMMETRIC : Code := 0x0302
/-- 28 R925. -/
def ANL_SITE_BUSY : Code := 0x0303
/-- 28 R925. -/
def ANL_TABLE_PROTECTED : Code := 0x0304
/-- 28 R925. -/
def ANL_NOISE_FAULT : Code := 0x0310
/-- 28 R925. -/
def ANL_DESC_INVALID : Code := 0x0320
/-- 28 R925. -/
def ANL_SCHED_INVALID : Code := 0x0321
/-- 28 R925. -/
def ANL_EXCHANGE_LATE : Code := 0x0322
/-- 28 R925. -/
def ANL_ABORTED : Code := 0x0323
/-- 28 R925. -/
def ACC_OVERFLOW : Code := 0x0400
/-- 28 R925. -/
def MAT_DESC_INVALID : Code := 0x0401
/-- 28 R925. -/
def MAT_REDUCTION_LONG : Code := 0x0402
/-- 28 R925. -/
def MAT_TREE_MISSING : Code := 0x0403
/-- 28 R925. -/
def QUANT_DRIFT : Code := 0x0500
/-- 28 R925. -/
def NUM_QUANT_INVALID : Code := 0x0501
/-- 28 R925. -/
def NUM_MODE_DENIED : Code := 0x0502
/-- 28 R925. -/
def SFU_RANGE : Code := 0x0600
/-- 28 R925. -/
def SFU_MODE_DENIED : Code := 0x0601
/-- 28 R925. -/
def SFU_UNAVAILABLE : Code := 0x0602
/-- 28 R925. -/
def SFU_ROW_INVALID : Code := 0x0603
/-- 28 R925. -/
def SFU_TABLE_FAULT : Code := 0x0604
/-- 28 R925. -/
def VIS_PARAM_INVALID : Code := 0x0700
/-- 28 R925. -/
def VIS_BUFFER_INVALID : Code := 0x0701
/-- 28 R925. -/
def VIS_GRAPH_INVALID : Code := 0x0702
/-- 28 R925. -/
def VIS_GROUP_UNDERRUN : Code := 0x0703
/-- 28 R925. -/
def VIS_GROUP_MISMATCH : Code := 0x0704
/-- 28 R925. -/
def VIS_GROUP_STOPPED : Code := 0x0705
/-- 28 R925. -/
def ATOMIC_ORDER : Code := 0x0800
/-- 28 R925. -/
def DET_MODE_LOCKED : Code := 0x0801
/-- 28 R925. -/
def DIGEST_LOST : Code := 0x0802
/-- 28 R925. -/
def DDI_DEGRADED : Code := 0x0900
/-- 28 R925. -/
def DDI_LANE_RETIRED : Code := 0x0901
/-- 28 R925. -/
def DDI_BUNDLE_OFFLINE : Code := 0x0902
/-- 28 R925. -/
def DDI_RETRY_EXHAUSTED : Code := 0x0903
/-- 28 R925. -/
def DDI_DIE_LOST : Code := 0x0904
/-- 28 R925. -/
def DDI_PATH_LOST : Code := 0x0905
/-- 28 R925. -/
def PARTNER_LOST : Code := 0x0A00
/-- 28 R925. -/
def LNK_RETRY_EXHAUSTED : Code := 0x0A01
/-- 28 R925. -/
def LNK_NEIGHBOUR_MISMATCH : Code := 0x0A02
/-- 28 R925. -/
def LNK_PORT_DOWN : Code := 0x0A03
/-- 28 R925. -/
def LNK_OP_MISMATCH : Code := 0x0A04
/-- 28 R925. -/
def LNK_TRAIN_FAIL : Code := 0x0A05
/-- 28 R925. -/
def LNK_ROUTE_SWITCHED : Code := 0x0A06
/-- 28 R925. -/
def CABLE_CHANGE : Code := 0x0A40
/-- 28 R925. -/
def HST_HOST_DENIED : Code := 0x0B00
/-- 28 R925. -/
def HST_HOST_ERROR : Code := 0x0B01
/-- 28 R925. -/
def HST_LINK_DOWN : Code := 0x0B02
/-- 28 R925. -/
def HST_FETCH_ERROR : Code := 0x0B03
/-- 28 R925. -/
def HST_BAD_ACCESS : Code := 0x0B04
/-- 28 R925. -/
def HST_VF_FLR : Code := 0x0B05
/-- 28 R925. -/
def REG_DOMAIN_OFF : Code := 0x0B06
/-- 28 R925. -/
def SEC_CMD_DENIED : Code := 0x0C00
/-- 28 R925. -/
def SEC_LOCKED : Code := 0x0C01
/-- 28 R925. -/
def SEC_SLOT_USED : Code := 0x0C02
/-- 28 R925. -/
def SEC_REVOKE_LAST : Code := 0x0C03
/-- 28 R925. -/
def SEC_FUSE_FAIL : Code := 0x0C04
/-- 28 R925. -/
def SEC_ROLLBACK_DENIED : Code := 0x0C05
/-- 28 R925. -/
def SEC_NO_DIGEST : Code := 0x0C06
/-- 28 R925. -/
def SEC_RNG_FAULT : Code := 0x0C07
/-- 28 R925. -/
def IMAGE_SIG_INVALID : Code := 0x0C10
/-- 28 R925. -/
def IMAGE_ROLLBACK : Code := 0x0C11
/-- 28 R925. -/
def IMAGE_KEY_REVOKED : Code := 0x0C12
/-- 28 R925. -/
def DBG_DENIED : Code := 0x0C20
/-- 28 R925. -/
def BOOT_FW_INVALID : Code := 0x0CA0
/-- 28 R925. -/
def FW_FALLBACK : Code := 0x0CA1
/-- 28 R925. -/
def DEST_CLOSED : Code := 0x0D40
/-- 28 R925. -/
def PWR_NOT_OWNER : Code := 0x0D41
/-- 28 R925. -/
def PWR_STATE_INVALID : Code := 0x0D42
/-- 28 R925. -/
def PWR_DEPENDENCY : Code := 0x0D43
/-- 28 R925. -/
def PWR_DRAIN_LONG : Code := 0x0D44
/-- 28 R925. -/
def THERM_THROTTLE : Code := 0x0D45
/-- 28 R925. -/
def THERM_TRIP : Code := 0x0D46
/-- 28 R925. -/
def SUPPLY_DROOP : Code := 0x0D47
/-- 28 R925. -/
def REVOKED : Code := 0x0E00
/-- 28 R925. -/
def REVOKE_DONE : Code := 0x0E01
/-- 28 R925. -/
def NOC_LINK_SUSPECT : Code := 0x0E02
/-- 28 R925. -/
def REVOKE_BAD_ARG : Code := 0x0E03
/-- 28 R925. -/
def NOC_LINK_ERROR : Code := 0x0E20
/-- 28 R925. -/
def BG_ESCALATED : Code := 0x0E21
/-- 28 R925. -/
def RES_FAULT : Code := 0x0E60
/-- 28 R925. -/
def ISLAND_LOCK_LOST : Code := 0x0E61
/-- 28 R925. -/
def TEL_SAMPLE_LATE : Code := 0x0E80
/-- 28 R925. -/
def TEL_SAMPLE_LOST : Code := 0x0E81
/-- 28 R925. -/
def WATCHDOG_RESET : Code := 0x0EA0
/-- 28 R925. -/
def BOOT_FAILED : Code := 0x0EA1
/-- 28 R925. -/
def RECOVERY_ENTERED : Code := 0x0EA2
/-- 28 R925. -/
def IMAGE_FORMAT : Code := 0x0F00
/-- 28 R925. -/
def RESERVED_NONZERO : Code := 0x0F01
/-- 28 R925. -/
def SECTION_INVALID : Code := 0x0F02
/-- 28 R925. -/
def SHAPE_MISMATCH : Code := 0x0F03
/-- 28 R925. -/
def STEPPING_MISMATCH : Code := 0x0F04
/-- 28 R925. -/
def PROFILE_UNSUPPORTED : Code := 0x0F05
/-- 28 R925. -/
def IMAGE_MODE_MISMATCH : Code := 0x0F06
/-- 28 R925. -/
def MAP_SHORTFALL : Code := 0x0F07
/-- 28 R925. -/
def REGION_INVALID : Code := 0x0F08
/-- 28 R925. -/
def ENTRY_INVALID : Code := 0x0F09
/-- 28 R925. -/
def SEGMENT_OVERLAP : Code := 0x0F0A
/-- 28 R925. -/
def MEM_CAPACITY : Code := 0x0F0B
/-- 28 R925. -/
def SCHEDULE_CONFLICT : Code := 0x0F0C
/-- 28 R925. -/
def SCHEDULE_LEAK : Code := 0x0F0D
/-- 28 R925. -/
def EDGE_BUDGET : Code := 0x0F0E
/-- 28 R925. -/
def TOPOLOGY_INVALID : Code := 0x0F0F
/-- 28 R925. -/
def IMAGE_APPLY_FAULT : Code := 0x0F10
/-- 28 R925. -/
def PWR_BLOCK_UNOWNED : Code := 0x0F82
/-- 28 R925. -/
def RESOURCE_OWNED : Code := 0x0F40
/-- 28 R925. -/
def SHARED_REQ_INVALID : Code := 0x0F41
/-- 28 R925. -/
def CLK_PLAN_UNSUPPORTED : Code := 0x0F60
/-- 28 R925. -/
def PWR_PLAN_UNSUPPORTED : Code := 0x0F80
/-- 28 R925. -/
def PWR_BLOCK_SHARED : Code := 0x0F81
/-- 28 R925. -/
def IMAGE_STATE : Code := 0x0FA0
/-- 28 R925. -/
def IMAGE_AUTOLOAD_FAILED : Code := 0x0FA1

end Sys2Proof.Machine.Codes
namespace Sys2Proof.Machine

/-- The fault class of a code (23 R838); 0 for a status that is no fault. -/
def faultClass (c : Code) : Nat :=
  if [Codes.MEM_UNCORRECTABLE, Codes.NOC_LINK_ERROR, Codes.DDI_RETRY_EXHAUSTED, Codes.LNK_RETRY_EXHAUSTED,
      Codes.HST_HOST_ERROR, Codes.HST_LINK_DOWN].contains c then 1
  else if [Codes.ISLAND_LOCK_LOST, Codes.ANL_NOISE_FAULT, Codes.SFU_TABLE_FAULT].contains c then 2
  else if [Codes.DDI_DIE_LOST, Codes.SEC_RNG_FAULT].contains c then 3
  else if c = Codes.PARTNER_LOST then 4
  else if [Codes.RES_FAULT, Codes.THERM_TRIP, Codes.DDI_PATH_LOST, Codes.WATCHDOG_RESET].contains c then 5
  else if [Codes.DDI_DEGRADED, Codes.DDI_LANE_RETIRED, Codes.DDI_BUNDLE_OFFLINE, Codes.LNK_ROUTE_SWITCHED,
      Codes.NOC_LINK_SUSPECT].contains c then 6
  else 0

/-- The cancellation statuses (09 R351). -/
def isCancelStatus (c : Code) : Bool :=
  [Codes.CANCELLED_UNDISPATCHED, Codes.CANCELLED_RUNNING, Codes.CANCELLED_DEPENDENCY].contains c

end Sys2Proof.Machine
end

