-- ==== Sys2Proof/Machine/Tab.lean ====
section
/-!
DEFINITION. Sparse tables: a list of (key, value) pairs with rising keys, read with the value of an unlisted key. The
model keeps every indexed family of registers (regions, sites, threads, queues, bundles) in such a table (log 2).
-/
namespace Sys2Proof.Machine

/-- A sparse table by a natural-number key. -/
abbrev Tab (α : Type) := List (Nat × α)

/-- The value at `k`, or `d` where no entry is listed. -/
def Tab.get {α : Type} (d : α) : Tab α → Nat → α
  | [], _ => d
  | (j, a) :: t, k => if j = k then a else Tab.get d t k

/-- Writes the value at `k`, keeping keys rising. -/
def Tab.set {α : Type} : Tab α → Nat → α → Tab α
  | [], k, v => [(k, v)]
  | (j, a) :: t, k, v =>
    if j = k then (k, v) :: t
    else if k < j then (k, v) :: (j, a) :: t
    else (j, a) :: Tab.set t k v

/-- Removes the entry at `k`. -/
def Tab.erase {α : Type} (t : Tab α) (k : Nat) : Tab α := t.filter (fun e => e.1 ≠ k)

/-- Changes the value at `k`. -/
def Tab.modify {α : Type} (d : α) (t : Tab α) (k : Nat) (f : α → α) : Tab α :=
  Tab.set t k (f (Tab.get d t k))

/-- Inserts into a list kept in rising order of a key, after entries of an equal key. -/
def insertBy {α : Type} (lt : α → α → Bool) (x : α) : List α → List α
  | [] => [x]
  | y :: t => if lt x y then x :: y :: t else y :: insertBy lt x t

/-- Insertion sort: stable, structural. -/
def sortBy {α : Type} (lt : α → α → Bool) : List α → List α
  | [] => []
  | x :: t => insertBefore lt x (sortBy lt t)
where
  /-- Inserts before the entries that are not smaller. -/
  insertBefore (lt : α → α → Bool) (x : α) : List α → List α
    | [] => [x]
    | y :: t => if lt y x then y :: insertBefore lt x t else x :: y :: t

/-- The numbers `a`, `a + 1`, …, `n` of them. -/
def upFrom (a n : Nat) : List Nat := (List.range n).map (a + ·)

end Sys2Proof.Machine
end

