-- ==== Sys2Proof/Machine/State.lean ====
section
/-!
DEFINITION. The whole state of the AE7 block as plain data, the ways a command can stop, and the state at reset. Every
structure's default field values are its reset values; INVENTORY.md lists each field with the rule that names it. The
sparse tables of State list nothing at reset: an unlisted entry reads as its structure's default.
-/
namespace Sys2Proof.Machine

/-- A command that stops the model. No command of the table stops on every path. -/
inductive Fault where
  /-- Raised by no command: an access whose address no segment holds, or that leaves its window, ends with the code that the spec gives it
  (08 R279-R284), and a register offset that names no register reads 0 (25 R899). Safe. -/
  | addressHole
  deriving DecidableEq, Repr

/-- A command that the model gives no meaning to. -/
inductive Refusal where
  /-- Raised by exec's arm of a command that has no meaning yet. Safe. -/
  | notModelled (mnemonic : String)
  /-- Raised by a command whose operand lists have a length that no sender can produce (Sys2Proof.WellFormed). Safe. -/
  | illFormed
  deriving DecidableEq, Repr

/-! ## The part, its fuses and its boot flash -/

/-- The two grades (00 R1). -/
inductive Grade where
  | ae7_960 | ae7_640
  deriving DecidableEq, Repr

/-- What manufacture fixes: the grade, the disabled sites, the device's identity and keys (01 R21-R24, 22 R807).
DESIGN CHOICE (log 5): an AE7-960 with no disabled site and all-zero identity. -/
structure Part where
  grade : Grade := .ae7_960
  /-- Physical sites disabled at factory test, as die × 512 + physical index. -/
  disabled : List Nat := []
  /-- `SEC_DEVICE_ID`. -/
  deviceId : Word64 := 0
  /-- Attestation private key. -/
  attestKey : BitVec 384 := 0
  /-- Attestation public key, x and y. -/
  attestX : BitVec 384 := 0
  attestY : BitVec 384 := 0
  /-- `SEC_CERT`, DER. -/
  cert : List Byte := []
  deriving DecidableEq, Repr

/-- The fuses (22 R807); a fuse is never cleared. -/
structure Fuses where
  /-- Hash fuses of firmware key slots 0 to 3. -/
  fwHash : Tab (BitVec 384) := []
  fwRevoked : BitVec 4 := 0
  /-- Hash fuses of image key slots 0 to 7. -/
  imgHash : Tab (BitVec 384) := []
  imgValid : BitVec 8 := 0
  imgRevoked : BitVec 8 := 0
  /-- Blown fuses of the firmware rollback thermometer, 0 to 64. -/
  fwRollback : Nat := 0
  /-- Blown fuses of the image rollback thermometer, 0 to 64. -/
  imgRollback : Nat := 0
  /-- The provisioning lock. -/
  lock : Bool := false
  deriving DecidableEq, Repr

/-- The boot flash: kept over every reset (05 R136, R143, R152; 22 R808; 19 R708). -/
structure Flash where
  copyA : Option FwCopy := none
  copyB : Option FwCopy := none
  /-- The active-copy marker: false A, true B. -/
  activeB : Bool := false
  /-- The stored autoload image. -/
  autoload : Option (List Byte) := none
  /-- The key store: slot, 96 bytes. -/
  keyStore : Tab (List Byte) := []
  /-- The retired-lane record: bundle, lanes. -/
  retired : Tab (BitVec 36) := []
  /-- Retirements not yet written to the record, oldest first (19 R708). -/
  unwritten : List (Nat × Nat) := []
  deriving DecidableEq, Repr

/-! ## Hub: boot, image commands, shared resources, clocks -/

/-- Boot stages (05 R139). -/
inductive Stage where
  | reset | rom | fwVerify | dieLink | memInit | awaitImage | imageLoad | running
  | thermalHold | clockFault | recovery | bootFailed
  deriving DecidableEq, Repr

/-- What an image command in progress fetches (05 R149-R152). -/
inductive LoadKind where
  | load | autoload | store
  deriving DecidableEq, Repr

/-- Boot and image-command registers (05 R165, 06 R210). -/
structure Boot where
  stage : Stage := .reset
  failCount : BitVec 2 := 0
  autoloadBit : Bool := false
  lastError : Code := 0
  /-- Tick at which the last reset cause was released. -/
  releaseTick : Word64 := 0
  /-- Tick of the last entry to BOOT_FAILED. -/
  failTick : Word64 := 0
  /-- Asserted package-reset causes (05 R133): the power-on cause holds at reset. -/
  causeRail : Bool := true
  causeOver : Bool := false
  causeBoard : Bool := false
  causeHost : Bool := false
  /-- HUB_RESET_CAUSE. -/
  rcPowerOn : Bool := true
  rcBoard : Bool := false
  rcHost : Bool := false
  rcWatchdog : Bool := false
  recoveryNext : Bool := false
  /-- A package reset came while recovery_next was set: the boot that follows enters RECOVERY (05 R159). -/
  recoveryDue : Bool := false
  /-- The control-core watchdog runs, from the start of FW_VERIFY (05 R142). -/
  watchdogOn : Bool := false
  imageSrc : Word64 := 0
  imageLen : Word := 0
  imageBusy : Bool := false
  imageResult : Code := 0
  deriving DecidableEq, Repr

/-- The rest of the boot block. -/
structure BootAux where
  detailStep : Byte := 0
  detailSection : Byte := 0xFF
  detailEntry : Word := 0xFFFFFFFF
  /-- The image command in progress. -/
  loading : Option LoadKind := none
  /-- A load command waits for a fuse command (22 R820). -/
  loadDeferred : Bool := false
  /-- An accepted image waits for the frame boundary that starts its regions (06 R207 step 6). -/
  starting : Bool := false
  /-- The stored image failed since the last package reset (05 R153). -/
  autoloadTried : Bool := false
  /-- A watchdog reset waits to be raised (05 R142). -/
  watchdogPending : Bool := false
  /-- A link-down event waits to be raised (21 R802). -/
  linkDownPending : Bool := false
  /-- A thermal trip holds (05 R137). -/
  tripHold : Bool := false
  /-- Fabric work is stopped by RES_FAULT or a lost path (03 R85, 19 R724). -/
  fabricStopped : Bool := false
  /-- The slate bit of HUB_DET_CTL and the mode in force (18 R672, R698). -/
  slateCtl : Bool := true
  slateInForce : Bool := true
  detProfile : Word64 := 0
  /-- ALERT_N is asserted for SMBus alert (02 R46, 05 R157): so it is on entry to the power-on reset (02 R56, log 99). -/
  alertLow : Bool := true
  deriving DecidableEq, Repr

/-- Pins (02). Levels that the board drives are DESIGN CHOICE at reset (log 6). -/
structure Pins where
  mgtVio : Bool := false
  /-- LNK_PORTn_CBLPRES_N levels, true high: bit n for port n. -/
  cblpres : BitVec 8 := 0xFF
  syncOutHigh : Bool := false
  railMv : BitVec 16 := 0
  deriving DecidableEq, Repr

/-- A code that reads from the hub tick after the one at which it was given (02 R53): the code given last, what read before it, and the
tick at which it was given. -/
structure LateCode where
  now : Code := 0
  before : Code := 0
  at_ : Word64 := 0
  deriving DecidableEq, Repr

/-- Shared-resource owners (02 R48, R53, R54). -/
structure Shared where
  alertOwner : Byte := 0x01
  syncInOwner : Byte := 0
  syncOutOwner : Byte := 0
  hubResult : LateCode := {}
  /-- Region tick timers 0 to 7: owner region and feature. -/
  timers : Tab (Nat × Nat) := []
  /-- Vision output buffer of each die: owner region and feature (1 feature engine, 2 stereo). -/
  visBuf : Tab (Nat × Nat) := []
  /-- Run-time enables by resource × 16 + index: the tick, and the requester, 0 the control cores, r + 1 region r (02 R52). -/
  takes : Tab (Word64 × Nat) := []
  deriving DecidableEq, Repr

/-- Clocks (03 R87). -/
structure Clk where
  tick : Word64 := 0
  planCode : Byte := 0x21
  window : BitVec 4 := 4
  trim : BitVec 16 := 0
  /-- The trim step that waits for the frame boundary. -/
  trimPending : Option (BitVec 16) := none
  resFault : Bool := false
  /-- Islands out of lock: domain, and the site where the island is in one. -/
  unlocked : List (Nat × Option Nat) := []
  lockLost : Bool := false
  lostCount : BitVec 16 := 0
  /-- CLK_TICK_HI latches per function. -/
  latches : Tab Word := []
  deriving DecidableEq, Repr

/-! ## Power (04) -/

/-- Power states, with closing (04). -/
inductive PState where
  | ivory | pewter | ash | charcoal | closing
  deriving DecidableEq, Repr

/-- The three-bit code of a target in PWR_DOMAIN_n (04 R129). -/
def PState.code : PState → Nat
  | .ivory => 0 | .pewter => 1 | .ash => 2 | .charcoal => 3 | .closing => 4

/-- A latched power request (04 R101, R102). -/
structure PwrReq where
  /-- The region that made it, or the physical function. -/
  who : Option Nat
  /-- The requested state's code. -/
  target : Nat
  tick : Word64
  /-- The retention mask that a region's request carries (04 R130). -/
  mask : Option (BitVec 16)
  deriving DecidableEq, Repr

/-- One power domain (04 R129). Reset values: 04 R100. -/
structure Domain where
  target : BitVec 3 := 3
  state : PState := .charcoal
  retain : BitVec 16 := 0
  request : Option PwrReq := none
  /-- The end of the chain being followed (04 R104). -/
  goal : Option PState := none
  /-- The state that the transition under way reaches, and its whole frames left. -/
  moving : Option (PState × Nat) := none
  /-- Frames spent closing. -/
  closingFrames : Nat := 0
  drainRaised : Bool := false
  deriving DecidableEq, Repr

/-- The power manager (04 R129, 26 R911). -/
structure Pwr where
  domains : Tab Domain := []
  planCode : Byte := 0x10
  throttle : Byte := 0x5F
  release : Byte := 0x5A
  trip : Byte := 0x6E
  hottest : BitVec 10 := 0
  hottestId : BitVec 6 := 0
  level : BitVec 3 := 0
  tripped : Bool := false
  /-- The trip was raised and waits for its frame boundary (04 R125). -/
  tripPending : Bool := false
  droopLatched : Bool := false
  droop : Bool := false
  /-- Whole frames since the rail has stayed above 11.4 V. -/
  droopGoodFrames : Nat := 0
  /-- Domains as they were before the load in progress (06 R208). -/
  saved : Tab Domain := []
  /-- The clock plan's code and window, the power plan's code and the mode in force before that load (03 R70; 04 R116; 06 R208). -/
  savedPlans : Option (Byte × BitVec 4 × Byte × Bool) := none
  /-- TEL_SENSOR_n, TEL_POWER. -/
  sensors : Tab (BitVec 10) := []
  inputPower : BitVec 16 := 0
  avgRail : BitVec 16 := 0
  deriving DecidableEq, Repr

/-! ## The accepted image (06) -/

/-- A rectangle of logical sites. -/
structure Rect where
  col0 : Nat := 0
  row0 : Nat := 0
  cols : Nat := 0
  rows : Nat := 0
  deriving DecidableEq, Repr

/-- A REGIONS entry (06 R178). -/
structure RegionDef where
  id : Nat
  paired : Bool
  tolerant : Bool
  sfuMinimal : Bool
  narrow : Nat
  die : Nat
  rect1 : Rect
  rect2 : Rect
  queueFirst : Nat
  queueCount : Nat
  seed : Word64
  deriving DecidableEq, Repr

/-- A SEGMENTS entry (06 R183). -/
structure Segment where
  region : Nat
  base : Nat
  limit : Nat
  target : Nat
  read : Bool
  write : Bool
  deriving DecidableEq, Repr

/-- A WINDOWS entry (08 R276). -/
structure Window where
  region : Nat
  die : Nat
  site : Nat
  num : Nat
  elemLog2 : Nat
  base : Nat
  length : Nat
  deriving DecidableEq, Repr

/-- A SHARED_OWN entry (06 R191). -/
structure SharedOwn where
  resource : Nat
  index : Nat
  owner : Nat
  feature : Nat
  deriving DecidableEq, Repr

/-- A slot-table entry with its record's router (07 R231). -/
structure SlotEntry where
  die : Nat
  kind : Nat
  index : Nat
  attach : Nat
  slot : Nat
  inPort : Nat
  outPort : Nat
  region : Nat
  background : Bool
  route : Nat
  deriving DecidableEq, Repr

/-- An EDGE_ASSIGN record (07 R244). -/
structure EdgeAssign where
  die : Nat
  router : Nat
  slot : Nat
  dirIn : Bool
  cls : Nat
  region : Nat
  route : Nat
  deriving DecidableEq, Repr

/-- A BACKGROUND record (07 R252). -/
structure Background where
  die : Nat
  router : Nat
  first : Nat
  length : Nat
  periodLog2 : Nat
  deriving DecidableEq, Repr

/-- A stream record of an INDEX_TABLE section, import or export (10 R401, R402). -/
structure Stream where
  /-- First ghost slot, or first list index. -/
  first : Nat
  count : Nat
  /-- The other end: logical site and die. -/
  site : Nat
  die : Nat
  remote : Bool
  package : Nat
  route : Nat
  deriving DecidableEq, Repr

/-- An index entry of kinds 3 and 4 (10 R409). -/
structure IndexEntry where
  site : Nat
  die : Nat
  row : Nat
  entry : Nat
  mirror : Bool
  mSite : Nat
  mDie : Nat
  mRow : Nat
  mEntry : Nat
  deriving DecidableEq, Repr

/-- An INDEX_TABLE section (10 R407, R408). -/
structure IndexTable where
  region : Nat
  kind : Nat
  site : Nat
  die : Nat
  base : Nat
  tableId : Nat
  streams : List Stream
  lists : List Nat
  entries : List IndexEntry
  /-- The body as the loader writes it into scratchpad. -/
  body : List Byte
  deriving DecidableEq, Repr

/-- A TREES record (13 R532): its leaves as (die, site) and its edges as (up, down) routes. -/
structure Tree where
  region : Nat
  leaves : List (Nat × Nat)
  edges : List (Nat × Nat)
  deriving DecidableEq, Repr

/-- A TOPOLOGY port record. -/
structure TopoPort where
  neighbour : Nat
  farPort : Nat
  used : Bool
  rate16 : Bool
  deriving DecidableEq, Repr

/-- A TOPOLOGY link entry (20 R761). -/
structure LinkEntry where
  linkRoute : Nat
  port : Nat
  dirIn : Bool
  slot : Nat
  alternate : Bool
  forwarded : Bool
  fwdPort : Nat
  region : Nat
  route : Nat
  altKey : Nat
  /-- The entry's 16 bytes, for the cable digest (20 R769). -/
  raw : List Byte
  deriving DecidableEq, Repr

/-- A TOPOLOGY tree record: edges as (addition, role right, up, down). -/
structure TopoTree where
  region : Nat
  first : Nat
  leaves : Nat
  edges : List (Nat × Bool × Nat × Nat)
  deriving DecidableEq, Repr

/-- The TOPOLOGY section (20 R761). -/
structure Topo where
  self : Nat
  packages : Nat
  kind : Nat
  dimX : Nat
  dimY : Nat
  dimZ : Nat
  epochK : Nat
  systemId : Word64
  ports : List TopoPort
  links : List LinkEntry
  alts : List (Nat × Nat)
  trees : List TopoTree
  deriving DecidableEq, Repr

/-- A PAYLOAD section (06 R193). -/
structure Payload where
  region : Nat
  va : Nat
  data : List Byte
  deriving DecidableEq, Repr

/-- The accepted image, decoded (06 R167-R196). -/
structure Image where
  cols : Nat := 16
  rows : Nat := 16
  stepping : Nat := 1
  clockPlan : Nat := 0x21
  powerPlan : Nat := 0x10
  sfuTable : Nat := 1
  noiseFn : Nat := 1
  sepia : Bool := false
  modeRequired : Nat := 0
  securityVersion : Word := 0
  seed : Word64 := 0
  buildId : Word64 := 0
  keySlot : Nat := 0
  digest : List Byte := []
  dual0 : Word := 0
  dual1 : Word := 0
  regions : List RegionDef := []
  powerOwners : List Nat := []
  deriving DecidableEq, Repr

/-- The sections of the accepted image. -/
structure ImageBody where
  segments : List Segment := []
  windows : List Window := []
  shared : List SharedOwn := []
  slots : List SlotEntry := []
  edges : List EdgeAssign := []
  background : List Background := []
  indexTables : List IndexTable := []
  trees : List Tree := []
  topo : Option Topo := none
  payloads : List Payload := []
  deriving DecidableEq, Repr

/-! ## Threads (09) -/

/-- What a hardware thread does (09 R301-R312). -/
inductive ThreadState where
  | free | running
  /-- Stalled on a full send queue (09 R305): the access is tried again when the queue drains. -/
  | stallSend (route : Nat) (word : Word64)
  /-- Stalled on a flag (09 R370). -/
  | stallFlag (flag : Nat) (cond : Nat) (value : Word)
  /-- Stalled on an issue (09 R333): the local queue and the descriptor read. -/
  | stallIssue (queue : Nat) (bytes : List Byte)
  /-- Stalled because the special-function unit is held (15 R576). -/
  | stallSfu (word : Word64)
  | softmax
  | exited
  deriving DecidableEq, Repr

/-- A result that has not reached its register (09 R322): register, value once known, and whether two registers. -/
structure Pending where
  reg : Nat
  pair : Bool
  /-- The value, once the access or the function has produced it. -/
  value : Option Word64
  /-- Whether it is a result of the special-function unit. -/
  sfu : Bool
  /-- The route on which an access that is out returns, and the slot, since frame 0, from which its data is at the thread (09 R304). -/
  route : Option Nat := none
  due : Nat := 0
  deriving DecidableEq, Repr

/-- A hardware thread. -/
structure Thread where
  regs : Tab Word := []
  pc : BitVec 48 := 0
  entry : BitVec 48 := 0
  state : ThreadState := .free
  index : Nat := 0
  /-- The TASK it belongs to. -/
  region : Nat := 0
  queue : Nat := 0
  seq : Word := 0
  outstanding : List Pending := []
  deriving DecidableEq, Repr

/-! ## Spin sites (10, 11, 12) -/

/-- One flip of a window (11 R438-R443): update slot of the window, state bit, energy change, cancelled by R439, stale by R453. -/
structure Flip where
  slot : Nat
  bit : Nat
  dE : Int
  cancelled : Bool
  stale : Bool
  deriving DecidableEq, Repr

/-- A stream exchange on its way to a site (11 R440, R444): import stream, window, claims or values, payload bits set, and the slot (not
counting those of held frames) in which its last packet comes in. -/
structure StreamMsg where
  stream : Nat
  window : Nat
  claims : Bool
  bits : List Nat
  due : Nat := 0
  deriving DecidableEq, Repr

/-- Pair counts of a commit that wait for the values of its window (12 R479): window, times, committed state, import streams awaited. -/
structure PairDue where
  window : Nat
  times : Nat
  state : BitVec 4096
  awaited : List Nat
  deriving DecidableEq, Repr

/-- The working state of a spin site's update lanes (11). -/
structure SpinWork where
  /-- A window runs or has been committed: its number. -/
  active : Bool := false
  window : Nat := 0
  /-- Ordinary slots run in this window, and whether its repair slot is still to run. -/
  inWindow : Nat := 0
  repairDue : Bool := false
  /-- Update slots run in this window, repair slot included: what orders flips. -/
  slotNo : Nat := 0
  /-- Values at the window's start, and the working values. -/
  start : BitVec 4096 := 0
  cur : BitVec 4096 := 0
  flips : List Flip := []
  repair : List Nat := []
  claimsSent : Bool := false
  committed : Bool := false
  /-- The slot, not counting those of held frames, in which the window began, and that in which the values of the window before have left on
  every export stream (11 R448, R450, R451). -/
  began : Nat := 0
  valuesLeave : Nat := 0
  /-- The window takes no further ordinary slot (11 R436, R451). -/
  slotsOver : Bool := false
  /-- Exchanges taken from each remote import stream since the ghost fill: claims and values in turn (11 R446). -/
  taken : Tab Nat := []
  /-- Claims that have arrived: window, import stream, payload bits set. -/
  claims : List (Nat × Nat × List Nat) := []
  /-- Values that have arrived: window, import stream. -/
  valuesIn : List (Nat × Nat) := []
  lanes : Nat := 32
  /-- Sweep in progress and its next ordinary slot (11 R434, R454). -/
  sweep : Nat := 0
  uslot : Nat := 0
  deriving DecidableEq, Repr

/-- Per-operation counts of a spin site (11 R459, 12 R478). -/
structure SpinCounts where
  windows : Nat := 0
  c439 : Nat := 0
  c441 : Nat := 0
  c442 : Nat := 0
  c453 : Nat := 0
  /-- Sweeps whose last ordinary slot has been committed. -/
  sweepsDone : Nat := 0
  /-- Running partial energies by replica. -/
  energy : List Int := []
  /-- Partial energies and snapshots at the counted marks: ordinal, energies, committed state, and the slot of the commit. -/
  atMark : List (Nat × List Int × BitVec 4096 × Nat) := []
  /-- The position of each replica. -/
  positions : List Nat := []
  due : List PairDue := []
  deriving DecidableEq, Repr

/-- A spin site's spin state and lanes (10 R393). -/
structure Spin where
  committed : BitVec 4096 := 0
  best : BitVec 4096 := 0
  /-- Ghost slots: one bit per replica. -/
  ghosts : Tab (BitVec 16) := []
  counts : Tab (BitVec 16) := []
  pairs : Tab (BitVec 16) := []
  work : SpinWork := {}
  tally : SpinCounts := {}
  inbox : List StreamMsg := []
  /-- The operation that runs on the site: region, queue, sequence. -/
  op : Option (Nat × Nat × Word) := none
  deriving DecidableEq, Repr

/-! ## Operations (09) -/

/-- Where an operation stands (09 R349-R372). -/
inductive OpState where
  | waiting | ready | running | preempted
  /-- The unit has finished; the completion waits for its boundary (09 R353). -/
  | latched
  deriving DecidableEq, Repr

/-- A running ANNEAL or SAMPLE (11, 12). -/
structure AnnealRun where
  /-- Selected sites as die × 256 + site, ascending ordinal. -/
  sites : List Nat := []
  isSample : Bool := false
  /-- The power plan's lanes at dispatch. -/
  lanes : Nat := 32
  /-- Running energies of the whole problem at the last mark or start, and best energies (12 R477). -/
  energies : List Int := []
  best : List Int := []
  /-- Exchange decisions: the mark's window, positions by replica, and the sites that it has reached. -/
  decisions : List (Nat × List Nat × List Nat) := []
  /-- The slots, not counting those of held frames, in which a mark's decision comes in at each site by the tree: window, site, slot (12 R476;
  13 R533). -/
  decisionDue : List (Nat × Nat × Nat) := []
  positions : List Nat := []
  marksDone : Nat := 0
  tested : Nat := 0
  swapped : Nat := 0
  /-- A stop: its window and its status, 0 for a preemption (12 R484, R486). -/
  stopWindow : Option Nat := none
  stopCode : Code := 0
  /-- A stop of a multi-package operation in Ochre mode waits for the down mark that carries it (20 R767). -/
  stopAsked : Bool := false
  multi : Bool := false
  /-- This package's magnitude bound (10 R414; 20 R765). -/
  bound : Nat := 0
  /-- The start barrier has ended: the down start mark, and SYNC_IN's edge where it is owned (20 R765). -/
  downStart : Bool := true
  started : Bool := true
  /-- Epoch windows whose up mark was sent, and whose down mark has arrived. -/
  epochSent : List Nat := []
  epochDone : List Nat := []
  /-- Up marks received: link route, window, stop, disturbed. -/
  upMarks : List (Nat × Nat × Bool × Bool) := []
  /-- The operation's disturbance count at its previous mark (18 R696). -/
  markDisturb : BitVec 16 := 0
  updatesBegan : Bool := false
  /-- Readout and report are written. -/
  written : Bool := false
  /-- The sites' spin state at a preemption (12 R487). -/
  saved : List Spin := []
  deriving DecidableEq, Repr

/-- One pending path of a MATRIX: the snapshot of its quantisation block and the progress of its attempt (13, 14). -/
structure MatRun where
  site : Nat := 0
  rows : Nat := 32
  /-- Next promotion group (or exact chunk) of the attempt. -/
  group : Nat := 0
  repeats : Nat := 0
  /-- Whether an output is not a number (13 R511). -/
  nonfinite : Bool := false
  /-- By output: an integer bank, an X48 floating pattern, an exact register in units of 2^-266, or the running pattern of a
  reduce; none for one that is not a number. -/
  banks : List (Option Int) := []
  /-- Zero-point sums formed in passing, by row or column of the activation side (14 R551). -/
  sums : List Int := []
  /-- The quantisation block and its tables as read at dispatch (14 R547). -/
  quant : List Byte := []
  inExp : List Byte := []
  outExp : List Byte := []
  sumTab : List Byte := []
  bias : List Byte := []
  /-- Accumulation has ended and the banks wait in the array or in the shadow set (13 R521, R523). -/
  accDone : Bool := false
  deriving DecidableEq, Repr

/-- A running TASK (09 R340-R343). -/
structure TaskRun where
  /-- Threads as (die × 256 + site, hardware thread), ascending group index. -/
  threads : List (Nat × Nat) := []
  /-- The code and group index of the trap that ends the task (09 R310), with the vector tick, since power-on reset, it happened in. -/
  trap : Option (Code × Nat × Nat) := none
  trapFault : BitVec 16 := 0
  /-- Registers and hardware-thread state saved at a preemption, in the order of `threads` (09 R356). -/
  store : List Thread := []
  deriving DecidableEq, Repr

/-- A node's state inside a running VISION_GRAPH. -/
inductive NodeState where
  | idle | waitRow | busy | ended
  deriving DecidableEq, Repr

/-- The group stream of a member's present frame (17 R661, R665): its flags, r0, height, and rows released. -/
structure GroupStream where
  fill : Nat
  release : Nat
  r0 : Word
  height : Nat
  released : Nat
  deriving DecidableEq, Repr

/-- A running VISION_GRAPH (17). -/
structure VisRun where
  die : Nat := 0
  stereo : Bool := false
  /-- Node records, 16 bytes each, read at dispatch. -/
  nodes : List (List Byte) := []
  frame : Nat := 0
  inFrame : Bool := false
  /-- The rest of a dropped frame's group stream is still to be released (17 R665). -/
  releasing : Bool := false
  node : Nat := 0
  nodeState : NodeState := .idle
  /-- The running node's parameter block. -/
  params : List Byte := []
  /-- Nodes failed or skipped in this frame. -/
  dead : List Nat := []
  /-- The earliest failure in frame and node order, with its fault ID (17 R654). -/
  firstFail : Code := 0
  firstFault : BitVec 16 := 0
  completed : Nat := 0
  dropped : Nat := 0
  /-- Output operands that entered the fold digest so far (18 R682). -/
  tensors : Nat := 0
  /-- Streaming of the running node: r0 of source and destination, rows released, rows written. -/
  r0Src : Word := 0
  r0Dst : Word := 0
  rowsReleased : Nat := 0
  rowsOut : Nat := 0
  /-- Rows of the source taken so far. -/
  taken : List (List Nat) := []
  stream : Option GroupStream := none
  deriving DecidableEq, Repr

/-- Marks and group waiting of a VISION_GRAPH. -/
structure VisGroupRun where
  /-- The graph can start frames: its group has formed, or it has none (17 R650, R658). -/
  formed : Bool := false
  /-- Consecutive waiting boundaries, and whether this run of them has underrun (17 R662). -/
  waits : Nat := 0
  underrun : Bool := false
  /-- A frame mark waits to be used. -/
  mark : Bool := false
  /-- The watched flag's value after the previous boundary (17 R651). -/
  lastFlag : Word := 0
  deriving DecidableEq, Repr

/-- What the unit of an operation holds. -/
structure UnitRun where
  anneal : Option AnnealRun := none
  matrix : Option MatRun := none
  task : Option TaskRun := none
  vis : Option VisRun := none
  group : VisGroupRun := {}
  deriving DecidableEq, Repr

/-- An operation in a task slot (09 R335-R372). -/
structure Op where
  queue : Nat
  seq : Word
  /-- The 16 descriptor words. -/
  words : List Word
  state : OpState := .waiting
  /-- The order of acceptance in the region. -/
  order : Nat := 0
  readyTick : Word64 := 0
  prio : Nat := 0
  /-- A priority change of a running operation, until it re-enters the ready order (09 R363). -/
  nextPrio : Option Nat := none
  dispatched : Bool := false
  /-- Frame and slot of the first dispatch, and its tick. -/
  dispatchFrame : Nat := 0
  dispatchSlot : Nat := 0
  /-- Timeout ticks counted so far, and the tick from which the present count runs. -/
  timeoutTick : Word64 := 0
  timeoutPaused : Nat := 0
  /-- Retries in progress on its path (09 R364). -/
  retries : Nat := 0
  timeoutRaised : Bool := false
  /-- A stop asked for at the next preemption point, with the status it will carry; OK for a preemption (09 R355, R360, R366). -/
  stopCode : Option Code := none
  /-- Power domains that its first packets reach, each with the slot (since frame 0) in which it does (04 R107): a domain has accepted the
  operation where that slot came before its closing began. -/
  accepted : List (Nat × Nat) := []
  deriving DecidableEq, Repr

/-- The record-side state of an operation. -/
structure OpRec where
  disturbance : BitVec 16 := 0
  depNotOk : Bool := false
  cancelLate : Bool := false
  timedOut : Bool := false
  wasPreempted : Bool := false
  /-- Status, result word and fault ID of a latched completion. -/
  status : Code := 0
  result : Word := 0
  faultId : BitVec 16 := 0
  /-- First fault status met while running on (08 R264). -/
  pendingStatus : Code := 0
  pendingFault : BitVec 16 := 0
  /-- Weights and input digests captured at dispatch (18 R691). -/
  weights : BitVec 256 := 0
  input : BitVec 256 := 0
  captured : Bool := false
  /-- Fold sums (18 R681). -/
  acc : Word64 := 0
  n : Nat := 0
  /-- Owner epochs recorded at acceptance: kind, argument, epoch (23 R847). -/
  epochs : List (Nat × Nat × BitVec 16) := []
  deriving DecidableEq, Repr

/-- A task slot's whole contents. -/
structure Slot where
  op : Op
  rec_ : OpRec := {}
  run : UnitRun := {}
  deriving DecidableEq, Repr

/-! ## Queues and regions (09, 17, 18, 21, 22, 23) -/

/-- A hardware queue, by its local index (09 R380). -/
structure Queue where
  base : Word64 := 0
  cplBase : Word64 := 0
  sizeLog2 : BitVec 5 := 0
  host : Bool := false
  cplHost : Bool := false
  record64 : Bool := false
  threadFed : Bool := false
  enable : Bool := false
  tail : Word := 0
  head : Word := 0
  cplTail : Word := 0
  cplHead : Word := 0
  nextSeq : Word := 0
  /-- The last status other than OK of a completion of the queue, 0 for none: what REGION_QUEUE_STATUS_n shows. -/
  lastBad : Code := 0
  /-- Final statuses of the 255 most recent operations: sequence, status, fault ID. -/
  history : List (Word × Code × BitVec 16) := []
  /-- Provenance digest and sequence of the last digest-bearing completion (22 R831). -/
  lastDigest : Option (BitVec 256 × Word) := none
  deriving DecidableEq, Repr

/-- A ring of event, digest or sample records (09 R373, R380; 18 R686; 21 R806; 24 R897). -/
structure Ring where
  base : Word64 := 0
  sizeLog2 : BitVec 5 := 0
  host : Bool := false
  enable : Bool := false
  tail : Word := 0
  head : Word := 0
  lost : Word := 0
  /-- Drops since the ring was last full that still wait for EVENTS_LOST or DIGEST_LOST. -/
  lostOpen : Bool := false
  deriving DecidableEq, Repr

/-- An interrupt source's register and counts (21 R795, R796). -/
structure Irq where
  vector : BitVec 6 := 0
  enable : Bool := false
  count : Byte := 0
  hold : BitVec 16 := 0
  pending : Nat := 0
  first : Word64 := 0
  deriving DecidableEq, Repr

/-- A watermark (09 R376-R380). -/
structure Watermark where
  threshold : BitVec 13 := 0
  select : BitVec 6 := 0
  crossed : Bool := false
  /-- The level measured last: what a crossing compares with. -/
  above : Bool := false
  count : BitVec 16 := 0
  deriving DecidableEq, Repr

/-- A descriptor fetch that has been made and not accepted (09 R330). -/
structure Fetch where
  queue : Nat
  /-- Bytes, once they have arrived. -/
  bytes : Option (List Byte)
  /-- The slot, since frame 0, of the boundary at which the fetch was made. -/
  slot : Nat := 0
  deriving DecidableEq, Repr

/-- A flag update latched for the next boundary (09 R368): order, sub-order, flag, operation, value. -/
structure FlagUpd where
  source : Nat
  sub : Nat
  flag : Nat
  op : Nat
  value : Word
  /-- The packets of the source thread sent before this number land first (09 R369). -/
  after : Nat := 0
  deriving DecidableEq, Repr

/-- A lockstep group's counters (17 R670). -/
structure VisGroup where
  underruns : BitVec 16 := 0
  marksMissed : BitVec 16 := 0
  framesDropped : BitVec 16 := 0
  deriving DecidableEq, Repr

/-- A revocation asked for (23 R848): kind and decoded argument. -/
structure Revocation where
  kind : Nat
  arg : Nat
  /-- Applied: the epoch has advanced and the old operations end. -/
  applied : Bool := false
  /-- Operations of the old epoch. -/
  old : List (Nat × Word) := []
  deriving DecidableEq, Repr

/-- What a completion still owes the rings at its boundary (09 R371; 18 R687): the operation, its status, result and fault ID, its
digest-ring entry (mark bit, fold and count), and whether a record is written. -/
structure Due where
  slot : Slot
  status : Code
  result : Word
  fault : BitVec 16
  entry : Option (Bool × Nat × Nat)
  record : Bool
  deriving DecidableEq, Repr

/-- Region registers of the scheduler and rings. -/
structure RegionSched where
  queues : Tab Queue := []
  slots : List Slot := []
  fetches : List Fetch := []
  /-- The queue that the fetch round-robin served last. -/
  rrLast : Option Nat := none
  /-- The slot, since frame 0 and plus one, of the boundary of the last fetch, and of the last issue accepted (09 R331). -/
  fetchedAt : Nat := 0
  issuedAt : Nat := 0
  nextOrder : Nat := 0
  /-- Records and digest entries of the present boundary that are not yet in their rings. -/
  dues : List Due := []
  flags : Tab Word := []
  flagUpds : List FlagUpd := []
  /-- Cancellations (none) and priority changes (some p) waiting for the boundary: queue, sequence. -/
  cmds : List (Nat × Word × Option Nat) := []
  evt : Ring := {}
  wms : Tab Watermark := []
  irqs : Tab Irq := []
  dig : Ring := {}
  digIndex : BitVec 24 := 0
  /-- The region accepts no doorbell until its image is unloaded (22 R825, 23 R858, 19 R722). -/
  noDoorbell : Bool := false
  deriving DecidableEq, Repr

/-- Region registers outside the scheduler. -/
structure RegionAux where
  sharedResult : LateCode := {}
  resetBusy : Bool := false
  /-- A region reset waits for the frame boundary (05 R162). -/
  resetAsked : Bool := false
  memFaultAddr : BitVec 48 := 0
  memFaultValid : Bool := false
  memFaultCount : BitVec 7 := 0
  memFaultCode : Byte := 0
  visGroups : Tab VisGroup := []
  timerPeriod : Tab Word := []
  timerWrite : Tab Word64 := []
  /-- Frame marks that arise at the next slot boundary: source, index, and the hub tick of their cause (17 R651). -/
  marksDue : List (Nat × Nat × Word64) := []
  weights : BitVec 256 := 0
  weightsNext : Option (BitVec 256) := none
  input : BitVec 256 := 0
  inputNext : Option (BitVec 256) := none
  weightsLock : Bool := false
  nonce : BitVec 256 := 0
  attestQueue : BitVec 6 := 0
  attestBusy : Bool := false
  attestResult : Code := 0
  attestSig : List Word := []
  dbgConsent : Bool := false
  deriving DecidableEq, Repr

/-- Region registers of revocation, faults and command halves. -/
structure RegionRevoke where
  busy : Bool := false
  result : Code := 0
  pending : Option Revocation := none
  /-- Owner epochs by kind and argument (23 R847). -/
  epochs : List (Nat × Nat × BitVec 16) := []
  lastFaultId : BitVec 16 := 0
  lastFaultCode : Code := 0
  lastFaultTick : Word := 0
  /-- Low halves last written to the WO command registers: command × 64 + function (21 R787). -/
  lows : Tab Word := []
  deriving DecidableEq, Repr

/-- One region. -/
structure Region where
  sched : RegionSched := {}
  aux : RegionAux := {}
  rev : RegionRevoke := {}
  deriving DecidableEq, Repr

/-! ## Sites (09, 11, 13, 15) -/

/-- A packet in a route's send queue (07 R229): the access it carries. -/
structure Packet where
  /-- Issuing site die × 256 + site, and thread, and the task's queue and sequence. -/
  src : Nat
  thread : Nat
  queue : Nat
  seq : Word
  /-- The order of sending. -/
  no : Nat
  /-- 0 load, 1 store, 2 atomic; 3 the response of a load or an atomic operation to another site's scratchpad. -/
  kind : Nat
  va : Nat
  /-- The device addresses of the bytes. -/
  addrs : List Nat
  /-- Store data or atomic operands. -/
  data : Word64
  data2 : Word64
  atomic : Nat
  reg : Nat
  signed : Bool
  deriving DecidableEq, Repr

/-- A fault that took a unit out of service: code, fault ID, tick (23 R856, R857). -/
structure OutOfService where
  code : Code
  faultId : BitVec 16
  tick : Word64
  deriving DecidableEq, Repr

/-- MAT_SITE_k, the array and the shadow set (13 R539). -/
structure MatSite where
  completed : Word := 0
  rows : BitVec 6 := 0
  repeated : Byte := 0
  overflowed : Byte := 0
  /-- The operation in the array and in the shadow set. -/
  array : Option (Nat × Nat × Word) := none
  shadow : Option (Nat × Nat × Word) := none
  deriving DecidableEq, Repr

/-- SFU_SITE_k and the special-function unit (15 R576, R600). -/
structure Sfu where
  rangeEvents : BitVec 16 := 0
  rows : BitVec 16 := 0
  tableFault : Bool := false
  /-- The thread whose SOFTMAX holds the unit, with its operands: registers and the immediate. -/
  holder : Option (Nat × Nat × Nat × Nat × Word) := none
  deriving DecidableEq, Repr

/-- One logical site. -/
structure Site where
  threads : Tab Thread := []
  lastIssued : Nat := 63
  /-- The first vector tick since power-on reset in which the site has issued nothing yet (09 R302). -/
  nextVec : Nat := 0
  spin : Spin := {}
  mat : MatSite := {}
  sfu : Sfu := {}
  island : Option OutOfService := none
  noise : Option OutOfService := none
  sfuFault : Option OutOfService := none
  telSlots : Word64 := 0
  deriving DecidableEq, Repr

/-! ## Network, memory dies, bundles, links -/

/-- NOC_EDGE_STAT_j (07 R257). -/
structure EdgeStat where
  heldOver : BitVec 16 := 0
  linkErrors : BitVec 16 := 0
  escalations : BitVec 16 := 0
  deriving DecidableEq, Repr

/-- A packet that was blocked on a bundle where its route crosses it (19 R715-R719): its route's key and that bundle, the die that it
leaves, the slot and the frame in which it was blocked first. -/
structure Deferral where
  key : Nat
  bundle : Nat
  die : Nat
  slot : Nat
  since : Nat
  packet : Packet
  deriving DecidableEq, Repr

/-- The network's frame count and queues (07). -/
structure Noc where
  /-- NOC_FRAME.frame, and the boot-frame count. -/
  frame : BitVec 52 := 0
  bootFrame : Nat := 0
  /-- Whether the image's frames count (07 R222). -/
  counting : Bool := false
  /-- Tick at which the present frame began. -/
  frameTick : Word64 := 0
  held : Bool := false
  /-- Frames held among the last 1,024, newest first (04 R120; 07 R254). -/
  heldLog : List Nat := []
  /-- Frames held since frame 0. -/
  heldCount : Nat := 0
  edges : Tab EdgeStat := []
  /-- Send queues by region × 65536 + route. -/
  queues : Tab (List Packet) := []
  /-- Packets sent so far: the model's own order of sending. -/
  serial : Nat := 0
  /-- The slot, since frame 0, of each route's last occurrence that ran, plus one (07 R228). -/
  lastSent : Tab Nat := []
  /-- Occurrences that carry void: route key and frame (07 R226; 19 R720). -/
  voids : List (Nat × Nat) := []
  /-- Packets that wait for their bundle, oldest first (19 R719). -/
  deferred : List Deferral := []
  /-- Link errors of the present window: link key, count (23 R859). -/
  linkErr : Tab Nat := []
  /-- Background tasks starved: (die × 256 + router) × 8 + task. -/
  starved : List Nat := []
  /-- The frame of the last background slot that each background task had (07 R251). -/
  bgLast : Tab Nat := []
  /-- The slot, since frame 0 and plus one, in which a router's escalation window served a task last: by die × 256 + router (07 R254, R256). -/
  bgWindowLast : Tab Nat := []
  deriving DecidableEq, Repr

/-- A memory die's registers (08 R298). -/
structure MemDie where
  present : Bool := false
  position : BitVec 3 := 0
  online : BitVec 4 := 0
  corrected : BitVec 16 := 0
  uncorrectable : BitVec 16 := 0
  crcFail : BitVec 16 := 0
  passes : Word := 0
  /-- DRAM words that each channel's scrub has read, over all its passes (08 R267). -/
  scrubPos : Tab Nat := []
  /-- Corrected words that wait for their write-back, oldest first: channel and word address (08 R267). -/
  writeback : List (Nat × Nat) := []
  /-- No bundle of the die was online at the end of a DIE_LINK stage: the die is absent until the next package reset (04 R89; 05 R147). -/
  absent : Bool := false
  /-- Every bundle of the die is offline, with the fault that the loss took (19 R721). -/
  lost : Bool := false
  lostFault : BitVec 16 := 0
  deriving DecidableEq, Repr

/-- Device memory: bytes, zero-filled ranges, and stored-code errors (08). -/
structure Mem where
  /-- Listed bytes: rising addresses, none equal to what an unlisted address reads as. -/
  cells : List Host.Cell := []
  /-- DRAM ranges [lo, hi) that were zero-filled (05 R162, 22 R829): unlisted bytes there read 0. -/
  zeroed : List (Nat × Nat) := []
  /-- Errors of stored 8-byte groups and DRAM words, by address. -/
  marks : List (Nat × Mark) := []
  deriving DecidableEq, Repr

/-- CPY_ENGINE_j (08 R299). -/
structure CopyEngine where
  completed : Word := 0
  rejected : BitVec 16 := 0
  lastReject : Code := 0
  deriving DecidableEq, Repr

/-- Per-die fabric registers (11 R460, 14 R569, 16 R630, 17 R669). -/
structure DieRegs where
  testsRun : BitVec 16 := 0
  failures : BitVec 16 := 0
  lastSite : Byte := 0
  noiseFailed : Bool := false
  driftEvents : BitVec 16 := 0
  driftSite : Byte := 0
  driftCounter : Bool := false
  featNodes : Word := 0
  featStatus : Code := 0
  steNodes : Word := 0
  steStatus : Code := 0
  /-- The feature engine and the stereo engine out of service (23 R856). -/
  featFault : Option OutOfService := none
  steFault : Option OutOfService := none
  deriving DecidableEq, Repr

/-- A YDI bundle (19 R726, R727). -/
structure Bundle where
  /-- Lanes retired, in the record, at this start or while running. -/
  retired : BitVec 36 := 0
  /-- Width code in force: 0 offline, 1 16, 2 24, 3 32. -/
  width : BitVec 2 := 0
  /-- Retired data lanes that wait for the frame boundary (19 R710, R713), and a failed clock or sideband pair (19 R714). -/
  pendingLanes : List Nat := []
  sidebandPending : Bool := false
  sideband : Bool := false
  laneErr : Tab Nat := []
  crcFail : BitVec 16 := 0
  deferrals : BitVec 16 := 0
  retiredRun : BitVec 16 := 0
  /-- The frame at whose boundary the data lanes or the width changed last (19 R715). -/
  changeFrame : Option Nat := none
  /-- Packets awaiting their resend: the operation, and its consecutive failed attempts (19 R705). -/
  retrying : List ((Nat × Nat × Word) × Nat) := []
  deriving DecidableEq, Repr

/-- The YDI block. -/
structure Ydi where
  errThreshold : Byte := 0x10
  windowLog2 : BitVec 4 := 0xA
  retryBudget : BitVec 4 := 0x8
  /-- A write waits for the next window. -/
  cfgNext : Option Word := none
  bundles : Tab Bundle := []
  deriving DecidableEq, Repr

/-- An epoch mark as a cell header carries it (20 R736). -/
structure EpochMark where
  up : Bool
  stop : Bool
  disturbed : Bool
  tag : BitVec 16
  window : Word
  deriving DecidableEq, Repr

/-- A cell of a link route (20 R736, R742): the route, its sequence there, its packet, the mark that it carries, and the operation
on this package whose cell it is. -/
structure LinkCell where
  route : Nat
  seq : Word
  retried : Bool
  packet : List Byte
  mark : Option EpochMark
  op : Option (Nat × Nat × Word)
  deriving DecidableEq, Repr

/-- A cell sent and not yet acknowledged (20 R745): where it was sent last and first, its failed attempts, and whether it is due for a
resend. -/
structure SentCell where
  frame : Word
  slot : Nat
  origFrame : Word
  origSlot : Nat
  cell : LinkCell
  fails : Nat
  due : Bool
  deriving DecidableEq, Repr

/-- Port states of LNK_PORT_n (20 R771). -/
inductive PortState where
  | down | training | up | live | mismatch | lost | returned
  deriving DecidableEq, Repr

/-- The identity that a frame header carries (20 R735). -/
structure Partner where
  systemId : Word64
  ordinal : Nat
  port : Nat
  digest : Word64
  deriving DecidableEq, Repr

/-- One Rincen port (20). -/
structure Port where
  state : PortState := .down
  /-- The lanes have trained (20 R731). -/
  trained : Bool := false
  misses : BitVec 2 := 0
  neighbour : BitVec 17 := 0
  resends : BitVec 16 := 0
  crcFail : BitVec 16 := 0
  /-- Frames sent, wrapping. -/
  frame : Word := 0
  /-- The header and the cell sent last. -/
  header : List Byte := []
  cellOut : List Byte := []
  partnerReady : Bool := false
  partnerHeld : Bool := false
  /-- The identity in the last valid header. -/
  partner : Option Partner := none
  /-- Link slots of the partner's present frame received and accepted, with its number, and those of the latest whole frame. -/
  rxFrame : Word := 0
  rxBits : List Nat := []
  ackFrame : Word := 0
  ackBits : List Nat := []
  /-- Cells sent and not acknowledged. -/
  sent : List SentCell := []
  trainFailRaised : Bool := false
  deriving DecidableEq, Repr

/-- The LNK block and the link routes (20). -/
structure Lnk where
  retryBudget : BitVec 4 := 0x8
  ports : Tab Port := []
  /-- Queues by link route: cells waiting to leave. -/
  queues : Tab (List LinkCell) := []
  /-- Next sequence to send, and to deliver, by link route. -/
  seqOut : Tab Word := []
  seqIn : Tab Word := []
  /-- Cells held for a missing one, by link route. -/
  heldCells : Tab (List LinkCell) := []
  /-- Packets delivered to on-die routes from H: region × 65536 + route. -/
  fromHub : Tab (List (List Byte)) := []
  /-- Epoch marks delivered and not yet combined: port, link route, mark. -/
  marksIn : List (Nat × Nat × EpochMark) := []
  broken : List Nat := []
  /-- Keys whose alternate entries are in force. -/
  switched : List Nat := []
  /-- Links named by this package's losses and by notices: ordinal, port. -/
  notices : List (Nat × Nat) := []
  /-- Notices that wait to be sent: port, ordinal, lost port. -/
  noticesOut : List (Nat × Nat × Nat) := []
  /-- Fault IDs of the losses by port. -/
  lossFault : Tab (BitVec 16) := []
  deriving DecidableEq, Repr

/-! ## Host, security, faults, telemetry, debug -/

/-- One PCI Express function (21 R776-R805). -/
structure Func where
  busMaster : Bool := false
  d3hot : Bool := false
  enabled : Bool := false
  /-- MSI-X table: unmasked vectors; addresses and data as written (four words a vector). -/
  msix : Tab (List Word) := []
  pba : BitVec 64 := 0
  /-- Messages sent, per vector. -/
  sentMsgs : Tab Nat := []
  deriving DecidableEq, Repr

/-- The host interface (21 R806). -/
structure Hst where
  linkDownReset : Bool := true
  rate : BitVec 3 := 0
  width : BitVec 5 := 0
  flit : Bool := false
  linkUp : Bool := false
  linkDowns : BitVec 16 := 0
  funcs : Tab Func := []
  vfEnable : Bool := false
  numVFs : Nat := 0
  pfEvt : Ring := { host := true }
  pfIrq : Irq := {}
  deriving DecidableEq, Repr

/-- The security block's registers (22 R836). -/
structure Sec where
  keyData : Tab Word := []
  busy : Bool := false
  /-- The fuse command was cut off and stays busy until a package reset (22 R822). -/
  cut : Bool := false
  result : Code := 0
  rngOk : Bool := false
  /-- Attestations in the order of their go writes: region, tick. -/
  attests : List (Nat × Word64) := []
  deriving DecidableEq, Repr

/-- A fault-log entry (23 R865). -/
structure FaultEntry where
  id : BitVec 16 := 0
  code : Code := 0
  cls : BitVec 4 := 0
  region : BitVec 6 := 0
  die : Bool := false
  site : Byte := 0
  ended : BitVec 13 := 0
  tick : Word64 := 0
  deriving DecidableEq, Repr

/-- Fault IDs and the log (23 R865, R866). -/
structure Faults where
  next : BitVec 16 := 1
  count : Word := 0
  log : Tab FaultEntry := []
  /-- The log index written last. -/
  newest : Option Nat := none
  deriving DecidableEq, Repr

/-- Telemetry sampling (24 R897). -/
structure Tel where
  ring : Ring := { host := true }
  periodLog2 : BitVec 4 := 0
  late : Word := 0
  sources : Tab Word := []
  /-- Sources not yet read in the present period. -/
  unread : List Nat := []
  /-- Records dropped since the previous TEL_SAMPLE_LOST. -/
  lostSince : Nat := 0
  deriving DecidableEq, Repr

/-- Trace capture (24 R879-R883). -/
structure Dbg where
  ctl : BitVec 11 := 0
  /-- A capture starts at the next boundary. -/
  armed : Bool := false
  running : Bool := false
  /-- Consent was cleared: the capture ends at the next boundary (24 R896). -/
  ending : Bool := false
  full : Bool := false
  written : Nat := 0
  buf : Tab (List Word) := []
  /-- Entries of the present boundary with their sorting keys, not yet in the buffer (24 R881). -/
  collect : List (Nat × List Word) := []
  /-- Boundary-scan: instruction register, boundary register, DBG_ACCESS register, selected data register. -/
  ir : Byte := 0x01
  boundary : BitVec 19 := 0
  access : Word64 := 0
  /-- The answer of the last SMBus command, or none when it was not acknowledged. -/
  smbus : Option (List Byte) := none
  /-- The PEC byte that follows that answer when the master clocks one (24 R887). -/
  smbusPec : Byte := 0
  /-- The answer of the last register read that a command made. -/
  readAnswer : Word64 := 0
  deriving DecidableEq, Repr

/-- Everything but memory, fuses and the queue. -/
structure Dev where
  boot : Boot := {}
  aux : BootAux := {}
  pins : Pins := {}
  shared : Shared := {}
  clk : Clk := {}
  pwr : Pwr := {}
  noc : Noc := {}
  ydi : Ydi := {}
  lnk : Lnk := {}
  hst : Hst := {}
  sec : Sec := {}
  faults : Faults := {}
  tel : Tel := {}
  dbg : Dbg := {}
  deriving DecidableEq, Repr

/-- The fabric: regions, sites and the accepted image. -/
structure Fabric where
  image : Option Image := none
  body : ImageBody := {}
  /-- Logical-to-physical site map: die × 256 + logical site to physical index (07 R257). -/
  siteMap : Tab Nat := []
  /-- The personality bits of the dual sites of F0 and F1 that the last accepted image gave, by dual ordinal: 1 spin (01 R25). They hold
  until another image is loaded; no image has given any at reset, where 0 stands for matrix (DESIGN CHOICE, log 100). -/
  dual0 : Word := 0
  dual1 : Word := 0
  /-- The 512-bit memory keys of regions (22 R827, R829). -/
  keys : Tab (BitVec 512) := []
  regions : Tab Region := []
  sites : Tab Site := []
  memDies : Tab MemDie := []
  engines : Tab CopyEngine := []
  dies : Tab DieRegs := []
  deriving DecidableEq, Repr

/-- The state of the block. -/
structure State where
  /-- Commands waiting, first in first out. -/
  pending : List Instr := []
  part : Part := {}
  fuses : Fuses := {}
  flash : Flash := {}
  dev : Dev := {}
  fab : Fabric := {}
  mem : Mem := {}
  /-- Host memory as the AE7 has written it: rising addresses. -/
  hostMem : List Host.Cell := []
  /-- The free-value counter: the model's own (log 3). -/
  free : Nat := 0
  deriving DecidableEq, Repr

/-- The state right after power-on reset is asserted: every register at its reset value, no image, nothing listed. -/
def State.reset : State := {}

end Sys2Proof.Machine
end

