-- ==== Sys2Proof/Machine/Memory.lean ====
section
/-!
DEFINITION. Device memory: what each byte reads as, writes that keep the canonical form, the stored-code marks, and where
a DRAM address lies (08 R258-R275).
-/
namespace Sys2Proof.Machine

/-- First address of the scratchpads (08 R258). -/
def scratchBase : Nat := 0x800000000000

/-- The device physical address of a scratchpad byte (08 R258). -/
def scratchAddr (die site off : Nat) : Nat := scratchBase + die * 2 ^ 36 + site * 2 ^ 20 + off

/-- First address after the DRAM of six memory dies. -/
def dramTop : Nat := 0x1800000000

/-- Whether an address is a scratchpad byte's (08 R258). -/
def isScratch (a : Nat) : Bool :=
  scratchBase ≤ a && (a - scratchBase) / 2 ^ 36 < 2 && (a - scratchBase) % 2 ^ 36 < 2 ^ 28

/-- Whether an address is a DRAM byte's. -/
def isDram (a : Nat) : Bool := a < dramTop

/-- Die, logical site and offset of a scratchpad address. -/
def scratchDie (a : Nat) : Nat := (a - scratchBase) / 2 ^ 36
def scratchSite (a : Nat) : Nat := (a - scratchBase) % 2 ^ 36 / 2 ^ 20
def scratchOff (a : Nat) : Nat := (a - scratchBase) % 2 ^ 20

/-- Whether an unlisted byte at this address reads 0: scratchpads (05 R136, 04 R95) and zero-filled DRAM (22 R829). -/
def Mem.zeroAt (m : Mem) (a : Nat) : Bool :=
  scratchBase ≤ a || m.zeroed.any (fun p => p.1 ≤ a && a < p.2)

/-- A listed byte. -/
def cellAt : List Host.Cell → Nat → Option Byte
  | [], _ => none
  | (b, v) :: t, a => if b = a then some v else cellAt t a

/-- What a byte reads as; the free counter `n` names the value of a DRAM byte that nothing has written (22 R830). -/
def Mem.read (m : Mem) (n a : Nat) : Byte :=
  match cellAt m.cells a with
  | some v => v
  | none => if m.zeroAt a then 0 else Config.freeByte n a

/-- Lists a byte at its place. -/
def putCell : List Host.Cell → Nat → Byte → List Host.Cell
  | [], a, v => [(a, v)]
  | (b, w) :: t, a, v =>
    if b = a then (a, v) :: t
    else if a < b then (a, v) :: (b, w) :: t
    else (b, w) :: putCell t a v

/-- Unlists a byte. -/
def dropCell (l : List Host.Cell) (a : Nat) : List Host.Cell := l.filter (fun c => c.1 ≠ a)

/-- Writes one byte, keeping the canonical form. -/
def Mem.write (m : Mem) (a : Nat) (v : Byte) : Mem :=
  { m with cells := if m.zeroAt a && v == 0 then dropCell m.cells a else putCell m.cells a v }

/-- Rising addresses. -/
def risingCells : List Host.Cell → Bool
  | [] => true
  | [_] => true
  | (a, _) :: (b, w) :: t => decide (a < b) && risingCells ((b, w) :: t)

/-- The canonical form: rising addresses, and no entry that reads as an unlisted byte does. -/
def Mem.wf (m : Mem) : Bool :=
  risingCells m.cells && m.cells.all (fun c => !(m.zeroAt c.1 && c.2 == 0))

/-- Unlists every byte of [lo, hi), dropping its stored errors. -/
def Mem.clearRange (m : Mem) (lo hi : Nat) : Mem :=
  { m with
    cells := m.cells.filter (fun c => !(lo ≤ c.1 && c.1 < hi))
    marks := m.marks.filter (fun p => !(lo ≤ p.1 && p.1 < hi)) }

/-- Zero-fills the DRAM range [lo, hi) (05 R162): its bytes read 0 until they are written. -/
def Mem.zeroFill (m : Mem) (lo hi : Nat) : Mem :=
  { m with
    cells := m.cells.filter (fun c => !(lo ≤ c.1 && c.1 < hi))
    marks := m.marks.filter (fun p => !(lo ≤ p.1 && p.1 < hi))
    zeroed := (lo, hi) :: m.zeroed.filter (fun p => p ≠ (lo, hi)) }

/-- Forgets all DRAM: at an acceptance every DRAM byte is unwritten (22 R830). Errors of stored groups stay until a write (08 R262). -/
def Mem.forgetDram (m : Mem) : Mem :=
  { m with
    cells := m.cells.filter (fun c => scratchBase ≤ c.1)
    zeroed := [] }

/-- What remains of a range when [lo, hi) is taken out of it. -/
def cutRange (lo hi : Nat) (p : Nat × Nat) : List (Nat × Nat) :=
  [(p.1, min p.2 lo), (max p.1 hi, p.2)].filter (fun q => q.1 < q.2)

/-- A DRAM range [lo, hi) loses its contents: its bytes are unwritten (04 R90, 22 R830). -/
def Mem.forget (m : Mem) (lo hi : Nat) : Mem :=
  { cells := m.cells.filter (fun c => !(lo ≤ c.1 && c.1 < hi) && !(m.zeroAt c.1 && c.2 == 0))
    marks := m.marks.filter (fun p => !(lo ≤ p.1 && p.1 < hi))
    zeroed := m.zeroed.flatMap (cutRange lo hi) }

/-- `n` bytes from address `a`. -/
def Mem.readBytes (m : Mem) (k a n : Nat) : List Byte := (upFrom a n).map (m.read k)

/-- The bytes at listed addresses. -/
def Mem.gather (m : Mem) (k : Nat) (l : List Nat) : List Byte := l.map (m.read k)

/-- The error of a stored 8-byte group that a read brings to light; a group keeps an uncorrectable one (08 R262, R264). -/
def Mem.mark (m : Mem) (a : Nat) (k : Mark) : Mem :=
  if m.marks.any (fun p => p.1 / 8 = a / 8 && p.2 != .corrected) then m
  else { m with marks := m.marks.filter (fun p => p.1 / 8 ≠ a / 8) ++ [(a / 8 * 8, k)] }

/-- The unit of checking: a 64-byte DRAM word, or an 8-byte scratchpad group (08 R262-R265, R275). -/
def checkUnit (a : Nat) : Nat := if scratchBase ≤ a then 8 else 64

/-- Whether a stored mark makes a read of any of these addresses fail (08 R264, R275). -/
def Mem.bad (m : Mem) (l : List Nat) : Option Nat :=
  (m.marks.find? (fun p => p.2 != .corrected && l.any (fun a => a / checkUnit a == p.1 / checkUnit a))).map (·.1)

/-- How many corrected groups a read of these addresses meets (08 R262). -/
def Mem.correctedCount (m : Mem) (l : List Nat) : Nat :=
  (m.marks.filter (fun p => p.2 == .corrected && l.any (fun a => a / 8 == p.1 / 8))).length

/-- Whether the addresses cover their whole checking unit. -/
def coversUnit (l : List Nat) (a : Nat) : Bool :=
  (upFrom (a / checkUnit a * checkUnit a) (checkUnit a)).all (fun b => l.contains b)

/-- Writes bytes; a partial write of an uncorrectable unit leaves the unit unchanged (08 R265, R275). Answers the first
address that failed. -/
def Mem.writeCells (m : Mem) (l : List (Nat × Byte)) : Mem × Option Nat :=
  let addrs := l.map (·.1)
  let fails (a : Nat) : Bool :=
    !coversUnit addrs a &&
      m.marks.any (fun p => p.2 != .corrected && p.1 / checkUnit a == a / checkUnit a)
  let good := l.filter (fun p => !fails p.1)
  let m1 := good.foldl (fun m p => m.write p.1 p.2) m
  let touched (q : Nat) : Bool := good.any (fun p => p.1 / checkUnit p.1 == q / checkUnit p.1)
  ({ m1 with marks := m1.marks.filter (fun p => !touched p.1) }, (addrs.find? fails))

/-- Writes host memory (21): the bytes the AE7 writes there are listed, 0 included. -/
def hostPut (l : List Host.Cell) (a : Nat) (bs : List Byte) : List Host.Cell :=
  (bs.zipIdx).foldl (fun l p => putCell l (a + p.2) p.1) l

end Sys2Proof.Machine
end

