-- ==== Sys2Proof/Machine/Access.lean ====
section
/-!
DEFINITION. Every read and update of State's parts by name, and the masks that say which parts a meaning may change.
-/
namespace Sys2Proof.Machine

/-! ## Masks: what a meaning may change -/

/-- The effect `f` on the registers of the hub and its blocks alone. -/
def State.devEffect (s : State) (f : State → State) : State := { s with dev := (f s).dev, free := (f s).free }

/-- The effect `f` on registers, memories and the free counter: the queue, the part, the fuses and the boot flash stay. -/
def State.effect (s : State) (f : State → State) : State :=
  { s with dev := (f s).dev, fab := (f s).fab, mem := (f s).mem, hostMem := (f s).hostMem, free := (f s).free }

/-- The effect `f` on everything but the queue, the part and the fuses. -/
def State.flashEffect (s : State) (f : State → State) : State := { f s with pending := s.pending, part := s.part, fuses := s.fuses }

/-- The effect `f` on everything but the queue and the part. -/
def State.fuseEffect (s : State) (f : State → State) : State := { f s with pending := s.pending, part := s.part }

/-- Applies `f` where the condition holds: a command whose conditions do not hold leaves the state unchanged (log 9). -/
def State.whenP (s : State) (c : Bool) (f : State → State) : State := if c then f s else s

/-! ## Hub blocks -/

def State.onDev (s : State) (f : Dev → Dev) : State := { s with dev := f s.dev }
def State.onFab (s : State) (f : Fabric → Fabric) : State := { s with fab := f s.fab }
def State.onBoot (s : State) (f : Boot → Boot) : State := s.onDev fun d => { d with boot := f d.boot }
def State.onAux (s : State) (f : BootAux → BootAux) : State := s.onDev fun d => { d with aux := f d.aux }
def State.onPins (s : State) (f : Pins → Pins) : State := s.onDev fun d => { d with pins := f d.pins }
def State.onShared (s : State) (f : Shared → Shared) : State := s.onDev fun d => { d with shared := f d.shared }
def State.onClk (s : State) (f : Clk → Clk) : State := s.onDev fun d => { d with clk := f d.clk }
def State.onPwr (s : State) (f : Pwr → Pwr) : State := s.onDev fun d => { d with pwr := f d.pwr }
def State.onNoc (s : State) (f : Noc → Noc) : State := s.onDev fun d => { d with noc := f d.noc }
def State.onYdi (s : State) (f : Ydi → Ydi) : State := s.onDev fun d => { d with ydi := f d.ydi }
def State.onLnk (s : State) (f : Lnk → Lnk) : State := s.onDev fun d => { d with lnk := f d.lnk }
def State.onHst (s : State) (f : Hst → Hst) : State := s.onDev fun d => { d with hst := f d.hst }
def State.onSec (s : State) (f : Sec → Sec) : State := s.onDev fun d => { d with sec := f d.sec }
def State.onFaults (s : State) (f : Faults → Faults) : State := s.onDev fun d => { d with faults := f d.faults }
def State.onTel (s : State) (f : Tel → Tel) : State := s.onDev fun d => { d with tel := f d.tel }
def State.onDbg (s : State) (f : Dbg → Dbg) : State := s.onDev fun d => { d with dbg := f d.dbg }
def State.onMem (s : State) (f : Mem → Mem) : State := { s with mem := f s.mem }

def State.domain (s : State) (n : Nat) : Domain := Tab.get {} s.dev.pwr.domains n
def State.onDomain (s : State) (n : Nat) (f : Domain → Domain) : State :=
  s.onPwr fun p => { p with domains := Tab.modify {} p.domains n f }
def State.bundle (s : State) (b : Nat) : Bundle := Tab.get {} s.dev.ydi.bundles b
def State.onBundle (s : State) (b : Nat) (f : Bundle → Bundle) : State :=
  s.onYdi fun y => { y with bundles := Tab.modify {} y.bundles b f }
def State.port (s : State) (p : Nat) : Port := Tab.get {} s.dev.lnk.ports p
def State.onPort (s : State) (p : Nat) (f : Port → Port) : State :=
  s.onLnk fun l => { l with ports := Tab.modify {} l.ports p f }
def State.func (s : State) (k : Nat) : Func := Tab.get {} s.dev.hst.funcs k
def State.onFunc (s : State) (k : Nat) (f : Func → Func) : State :=
  s.onHst fun h => { h with funcs := Tab.modify {} h.funcs k f }
def State.onEdge (s : State) (die e : Nat) (f : EdgeStat → EdgeStat) : State :=
  s.onNoc fun n => { n with edges := Tab.modify {} n.edges (die * 24 + e) f }

/-! ## The fabric -/

def State.region (s : State) (r : Nat) : Region := Tab.get {} s.fab.regions r
def State.onRegion (s : State) (r : Nat) (f : Region → Region) : State :=
  s.onFab fun b => { b with regions := Tab.modify {} b.regions r f }
def State.onSched (s : State) (r : Nat) (f : RegionSched → RegionSched) : State :=
  s.onRegion r fun g => { g with sched := f g.sched }
def State.onRAux (s : State) (r : Nat) (f : RegionAux → RegionAux) : State :=
  s.onRegion r fun g => { g with aux := f g.aux }
def State.onRev (s : State) (r : Nat) (f : RegionRevoke → RegionRevoke) : State :=
  s.onRegion r fun g => { g with rev := f g.rev }
def State.queue (s : State) (r q : Nat) : Queue := Tab.get {} (s.region r).sched.queues q
def State.onQueue (s : State) (r q : Nat) (f : Queue → Queue) : State :=
  s.onSched r fun g => { g with queues := Tab.modify {} g.queues q f }

/-- The key of a site in the tables: die × 256 + logical index. -/
def siteKey (die k : Nat) : Nat := die * 256 + k
def siteRefKey (x : SiteRef) : Nat := siteKey x.die.val x.site.val
def tidKey (t : Tid) : Nat := siteKey t.die.val t.site.val

def State.site (s : State) (k : Nat) : Site := Tab.get {} s.fab.sites k
def State.onSite (s : State) (k : Nat) (f : Site → Site) : State :=
  s.onFab fun b => { b with sites := Tab.modify {} b.sites k f }
def State.onSpin (s : State) (k : Nat) (f : Spin → Spin) : State := s.onSite k fun x => { x with spin := f x.spin }
def State.onWork (s : State) (k : Nat) (f : SpinWork → SpinWork) : State := s.onSpin k fun x => { x with work := f x.work }
def State.onTally (s : State) (k : Nat) (f : SpinCounts → SpinCounts) : State :=
  s.onSpin k fun x => { x with tally := f x.tally }
def State.thread (s : State) (k th : Nat) : Thread := Tab.get {} (s.site k).threads th
def State.onThread (s : State) (k th : Nat) (f : Thread → Thread) : State :=
  s.onSite k fun x => { x with threads := Tab.modify {} x.threads th f }
def State.memDie (s : State) (m : Nat) : MemDie := Tab.get {} s.fab.memDies m
def State.onMemDie (s : State) (m : Nat) (f : MemDie → MemDie) : State :=
  s.onFab fun b => { b with memDies := Tab.modify {} b.memDies m f }
/-- Changes a copy engine's registers; a code above 0x17 names none (08 R299). -/
def State.onEngine (s : State) (die e : Nat) (f : CopyEngine → CopyEngine) : State :=
  if e < 24 then s.onFab fun b => { b with engines := Tab.modify {} b.engines (die * 24 + e) f } else s
def State.die (s : State) (d : Nat) : DieRegs := Tab.get {} s.fab.dies d
def State.onDie (s : State) (d : Nat) (f : DieRegs → DieRegs) : State :=
  s.onFab fun b => { b with dies := Tab.modify {} b.dies d f }

/-! ## Codes that read from the next hub tick (02 R53) -/

/-- Gives a code at tick `t`. -/
def LateCode.give (x : LateCode) (t : Word64) (c : Code) : LateCode :=
  { now := c, before := if x.at_ = t then x.before else x.now, at_ := t }

/-- What reads at tick `t`. -/
def LateCode.read (x : LateCode) (t : Word64) : Code := if x.at_ = t then x.before else x.now

/-! ## Free values -/

/-- Advances the counter that the step's free values are taken at (log 3). -/
def State.bump (s : State) : State := { s with free := s.free + 1 }

/-- The `i`-th free value of the present step. -/
def State.freeVal (s : State) (i : Nat) : Nat := Config.freeNat s.free i

/-! ## Time: slots, frames and durations (03, 07 R221) -/

/-- Half hub ticks in one slot of a clock plan (03 R66). -/
def planHalfTicks (code : Nat) : Nat :=
  if code = 0x21 then 4 else if code = 0x23 then 5 else if code = 0x11 then 8 else 10

/-- The commit window W of a clock plan (03 R66, R69). -/
def planWindow (code : Nat) : Nat := if code = 0x21 ∨ code = 0x11 then 4 else 5

/-- Hub ticks in a number of slots, rounded down (03 R82). -/
def slotsTicks (code n : Nat) : Nat := n * planHalfTicks code / 2

/-- Hub ticks of one frame (03 R66). -/
def planFrameTicks (code : Nat) : Nat := slotsTicks code 4096

def State.plan (s : State) : Nat := s.dev.clk.planCode.toNat
def State.tick (s : State) : Word64 := s.dev.clk.tick

/-- Hub ticks since the present frame began. -/
def State.frameTicks (s : State) : Nat := (s.tick - s.dev.noc.frameTick).toNat

/-- The present slot, at most 4,095 (log 7): the last whose boundary falls within the present hub tick or before it, since a boundary
within a tick reads that tick (03 R81). -/
def State.slot (s : State) : Nat := min 4095 ((2 * s.frameTicks + 1) / planHalfTicks s.plan)

/-- CLK_TICK at the first slot boundary at or after now: what a record written there is stamped with (03 R81). -/
def State.stamp (s : State) : Word64 :=
  s.dev.noc.frameTick + BitVec.ofNat 64 (slotsTicks s.plan (ceilDiv (2 * s.frameTicks) (planHalfTicks s.plan)))

/-- Whether a slot boundary falls within the present hub tick (03 R81). -/
def State.atBoundary (s : State) : Bool := s.stamp = s.tick

/-- Whether the present frame began at the present hub tick: its boundary acts now. -/
def State.atFrame (s : State) : Bool := s.tick = s.dev.noc.frameTick

/-- The present network or boot frame number (07 R221, R222). -/
def State.frame (s : State) : Nat :=
  if s.dev.noc.counting then s.dev.noc.frame.toNat else s.dev.noc.bootFrame

/-- Slots since frame 0: what durations and stream times count. -/
def State.slotCount (s : State) : Nat := s.frame * 4096 + s.slot

/-- Slots since frame 0, those of held frames left out: what the fabric has run through (04 R120, R121). -/
def State.runSlots (s : State) : Nat := s.slotCount - 4096 * s.dev.noc.heldCount

/-! ## Background slots (07 R248-R251) -/

/-- The task code of BG_ESCALATED (09 R929). -/
def bgCode : BgTask → Nat
  | .scrub => 0 | .calibration => 1 | .wearLevelling => 2 | .noiseTest => 3 | .siteSampling => 4 | .edgeSampling => 5

/-- Whether a slot of an edge router holds a stream slot in a direction (07 R244, R248). -/
def State.streamSlot (s : State) (d router slot : Nat) (dirIn : Bool) : Bool :=
  s.fab.body.edges.any (fun e => e.die = d && e.router = router && e.slot = slot && e.dirIn == dirIn)

/-- Whether a slot is a background slot of an edge router, in either direction (07 R248). -/
def State.bgFree (s : State) (d router slot : Nat) : Bool := !(s.streamSlot d router slot true && s.streamSlot d router slot false)

/-- A background task has its background slot: it is starved no longer (07 R251). -/
def State.bgServed (s : State) (d router : Nat) (t : BgTask) : State :=
  let k := (d * 256 + router) * 8 + bgCode t
  s.onNoc fun n => { n with starved := n.starved.filter (· ≠ k), bgLast := Tab.set n.bgLast k s.frame }

/-- Vector ticks in ten hub ticks (03 R66). -/
def planVecTicks (code : Nat) : Nat := if code = 0x21 ∨ code = 0x23 then 14 else 7

/-- The vector ticks, counted since power-on reset, that begin within the present hub tick: from the first to before the second
(03 R66; log 115). -/
def State.vecFirst (s : State) : Nat := ceilDiv (s.tick.toNat * planVecTicks s.plan) 10
def State.vecEnd (s : State) : Nat := ceilDiv ((s.tick.toNat + 1) * planVecTicks s.plan) 10

/-! ## The image's facts -/

def State.image (s : State) : Image := s.fab.image.getD {}
def State.regionDef? (s : State) (r : Nat) : Option RegionDef := s.image.regions.find? (fun d => d.id = r)
/-- The regions of the accepted image. -/
def State.regionIds (s : State) : List Nat := s.image.regions.map (·.id)
/-- Whether the accepted image defines a region. -/
def State.defined (s : State) (r : Nat) : Bool := (s.regionDef? r).isSome
def State.regionCount (s : State) : Nat := s.image.regions.length
/-- The region's in-flight quota (09 R349). -/
def State.quota (s : State) : Nat :=
  if s.regionCount = 0 then 0 else min 4096 (16384 / s.regionCount)
def State.queueCount (s : State) (r : Nat) : Nat := ((s.regionDef? r).map (·.queueCount)).getD 0

/-- Site types by the codes of NOC_SITE_MAP (07 R257). -/
inductive SiteType where
  | spin | matrix | dual | vector | scalar
  deriving DecidableEq, Repr

/-- The numeric code of a site type (07 R257). -/
def SiteType.code : SiteType → Nat
  | .spin => 0 | .matrix => 1 | .dual => 2 | .vector => 3 | .scalar => 4

/-- The type code at columns 0 to 7 of an even and an odd row (07 R211). -/
def typeRow (odd : Bool) (c : Nat) : Nat :=
  (if odd then [1, 0, 0, 3, 2, 1, 3, 0] else [0, 1, 0, 2, 3, 4, 1, 0]).getD (c % 8) 0

/-- The type code of a logical site (07 R211). -/
def typeCode (k : Nat) : Nat := typeRow (k / 16 % 2 == 1) (k % 16)

def siteTypeOf (n : Nat) : SiteType :=
  match n with
  | 0 => .spin | 1 => .matrix | 2 => .dual | 3 => .vector | _ => .scalar

def siteType (k : Nat) : SiteType := siteTypeOf (typeCode k)

/-- The ordinal of a dual site among the dual sites of its die. -/
def dualOrdinal (k : Nat) : Nat := ((List.range k).filter (fun j => typeCode j = 2)).length

/-- Whether a logical site of a die is a spin site: a spin site, or a dual site with spin personality, which holds until another image is
loaded (01 R25). Before the first image a dual site stands as a matrix site (DESIGN CHOICE, log 100). -/
def State.isSpin (s : State) (die k : Nat) : Bool :=
  match siteType k with
  | .spin => true
  | .dual => (if die = 0 then s.fab.dual0 else s.fab.dual1).getLsbD (dualOrdinal k)
  | _ => false

/-- Whether it is a matrix site: a matrix site, or a dual site that is no spin site (01 R25). -/
def State.isMatrix (s : State) (die k : Nat) : Bool :=
  match siteType k with
  | .matrix => true
  | .dual => !(if die = 0 then s.fab.dual0 else s.fab.dual1).getLsbD (dualOrdinal k)
  | _ => false

/-- Whether a rectangle holds a logical site. -/
def Rect.has (q : Rect) (k : Nat) : Bool :=
  q.col0 ≤ k % 16 && k % 16 < q.col0 + q.cols && q.row0 ≤ k / 16 && k / 16 < q.row0 + q.rows

/-- The rectangle of a region on a die. -/
def RegionDef.rectOn (d : RegionDef) (die : Nat) : Rect :=
  if die = d.die then d.rect1 else if d.paired then d.rect2 else {}

/-- Whether a region holds a logical site. -/
def RegionDef.holds (d : RegionDef) (die k : Nat) : Bool := (d.rectOn die).has k

/-- The region that holds a logical site. -/
def State.siteRegion? (s : State) (die k : Nat) : Option Nat :=
  (s.image.regions.find? (fun d => d.holds die k)).map (·.id)

/-- The logical sites of a region on a die, ascending. -/
def State.regionSites (s : State) (r die : Nat) : List Nat :=
  match s.regionDef? r with
  | some d => (List.range 256).filter (fun k => d.holds die k)
  | none => []

/-- The site block (power domain) that holds a logical site: its physical column, from the map (07 R257, 04 R88). -/
def State.siteDomain (s : State) (die k : Nat) : Nat :=
  die * 20 + (Tab.get 0 s.fab.siteMap (siteKey die k)) % 17

/-- The domain of an edge router's die (04 R88). -/
def edgeDomain (die : Nat) : Nat := if die = 0 then 19 else 39
/-- The domain of a vision engine (04 R88). -/
def visDomain (die : Nat) (stereo : Bool) : Nat := die * 20 + (if stereo then 18 else 17)

/-- The state that a domain shows: domain 63 is in Ivory at all times (04 R100). -/
def State.domState (s : State) (n : Nat) : PState := if n = 63 then .ivory else (s.domain n).state

/-- Whether a domain runs. -/
def State.ivory (s : State) (n : Nat) : Bool := s.domState n = .ivory

/-- Whether the islands of a domain that stand outside its sites keep their lock: what lost it gives no output (03 R86). -/
def State.islandUp (s : State) (n : Nat) : Bool := !s.dev.clk.unlocked.any (fun e => e.1 = n && e.2.isNone)

/-- Power plan lanes and rows (04 R113). -/
def planLanes (code : Nat) : Nat := if code % 4 = 0 then 32 else if code % 4 = 1 then 16 else 8
def planRows (code : Nat) : Nat := if code / 4 % 2 = 0 then 32 else 16

/-- Ochre narrowing is in force (04 R123): Slate mode, level 0 and power plan 0x16 know none. -/
def State.narrows (s : State) : Bool := !s.dev.aux.slateInForce && s.dev.pwr.level ≠ 0 && s.dev.pwr.planCode ≠ 0x16

/-- Whether the stage is RUNNING. -/
def State.running (s : State) : Bool := s.dev.boot.stage = .running

/-- Whether fabric work advances: running, not stopped by a class 5 fault, and not in a held frame (04 R120). -/
def State.fabricOn (s : State) : Bool := s.running && !s.dev.aux.fabricStopped && !s.dev.noc.held

/-- Whether the stage is one at which the physical function answers host requests (05 R156). -/
def Stage.hostUp : Stage → Bool
  | .reset => false | .rom => false | .fwVerify => false | .dieLink => false | .memInit => false
  | _ => true

/-- Whether an access of the physical function reaches its BAR0: the stage answers it and the function is in D0; in RECOVERY
only the HUB block is exposed (05 R156, 21 R805). -/
def State.pfReach (s : State) (hub : Bool) : Bool :=
  s.dev.boot.stage.hostUp && !(s.func 0).d3hot && (hub || s.dev.boot.stage ≠ .recovery)

/-- A function's region: virtual function k serves region k − 1 (21 R780). -/
def fnRegion (f : Nat) : Nat := f - 1
/-- Whether a function reaches its own BAR0: the physical function, or an enabled virtual function in D0 (21 R780, R805). -/
def State.funcReach (s : State) (f : Nat) : Bool :=
  if f = 0 then s.pfReach false else s.running && (s.func f).enabled && !(s.func f).d3hot

/-- Whether a function reaches registers of its BAR0 that RECOVERY exposes too: the physical function's HUB block, with HST and MSI-X. -/
def State.hubReach (s : State) (f : Nat) : Bool := if f = 0 then s.pfReach true else s.funcReach f

/-- Whether a function writes the control window of a region: in RUNNING, of a region that the image defines, the physical
function, or that region's virtual function while the region is not being reset (21 R780, R782, R789; 25 R900). -/
def State.reaches (s : State) (f r : Nat) : Bool :=
  s.running && s.defined r && s.funcReach f && (f = 0 || (f = r + 1 && !(s.region r).aux.resetBusy))

/-- Whether a region's function may access host memory (21 R790, R802). -/
def State.hostAllowed (s : State) (r : Nat) : Bool :=
  s.dev.hst.linkUp && (s.func (r + 1)).enabled && (s.func (r + 1)).busMaster && !(s.func (r + 1)).d3hot

/-- Whether the physical function may (21 R790). -/
def State.pfHostAllowed (s : State) : Bool :=
  s.dev.hst.linkUp && (s.func 0).busMaster && !(s.func 0).d3hot

end Sys2Proof.Machine
end

