-- ==== Sys2Proof/Machine/Translate.lean ====
section
/-!
DEFINITION. Segment translation (08 R281-R283), circular windows (08 R276-R280), protected ranges and busy rows (10 R394,
R398, R411), the domain behind an address (04), and the routes that lead for an access (07 R933).
-/
namespace Sys2Proof.Machine

/-- Addresses are 48 bits (08 R258). -/
def va48 (v : Nat) : Nat := v % 2 ^ 48

/-- The segments of a region. -/
def State.segments (s : State) (r : Nat) : List Segment := s.fab.body.segments.filter (fun g => g.region = r)

/-- The segment that holds all of `n` bytes from `v` (08 R282): none when they do not all lie in one. -/
def State.segOf (s : State) (r v n : Nat) : Option Segment :=
  (s.segments r).find? (fun g => g.base ≤ v && v + n ≤ g.limit + 1)

/-- The device physical address (08 R281). -/
def Segment.phys (g : Segment) (v : Nat) : Nat := g.target + (v - g.base)

/-- The window with non-zero length that holds a scratchpad offset of a site (08 R278). -/
def State.windowAt (s : State) (die k off : Nat) : Option Window :=
  s.fab.body.windows.find? (fun w => w.die = die && w.site = k && w.length ≠ 0 && w.base ≤ off && off < w.base + w.length)

/-- The pieces that `n` bytes from `x` on of an area at `off` occupy in its site's scratchpad, after its window's wrap (08 R278). -/
def State.piecesAt (s : State) (k off x n : Nat) : List (Nat × Nat) :=
  match s.windowAt (k / 256) (k % 256) off with
  | none => [(off + x, off + x + n)]
  | some w =>
    let y := (off + x - w.base) % w.length
    if y + n ≤ w.length then [(w.base + y, w.base + y + n)]
    else [(w.base + y, w.base + w.length), (w.base, w.base + (y + n - w.length))]

/-- The window in which an access whose lowest byte is at `a` lies. -/
def State.windowOf (s : State) (a : Nat) : Option Window :=
  if isScratch a then s.windowAt (scratchDie a) (scratchSite a) (scratchOff a) else none

/-- Where the byte at linear address `b` of an access with lowest byte `a` is stored (08 R278). -/
def wrapAddr (w : Option Window) (a b : Nat) : Nat :=
  match w with
  | none => b
  | some w =>
    let x := scratchOff a + (b - a)
    scratchAddr (scratchDie a) (scratchSite a) (w.base + (x - w.base) % w.length)

/-- The device addresses of a single access of `n` bytes at `a`, or why it fails (08 R278-R280). -/
def State.accessAddrs (s : State) (a n : Nat) : Except Code (List Nat) :=
  match s.windowOf a with
  | none => .ok (upFrom a n)
  | some w =>
    let e := 2 ^ w.elemLog2
    if (scratchOff a - w.base) % e ≠ 0 ∨ n % e ≠ 0 then .error Codes.WINDOW_ALIGN
    else if n > w.length then .error Codes.BOUNDS
    else .ok ((upFrom a n).map (wrapAddr (some w) a))

/-- Whether a scratchpad byte is protected (10 R394, R411). -/
def State.protectedByte (s : State) (a : Nat) : Bool :=
  isScratch a &&
    let die := scratchDie a
    let k := scratchSite a
    let off := scratchOff a
    if s.isSpin die k then 0xC2000 ≤ off && off < 0xE0000
    else s.fab.body.indexTables.any (fun t =>
      (t.kind = 3 || t.kind = 4) && t.die = die && t.site = k && t.base ≤ off && off < t.base + 8 * t.entries.length)

/-- Whether a spin site is busy: an operation was dispatched on it and has not completed, be it preempted (10 R397). -/
def State.busySite (s : State) (k : Nat) : Bool :=
  (s.site k).spin.op.isSome || s.regionIds.any (fun r => (s.region r).sched.slots.any (fun sl =>
    sl.op.state = .preempted && sl.run.anneal.any (fun a => a.sites.contains k)))

/-- Whether a byte is in the rows or biases of a busy spin site (10 R397, R398). -/
def State.busyByte (s : State) (a : Nat) : Bool :=
  isScratch a && scratchOff a < 0xC2000 && s.isSpin (scratchDie a) (scratchSite a) &&
    s.busySite (siteKey (scratchDie a) (scratchSite a))

/-- The memory die at an interleave position (08 R259). -/
def State.dieAt (s : State) (q : Nat) : Option Nat :=
  (List.range 6).find? (fun m => (s.memDie m).present && (s.memDie m).position.toNat = q)

/-- The memory die that holds a DRAM address. -/
def State.dramDie (s : State) (a : Nat) : Option Nat := s.dieAt (a / 2 ^ 34)

/-- The memory edge router that serves a DRAM address: fabric die and column (07 R216, 08 R260, R261). -/
def State.dramRouter (s : State) (a : Nat) : Option (Nat × Nat) :=
  (s.dramDie a).map (fun m => (m / 3, m % 3 * 4 + a / 4096 % 4))

/-- The power domain behind an address (04 R88). -/
def State.domainOf (s : State) (a : Nat) : Nat :=
  if isScratch a then s.siteDomain (scratchDie a) (scratchSite a) else 46 + ((s.dramDie a).getD 0)

/-- Whether the domain behind an address takes new work (04 R109, R110). -/
def State.openByte (s : State) (a : Nat) : Bool := s.ivory (s.domainOf a)

/-- The fault that took what is behind an address out of service as a whole: a site, or a lost memory die (19 R721; 23 R856, R857). -/
def State.islandAt (s : State) (a : Nat) : Option OutOfService :=
  if isScratch a then (s.site (siteKey (scratchDie a) (scratchSite a))).island
  else match s.dramDie a with
    | some m => if (s.memDie m).lost then some { code := Codes.DDI_DIE_LOST, faultId := (s.memDie m).lostFault, tick := 0 } else none
    | none => none

/-! ## Routes (07 R227, R933) -/

/-- The slot-table entries of a route. -/
def State.routeEntries (s : State) (r id : Nat) : List SlotEntry :=
  s.fab.body.slots.filter (fun e => !e.background && e.region = r && e.route = id)

/-- The route identifiers of a region, ascending. -/
def State.routeIds (s : State) (r : Nat) : List Nat :=
  (s.fab.body.slots.filter (fun e => !e.background && e.region = r)).foldl
    (fun l e => if l.contains e.route then l else insertBy (fun a b => decide (a < b)) e.route l) []

/-- A router: die, kind, index. -/
abbrev Router := Nat × Nat × Nat

def SlotEntry.router (e : SlotEntry) : Router := (e.die, e.kind, e.index)

/-- Whether a route begins at the L in-port of a router. -/
def routeFrom (l : List SlotEntry) (x : Router) : Bool := l.any (fun e => e.inPort = 0 && e.router = x)
/-- Whether a route ends at the L out-port of a router. -/
def routeTo (l : List SlotEntry) (x : Router) : Bool := l.any (fun e => e.outPort = 0 && e.router = x)
/-- Whether a route passes, or ends at, the X out-port of a router. -/
def routeOutX (l : List SlotEntry) (x : Router) : Bool := l.any (fun e => e.outPort = 5 && e.router = x)
/-- Whether a route passes, or begins at, the X in-port of a router. -/
def routeInX (l : List SlotEntry) (x : Router) : Bool := l.any (fun e => e.inPort = 5 && e.router = x)
/-- Whether a route crosses from a die through one of its boundary routers. -/
def routeCrosses (l : List SlotEntry) (die : Nat) : Bool := l.any (fun e => e.outPort = 5 && e.kind = 2 && e.die = die)

/-- The route with the lowest identifier among a region's routes of a shape (07 R933). -/
def State.findRoute (s : State) (r : Nat) (p : List SlotEntry → Bool) : Option Nat :=
  (s.routeIds r).find? (fun id => p (s.routeEntries r id))

/-- The site router of a logical site. -/
def siteRouter (die k : Nat) : Router := (die, 0, k)
/-- An edge router by its EDGE_ASSIGN code (07 R244). -/
def edgeRouter (die e : Nat) : Router := if e < 16 then (die, 1, e) else (die, 2, e - 16)

/-- The route of an access to DRAM from the L port of router `x` on `die` (07 R933). -/
def State.dramRoute (s : State) (r die : Nat) (x : Router) (a : Nat) : Option Nat :=
  match s.dramRouter a with
  | none => none
  | some (mdie, e) =>
    s.findRoute r (fun l => routeFrom l x && routeTo l x && routeOutX l (mdie, 1, e) && (mdie = die || routeCrosses l die))

/-- A route from one router's L in-port to another's L out-port. -/
def State.pathRoute (s : State) (r : Nat) (x y : Router) : Option Nat :=
  s.findRoute r (fun l => routeFrom l x && routeTo l y)

/-- The route on which a thread's access to a device address leaves (07 R933). -/
def State.threadRoute (s : State) (r die k a : Nat) (store : Bool) : Option Nat :=
  if isScratch a then
    let out := s.pathRoute r (siteRouter die k) (siteRouter (scratchDie a) (scratchSite a))
    if store then out
    else if (s.pathRoute r (siteRouter (scratchDie a) (scratchSite a)) (siteRouter die k)).isSome then out else none
  else s.dramRoute r die (siteRouter die k) a

/-- The entries of background routes at a site (07 R231, R249). -/
def State.bgEntries (s : State) (die k : Nat) : List SlotEntry :=
  s.fab.body.slots.filter (fun e => e.background && e.die = die && e.kind = 0 && e.index = k && (e.inPort = 0 || e.outPort = 0))

/-- Whether a background route reaches a site in the present slot. -/
def State.bgHere (s : State) (die k : Nat) : Bool := (s.bgEntries die k).any (fun e => e.slot = s.slot)

/-- The hub edge routers, as (die, router), at which the background routes that reach a site begin or end (07 R232). -/
def State.bgHubs (s : State) (die k : Nat) : List (Nat × Nat) :=
  ((s.fab.body.slots.filter (fun e => e.background && e.kind = 1 && 12 ≤ e.index && (e.inPort = 5 || e.outPort = 5) &&
    (s.bgEntries die k).any (fun x => x.route = e.route))).map (fun e => (e.die, e.index))).eraseDups

/-- A background task of a site has its slot. -/
def State.bgSite (s : State) (die k : Nat) (t : BgTask) : State :=
  (s.bgHubs die k).foldl (fun s h => s.bgServed h.1 h.2 t) s

/-- Whether a background route reaches a site (07 R249, R250). -/
def State.bgReaches (s : State) (die k : Nat) : Bool :=
  !(s.bgEntries die k).isEmpty

/-! ## Thread translation -/

/-- What a thread access needs. -/
inductive AccessKind where
  | load | store | atomic
  deriving DecidableEq, Repr

/-- Whether a segment's bits admit an access (08 R283). -/
def Segment.admits (g : Segment) : AccessKind → Bool
  | .load => g.read
  | .store => g.write
  | .atomic => g.read && g.write

/-- The translation of a thread access of `n` bytes: its device addresses, or the code with which it traps
(08 R282, R283, R279, R280). -/
def State.threadAddrs (s : State) (r v n : Nat) (k : AccessKind) : Except Code (List Nat) :=
  match s.segOf r v n with
  | none => .error Codes.SEG_FAULT
  | some g => if g.admits k then s.accessAddrs (g.phys v) n else .error Codes.SEG_PERM

end Sys2Proof.Machine
end

