-- ==== Sys2Proof/Machine/Events.lean ====
section
/-!
DEFINITION. Faults and their log (23 R838-R841, R865, R866), event rings (09 R373-R375, R929; 21 R800), interrupt sources
(21 R795, R796), watermarks (09 R376-R379), and writes to rings in host and region memory (21 R790, 09 R935).
-/
namespace Sys2Proof.Machine

/-! ## Faults -/

/-- The next fault ID after `i` (23 R839). -/
def nextFaultId (i : BitVec 16) : BitVec 16 := if i = 0xFFFF then 1 else i + 1

/-- Assigns a fault ID: the log entry, the counters and, for one region, REGION_FAULT_LAST (23 R839, R841, R865). -/
def State.assignFault (s : State) (code : Code) (region : Option Nat) (die : Nat) (site : Option Nat) : State :=
  let id := s.dev.faults.next
  let e : FaultEntry :=
    { id := id, code := code, cls := BitVec.ofNat 4 (faultClass code),
      region := BitVec.ofNat 6 (region.getD 0x3F), die := die = 1, site := BitVec.ofNat 8 (site.getD 0xFF),
      tick := s.stamp }
  let s := s.onFaults fun f =>
    { next := nextFaultId f.next, count := satAdd f.count 1, log := Tab.set f.log (id.toNat % 64) e,
      newest := some (id.toNat % 64) }
  match region with
  | none => s
  | some r => s.onRev r fun v => { v with lastFaultId := id, lastFaultCode := code, lastFaultTick := s.stamp.setWidth 32 }

/-- The ID that the last fault took. -/
def State.lastFault (s : State) : BitVec 16 := (Tab.get {} s.dev.faults.log (s.dev.faults.newest.getD 0)).id

/-- Counts an operation that a fault ended in the fault's log entry (23 R865). -/
def State.countEnded (s : State) (id : BitVec 16) : State :=
  let i := id.toNat % 64
  if id ≠ 0 ∧ (Tab.get {} s.dev.faults.log i).id = id then
    s.onFaults fun f => { f with log := Tab.modify {} f.log i (fun e => { e with ended := satAdd e.ended 1 }) }
  else s

/-! ## Stored-code errors (08 R262-R265, R275) -/

/-- The detail word of MEM_UNCORRECTABLE (09 R929). -/
def memDetail (a : Nat) : Nat :=
  if isScratch a then bitsOf (scratchOff a) 19 6 + scratchSite a * 2 ^ 14 + scratchDie a * 2 ^ 22 + 2 ^ 31
  else bitsOf a 36 6

/-- The source kind of MEM_UNCORRECTABLE (09 R929). -/
def memKind (a : Nat) : Nat := if isScratch a then 2 else 4

/-- Counts the corrected groups of the DRAM words that hold these addresses: a read of a word corrects each of its groups (08 R262). -/
def State.countCorrected (s : State) (l : List Nat) : State :=
  let hit := s.mem.marks.filter (fun p => p.2 == .corrected && !isScratch p.1 && l.any (fun a => a / 64 = p.1 / 64))
  hit.foldl (fun s p => s.onMemDie ((s.dramDie p.1).getD 0) fun m => { m with corrected := satAdd m.corrected 1 }) s

/-- The addresses of a write that cover a part of their checking unit only: the write reads and merges it (08 R265, R275). -/
def partialOf (l : List Nat) : List Nat := l.filter (fun a => !coversUnit l a)

/-- The merge reads of a write correct what they find (08 R262, R265). -/
def State.countMerged (s : State) (l : List Nat) : State := s.countCorrected (partialOf l)

/-! ## Ring storage -/

/-- Writes the bytes of a ring entry or record in region memory: not written where they leave one segment, lack write
permission, or are protected (09 R935), where the domain behind them is not on (04 R109), and where they are rows or
biases of a busy spin site (10 R398). Answers the address of an uncorrectable word that a merge read met (08 R264, R265). -/
def State.ringStore (s : State) (r v : Nat) (bs : List Byte) : State × Option Nat :=
  match s.segOf r v bs.length with
  | none => (s, none)
  | some g =>
    if !g.write then (s, none)
    else
      match s.accessAddrs (g.phys v) bs.length with
      | .error _ => (s, none)
      | .ok l =>
        if l.any s.protectedByte then (s, none)
        else
          let cells := (l.zip bs).filter (fun p => s.openByte p.1 && !s.busyByte p.1)
          let s := s.countMerged (cells.map (·.1))
          let w := s.mem.writeCells cells
          (s.onMem fun _ => w.1, w.2)

/-- Writes the bytes of a ring entry to host memory, or drops them where the function may not (21 R790). -/
def State.hostStore (s : State) (allowed : Bool) (a : Nat) (bs : List Byte) : State :=
  if allowed then { s with hostMem := hostPut s.hostMem a bs } else s

/-- Writes an entry of a region's ring, in host or region memory. -/
def State.regionRingStore (s : State) (r : Nat) (host : Bool) (a : Nat) (bs : List Byte) : State × Option Nat :=
  if host then (s.hostStore (s.hostAllowed r) a bs, none) else s.ringStore r (va48 a) bs

/-! ## Interrupt sources -/

/-- Keys of a region's interrupt sources: queues 0 to 63, the event ring 64, the digest ring 65. -/
def irqEvt : Nat := 64
def irqDig : Nat := 65

/-- Whether a source signals: enabled, on a vector that exists (21 R795). -/
def Irq.live (i : Irq) : Bool := i.enable && i.vector ≠ 63

/-- Counts one entry written (21 R796). -/
def Irq.count1 (t : Word64) (i : Irq) : Irq :=
  if i.live then { i with pending := i.pending + 1, first := if i.pending = 0 then t else i.first } else i

def State.irqEntry (s : State) (r k : Nat) : State :=
  s.onSched r fun g => { g with irqs := Tab.modify {} g.irqs k (Irq.count1 s.stamp) }

/-! ## Rings -/

/-- Entries of a ring. -/
def Ring.size (g : Ring) : Nat := 2 ^ g.sizeLog2.toNat
def Ring.full (g : Ring) : Bool := g.size ≤ (g.tail - g.head).toNat
/-- The byte offset of the next entry. -/
def Ring.offset (g : Ring) (entry : Nat) : Nat := g.tail.toNat % g.size * entry

/-- An event record (09 R373). -/
def eventBytes (kind : Nat) (code : Code) (detail : Nat) (t : Word64) : List Byte :=
  leBytes 4 (code.toNat + kind * 2 ^ 16) ++ leBytes 4 (detail % 2 ^ 32) ++ leBytes 8 t.toNat

/-- One more dropped entry. -/
def Ring.drop1 (g : Ring) (waits : Bool) : Ring :=
  { g with lost := satAdd g.lost 1, lostOpen := g.lostOpen || waits }

/-- Collects a trace entry of a region while its capture runs and its kind bit is set (24 R880-R882). -/
def State.trace (s : State) (r kind key queue status value item : Nat) : State :=
  let d := s.dev.dbg
  if d.running && bitsOf d.ctl.toNat 5 1 = r && d.ctl.getLsbD (6 + kind) then
    let e : List Word := [BitVec.ofNat 32 (kind + queue * 2 ^ 4 + status * 2 ^ 16), BitVec.ofNat 32 value,
      BitVec.ofNat 32 (s.slot + s.frame % 2 ^ 20 * 2 ^ 12), BitVec.ofNat 32 item]
    s.onDbg fun d => { d with collect := d.collect ++ [(key, e)] }
  else s

/-- The place of a trace entry within its boundary (24 R881): the class of R881, then queue, sequence and order. -/
def traceKey (cls queue seq sub : Nat) : Nat := ((cls * 64 + queue) * 2 ^ 32 + seq) * 2 + sub

/-- Raises an event to the physical function (21 R800, 09 R375). -/
def State.pfEvent (s : State) (kind : Nat) (code : Code) (detail : Nat) : State :=
  let g := s.dev.hst.pfEvt
  if !g.enable then s.onHst fun h => { h with pfEvt := h.pfEvt.drop1 false }
  else if g.full then s.onHst fun h => { h with pfEvt := h.pfEvt.drop1 true }
  else
    let s := s.hostStore s.pfHostAllowed (g.base.toNat + g.offset 16) (eventBytes kind code detail s.stamp)
    s.onHst fun h => { h with pfEvt := { h.pfEvt with tail := h.pfEvt.tail + 1 }, pfIrq := h.pfIrq.count1 s.stamp }

/-- An uncorrectable word that an access of a region meets: the fault and the die's counters (08 R264, R298). -/
def State.memCount (s : State) (r a : Nat) : State :=
  let s := s.assignFault Codes.MEM_UNCORRECTABLE (some r) (if isScratch a then scratchDie a else ((s.dramDie a).getD 0) / 3)
    (if isScratch a then some (scratchSite a) else none)
  let isCrc := s.mem.marks.any (fun p => p.1 / checkUnit a = a / checkUnit a && p.2 == .crc)
  if isScratch a then s
  else s.onMemDie ((s.dramDie a).getD 0) fun m =>
    { m with uncorrectable := satAdd m.uncorrectable 1, crcFail := if isCrc then satAdd m.crcFail 1 else m.crcFail }

/-- Puts an event in a region's ring, without the watermarks (09 R374, R375). Where the merge read of its own store fails, the physical
function alone hears of it (DESIGN CHOICE, log 114). -/
def State.eventPut (s : State) (r kind : Nat) (code : Code) (detail : Nat) : State :=
  let g := (s.region r).sched.evt
  if !g.enable then s.onSched r fun c => { c with evt := c.evt.drop1 false }
  else if g.full then s.onSched r fun c => { c with evt := c.evt.drop1 true }
  else
    let w := s.regionRingStore r g.host (g.base.toNat + g.offset 16) (eventBytes kind code detail s.stamp)
    let s := match w.2 with
      | some a => (w.1.memCount r a).pfEvent (memKind a) Codes.MEM_UNCORRECTABLE (memDetail a)
      | none => w.1
    let s := s.onSched r fun c => { c with evt := { c.evt with tail := c.evt.tail + 1 } }
    let s := s.trace r 4 (traceKey 3 0 0 0) 0 code.toNat detail kind
    s.irqEntry r irqEvt

/-! ## Watermarks -/

/-- The level that a watermark measures (09 R376). -/
def State.wmLevel (s : State) (r n : Nat) : Nat :=
  let g := (s.region r).sched
  if n = 0 then g.slots.length
  else if n = 1 then (g.evt.tail - g.evt.head).toNat
  else
    let q := Tab.get {} g.queues (Tab.get {} g.wms 2).select.toNat
    (q.cplTail - q.cplHead).toNat

/-- Measures one watermark: a crossing is counted, and raised when crossed was 0 (09 R376-R379). -/
def State.wmCross (s : State) (r n : Nat) : State :=
  let w := Tab.get {} (s.region r).sched.wms n
  let up := w.threshold ≠ 0 && w.threshold.toNat ≤ s.wmLevel r n
  if up && !w.above then
    let s := s.onSched r fun g => { g with wms := Tab.set g.wms n { w with above := true, crossed := true, count := satAdd w.count 1 } }
    if w.crossed then s else s.eventPut r 0 Codes.WATERMARK_CROSSED n
  else if up == w.above then s
  else s.onSched r fun g => { g with wms := Tab.set g.wms n { w with above := up } }

/-- Measures one watermark, and watermark 1 after it, since a crossing writes an event. -/
def State.wmStep (s : State) (r n : Nat) : State := if n = 1 then s.wmCross r 1 else (s.wmCross r n).wmCross r 1

/-- Measures a region's watermarks. -/
def State.wmPass (s : State) (r : Nat) : State := (s.wmStep r 0).wmStep r 2

/-! ## Events -/

/-- Raises an event to a region (21 R800). -/
def State.regionEvent (s : State) (r kind : Nat) (code : Code) (detail : Nat) : State :=
  (s.eventPut r kind code detail).wmStep r 1

/-- Raises an event to the physical function and to every region of a list. -/
def State.eventAll (s : State) (rs : List Nat) (kind : Nat) (code : Code) (detail : Nat) : State :=
  rs.foldl (fun s r => s.regionEvent r kind code detail) (s.pfEvent kind code detail)

/-- Raises an event that concerns one region and the device. -/
def State.bothEvent (s : State) (r kind : Nat) (code : Code) (detail : Nat) : State :=
  s.eventAll [r] kind code detail

/-- MEM_UNCORRECTABLE met by a region's access to `a`: the fault, the die's counter and the events (08 R264, R298). -/
def State.memFault (s : State) (r a : Nat) : State :=
  (s.memCount r a).bothEvent r (memKind a) Codes.MEM_UNCORRECTABLE (memDetail a)

/-- Writes a record or an entry of a region's ring; an uncorrectable word under it is a fault (08 R264). -/
def State.ringPut (s : State) (r : Nat) (host : Bool) (a : Nat) (bs : List Byte) : State :=
  let w := s.regionRingStore r host a bs
  match w.2 with
  | some a => w.1.memFault r a
  | none => w.1

end Sys2Proof.Machine
end

