-- ==== Sys2Proof/Machine/Header.lean ====
section
/-!
DEFINITION. The fields of a descriptor's common header and its type (09 R335-R338).
-/
namespace Sys2Proof.Machine

/-! ## Headers -/

/-- Descriptor word `i`. -/
def Op.word (o : Op) (i : Nat) : Nat := (o.words.getD i 0).toNat
/-- Two descriptor words as 64 bits. -/
def Op.word2 (o : Op) (i : Nat) : Nat := o.word i + o.word (i + 1) * 2 ^ 32
/-- Bits of a descriptor word. -/
def Op.field (o : Op) (i hi lo : Nat) : Nat := bitsOf (o.word i) hi lo

/-- The descriptor type (09 R338). -/
def Op.type (o : Op) : Nat := o.field 0 7 0
def Op.preemptible (o : Op) : Bool := bitAt (o.word 0) 11
def Op.runOnDepFail (o : Op) : Bool := bitAt (o.word 0) 12
def Op.wantsDigest (o : Op) : Bool := bitAt (o.word 0) 13
def Op.noRecord (o : Op) : Bool := bitAt (o.word 0) 14
def Op.timeout (o : Op) : Nat := o.field 1 31 16
/-- The dependency fields in order (09 R336). -/
def Op.deps (o : Op) : List Nat :=
  (List.range 8).map (fun i => bitsOf (o.word (2 + i / 4)) (i % 4 * 8 + 7) (i % 4 * 8))

/-- Descriptor types (09 R338). -/
inductive DescType where
  | nop | copy | task | anneal | sample | matrix | visionGraph | flagSet | flagWait | fence | digestMark
  deriving DecidableEq, Repr

def descType? (n : Nat) : Option DescType :=
  match n with
  | 0 => some .nop | 1 => some .copy | 2 => some .task | 3 => some .anneal | 4 => some .sample | 5 => some .matrix
  | 6 => some .visionGraph | 7 => some .flagSet | 8 => some .flagWait | 9 => some .fence | 10 => some .digestMark
  | _ => none

/-- The site of a MATRIX, and its in_shift (13 R495). -/
def Op.matSite (o : Op) : Nat := siteKey (o.field 4 8 8) (o.field 4 7 0)
def Op.inShift (o : Op) : Int := signedOf 8 (o.field 4 31 24)

def Op.desc? (o : Op) : Option DescType := descType? o.type

end Sys2Proof.Machine
end

