-- ==== Sys2Proof/Machine/SpinModel.lean ====
section
/-!
DEFINITION. The model of a problem on the spin fabric (10 R382-R392, R401-R406, R412-R416): rows, streams, ghosts, energy; the
fields of ANNEAL and SAMPLE (12 R461-R463), their schedule (12 R466-R472), readout and report (12 R480, R481).
-/
namespace Sys2Proof.Machine

/-! ## The descriptor (12 R462, R463) -/

def Op.isSample (o : Op) : Bool := o.type = 4
def Op.metropolis (o : Op) : Bool := bitAt (o.word 4) 17
/-- Replicas n and spins m of each replica (10 R391). -/
def Op.reps (o : Op) : Nat := 2 ^ o.field 4 20 18
def Op.spins (o : Op) : Nat := 4096 / o.reps
def Op.scaleShift (o : Op) : Int := signedOf 7 (o.field 4 27 21)
def Op.initEn (o : Op) : Bool := bitAt (o.word 4) 28
def Op.trackBest (o : Op) : Bool := !o.isSample && bitAt (o.word 4) 29
def Op.abortEn (o : Op) : Bool := bitAt (o.word 4) 30
def Op.schedOff (o : Op) : Nat := o.field 5 19 0
def Op.stepCount (o : Op) : Nat := o.field 5 31 20
def Op.sweepBase (o : Op) : Nat := o.word 6
def Op.initOff (o : Op) : Nat := o.field 7 19 0
def Op.abortFlag (o : Op) : Nat := o.field 7 27 20
def Op.readoutOff (o : Op) : Nat := o.field 8 19 0
def Op.reportOff (o : Op) : Nat := o.field 9 19 0
def Op.doneFlag (o : Op) : Nat := o.field 9 27 20
def Op.doneEn (o : Op) : Bool := bitAt (o.word 9) 28
def Op.ladder (o : Op) : Nat := if o.isSample then 0 else o.field 10 11 0
def Op.exchangeDelay (o : Op) : Nat := o.field 10 19 12
def Op.saveOff (o : Op) : Nat := o.field 11 19 0
def Op.sampleN (o : Op) : Nat := o.field 10 15 0
def Op.burnIn (o : Op) : Nat := o.field 10 31 16
def Op.pairOff (o : Op) : Nat := o.field 12 19 0
def Op.pairCount (o : Op) : Nat := if o.isSample then o.field 12 30 20 else 0

/-- A region's spin sites in ordinal order: ascending die, then site (12 R461). -/
def State.spinSites (s : State) (r : Nat) : List Nat :=
  [0, 1].flatMap (fun d => ((s.regionSites r d).filter (fun k => s.isSpin d k)).map (siteKey d))

/-- The selected sites. -/
def State.annealSites (s : State) (r : Nat) (o : Op) : List Nat :=
  ((s.spinSites r).drop (o.field 4 7 0)).take (o.field 4 16 8)

/-- Bytes of a site's scratchpad. -/
def State.siteBytes (s : State) (k off n : Nat) : List Byte := s.mem.readBytes s.free (scratchAddr (k / 256) (k % 256) off) n

/-- The device address of an offset of a site, through its window (08 R278): `base` is where the area starts. -/
def State.areaAddr (s : State) (k base off : Nat) : Nat :=
  wrapAddr (s.windowAt (k / 256) (k % 256) base) (scratchAddr (k / 256) (k % 256) base) (scratchAddr (k / 256) (k % 256) (base + off))

/-- An area of a site, through its window. -/
def State.areaBytes (s : State) (k base n : Nat) : List Byte := (List.range n).map (fun i => s.mem.read s.free (s.areaAddr k base i))

/-! ## Rows (10 R389, R390) -/

/-- The entries of a row from its bytes: coupling and ref. -/
def rowEntries : Nat → List Byte → List (Int × Nat)
  | 0, _ => []
  | n + 1, l => let w := leNat (l.take 3); (signedOf 8 w, bitsOf w 21 8) :: rowEntries n (l.drop 3)

/-- The entries with J ≠ 0 of spin row i. -/
def State.spinRow (s : State) (k i : Nat) : List (Int × Nat) :=
  (rowEntries 64 (s.siteBytes k (0xC0 * i) 192)).filter (fun e => e.1 ≠ 0)

def State.bias (s : State) (k i : Nat) : Int := signedOf 16 (leNat (s.siteBytes k (0xC0000 + 2 * i) 2))

/-- Whether a ref of row i is valid for m spins (10 R391, R413). -/
def refOk (m i ref : Nat) : Bool := (ref < m && ref ≠ i) || (4096 ≤ ref && ref < 16384)

/-! ## Streams and ghosts (10 R401-R404) -/

/-- The table of a kind that a site holds. -/
def State.tableAt (s : State) (kind k : Nat) : Option IndexTable :=
  s.fab.body.indexTables.find? (fun t => t.kind = kind && siteKey t.die t.site = k)
def State.imports (s : State) (k : Nat) : List Stream := ((s.tableAt 1 k).map (·.streams)).getD []
def State.exports (s : State) (k : Nat) : List Stream := ((s.tableAt 2 k).map (·.streams)).getD []
def State.exportList (s : State) (k : Nat) : List Nat := ((s.tableAt 2 k).map (·.lists)).getD []

/-- The site key of a stream's other end. -/
def Stream.peer (e : Stream) : Nat := siteKey e.die e.site

/-- The package ordinal (10 R384). -/
def State.package (s : State) : Nat := (s.fab.body.topo.map (·.self)).getD 0

/-- The order of sites: package, die, site (10 R384). -/
def State.siteRank (s : State) (k : Nat) : Nat := s.package * 512 + k
def State.streamRank (s : State) (e : Stream) : Nat := (if e.remote then e.package else s.package) * 512 + e.peer

/-- The import stream that fills a ghost slot of a site, and its index. -/
def State.ghostStream (s : State) (k slot : Nat) : Option (Stream × Nat) :=
  (s.imports k).zipIdx.find? (fun e => e.1.first ≤ slot && slot < e.1.first + e.1.count)

/-- The payload bits set of an export stream whose listed bits have these values (10 R404); a listed spin of no replica is 0. -/
def exportBits (n m : Nat) (list : List Nat) (e : Stream) (v : Nat → Bool) : List Nat :=
  (List.range e.count).flatMap (fun q =>
    let i := list.getD (e.first + q) 0
    (List.range n).filterMap (fun r => if i < m && v (r * m + i) then some (q * n + r) else none))

/-- Fills a stream's ghost slots from its payload (10 R403, R404). -/
def fillGhosts (n : Nat) (e : Stream) (bits : List Nat) (g : Tab (BitVec 16)) : Tab (BitVec 16) :=
  (List.range e.count).foldl (fun g q =>
    Tab.set g (e.first + q) (BitVec.ofNat 16 (((List.range n).map (fun r => b2n (bits.contains (q * n + r)) * 2 ^ r)).sum))) g

/-- The import stream of site `y` that an export stream of site `x` feeds. -/
def State.importOf (s : State) (x : Nat) (e : Stream) : Option (Stream × Nat) :=
  (s.imports e.peer).zipIdx.find? (fun t => !t.1.remote && t.1.peer = x && t.1.route = e.route && t.1.count = e.count)

/-- The export stream that feeds an import stream of site `x`. -/
def State.exportOf (s : State) (x : Nat) (e : Stream) : Option Stream :=
  (s.exports e.peer).find? (fun t => !t.remote && t.peer = x && t.route = e.route && t.count = e.count)

/-- The payload bits set of bytes. -/
def payloadBits (l : List Byte) : List Nat := (bitsOfBytes l).zipIdx.filterMap (fun p => if p.1 then some p.2 else none)

/-! ## Fields and energies (10 R385, R386, R412) -/

/-- ± 1 (10 R382). -/
def spinVal (b : Bool) : Int := if b then 1 else -1

/-- The value of a ref for replica r: a local spin by `loc`, or a ghost slot. -/
def Spin.ref (g : Spin) (m r ref : Nat) (loc : Nat → Bool) : Bool :=
  if ref < 4096 then loc (r * m + ref) else (Tab.get 0 g.ghosts (ref - 4096)).getLsbD r

/-- The local field of spin i in replica r (10 R386). -/
def State.field (s : State) (k : Nat) (g : Spin) (m r i : Nat) (loc : Nat → Bool) : Int :=
  (s.spinRow k i).foldl (fun a e => a + e.1 * spinVal (g.ref m r e.2 loc)) (s.bias k i)

/-- Whether the row of spin i owns the term of a ref: the other spin has the larger index (10 R385). A ghost slot that no stream
fills is owned by the row (log 24). -/
def State.ownsTerm (s : State) (k i ref : Nat) : Bool :=
  if ref < 4096 then i < ref
  else match s.ghostStream k (ref - 4096) with
    | some e => s.siteRank k < s.streamRank e.1
    | none => true

/-- The partial energy of replica r at a site (10 R385, R412). -/
def State.partialEnergy (s : State) (k : Nat) (g : Spin) (m r : Nat) : Int :=
  let loc (b : Nat) : Bool := g.committed.getLsbD b
  (List.range m).foldl (fun a i =>
    let si := spinVal (loc (r * m + i))
    (s.spinRow k i).foldl (fun a e => if s.ownsTerm k i e.2 then a - e.1 * si * spinVal (g.ref m r e.2 loc) else a)
      (a - s.bias k i * si)) 0

/-- The magnitude bound of a site (10 R412). -/
def State.magnitude (s : State) (k m : Nat) : Nat :=
  (List.range m).foldl (fun a i =>
    (s.spinRow k i).foldl (fun a e => if s.ownsTerm k i e.2 then a + e.1.natAbs else a) (a + (s.bias k i).natAbs)) 0

/-- Whether every ref of a site's rows is valid (10 R413). -/
def State.refsOk (s : State) (k m : Nat) : Bool := (List.range m).all (fun i => (s.spinRow k i).all (fun e => refOk m i e.2))

/-- Sums partial energies by replica. -/
def sumEnergies (l : List (List Int)) (n : Nat) : List Int :=
  (List.range n).map (fun r => (l.map (fun e => e.getD r 0)).sum)

/-! ## Schedules (12 R466-R472) -/

/-- A schedule step: L code, interp, mark, sweeps. -/
structure Step_ where
  beta : Nat
  interp : Bool
  mark : Bool
  sweeps : Nat
  deriving DecidableEq, Repr

def parseSteps : Nat → List Byte → List Step_
  | 0, _ => []
  | n + 1, l =>
    let w := leNat (l.take 4)
    { beta := w % 65536, interp := bitAt w 16, mark := bitAt w 17, sweeps := leNat ((l.drop 4).take 4) } :: parseSteps n (l.drop 8)

/-- Whether every step is valid, from the table's bytes (12 R467). -/
def stepsOk : Nat → List Byte → Bool
  | 0, _ => true
  | n + 1, l =>
    let w := leNat (l.take 4)
    let e := bitsOf w 14 7
    w / 2 ^ 18 = 0 && !bitAt w 15 && e ≠ 255 && (e ≠ 0 || w % 128 = 0) && stepsOk n (l.drop 8)

def totalSweeps (l : List Step_) : Nat := (l.map (·.sweeps)).sum

/-- The position-0 L code of sweep t (12 R469). -/
def sweepCode : List Step_ → Nat → Nat → Nat
  | [], prev, _ => prev
  | e :: rest, prev, t =>
    if t < e.sweeps then
      if e.interp then ((prev : Int) + ((e.beta : Int) - (prev : Int)) * ((t : Int) + 1) / (e.sweeps : Int)).toNat else e.beta
    else sweepCode rest e.beta (t - e.sweeps)

/-- The position-0 L code of sweep t of a schedule. -/
def scheduleCode (l : List Step_) (t : Nat) : Nat := sweepCode l ((l.head?.map (·.beta)).getD 0) t

/-- The last sweep that ended at or before each counted mark, in table order (12 R470). -/
def markSweeps : List Step_ → Nat → List Nat
  | [], _ => []
  | e :: rest, done =>
    let done := done + e.sweeps
    (if e.mark && done ≠ 0 then [done - 1] else []) ++ markSweeps rest done

/-- The schedule of an ANNEAL on its lead site. -/
def State.schedule (s : State) (lead : Nat) (o : Op) : List Step_ :=
  parseSteps o.stepCount (s.areaBytes lead o.schedOff (8 * o.stepCount))

/-- Sweeps of an operation. -/
def State.opSweeps (s : State) (lead : Nat) (o : Op) : Nat :=
  if o.isSample then o.burnIn + o.sampleN else totalSweeps (s.schedule lead o)

/-- Slots of a sweep at L lanes (11 R434). -/
def sweepSlots (lanes : Nat) : Nat := 4096 / (8 * lanes)

/-- The L code of sweep t for a ladder position (12 R463, R472). -/
def State.betaCode (s : State) (lead : Nat) (o : Op) (t position : Nat) : Nat :=
  if o.isSample then o.field 5 15 0 else scheduleCode (s.schedule lead o) t - position * o.ladder

/-! ## The decision (11 R422-R426) -/

/-- T[k] for k from 128 to 255 (11 R426). -/
def logisticHigh : List Nat :=
  [2080396621, 1946744814, 1814643589, 1685073855, 1558940867, 1437050708, 1320092631, 1208627881, 1103085004, 1003761160, 910828579, 824345041, 744267177, 670465429, 602739602, 540834157] ++
  [484452581, 433270385, 386946463, 345132701, 307481860, 273653817, 243320314, 216168421, 191902877, 170247518, 150945966, 133761734, 118477885, 104896373, 92837147, 82137112] ++
  [72648999, 64240198, 56791587, 50196391, 44359077, 39194314, 34625990, 30586304, 27014924, 23858220, 21068557, 18603660, 16426032, 14502440, 12803438, 11302954] ++
  [9977907, 8807876, 7774797, 6862694, 6057444, 5346561, 4719014, 4165053, 3676065, 3244442, 2863465, 2527197, 2230397, 1968439, 1737235, 1533177] ++
  [1353081, 1194134, 1053854, 930050, 820787, 724358, 639256, 564152, 497870, 439375, 387751, 342193, 301987, 266505, 235191, 207557] ++
  [183169, 161647, 142654, 125892, 111100, 98046, 86525, 76358, 67386, 59468, 52481, 46314, 40872, 36069, 31831, 28091] ++
  [24790, 21877, 19307, 17038, 15036, 13269, 11710, 10334, 9120, 8048, 7103, 6268, 5531, 4882, 4308, 3802] ++
  [3355, 2961, 2613, 2306, 2035, 1796, 1585, 1399, 1234, 1089, 961, 848, 749, 661, 583, 515]

/-- The logistic table: T[k] + T[255 − k] = 2^32. -/
def logistic (k : Nat) : Nat := if 128 ≤ k then logisticHigh.getD (k - 128) 0 else 2 ^ 32 - logisticHigh.getD (127 - k) 0

/-- P of R422 for a non-negative β of L code `b`. -/
def acceptP (b : Nat) (dE : Int) : Int := if b / 128 = 0 then 0 else ((128 + b % 128 : Nat) : Int) * dE

/-- The table index of R422. -/
def acceptIndex (b : Nat) (dE shift : Int) : Nat :=
  let p := acceptP b dE
  let t : Int := ((b / 128 : Nat) : Int) + shift - 131
  let v := if 0 ≤ t then p * (2 ^ t.toNat : Nat) else p.fdiv ((2 ^ (-t).toNat : Nat) : Int)
  (clampInt' v + 128).toNat
where
  /-- Clamps to −128 to 127. -/
  clampInt' (v : Int) : Int := if v < -128 then -128 else if 127 < v then 127 else v

/-- Whether a spin flips for a draw u (11 R424, R425). -/
def accepts (metropolis : Bool) (b : Nat) (dE shift : Int) (u : Nat) : Bool :=
  let k := acceptIndex b dE shift
  if metropolis then decide (acceptP b dE ≤ 0) || decide (u * logistic (255 - k) < logistic k * 2 ^ 32)
  else u < logistic k

/-! ## Readout and report (12 R480, R481) -/

/-- The spin state of the sites of an operation: as they stand, or as saved at a preemption (12 R486, R487). -/
def State.annealSpins (s : State) (a : AnnealRun) : List Spin :=
  if !a.saved.isEmpty then a.saved else a.sites.map (fun k => (s.site k).spin)

def bitBytes (w : Nat) (x : BitVec w) : List Byte := leBytes (w / 8) x.toNat

/-- Parts of a readout block: offset and bytes (12 R480). -/
def readoutParts (o : Op) (g : Spin) : List (Nat × List Byte) :=
  (0, bitBytes 4096 g.committed) ::
  (if o.isSample then
    [(0x200, (List.range 4096).flatMap (fun b => leBytes 2 (Tab.get 0 g.counts b).toNat)),
     (0x2200, (List.range (o.pairCount * o.reps)).flatMap (fun i => leBytes 2 (Tab.get 0 g.pairs i).toNat))]
   else if o.trackBest then [(0x200, bitBytes 4096 g.best)] else [])

/-- What the end of an operation computes: energies, asymmetry, sweeps, totals. -/
structure AnnealEnd where
  energies : List Int
  best : List Int
  asymmetric : Bool
  sweeps : Nat
  deriving DecidableEq, Repr

/-- Sums over the packages of an operation: this package's sums, and what the other packages add, which only they know: free values,
from index `i` (20 R763; log 3). -/
def State.packageSums (s : State) (a : AnnealRun) (i : Nat) (l : List Int) : List Int :=
  if a.multi then l.zipIdx.map (fun p => p.1 + signedOf 48 (s.freeVal (i + p.2))) else l

/-- The free values of a step that formed sums over packages are used up. -/
def State.bumpSums (s : State) (a : AnnealRun) : State := if a.multi then { s with free := s.free + 1 } else s

/-- The end's running and recomputed energies (10 R415, R416; 12 R477, R482; 20 R763). -/
def State.annealEnd (s : State) (sl : Slot) (a : AnnealRun) : AnnealEnd :=
  let o := sl.op
  let gs := s.annealSpins a
  let run := s.packageSums a 0 (sumEnergies (gs.map (fun g => g.tally.energy)) o.reps)
  let again := s.packageSums a 16 <| sumEnergies ((a.sites.zip gs).map (fun p => (List.range o.reps).map (fun r => s.partialEnergy p.1 p.2 o.spins r))) o.reps
  { energies := run, best := if o.trackBest then (run.zip a.best).map (fun p => min p.1 p.2) else run,
    asymmetric := run ≠ again, sweeps := (gs.map (fun g => g.tally.sweepsDone)).foldl min (s.opSweeps (a.sites.headD 0) o) }

/-- The final shadow of a site: replicas whose last energy is strictly lower take the committed state (12 R477). -/
def finalBest (o : Op) (run best : List Int) (g : Spin) : Spin :=
  if !o.trackBest then g
  else (List.range o.reps).foldl (fun g r =>
    if run.getD r 0 < best.getD r 0 then
      { g with best := BitVec.ofNat 4096 ((List.range 4096).foldl (fun x b =>
          x + b2n (if b / o.spins = r then g.committed.getLsbD b else g.best.getLsbD b) * 2 ^ b) 0) }
    else g) g

/-- The report, with what the other packages add to its counts (12 R481; 20 R763); an operation stopped early when it completed fewer sweeps than it has. -/
def annealReport (o : Op) (gs : List Spin) (a : AnnealRun) (e : AnnealEnd) (others : List Int) (early : Bool) (status : Code) : List Byte :=
  let total (i : Nat) (f : SpinCounts → Nat) : Nat := (gs.map (fun g => f g.tally)).sum + patternOf 64 (others.getD i 0)
  leBytes 4 e.sweeps ++ leBytes 2 status.toNat ++ leBytes 2 (b2n e.asymmetric + b2n early * 2) ++
  leBytes 8 (total 0 (·.windows)) ++ leBytes 8 (total 1 (·.c439)) ++ leBytes 8 (total 2 (·.c441)) ++ leBytes 8 (total 3 (·.c442)) ++
  leBytes 8 (total 4 (·.c453)) ++ leBytes 4 a.tested ++ leBytes 4 a.swapped ++
  leBytes 8 (((gs.headD {}).tally.positions.zipIdx.map (fun p => p.1 * 16 ^ p.2)).sum) ++
  (List.range 16).flatMap (fun r =>
    if r < o.reps then leBytes 8 (patternOf 64 (e.energies.getD r 0)) ++ leBytes 8 (patternOf 64 (e.best.getD r 0)) else leBytes 16 0)

/-- Writes of bytes through an area's window. -/
def State.areaCells (s : State) (k base off : Nat) (l : List Byte) : List (Nat × Byte) :=
  l.zipIdx.map (fun p => (s.areaAddr k base (off + p.2), p.1))

/-- The readout blocks in ascending ordinal, then the report: what each writes, and the tensors of the fold digest (12 R480,
R481; 18 R682). -/
def State.annealOutput (s : State) (sl : Slot) (a : AnnealRun) (status : Code) : List (Nat × Byte) × List (List Byte) :=
  let o := sl.op
  let e := s.annealEnd sl a
  let gs := (s.annealSpins a).map (finalBest o e.energies a.best)
  let blocks := (a.sites.zip gs).map (fun p => (p.1, readoutParts o p.2))
  let report := annealReport o gs a e (s.packageSums a 32 (List.replicate 5 0)) (decide (e.sweeps < s.opSweeps (a.sites.headD 0) o)) status
  (blocks.flatMap (fun b => b.2.flatMap (fun q => s.areaCells b.1 o.readoutOff q.1 q.2)) ++
    s.areaCells (a.sites.headD 0) o.reportOff 0 report,
   blocks.map (fun b => b.2.flatMap (·.2)) ++ [report])

end Sys2Proof.Machine
end

