-- ==== Sys2Proof/Machine/Records.lean ====
section
/-!
DEFINITION. Operations in task slots, their headers (09 R335), digests (18 R681-R693), completion records (09 R371, R372)
and digest-ring entries (18 R686-R688).
-/
namespace Sys2Proof.Machine

/-- Types whose completion writes a digest-ring entry (18 R687). -/
def writesDigestEntry (t : Nat) : Bool := [1, 2, 3, 4, 5, 6].contains t

/-! ## Task slots -/

def Slot.is (sl : Slot) (q : Nat) (seq : Word) : Bool := sl.op.queue = q && sl.op.seq = seq
def State.slots (s : State) (r : Nat) : List Slot := (s.region r).sched.slots
def State.slotOf (s : State) (r q : Nat) (seq : Word) : Option Slot := (s.slots r).find? (fun sl => sl.is q seq)
def State.onSlot (s : State) (r q : Nat) (seq : Word) (f : Slot → Slot) : State :=
  s.onSched r fun g => { g with slots := g.slots.map (fun sl => if sl.is q seq then f sl else sl) }
def State.onOp (s : State) (r q : Nat) (seq : Word) (f : Op → Op) : State :=
  s.onSlot r q seq fun sl => { sl with op := f sl.op }
def State.onRec (s : State) (r q : Nat) (seq : Word) (f : OpRec → OpRec) : State :=
  s.onSlot r q seq fun sl => { sl with rec_ := f sl.rec_ }
def State.onRun (s : State) (r q : Nat) (seq : Word) (f : UnitRun → UnitRun) : State :=
  s.onSlot r q seq fun sl => { sl with run := f sl.run }

/-- The slot of an operation that a command names. -/
def State.slotAt (s : State) (o : OpRef) : Option Slot := s.slotOf o.region.val o.queue.val o.seq
def State.onSlotAt (s : State) (o : OpRef) (f : Slot → Slot) : State := s.onSlot o.region.val o.queue.val o.seq f

/-- The owner key of an operation: region, queue, sequence. -/
abbrev OpKey := Nat × Nat × Word
def Slot.key (r : Nat) (sl : Slot) : OpKey := (r, sl.op.queue, sl.op.seq)

/-- Ascending queue, then sequence (09 R353, R371). -/
def slotBefore (a b : Slot) : Bool :=
  a.op.queue < b.op.queue || (a.op.queue = b.op.queue && (b.op.seq - a.op.seq).toNat < 2 ^ 31 && a.op.seq ≠ b.op.seq)

/-- Adds to the disturbance count of an operation (18 R695). -/
def State.disturb (s : State) (r q : Nat) (seq : Word) : State :=
  s.onRec r q seq fun c => { c with disturbance := satAdd c.disturbance 1 }

/-- Adds to the disturbance count of every operation in flight of a region. -/
def State.disturbAll (s : State) (r : Nat) : State :=
  s.onSched r fun g => { g with slots := g.slots.map (fun sl =>
    { sl with rec_ := { sl.rec_ with disturbance := satAdd sl.rec_.disturbance 1 } }) }

/-! ## Digests -/

/-- The fold digest (18 R681). -/
def OpRec.fold (c : OpRec) : Word64 := foldM c.acc.toNat (c.n % 2 ^ 64)

/-- Adds the terms of one tensor's bytes: tensor `t`, chunks from `j` (18 R681). -/
def foldChunks (t : Nat) : Nat → Nat → Word64 → List Byte → Word64
  | 0, _, acc, _ => acc
  | k + 1, j, acc, l => foldChunks t k (j + 1) (acc + foldM (j + t * 2 ^ 40) (leNat (l.take 8))) (l.drop 8)

/-- Adds tensor `t` to the sums of an operation (18 R681). -/
def OpRec.addTensor (c : OpRec) (t : Nat) (l : List Byte) : OpRec :=
  { c with acc := foldChunks t ((l.length + 7) / 8) 0 c.acc l, n := c.n + l.length }

/-- Captures the weights and input digests (18 R691). -/
def State.capture (s : State) (r q : Nat) (seq : Word) : State :=
  let a := (s.region r).aux
  s.onRec r q seq fun c => if c.captured then c else { c with weights := a.weights, input := a.input, captured := true }

/-- The message whose SHA-256 is the provenance digest (18 R690). -/
def State.provenanceMessage (s : State) (c : OpRec) : List Byte :=
  sliceBytes s.image.digest 0 48 ++ leBytes 32 c.weights.toNat ++ leBytes 32 c.input.toNat ++
    leBytes 8 s.dev.aux.detProfile.toNat ++ leBytes 8 c.fold.toNat ++ leBytes 8 c.n

/-- A digest-ring entry (18 R686). -/
def State.digestBytes (s : State) (r : Nat) (sl : Slot) (status : Code) (mark : Bool) (fold n : Nat) : List Byte :=
  leBytes 4 (status.toNat + sl.op.type * 2 ^ 16 + b2n s.dev.aux.slateInForce * 2 ^ 24 + b2n mark * 2 ^ 25) ++
  leBytes 4 sl.op.seq.toNat ++
  leBytes 4 (sl.op.queue + sl.rec_.disturbance.toNat * 2 ^ 16) ++
  leBytes 4 (if sl.op.dispatched then sl.op.dispatchSlot else 0) ++
  leBytes 8 fold ++
  leBytes 8 (n % 2 ^ 40 + (s.region r).sched.digIndex.toNat * 2 ^ 40)

/-- Writes, or drops, a digest-ring entry (18 R687, R688). -/
def State.digestPut (s : State) (r : Nat) (sl : Slot) (status : Code) (mark : Bool) (fold n : Nat) : State :=
  let g := (s.region r).sched.dig
  if !g.enable then s
  else if g.full then s.onSched r fun c => { c with dig := c.dig.drop1 true, digIndex := c.digIndex + 1 }
  else
    let s := s.ringPut r g.host (g.base.toNat + g.offset 32) (s.digestBytes r sl status mark fold n)
    let s := s.onSched r fun c => { c with dig := { c.dig with tail := c.dig.tail + 1 }, digIndex := c.digIndex + 1 }
    s.irqEntry r irqDig

/-! ## Completion -/

/-- The hub ticks of the slots that an operation spans (03 R82). -/
def State.duration (s : State) (o : Op) : Nat :=
  if o.dispatched then min (slotsTicks s.plan (s.slotCount - (o.dispatchFrame * 4096 + o.dispatchSlot))) 0xFFFFFFFF else 0

/-- A completion record: 32 bytes, or 64 (09 R372). -/
def State.recordBytes (s : State) (sl : Slot) (long : Bool) (status : Code) (result : Word) (fault : BitVec 16) : List Byte :=
  let c := sl.rec_
  let present := long && sl.op.wantsDigest
  leBytes 4 (status.toNat + sl.op.type * 2 ^ 16 + b2n present * 2 ^ 24 + b2n (c.depNotOk && sl.op.dispatched) * 2 ^ 25 + b2n c.cancelLate * 2 ^ 26 +
    b2n c.timedOut * 2 ^ 27 + b2n c.wasPreempted * 2 ^ 28) ++
  leBytes 4 sl.op.seq.toNat ++
  leBytes 4 (sl.op.field 1 15 0 + c.disturbance.toNat * 2 ^ 16) ++
  leBytes 4 (sl.op.queue + fault.toNat * 2 ^ 16) ++
  leBytes 8 s.stamp.toNat ++ leBytes 4 (s.duration sl.op) ++ leBytes 4 result.toNat ++
  (if long then (if present then sha256 (s.provenanceMessage c) else List.replicate 32 0) else [])

/-- Writes the completion record of an operation (09 R371). -/
def State.recordPut (s : State) (r : Nat) (sl : Slot) (status : Code) (result : Word) (fault : BitVec 16) : State :=
  let q := s.queue r sl.op.queue
  let n := if q.record64 then 64 else 32
  let s := s.ringPut r q.cplHost (q.cplBase.toNat + q.cplTail.toNat % 2 ^ q.sizeLog2.toNat * n)
    (s.recordBytes sl q.record64 status result fault)
  let s := s.onQueue r sl.op.queue fun q => { q with cplTail := q.cplTail + 1 }
  s.irqEntry r sl.op.queue

/-- What a completion writes to the rings: a digest-ring entry for the types of 18 R687, a record unless no_record asks for none
(09 R371). -/
def dueOf (sl : Slot) (status : Code) (result : Word) (fault : BitVec 16) (mark : Option (Bool × Nat × Nat)) : Due :=
  { slot := sl, status := status, result := result, fault := fault
    entry := if writesDigestEntry sl.op.type then some (false, sl.rec_.fold.toNat, sl.rec_.n) else mark
    record := !(sl.op.noRecord && status = Codes.OK) }

/-- Writes one completion's entry and record. -/
def State.putDue (s : State) (r : Nat) (d : Due) : State :=
  let s := match d.entry with
    | some (mark, fold, n) => s.digestPut r d.slot d.status mark fold n
    | none => s
  if d.record then (s.recordPut r d.slot d.status d.result d.fault).wmPass r else s

/-- Writes what the completions of the present boundary owe, in ascending queue and sequence (09 R371; 18 R687). -/
def State.flushDues (s : State) (r : Nat) : State :=
  let ds := sortBy (fun (a b : Due) => slotBefore a.slot b.slot) (s.region r).sched.dues
  ds.foldl (fun s d => s.putDue r d) (s.onSched r fun g => { g with dues := [] })

/-- Whether a packet is a request or a response of one of the threads named. -/
def ofThreads (ts : List (Nat × Nat)) (p : Packet) : Bool :=
  (p.kind = 0 || p.kind = 3) && ts.any (fun t => t.1 = p.src && t.2 = p.thread)

/-- Frees the hardware threads of a task and discards its outstanding loads (09 R309). -/
def State.freeThreads (s : State) (ts : List (Nat × Nat)) : State :=
  let s := ts.foldl (fun s t => s.onSite t.1 fun x =>
    { x with threads := Tab.erase x.threads t.2,
             sfu := { x.sfu with holder := if x.sfu.holder.any (fun h => h.1 = t.2) then none else x.sfu.holder } }) s
  s.onNoc fun n => { n with
    queues := n.queues.map (fun e => (e.1, e.2.filter (fun p => !ofThreads ts p)))
    deferred := n.deferred.filter (fun d => !ofThreads ts d.packet) }

/-- Frees what an operation's unit holds. -/
def State.releaseUnits (s : State) (r : Nat) (sl : Slot) : State :=
  let k := sl.key r
  let s := match sl.run.task with
    | some t => s.freeThreads (t.threads.filter (fun p =>
        let x := s.thread p.1 p.2
        x.region = r && x.queue = sl.op.queue && x.seq = sl.op.seq))
    | none => s
  let s := match sl.run.anneal with
    | some a => a.sites.foldl (fun s x => s.onSpin x fun p => if p.op = some k then { p with op := none } else p) s
    | none => s
  match sl.run.matrix with
  | some m => s.onSite m.site fun x => { x with mat := { x.mat with
      array := if x.mat.array = some k then none else x.mat.array
      shadow := if x.mat.shadow = some k then none else x.mat.shadow } }
  | none => s

/-- The history of a queue with one more final status: those of the 255 operations before the oldest one in a task slot, and of all later ones,
so that every dependency has its status (09 R352). -/
def Queue.remember (q : Queue) (oldest seq : Word) (status : Code) (fault : BitVec 16) : Queue :=
  { q with history := ((seq, status, fault) :: q.history).filter (fun h => (q.nextSeq - h.1).toNat ≤ (q.nextSeq - oldest).toNat + 255)
           lastBad := if status = Codes.OK then q.lastBad else status }

/-- The oldest operation of a queue in a task slot, or the one that comes next. -/
def State.oldestSeq (s : State) (r q : Nat) : Word :=
  (((sortBy slotBefore ((s.slots r).filter (fun sl => sl.op.queue = q))).head?).map (·.op.seq)).getD (s.queue r q).nextSeq

/-- Writes the readout blocks and the report of an ANNEAL or SAMPLE that ends before it wrote them itself: those bytes whose domains
are on (12 R483, R490; 04 R109; 18 R682). -/
def State.closeAnneal (s : State) (r q : Nat) (seq : Word) (status : Code) : State :=
  match s.slotOf r q seq with
  | some sl =>
    match sl.run.anneal with
    | some a =>
      if a.updatesBegan && !a.written then
        let out := s.annealOutput sl a status
        let s := s.onMem fun m => (m.writeCells (out.1.filter (fun c => s.openByte c.1))).1
        let s := s.onRec r q seq fun c => out.2.zipIdx.foldl (fun c t => c.addTensor t.2 t.1) c
        (s.onRun r q seq fun u => { u with anneal := some { a with written := true } }).bumpSums a
      else s
    | none => s
  | none => s

/-- The flag update that an ANNEAL or SAMPLE makes at its completion, whatever its status (12 R483). -/
def State.doneUpdate (s : State) (r : Nat) (sl : Slot) : State :=
  if (sl.op.type = 3 || sl.op.type = 4) && sl.op.doneEn then
    s.onSched r fun g => { g with flagUpds := g.flagUpds ++
      [{ source := 2, sub := (s.annealSites r sl.op).headD 0, flag := sl.op.doneFlag, op := 1, value := 1 }] }
  else s

/-- The result word of a MATRIX (13 R520): one that did not start has no repeat. -/
def Op.matrixResult (o : Op) (m : Option MatRun) : Word :=
  let n : Nat := (m.map (·.repeats)).getD 0
  BitVec.ofNat 32 (n + b2n (n ≠ 0) * 2 ^ 3 + b2n (m.any (·.nonfinite)) * 2 ^ 4 + patternOf 8 (o.inShift - (n : Int)) * 2 ^ 8)

/-- The result word of an operation that ends: sweeps completed of an ANNEAL or SAMPLE whose updates began (12 R482), the word of a
MATRIX (13 R520), frames completed and dropped of a VISION_GRAPH (17 R656), or the one given. -/
def State.endResult (s : State) (sl : Slot) (result : Word) : Word :=
  match sl.run.anneal, sl.run.matrix, sl.run.vis with
  | some a, _, _ => if a.updatesBegan then BitVec.ofNat 32 (s.annealEnd sl a).sweeps else result
  | none, some m, _ => sl.op.matrixResult (some m)
  | none, none, some v => BitVec.ofNat 32 (v.completed % 2 ^ 16 + v.dropped % 2 ^ 16 * 2 ^ 16)
  | none, none, none => if sl.op.type = 5 then sl.op.matrixResult none else result

/-- Counts a MATRIX that completes, with whatever status, at the site that it names (13 R539). -/
def State.countMatrix (s : State) (sl : Slot) (status : Code) : State :=
  if sl.op.type = 5 && s.isMatrix (sl.op.matSite / 256) (sl.op.matSite % 256) then
    s.onSite sl.op.matSite fun x => { x with mat := { x.mat with
      completed := x.mat.completed + 1
      repeated := if sl.run.matrix.any (fun m => m.repeats ≠ 0) then satAdd x.mat.repeated 1 else x.mat.repeated
      overflowed := if status = Codes.ACC_OVERFLOW then satAdd x.mat.overflowed 1 else x.mat.overflowed } }
  else s

/-- Whether an operation is an ANNEAL or a SAMPLE. -/
def Op.onSpins (o : Op) : Bool := o.type = 3 || o.type = 4

/-- A status's place in the order of R846, and for ANNEAL and SAMPLE in that of R490 (23 R846; 12 R490; 20 R759): smaller comes
first. -/
def statusRank (spin : Bool) (c : Code) : Nat :=
  if spin && c = Codes.NOC_LINK_ERROR then 0
  else if spin && c = Codes.PARTNER_LOST then 1
  else if spin && c = Codes.LNK_RETRY_EXHAUSTED then 2
  else if spin && c = Codes.ANL_NOISE_FAULT then 3
  else if faultClass c ≠ 0 && faultClass c ≠ 6 then 4
  else if spin && c = Codes.ANL_EXCHANGE_LATE then 5
  else if c = Codes.REVOKED then 6
  else if c = Codes.DEST_CLOSED then 7
  else if c = Codes.CANCELLED_RUNNING || c = Codes.CANCELLED_UNDISPATCHED then 8
  else if c = Codes.TIMEOUT then 9
  else if spin && c = Codes.ANL_ABORTED then 10
  else if spin && c = Codes.ANL_ASYMMETRIC then 11
  else if c = Codes.OK then 13
  else 12

/-- Of two statuses with fault IDs, the one reported; the earlier one where their places are equal. -/
def firstStatus (spin : Bool) (a b : Code × BitVec 16) : Code × BitVec 16 :=
  if statusRank spin b.1 < statusRank spin a.1 then b else a

/-- Latches a completion for the next boundary (09 R353 step 1). Of two that fall at one boundary, the first of R846's order
stands. -/
def State.latch (s : State) (r q : Nat) (seq : Word) (status : Code) (result : Word) (fault : BitVec 16) : State :=
  s.onSlot r q seq fun sl =>
    if sl.op.state = .latched then
      let p := firstStatus sl.op.onSpins (sl.rec_.status, sl.rec_.faultId) (status, fault)
      { sl with rec_ := { sl.rec_ with status := p.1, faultId := p.2 } }
    else { sl with op := { sl.op with state := .latched }, rec_ := { sl.rec_ with status := status, result := result, faultId := fault } }

/-- The lockstep group and the number of frames of a VISION_GRAPH (17 R646). -/
def Op.groupId (o : Op) : Nat := o.field 7 15 12
def Op.frameCount (o : Op) : Nat := o.field 4 31 16

/-- The members of a lockstep group that hold their engines (17 R658). -/
def State.visMembers (s : State) (r g : Nat) : List Slot :=
  (s.slots r).filter (fun sl => sl.op.type = 6 && sl.op.groupId = g && sl.run.vis.isSome && (sl.op.state = .running || sl.op.state = .latched))

/-- A member that completes before it has ended its last frame stops every other member of its group, or of those that wait with it for the
group to form, under the fault ID of its own end (17 R668; 23 R845). -/
def State.stopGroup (s : State) (r : Nat) (sl : Slot) (fault : BitVec 16) : State :=
  match sl.run.vis with
  | some v =>
    if sl.op.groupId ≠ 0 && v.frame < sl.op.frameCount then
      (s.visMembers r sl.op.groupId).foldl (fun s m =>
        if m.is sl.op.queue sl.op.seq || m.run.group.formed != sl.run.group.formed then s else s.latch r m.op.queue m.op.seq Codes.VIS_GROUP_STOPPED 0 fault) s
    else s
  | none => s

/-- Completes an operation at the present boundary: what it owes the rings, the queue's memory of it, its units and its task slot
(09 R353, R371; 18 R687, R690; 23 R840). A DIGEST_MARK gives its entry (18 R687). -/
def State.finishMark (s : State) (r q : Nat) (seq : Word) (status : Code) (result : Word) (fault : BitVec 16)
    (mark : Option (Bool × Nat × Nat)) : State :=
  let s := (s.capture r q seq).closeAnneal r q seq status
  match s.slotOf r q seq with
  | none => s
  | some sl =>
    let result := s.endResult sl result
    let s := (s.doneUpdate r sl).onSched r fun g => { g with dues := g.dues ++ [dueOf sl status result fault mark] }
    let s := (s.countEnded fault).countMatrix sl status
    let s := s.onQueue r q fun x =>
      let x := x.remember (s.oldestSeq r q) seq status fault
      if sl.op.wantsDigest then
        { x with lastDigest := some (BitVec.ofNat 256 (leNat (sha256 (s.provenanceMessage sl.rec_))), seq) }
      else x
    let here := sl.op.dispatched && sl.op.dispatchFrame = s.frame && sl.op.dispatchSlot = s.slot
    let s := s.trace r 2 (traceKey (if here then 4 else 1) q seq.toNat 1) q status.toNat seq.toNat sl.op.type
    let s := s.releaseUnits r sl
    let s := if sl.op.type = 1 && sl.op.dispatched then
        s.onEngine (sl.op.field 14 9 9) (sl.op.field 14 8 4) fun e => { e with completed := e.completed + 1 }
      else s
    let s := (s.onSched r fun g => { g with slots := g.slots.filter (fun x => !x.is q seq) }).stopGroup r sl fault
    s.wmPass r

/-- Completes an operation that makes no mark. -/
def State.finish (s : State) (r q : Nat) (seq : Word) (status : Code) (result : Word) (fault : BitVec 16) : State :=
  s.finishMark r q seq status result fault none

/-- Completes every operation in flight of a list at once with one status. -/
def State.finishAll (s : State) (r : Nat) (l : List Slot) (status : Code) (fault : BitVec 16) : State :=
  ((sortBy slotBefore l).foldl (fun s sl => s.finish r sl.op.queue sl.op.seq status 0 fault) s).flushDues r

end Sys2Proof.Machine
end

