-- ==== Sys2Proof/Machine/Reset.lean ====
section
/-!
DEFINITION. Package resets (05 R131-R138, 25 R906), the start of a boot (05 R133, 04 R100) and the ways a boot stage fails
(05 R140, R157, R161).
-/
namespace Sys2Proof.Machine

/-! ## Causes -/

/-- The boundary-scan instructions that hold the package in reset while the stage is RESET (24 R891, R892). -/
def jtagHolds (ir : Byte) : Bool := ir = 0x03 || ir = 0x04 || ir = 0x05

/-- Whether a package-reset cause is asserted (05 R133). -/
def State.resetCaused (s : State) : Bool :=
  let b := s.dev.boot
  b.causeRail || b.causeOver || b.causeBoard || b.causeHost || (b.stage = .reset && jtagHolds s.dev.dbg.ir)

/-- The always-on domain is powered: no power-on cause holds. -/
def State.powered (s : State) : Bool := !s.dev.boot.causeRail && !s.dev.boot.causeOver

/-! ## What a package reset clears -/

/-- The boot block after a package reset (05 R136, 25 R906). -/
def resetBoot (b : Boot) (powerOn : Bool) : Boot :=
  { failCount := if powerOn then 0 else b.failCount
    causeRail := b.causeRail, causeOver := b.causeOver, causeBoard := b.causeBoard, causeHost := b.causeHost
    rcPowerOn := if powerOn then true else b.rcPowerOn
    rcBoard := !powerOn && b.rcBoard, rcHost := !powerOn && b.rcHost, rcWatchdog := !powerOn && b.rcWatchdog
    recoveryNext := !powerOn && b.recoveryNext
    recoveryDue := !powerOn && (b.recoveryNext || b.recoveryDue)
    releaseTick := b.releaseTick, failTick := b.failTick }

/-- The hub's other state. ALERT_N is asserted once, on entry to reset, when it is owned for SMBus alert before the reset returns it to
that owner (05 R157; 02 R56; DESIGN CHOICE, log 99): `entering` says that the package was not in reset. -/
def resetAux (a : BootAux) (alertOwner : Byte) (powerOn entering : Bool) : BootAux :=
  { watchdogPending := !powerOn && a.watchdogPending
    tripHold := !powerOn && a.tripHold
    alertLow := (entering && alertOwner = 0x01) || (a.alertLow && alertOwner ≠ 0x02) }

def resetClk (c : Clk) (powerOn : Bool) : Clk :=
  if powerOn then {} else { c with planCode := 0x21, window := 4, trimPending := none, unlocked := [], latches := [] }

def resetPwr (p : Pwr) (powerOn : Bool) : Pwr :=
  if powerOn then { sensors := p.sensors, inputPower := p.inputPower, avgRail := p.avgRail }
  else { p with domains := [], planCode := 0x10, tripPending := false, saved := [], savedPlans := none }

/-- A bundle that carries no data: its lanes are selected anew at DIE_LINK, and its counters stay (05 R136, R156; 25 R906). -/
def Bundle.detach (u : Bundle) : Bundle := { crcFail := u.crcFail, deferrals := u.deferrals, retiredRun := u.retiredRun }

def resetYdi (y : Ydi) (powerOn : Bool) : Ydi :=
  if powerOn then {}
  else { y with bundles := y.bundles.map (fun e => (e.1, e.2.detach)) }

def resetDbg (d : Dbg) (powerOn : Bool) : Dbg :=
  if powerOn then { readAnswer := d.readAnswer }
  else { ir := d.ir, boundary := d.boundary, access := d.access, smbus := d.smbus, readAnswer := d.readAnswer }

def resetMemDie (m : MemDie) : MemDie :=
  { corrected := m.corrected, uncorrectable := m.uncorrectable, crcFail := m.crcFail, passes := m.passes, scrubPos := m.scrubPos }

/-- Every hub block after a package reset (25 R906). -/
def resetDev (d : Dev) (powerOn : Bool) : Dev :=
  { boot := resetBoot d.boot powerOn
    aux := resetAux d.aux d.shared.alertOwner powerOn (d.boot.stage ≠ .reset)
    pins := { d.pins with syncOutHigh := false }
    clk := resetClk d.clk powerOn
    pwr := resetPwr d.pwr powerOn
    ydi := resetYdi d.ydi powerOn
    hst := { linkDowns := if powerOn then 0 else d.hst.linkDowns }
    faults := if powerOn then {} else { d.faults with next := 1 }
    dbg := resetDbg d.dbg powerOn }

/-- The package enters reset: all work is abandoned, the image is unloaded, memory is lost (05 R134-R136). -/
def State.hardReset (s : State) (powerOn : Bool) : State :=
  { s with
    dev := resetDev s.dev powerOn
    fab := { memDies := if powerOn then [] else s.fab.memDies.map (fun e => (e.1, resetMemDie e.2)) }
    mem := {} }

/-! ## The start of a boot -/

/-- Sets domains to Ivory. -/
def State.toIvory (s : State) (l : List Nat) : State :=
  l.foldl (fun s n => s.onDomain n fun d =>
    { d with target := 0, state := .ivory, request := none, goal := none, moving := none, closingFrames := 0, drainRaised := false }) s

/-- A port whose domain is not on, or whose stage shows not-ready, sends nothing and trains anew (05 R156; 20 R732, R753, R771). -/
def Port.silence (p : Port) : Port :=
  { p with state := if p.state = .lost ∨ p.state = .returned then .lost else .down, trained := false, misses := 0, partnerReady := false,
           partnerHeld := false, sent := [] }

/-- In RESET and ROM the host link is in Detect, the ports send not-ready sequences and the bundles carry no data (05 R156). -/
def State.detach (s : State) : State :=
  let s := s.onHst fun h => { h with linkUp := false }
  let s := s.onLnk fun l => { l with ports := l.ports.map (fun e => (e.1, e.2.silence)) }
  s.onYdi fun y => { y with bundles := y.bundles.map (fun e => (e.1, e.2.detach)) }

/-- The hub domains as a boot starts: in Ivory (04 R100). While a thermal trip stands, the port domains stay in Charcoal, and domains 19, 39
and 45 in Pewter (04 R126; DEDUCED, log 101). -/
def State.bootDomains (s : State) : State :=
  if s.dev.aux.tripHold then
    [19, 39, 45].foldl (fun s n => s.onDomain n fun d => { d with target := 1, state := .pewter }) (s.toIvory [40, 43, 44])
  else s.toIvory [40, 41, 42, 43, 44, 45]

/-- Boot starts at ROM, and boot frame 0 begins (05 R133; 07 R222). -/
def State.startBoot (s : State) : State :=
  let s := s.detach.bootDomains
  let s := s.onBoot fun b => { b with stage := .rom, releaseTick := s.tick, watchdogOn := false }
  s.onNoc fun n => { n with counting := false, frame := 0, bootFrame := 0, frameTick := s.tick, held := false }

/-- Starts the boot when no cause holds the package in reset. -/
def State.tryBoot (s : State) : State := if s.resetCaused then s else s.startBoot

/-- The hottest reading in °C is below the release threshold (05 R137): the reading of the last frame boundary, which no stage RESET
renews (DESIGN CHOICE, log 103). -/
def State.coolEnough (s : State) : Bool := s.dev.pwr.hottest.toNat < 4 * s.dev.pwr.release.toNat

/-- A host-initiated reset's release clears the thermal trip when the part is cool (05 R137, 04 R127). -/
def State.hostReleaseTrip (s : State) : State := if s.coolEnough then s.onAux fun a => { a with tripHold := false } else s

/-- A host-initiated reset whose cause is asserted and released at once (21 R801). -/
def State.hostPulse (s : State) : State :=
  let s := s.hardReset false
  let s := s.onBoot fun b => { b with rcHost := true }
  s.hostReleaseTrip.tryBoot

/-! ## Stops -/

/-- ALERT_N is asserted once, when owned for SMBus alert (05 R157). -/
def State.alert (s : State) : State :=
  if s.dev.shared.alertOwner = 0x01 then s.onAux fun a => { a with alertLow := true } else s

/-- The code of a stage in HUB_BOOT_STATUS (05 R139). -/
def Stage.code : Stage → Nat
  | .reset => 0 | .rom => 1 | .fwVerify => 2 | .dieLink => 3 | .memInit => 4 | .awaitImage => 5 | .imageLoad => 6
  | .running => 7 | .thermalHold => 0xC | .clockFault => 0xD | .recovery => 0xE | .bootFailed => 0xF

/-- Enters RECOVERY: raises RECOVERY_ENTERED with its cause and clears recovery_next (05 R159, R161). -/
def State.enterRecovery (s : State) (cause : Nat) : State :=
  let s := s.onBoot fun b => { b with stage := .recovery, recoveryNext := false, recoveryDue := false }
  (s.pfEvent 6 Codes.RECOVERY_ENTERED cause).alert

/-- Enters BOOT_FAILED from the present stage (05 R140). -/
def State.bootFail (s : State) (err : Code) : State :=
  let at_ := s.dev.boot.stage.code
  let s := s.onBoot fun b => { b with stage := .bootFailed, failCount := satAdd b.failCount 1, lastError := err, failTick := s.tick }
  (s.pfEvent 6 Codes.BOOT_FAILED (at_ + s.dev.boot.failCount.toNat * 2 ^ 4 + err.toNat * 2 ^ 16)).alert

/-- Enters a stage that stops the boot (05 R137, R138). -/
def State.bootStop (s : State) (g : Stage) : State := (s.onBoot fun b => { b with stage := g }).alert

end Sys2Proof.Machine
end

