-- ==== Sys2Proof/Machine/Ops.lean ====
section
/-!
DEFINITION. Operations that several families share: the passing of one hub tick, retries beneath a timeout (09 R364, 23
R842), the ending of a region's or the package's operations by a fault, evacuation, and the release of shared resources.
-/
namespace Sys2Proof.Machine

/-! ## Time -/

/-- One hub tick passes on an idle block (log 7): CLK_TICK counts while the always-on domain is powered and wraps at 2^64
(03 R76, R78), and a fuse command that was not cut off ends (log 11). -/
def hubTick (s : State) : State :=
  if s.powered then
    s.onDev fun d => { d with clk := { d.clk with tick := d.clk.tick + 1 }, sec := { d.sec with busy := d.sec.busy && d.sec.cut } }
  else s

/-! ## Retries beneath a timeout -/

/-- Hub ticks that an operation's timeout has counted (09 R364). -/
def State.timeoutCounted (s : State) (o : Op) : Nat :=
  o.timeoutPaused + (if o.retries = 0 then (s.tick - o.timeoutTick).toNat else 0)

/-- A retry begins on the operation's path: its timeout pauses (09 R364, 23 R842). -/
def State.retryBegin (s : State) (k : OpKey) : State :=
  s.onOp k.1 k.2.1 k.2.2 fun o => { o with timeoutPaused := s.timeoutCounted o, retries := o.retries + 1 }

/-- A retry on the operation's path has ended. -/
def State.retryEnd (s : State) (k : OpKey) : State :=
  s.onOp k.1 k.2.1 k.2.2 fun o => { o with retries := o.retries - 1, timeoutTick := if o.retries = 1 then s.tick else o.timeoutTick }

/-- The owner key of an operation that a command names. -/
def opKey (o : OpRef) : OpKey := (o.region.val, o.queue.val, o.seq)

/-! ## The end of operations by a fault -/

/-- Every operation in flight of a region completes with one status (04 R125; 19 R722, R724). -/
def State.endRegion (s : State) (r : Nat) (code : Code) (fault : BitVec 16) : State :=
  s.finishAll r (s.slots r) code fault

/-- Every operation in flight completes with one status. -/
def State.endAll (s : State) (code : Code) (fault : BitVec 16) : State :=
  s.regionIds.foldl (fun s r => s.endRegion r code fault) s

/-- Whether a segment of the region targets DRAM of a memory die (19 R722). -/
def State.regionUsesDie (s : State) (r m : Nat) : Bool :=
  (s.segments r).any (fun g => !isScratch g.target &&
    (upFrom (g.target / 2 ^ 34) ((g.target + (g.limit - g.base)) / 2 ^ 34 - g.target / 2 ^ 34 + 1)).any (fun q => s.dieAt q = some m))

/-- Fabric work stops (03 R85, 19 R724). -/
def State.stopFabric (s : State) : State := s.onAux fun a => { a with fabricStopped := true }

/-! ## Shared resources (02 R48-R54) -/

/-- SYNC_OUT is driven low while unowned (02 R43, R48). -/
def State.syncOutRest (s : State) : State :=
  if s.dev.shared.syncOutOwner = 0 then s.onPins fun p => { p with syncOutHigh := false } else s

/-- Releases the shared resources that a region owns: by its torn-down state or region reset (02 R51, 05 R162). -/
def State.releaseShared (s : State) (r : Nat) : State :=
  State.syncOutRest <| s.onShared fun h =>
    let mine := BitVec.ofNat 8 (0x20 + r)
    { h with
      syncInOwner := if h.syncInOwner = mine then 0 else h.syncInOwner
      syncOutOwner := if h.syncOutOwner = mine then 0 else h.syncOutOwner
      timers := h.timers.filter (fun t => t.2.1 ≠ r)
      visBuf := h.visBuf.filter (fun t => t.2.1 ≠ r) }

/-- The region's timeout timer: the lowest-numbered tick timer that it owns with feature 0x01 (09 R365). -/
def State.timeoutTimer (s : State) (r : Nat) : Option Nat :=
  (s.dev.shared.timers.find? (fun t => t.2.1 = r && t.2.2 = 1)).map (·.1)

/-- ALERT_N is low: asserted for SMBus alert, or held as throttle request while the level is above 0 (04 R124). -/
def State.alertLow (s : State) : Bool :=
  if s.dev.shared.alertOwner = 0x02 then s.dev.pwr.level ≠ 0 else s.dev.aux.alertLow

/-- A region's key is drawn anew (22 R829): a free value, since no one may know it (log 108). -/
def State.newKey (s : State) (r : Nat) : State :=
  (s.onFab fun b => { b with keys := Tab.set b.keys r (BitVec.ofNat 512 (s.freeVal r)) }).bump

/-! ## Presence (04 R89, 19 R702) -/

/-- Whether a memory die is fitted (01 R15, R16). -/
def State.fitted (s : State) (m : Nat) : Bool := m < 6 && (s.part.grade = .ae7_960 || (m ≠ 2 && m ≠ 5))

/-- Whether a power domain is present (04 R89): the domain of a memory die that is not fitted, or that a DIE_LINK stage left absent, is
not. -/
def State.domPresent (s : State) (n : Nat) : Bool :=
  if 46 ≤ n && n ≤ 51 then s.fitted (n - 46) && !(s.memDie (n - 46)).absent
  else n ≤ 51 || n = 63

/-- The logical rows of the part (06 R171). -/
def State.partRows (s : State) : Nat := if s.part.grade = .ae7_960 then 16 else 12

end Sys2Proof.Machine
end

