-- ==== Sys2Proof/Machine/Domains.lean ====
section
/-!
DEFINITION. Power domains (04 R88-R110): their kinds, states, owners and dependencies, what entering a state loses or restores, and the
chain of a transition; the loader's writes of index tables (10 R388, R407, R408), which a domain's return repeats (04 R96).
-/
namespace Sys2Proof.Machine

/-! ## The loader's tables -/

/-- Writes bytes by the loader, which no protection stops. -/
def State.loaderWrite (s : State) (a : Nat) (bs : List Byte) : State :=
  s.onMem fun m => (m.writeCells (bs.zipIdx.map (fun p => (a + p.2, p.1)))).1

/-- Writes an INDEX_TABLE body into its site (10 R388, R407, R408). -/
def State.writeTable (s : State) (t : IndexTable) : State :=
  let at_ (off : Nat) : Nat := scratchAddr t.die t.site off
  let n := t.streams.length
  if t.kind = 1 then s.loaderWrite (at_ 0xC2000) (t.body.take (16 * n))
  else if t.kind = 2 then
    (s.loaderWrite (at_ 0xC2400) (t.body.take (16 * n))).loaderWrite (at_ 0xC4000) (t.body.drop (16 * n))
  else s.loaderWrite (at_ t.base) t.body

/-- Writes the tables of the sites that a condition selects. -/
def State.writeTables (s : State) (p : IndexTable → Bool) : State :=
  (s.fab.body.indexTables.filter p).foldl (fun s t => s.writeTable t) s

/-! ## Domains (04 R88-R99) -/

/-- Whether a domain is a site block. -/
def isBlock (n : Nat) : Bool := n < 17 || (20 ≤ n && n < 37)
/-- Whether it is a vision engine. -/
def isEngine (n : Nat) : Bool := n = 17 || n = 18 || n = 37 || n = 38
/-- Whether it is a memory die. -/
def isMemDomain (n : Nat) : Bool := 46 ≤ n && n ≤ 51

/-- The edge and YDI domain that a block, engine or memory die depends on (04 R97, R98). -/
def edgeOf (n : Nat) : Option Nat :=
  if n < 19 then some 19 else if 20 ≤ n ∧ n < 39 then some 39
  else if 46 ≤ n ∧ n ≤ 48 then some 19 else if 49 ≤ n ∧ n ≤ 51 then some 39 else none

/-- A state code's state. -/
def pstate? (c : Nat) : Option PState :=
  match c with
  | 0 => some .ivory | 1 => some .pewter | 2 => some .ash | 3 => some .charcoal | _ => none

/-- Whether a domain supports a state (04 R88). -/
def supports (n : Nat) (t : PState) : Bool :=
  match t with
  | .ivory => true
  | .pewter => isBlock n || isEngine n || isMemDomain n || n = 19 || n = 39 || n = 41 || n = 42 || n = 45
  | .ash => isBlock n
  | .charcoal => isBlock n || isEngine n || isMemDomain n || n = 41 || n = 42
  | .closing => false

/-- Domains whose requests firmware alone makes, and the always-on domain (04 R88). -/
def switchable (n : Nat) : Bool := n ≤ 51 && n ≠ 40 && n ≠ 43 && n ≠ 44

/-- The owner that PWR_DOMAIN_n reads (04 R129). -/
def State.domOwner (s : State) (n : Nat) : Nat :=
  if isBlock n || isEngine n then (if s.fab.image.isSome then s.image.powerOwners.getD n 0xFF else 0xFF)
  else if switchable n && s.domPresent n then 0x40 else 0xFF

/-- The mapped sites of a block. -/
def State.blockKeys (s : State) (n : Nat) : List Nat :=
  (s.fab.siteMap.filter (fun e => e.1 / 256 = n / 20 && e.2 % 17 = n % 20)).map (·.1)

/-- Ports of a Rincen port domain (20 R729). -/
def domPorts (n : Nat) : List Nat := if n = 41 then [0, 1, 2, 3] else if n = 42 then [4, 5, 6, 7] else []

/-- Clears the banks of a site that a mask does not retain (04 R94, R95). -/
def Mem.clearBanks (m : Mem) (key : Nat) (keep : BitVec 16) : Mem :=
  (List.range 16).foldl (fun m b =>
    if keep.getLsbD b then m
    else m.clearRange (scratchAddr (key / 256) (key % 256) (b * 0x10000)) (scratchAddr (key / 256) (key % 256) ((b + 1) * 0x10000))) m

/-- What a domain loses on entry to Ash or Charcoal (04 R90, R94, R95). -/
def State.losePower (s : State) (n : Nat) (ash : Bool) : State :=
  let keep := if ash then (s.domain n).retain else 0
  let keys := s.blockKeys n
  let s := if isBlock n then
      let s := s.onMem fun m => keys.foldl (fun m k => m.clearBanks k keep) m
      keys.foldl (fun s k => s.onSite k fun x =>
        { x with threads := [], spin := {}, sfu := { x.sfu with holder := none }, mat := { x.mat with array := none, shadow := none } }) s
    else s
  let s := if isMemDomain n && (s.memDie (n - 46)).present then
      let q := (s.memDie (n - 46)).position.toNat
      s.onMem fun m => m.forget (q * 2 ^ 34) ((q + 1) * 2 ^ 34)
    else s
  (domPorts n).foldl (fun s p => s.onPort p Port.silence) s

/-- A domain enters a state at a frame boundary, with what it loses or has restored (04 R94-R96). -/
def State.enter (s : State) (n : Nat) (t : PState) : State :=
  let was := (s.domain n).state
  let s := s.onDomain n fun d => { d with state := t }
  match t with
  | .ash => s.losePower n true
  | .charcoal => s.losePower n false
  | .pewter => (domPorts n).foldl (fun s p => s.onPort p Port.silence) s
  | .ivory =>
    if was = .ash ∨ was = .charcoal then
      let keep := if was = .ash then (s.domain n).retain else 0
      let s := s.onMem fun m => (s.blockKeys n).foldl (fun m k => m.clearBanks k keep) m
      s.writeTables (fun x => (s.blockKeys n).contains (siteKey x.die x.site))
    else s
  | .closing => s

/-- Whether some operation that the domain accepted is in flight (04 R104, R108). -/
def State.domainBusy (s : State) (n : Nat) : Bool :=
  s.regionIds.any (fun r => (s.slots r).any (fun sl => sl.op.accepted.any (·.1 = n)))

/-! ## Transitions (04 R91, R92, R104-R106) -/

/-- Whether a state is reachable from the present one (04 R92). -/
def reachable (now t : PState) : Bool :=
  match now, t with
  | .ash, .pewter => false
  | .charcoal, .pewter => false
  | .charcoal, .ash => false
  | _, _ => true

/-- Frames of a transition (04 R104). -/
def frames (now t : PState) : Nat :=
  match now, t with
  | .pewter, .ivory => 0
  | .ash, .ivory => 2
  | .charcoal, .ivory => 3
  | _, _ => 1

/-- A domain begins to close: an operation whose first packet has not reached it in an earlier slot is not accepted (04 R107). -/
def State.shut (s : State) (n : Nat) (goal : PState) : State :=
  let keep (o : Op) : Op := { o with accepted := o.accepted.filter (fun e => e.1 ≠ n || e.2 < s.slotCount) }
  let s := s.onFab fun b => { b with regions := b.regions.map (fun e => (e.1, { e.2 with sched := { e.2.sched with
    slots := e.2.sched.slots.map (fun sl => { sl with op := keep sl.op }) } })) }
  s.onDomain n fun d => { d with state := .closing, goal := some goal, moving := none, closingFrames := 0, drainRaised := false }

/-- Begins the chain to an allowed state (04 R104-R106). -/
def State.begin_ (s : State) (n : Nat) (t : PState) : State :=
  let d := s.domain n
  match d.state with
  | .closing =>
    if t = .ivory then s.onDomain n fun d => { d with state := .ivory, goal := none, moving := none, closingFrames := 0, drainRaised := false }
    else s.onDomain n fun d => { d with goal := some t }
  | .ivory =>
    if t = .ivory then s else s.shut n t
  | now =>
    if now = t then s.onDomain n fun d => { d with moving := none, goal := none }
    else if frames now t = 0 then (s.onDomain n fun d => { d with moving := none, goal := none }).enter n t
    else if d.moving.any (fun m => m.1 = t) then s
    else s.onDomain n fun d => { d with moving := some (t, frames now t), goal := none }

/-- The domains of site blocks and engines that a region owns in the power plan (06 R188). -/
def State.ownedDomains (s : State) (r : Nat) : List Nat :=
  (List.range 39).filter (fun n => n ≠ 19 && s.image.powerOwners.getD n 0xFF = r && s.fab.image.isSome)

/-- The region is evacuated: its operations end, its domains close and it takes no doorbell (19 R722). -/
def State.evacuate (s : State) (r : Nat) (code : Code) (fault : BitVec 16) : State :=
  let s := s.endRegion r code fault
  let s := (s.ownedDomains r).foldl (fun s n =>
    if (s.domain n).state = .ivory then (s.onDomain n fun d => { d with target := 1 }).shut n .pewter else s) s
  s.onSched r fun g => { g with noDoorbell := true }

end Sys2Proof.Machine
end

