-- ==== Sys2Proof/Machine/Ydi.lean ====
section
/-!
DEFINITION. The Yunarik die-to-die interface (19): bundles, lanes, retirement, width, hosts, retries, and the loss of a
memory die or a path.
-/
namespace Sys2Proof.Machine

/-! ## Bundles (19 R701, R702, R711, R717) -/

/-- First bundle and size of the group of bundle `b`. -/
def bundleGroup (b : Nat) : Nat × Nat :=
  if b < 32 then (b / 4 * 4, 4) else (32, 8)

/-- The bundles of a group. -/
def groupMembers (b : Nat) : List Nat := upFrom (bundleGroup b).1 (bundleGroup b).2

/-- The memory die whose group holds a bundle, or none for a hub or die-to-die bundle. -/
def bundleDie (b : Nat) : Option Nat :=
  if b < 12 then some (b / 4) else if 16 ≤ b ∧ b < 28 then some (3 + (b - 16) / 4) else none

/-- Whether the part has the bundle. -/
def State.bundlePresent (s : State) (b : Nat) : Bool :=
  match bundleDie b with
  | some m => s.fitted m
  | none => true

/-- The number of set bits. -/
def popLanes (x : BitVec 36) : Nat := ((List.range 36).filter (fun i => x.getLsbD i)).length

/-- Working lanes (19 R709). -/
def Bundle.working (u : Bundle) : List Nat := (List.range 36).filter (fun i => !u.retired.getLsbD i)

/-- The width code of a number of working lanes (19 R711). -/
def widthCode (n : Nat) : Nat := if 32 ≤ n then 3 else if 24 ≤ n then 2 else if 16 ≤ n then 1 else 0

/-- Lanes of a width code. -/
def widthLanes (c : Nat) : Nat := if c = 3 then 32 else if c = 2 then 24 else if c = 1 then 16 else 0

/-- Lanes that stand until the next boundary: those that work, and data lanes retired since the last one (19 R710). -/
def Bundle.standing (u : Bundle) : List Nat := (List.range 36).filter (fun i => !u.retired.getLsbD i || u.pendingLanes.contains i)

/-- The data lanes in force: the lowest-numbered standing lanes, counted to the width (19 R709, R710). -/
def Bundle.dataLanes (u : Bundle) : List Nat := u.standing.take (widthLanes u.width.toNat)

/-- Spare lanes (19 R709). -/
def Bundle.spares (u : Bundle) : Nat := if u.width = 0 then 0 else u.working.length - widthLanes u.width.toNat

def State.bundleOnline (s : State) (b : Nat) : Bool := (s.bundle b).width ≠ 0

/-- Whether the edge domain of a bundle's fabric die keeps its lock; a bundle between the dies needs both (03 R86). -/
def State.bundleLocked (s : State) (b : Nat) : Bool := if b < 16 then s.islandUp 19 else if b < 32 then s.islandUp 39 else s.islandUp 19 && s.islandUp 39

/-- The bundle that carries the traffic of `b`: itself when online or when its group has none online (19 R717). -/
def State.carriedOn (s : State) (b : Nat) : Nat :=
  if s.bundleOnline b then b
  else
    let g := bundleGroup b
    (((List.range g.2).map (fun i => g.1 + (b - g.1 + i) % g.2)).find? s.bundleOnline).getD b

/-- Whether no bundle of a group is online. -/
def State.groupDown (s : State) (b : Nat) : Bool := (groupMembers b).all (fun c => !s.bundleOnline c)

/-- The detail word of this chapter's events (19 R728). -/
def ydiDetail (b : Nat) (lane : Option Nat) (width die : Nat) : Nat :=
  b + (lane.getD 0x3F) * 2 ^ 6 + width * 2 ^ 12 + die * 2 ^ 14

/-- A class 6 fault of a bundle, reported to the physical function (23 R838, 19 R728). -/
def State.ydiReport (s : State) (code : Code) (b : Nat) (lane : Option Nat) : State :=
  let s := s.assignFault code none (if 16 ≤ b ∧ b < 32 then 1 else 0) none
  s.pfEvent 6 code (ydiDetail b lane (s.bundle b).width.toNat 0)

/-! ## Losses (19 R721-R724) -/

/-- Operations with a packet addressed to a memory die: tasks with a queued access to it. -/
def State.opsTo (s : State) (m : Nat) : List OpKey :=
  s.dev.noc.queues.flatMap fun e => e.2.filterMap fun p =>
    if !isScratch (p.addrs.headD 0) && s.dramDie (p.addrs.headD 0) = some m then some (e.1 / 65536, p.queue, p.seq) else none

/-- The die whose bundles are all offline is lost (19 R721). -/
def State.loseDie (s : State) (m b : Nat) : State :=
  let s := s.assignFault Codes.DDI_DIE_LOST none (m / 3) none
  let id := s.lastFault
  let s := s.eventAll (s.regionIds.filter (fun r => s.regionUsesDie r m)) 6 Codes.DDI_DIE_LOST (ydiDetail b none 0 m)
  let s := s.onMemDie m fun d => { d with lost := true, lostFault := id }
  (s.opsTo m).foldl (fun s k => s.latch k.1 k.2.1 k.2.2 Codes.DDI_DIE_LOST 0 id) s

/-- A path between dies is lost: every operation ends and fabric work stops (19 R724). -/
def State.losePath (s : State) (b : Nat) : State :=
  let s := s.assignFault Codes.DDI_PATH_LOST none (if 16 ≤ b ∧ b < 32 then 1 else 0) none
  let id := s.lastFault
  let s := s.eventAll s.regionIds 6 Codes.DDI_PATH_LOST (ydiDetail b none 0 0)
  (s.endAll Codes.DDI_PATH_LOST id).stopFabric

/-- What follows when a bundle has gone offline while running (19 R721, R724). -/
def State.afterOffline (s : State) (b : Nat) : State :=
  if s.groupDown b then
    match bundleDie b with
    | some m => if (s.memDie m).lost then s else s.loseDie m b
    | none => s.losePath b
  else s

/-- Regions with a segment on a lost die are evacuated at the frame boundary (19 R722). -/
def State.evacuateLost (s : State) : State :=
  (List.range 6).foldl (fun s m =>
    if (s.memDie m).lost then
      (s.regionIds.filter (fun r => s.regionUsesDie r m && !(s.region r).sched.noDoorbell)).foldl
        (fun s r => s.evacuate r Codes.DDI_DIE_LOST (s.memDie m).lostFault) s
    else s) s

/-! ## Width changes -/

/-- Applies what waits on a bundle at a frame boundary (19 R710, R713, R714). -/
def State.applyBundleChange (s : State) (b : Nat) : State :=
  let u := s.bundle b
  let w := if u.sidebandPending || u.sideband then 0 else min u.width.toNat (widthCode u.working.length)
  let s1 := s.onBundle b fun v =>
    { v with width := BitVec.ofNat 2 w, changeFrame := some s.frame, pendingLanes := [], sidebandPending := false, sideband := v.sideband || v.sidebandPending }
  let left (i : Nat) : Nat := u.working.length + (u.pendingLanes.length - 1 - i)
  let spared := (u.pendingLanes.zipIdx.filter (fun p => widthLanes u.width.toNat ≤ left p.2)).map (·.1)
  let s1 := spared.foldl (fun s l => s.ydiReport Codes.DDI_LANE_RETIRED b (some l)) s1
  if w < u.width.toNat then
    let lane := u.pendingLanes.getLast?
    let s2 := s1.ydiReport (if w = 0 then Codes.DDI_BUNDLE_OFFLINE else Codes.DDI_DEGRADED) b (if u.sidebandPending then none else lane)
    if w = 0 then
      s2.onMemDie ((bundleDie b).getD 6) (fun d => if (bundleDie b).isSome then { d with online := d.online &&& ~~~ (1#4 <<< (b % 4)) } else d) |>.afterOffline b
    else s2
  else s1

/-- Retires lane `l` of a running bundle (19 R706, R708, R710). -/
def State.retireLane (s : State) (b l : Nat) : State :=
  let u := s.bundle b
  if u.retired.getLsbD l then s
  else
    let isData := u.dataLanes.contains l
    let s := { s with flash := { s.flash with unwritten := s.flash.unwritten ++ [(b, l)] } }
    let s := s.onBundle b fun v =>
      { v with retired := v.retired ||| (1#36 <<< l), retiredRun := satAdd v.retiredRun 1,
               pendingLanes := if isData then v.pendingLanes ++ [l] else v.pendingLanes }
    if isData then s else s.ydiReport Codes.DDI_LANE_RETIRED b (some l)

/-- The lane-error threshold and the retry budget; 0 acts as 1 (19 R726). -/
def Ydi.threshold (y : Ydi) : Nat := max 1 y.errThreshold.toNat
def Ydi.budget (y : Ydi) : Nat := max 1 y.retryBudget.toNat

/-- Counts the failed lane checks of one packet and retires the lanes that reach the threshold (19 R704, R706). -/
def State.countLanes (s : State) (b : Nat) (fails : BitVec 36) : State :=
  (List.range 36).foldl (fun s l =>
    if fails.getLsbD l && (s.bundle b).standing.contains l then
      let s := s.onBundle b fun u => { u with laneErr := Tab.modify 0 u.laneErr l (· + 1) }
      if s.dev.ydi.threshold ≤ Tab.get 0 (s.bundle b).laneErr l then s.retireLane b l else s
    else s) s

/-- The failed attempts of an operation's packet on a bundle. -/
def attemptsOf (l : List (OpKey × Nat)) (k : OpKey) : Nat := ((l.find? (fun e => e.1 = k)).map (·.2)).getD 0

/-- One packet of an operation is checked at the receiver (19 R703-R705, R720). -/
def State.ydiPacket (s : State) (b : Nat) (crcOk : Bool) (fails : BitVec 36) (k : OpKey) : State :=
  let s := s.countLanes b fails
  let n := attemptsOf (s.bundle b).retrying k
  if crcOk then
    if n = 0 then s
    else (s.onBundle b fun u => { u with retrying := u.retrying.filter (fun e => e.1 ≠ k) }).retryEnd k
  else
    let s := s.onBundle b fun u => { u with crcFail := satAdd u.crcFail 1 }
    let s := if n = 0 then s.retryBegin k else s
    if n + 1 ≥ s.dev.ydi.budget then
      let s := (s.onBundle b fun u => { u with retrying := u.retrying.filter (fun e => e.1 ≠ k) }).retryEnd k
      let s := s.assignFault Codes.DDI_RETRY_EXHAUSTED (some k.1) (if 16 ≤ b ∧ b < 32 then 1 else 0) none
      let id := s.lastFault
      let s := s.bothEvent k.1 6 Codes.DDI_RETRY_EXHAUSTED (ydiDetail b none (s.bundle b).width.toNat 0)
      s.latch k.1 k.2.1 k.2.2 Codes.DDI_RETRY_EXHAUSTED 0 id
    else
      let s := s.onBundle b fun u =>
        { u with retrying := (k, n + 1) :: u.retrying.filter (fun e => e.1 ≠ k), deferrals := satAdd u.deferrals 1 }
      s.disturb k.1 k.2.1 k.2.2

/-! ## Training at DIE_LINK (05 R145-R148) -/

/-- One bundle trains and selects its lanes (05 R145, 19 R707, R711, R712). -/
def State.trainBundle (s : State) (b : Nat) (trained : BitVec 36) : State :=
  if !s.bundlePresent b || (s.dev.aux.tripHold && (bundleDie b).isSome) then s
  else
    let rec_ := Tab.get 0 s.flash.retired b
    let failed := ~~~ trained &&& ~~~ rec_
    let fresh := (List.range 36).filter (fun l => failed.getLsbD l)
    let ret := rec_ ||| failed
    let s := s.onBundle b fun u =>
      { crcFail := u.crcFail, deferrals := u.deferrals, retiredRun := 0, retired := ret, width := BitVec.ofNat 2 (widthCode (36 - popLanes ret)) }
    let s := { s with flash := { s.flash with unwritten := s.flash.unwritten ++ fresh.map (fun l => (b, l)) } }
    let w := (s.bundle b).width.toNat
    if w = 3 then s
    else s.ydiReport (if w = 0 then Codes.DDI_BUNDLE_OFFLINE else Codes.DDI_DEGRADED) b none

/-- Marks the memory dies present with their positions, in the order D0 to D5 (05 R147, 08 R259, 04 R100). -/
def State.placeDies (s : State) : State :=
  ((List.range 6).foldl (fun (p : State × Nat) m =>
    let s := p.1
    let first := if m < 3 then 4 * m else 16 + 4 * (m - 3)
    let on := (List.range 4).filter (fun k => s.bundleOnline (first + k))
    if s.fitted m && !(s.memDie m).absent && !on.isEmpty then
      (s.onMemDie m fun d => { d with present := true, position := BitVec.ofNat 3 p.2, lost := false, lostFault := 0, online := BitVec.ofNat 4 ((on.map (2 ^ ·)).sum) }, p.2 + 1)
    else
      ((s.onMemDie m fun d => { d with present := false, absent := !s.dev.aux.tripHold, position := 0, online := 0, lost := false, lostFault := 0 }).onDomain
        (46 + m) fun d => { d with target := 3, state := .charcoal }, p.2))
    (s, 0)).1

/-- Whether a path that every boot needs has no bundle online (05 R148). -/
def State.pathDown (s : State) : Bool := s.groupDown 12 || s.groupDown 28 || s.groupDown 32

/-! ## Meanings -/

/-- YDI_PACKET_RECEIVE (19 R703-R706, R720): a packet of an operation arrives on a bundle with its checks. -/
def execYdiPacketReceive (b : BundleId) (crcOk : Bool) (laneFails : BitVec 36) (o : OpRef) (s : State) : Host.Outcome State Fault Refusal :=
  .next (s.flashEffect fun s => s.whenP (s.bundleOnline b.val && s.bundleLocked b.val) fun s => s.ydiPacket b.val crcOk laneFails (opKey o))

/-- YDI_ERROR_WINDOW (19 R706, R726): at a frame number that begins a window, every lane count returns to 0 and a write of
YDI_CFG takes effect. -/
def execYdiErrorWindow (s : State) : Host.Outcome State Fault Refusal :=
  .next (s.effect fun s => s.whenP (s.atFrame && s.frame % 2 ^ s.dev.ydi.windowLog2.toNat = 0) fun s =>
    s.onYdi fun y =>
      let y : Ydi := { y with bundles := y.bundles.map (fun (e : Nat × Bundle) => (e.1, { e.2 with laneErr := [] })) }
      match y.cfgNext with
      | none => y
      | some v => { y with errThreshold := v.extractLsb' 0 8, windowLog2 := v.extractLsb' 8 4, retryBudget := v.extractLsb' 12 4, cfgNext := none })

/-- BUNDLE_WIDTH_CHANGE (19 R710-R717, R721, R724): at a frame boundary, a bundle whose lanes were retired, or whose clock
or sideband pair failed, takes its new data lanes and width. -/
def execBundleWidthChange (b : BundleId) (s : State) : Host.Outcome State Fault Refusal :=
  .next (s.effect fun s =>
    s.whenP (s.atFrame && s.bundleOnline b.val && (!(s.bundle b.val).pendingLanes.isEmpty || (s.bundle b.val).sidebandPending)) fun s =>
      s.applyBundleChange b.val)

/-- BUNDLE_SIDEBAND_FAIL (19 R714): the forwarded clock pair or sideband pair of a bundle fails; it goes offline at the next
frame boundary. -/
def execBundleSidebandFail (b : BundleId) (s : State) : Host.Outcome State Fault Refusal :=
  .next (s.effect fun s => s.whenP (s.bundleOnline b.val) fun s => s.onBundle b.val fun u => { u with sidebandPending := true })

/-- LANE_RECORD_WRITE (19 R708): the oldest retirement not yet recorded enters the boot-flash record, in a background slot. -/
def execLaneRecordWrite (s : State) : Host.Outcome State Fault Refusal :=
  .next (s.flashEffect fun s => s.whenP (s.bgFree 0 12 s.slot) fun s =>
    match s.flash.unwritten with
    | [] => s
    | (b, l) :: t => { s.bgServed 0 12 .wearLevelling with flash := { s.flash with unwritten := t, retired := Tab.modify 0 s.flash.retired b (fun x => x ||| (1#36 <<< l)) } })

/-- YDI_CFG_WRITE (19 R726): the write takes effect at the start of the next window. -/
def execYdiCfgWrite (v : Word) (s : State) : Host.Outcome State Fault Refusal :=
  .next (s.effect fun s => s.whenP (s.pfReach false) fun s => s.onYdi fun y => { y with cfgNext := some v })

end Sys2Proof.Machine
end

