-- ==== Sys2Proof/Machine/Boot.lean ====
section
/-!
DEFINITION. The rail and the package resets (26 R907-R910; 05 R131-R138), and the boot stages from release of reset to
AWAIT_IMAGE (05 R139-R148).
-/
namespace Sys2Proof.Machine

/-! ## Firmware (05 R143, 22 R811) -/

/-- Whether a firmware copy verifies (22 R811). -/
def State.copyVerifies (s : State) (c : Option FwCopy) : Bool :=
  match c with
  | none => false
  | some c => !s.fuses.fwRevoked.getLsbD c.keySlot.val && c.keyMatches && c.sigOk && s.fuses.fwRollback ≤ c.version.toNat

def State.activeCopy (s : State) : Option FwCopy := if s.flash.activeB then s.flash.copyB else s.flash.copyA
def State.otherCopy (s : State) : Option FwCopy := if s.flash.activeB then s.flash.copyA else s.flash.copyB

/-- Firmware has started: the stage after FW_VERIFY (04 R100, R126; 05 R138). -/
def State.leaveFwVerify (s : State) : State :=
  if s.dev.clk.resFault then s.bootStop .clockFault
  else
    let mems := ((List.range 6).filter (fun m => s.domPresent (46 + m))).map (46 + ·)
    (if s.dev.aux.tripHold then s else s.toIvory ([19, 39] ++ mems)).onBoot fun b => { b with stage := .dieLink }

/-- FW_VERIFY ends (05 R143, R144). -/
def State.fwVerify (s : State) : State :=
  if s.copyVerifies s.activeCopy then s.leaveFwVerify
  else if s.copyVerifies s.otherCopy then
    let s := { s with flash := { s.flash with activeB := !s.flash.activeB } }
    (s.pfEvent 6 Codes.FW_FALLBACK (b2n s.flash.activeB)).leaveFwVerify
  else (s.pfEvent 6 Codes.BOOT_FW_INVALID 0).enterRecovery 1

/-- DIE_LINK ends (05 R145-R148, R137). -/
def State.dieLink (s : State) (trained : List (BitVec 36)) : State :=
  let s := (List.range 40).foldl (fun s b => s.trainBundle b (trained.getD b 0)) s
  let s := s.placeDies
  if s.pathDown then (s.bootFail (BitVec.ofNat 16 (s.freeVal 0))).bump
  else if s.dev.aux.tripHold then s.bootStop .thermalHold
  else s.onBoot fun b => { b with stage := .memInit }

/-- MEM_INIT ends: the regions' keys are generated and DRAM is zero-filled, or the random generator's health tests fail (05 R136, R139,
R141; 22 R823, R824, R829). -/
def State.memInit (s : State) (rngOk : Bool) : State :=
  let s := s.onSec fun c => { c with rngOk := rngOk }
  if rngOk then
    (((List.range 32).foldl State.newKey s).onMem fun m => m.zeroFill 0 dramTop).onBoot fun b => { b with stage := .awaitImage, failCount := 0 }
  else s.bootFail Codes.SEC_RNG_FAULT

/-! ## Meanings -/

/-- RAIL_POWER_GOOD (26 R907, 05 R131, R133): the rail is above 11.0 V, rising: the power-on cause is released. -/
def execRailPowerGood (mv : BitVec 16) (s : State) : Host.Outcome State Fault Refusal :=
  .next (s.effect fun s =>
    let s := s.onPins fun p => { p with railMv := mv }
    s.whenP (11000 < mv.toNat && s.dev.boot.causeRail) fun s =>
      (s.onBoot fun b => { b with causeRail := false }).tryBoot)

/-- RAIL_UNDERVOLTAGE (26 R910, R914; 05 R131, R134; 19 R708): below 10.8 V the power-on reset is asserted, and retirements
not yet recorded in boot flash are lost. -/
def execRailUndervoltage (mv : BitVec 16) (s : State) : Host.Outcome State Fault Refusal :=
  .next (s.flashEffect fun s =>
    let s := s.onPins fun p => { p with railMv := mv }
    s.whenP (mv.toNat < 10800) fun s =>
      let s := s.onBoot fun b => { b with causeRail := true, causeOver := false }
      { s.hardReset true with flash := { s.flash with unwritten := [] } })

/-- RAIL_OVERVOLTAGE (26 R909, R910): above 13.6 V a power-on cause holds until the rail falls below 13.2 V. -/
def execRailOvervoltage (mv : BitVec 16) (s : State) : Host.Outcome State Fault Refusal :=
  .next (s.effect fun s =>
    let s := s.onPins fun p => { p with railMv := mv }
    s.whenP (13600 < mv.toNat) fun s =>
      (s.onBoot fun b => { b with causeOver := true }).hardReset true)

/-- BOARD_RESET_ASSERT (05 R131, R132, R134, R157): RESET_IN_N is low, for `lowTicks` hub ticks; fewer than 100 are ignored. -/
def execBoardResetAssert (lowTicks : Nat) (s : State) : Host.Outcome State Fault Refusal :=
  .next (s.effect fun s => s.whenP (100 ≤ lowTicks) fun s =>
    (s.onBoot fun b => { b with causeBoard := true }).hardReset false |>.onBoot fun b => { b with rcBoard := true })

/-- HOST_RESET_ASSERT (02 R35; 05 R131, R132, R134): HST_PERST_N is low. -/
def execHostResetAssert (lowTicks : Nat) (s : State) : Host.Outcome State Fault Refusal :=
  .next (s.effect fun s => s.whenP (100 ≤ lowTicks) fun s =>
    (s.onBoot fun b => { b with causeHost := true }).hardReset false |>.onBoot fun b => { b with rcHost := true })

/-- RESET_RELEASE (05 R133, R137): a cause is released; when it is the last, boot starts at ROM. -/
def execResetRelease (cause : ResetCause) (s : State) : Host.Outcome State Fault Refusal :=
  .next (s.effect fun s =>
    match cause with
    | .board => s.whenP s.dev.boot.causeBoard fun s => (s.onBoot fun b => { b with causeBoard := false }).tryBoot
    | .host => s.whenP s.dev.boot.causeHost fun s => ((s.onBoot fun b => { b with causeHost := false }).hostReleaseTrip).tryBoot
    | .overVoltage => s.whenP s.dev.boot.causeOver fun s => (s.onBoot fun b => { b with causeOver := false }).tryBoot)

/-- MGT_VIO_CHANGE (02 R31): MGT_VIO is applied or removed; the MGT and JTAG balls are driven only while it is present. -/
def execMgtVioChange (present : Bool) (s : State) : Host.Outcome State Fault Refusal :=
  .next (s.devEffect fun s => s.onPins fun p => { p with mgtVio := present })

/-- WATCHDOG_EXPIRY (05 R131, R142): the control-core watchdog, which runs from the start of FW_VERIFY, expires: a package reset that
starts the boot again, raised once the host interface is next up. -/
def execWatchdogExpiry (s : State) : Host.Outcome State Fault Refusal :=
  .next (s.effect fun s => s.whenP s.dev.boot.watchdogOn fun s =>
    (((s.hardReset false).onBoot fun b => { b with rcWatchdog := true }).onAux fun a => { a with watchdogPending := true }).tryBoot)

/-- BOOT_ROM_DONE (05 R139, R141, R142, R159, R165): the ROM has read the boot-flash directory. RECOVERY goes before the clock-fault stop of
R138, which follows FW_VERIFY (DESIGN CHOICE, log 104), and every boot enters it while fail_count stays 3 (DESIGN CHOICE, log 105). -/
def execBootRomDone (s : State) : Host.Outcome State Fault Refusal :=
  .next (s.effect fun s => s.whenP (s.dev.boot.stage = .rom) fun s =>
    let s := s.onBoot fun b => { b with autoloadBit := s.flash.autoload.isSome }
    if s.dev.boot.failCount = 3 then s.enterRecovery 0
    else if s.dev.boot.recoveryDue then s.enterRecovery 2
    else s.onBoot fun b => { b with stage := .fwVerify, watchdogOn := true })

/-- FW_VERIFY_DONE (05 R138, R139, R143, R144; 22 R811). -/
def execFwVerifyDone (s : State) : Host.Outcome State Fault Refusal :=
  .next (s.flashEffect fun s => s.whenP (s.dev.boot.stage = .fwVerify) State.fwVerify)

/-- DIE_LINK_DONE (05 R137, R139, R145-R148; 19 R707, R711): the lanes of each bundle that trained are given. -/
def execDieLinkDone (trained : List (BitVec 36)) (s : State) : Host.Outcome State Fault Refusal :=
  if trained.length ≠ 40 then .refused .illFormed
  else .next (s.flashEffect fun s => s.whenP (s.dev.boot.stage = .dieLink) fun s => s.dieLink trained)

/-- MEM_INIT_DONE (05 R139, R141; 22 R823, R824, R829). -/
def execMemInitDone (rngOk : Bool) (s : State) : Host.Outcome State Fault Refusal :=
  .next (s.effect fun s => s.whenP (s.dev.boot.stage = .memInit) fun s => s.memInit rngOk)

/-- Whether a boot stage has a bound (05 R139). -/
def Stage.bounded : Stage → Bool
  | .rom => true | .fwVerify => true | .dieLink => true | .memInit => true | _ => false

/-- The last_error of a boot failure whose code the spec does not give is a free value (log 12). -/
def State.bootTimeout (s : State) : State := (s.bootFail (BitVec.ofNat 16 (s.freeVal 0))).bump

/-- BOOT_STAGE_TIMEOUT (05 R140, R157): a boot stage fails or misses its bound. -/
def execBootStageTimeout (_why : BootFailure) (s : State) : Host.Outcome State Fault Refusal :=
  .next (s.effect fun s => s.whenP s.dev.boot.stage.bounded State.bootTimeout)

/-- BOOT_RESTART (05 R140): 1,000,000 hub ticks after BOOT_FAILED the boot restarts from ROM. -/
def execBootRestart (s : State) : Host.Outcome State Fault Refusal :=
  .next (s.effect fun s => s.whenP (s.dev.boot.stage = .bootFailed) State.startBoot)

end Sys2Proof.Machine
end

