-- ==== Sys2Proof/Machine/ImageParse.lean ====
section
/-!
DEFINITION. The binary format of the configuration image (06 R167-R196) and of the sections that other chapters own
(08 R276; 07 R231, R244, R252; 10 R401-R409; 13 R532; 20 R761): from bytes to the data of State.
-/
namespace Sys2Proof.Machine

/-- Bits of a 32-bit word of a structure. -/
def wf (l : List Byte) (w hi lo : Nat) : Nat := bitsOf (wordAt l w) hi lo
/-- Two words as 64 bits. -/
def w64 (l : List Byte) (w : Nat) : Nat := leAt l (4 * w) 8
/-- Whether `n` words from `w` are all 0. -/
def zeroWords (l : List Byte) (w n : Nat) : Bool := (upFrom w n).all (fun i => wordAt l i = 0)

/-- Consecutive records of `n` bytes. -/
def chunksOf (n : Nat) : Nat → List Byte → List (List Byte)
  | 0, _ => []
  | k + 1, l => sliceBytes l 0 n :: chunksOf n k (l.drop n)

/-- A list with its indices. -/
def indexed {α : Type} (l : List α) : List (Nat × α) := l.zipIdx.map (fun p => (p.2, p.1))

/-- Section types (06 R174). -/
inductive SecType where
  | siteMap | regions | segments | windows | powerPlan | sharedOwn | slotTable | edgeAssign | background | indexTable
  | trees | topology | payload
  deriving DecidableEq, Repr

def secType? (n : Nat) : Option SecType :=
  match n with
  | 1 => some .siteMap | 2 => some .regions | 3 => some .segments | 4 => some .windows | 5 => some .powerPlan
  | 6 => some .sharedOwn | 7 => some .slotTable | 8 => some .edgeAssign | 9 => some .background | 10 => some .indexTable
  | 11 => some .trees | 12 => some .topology | 13 => some .payload | _ => none

/-- A directory entry with its section's bytes (06 R172). -/
structure ImgSec where
  idx : Nat
  typ : Nat
  inst : Nat
  off : Nat
  len : Nat
  count : Nat
  /-- Words 4 to 7 are 0. -/
  clean : Bool
  data : List Byte
  deriving DecidableEq, Repr

def ImgSec.is (x : ImgSec) (t : SecType) : Bool := secType? x.typ = some t

def parseDirEntry (img : List Byte) (i : Nat) (e : List Byte) : ImgSec :=
  let off := wordAt e 1
  let len := wordAt e 2
  { idx := i, typ := wf e 0 15 0, inst := wf e 0 31 16, off := off, len := len, count := wordAt e 3,
    clean := zeroWords e 4 4, data := (img.drop off).take len }

/-- The directory. -/
def parseDir (img : List Byte) : List ImgSec :=
  (indexed (chunksOf 32 (wf img 2 31 16) (img.drop (wordAt img 4)))).map (fun p => parseDirEntry img p.1 p.2)

/-- The sections of a type, in directory order. -/
def secsOf (d : List ImgSec) (t : SecType) : List ImgSec := d.filter (fun x => x.is t)

/-- The fixed-size records of a section. -/
def ImgSec.records (x : ImgSec) (n : Nat) : List (Nat × List Byte) := indexed (chunksOf n x.count x.data)

/-! ## Records -/

def parseRect (l : List Byte) (w : Nat) : Rect :=
  { col0 := wf l w 7 0, row0 := wf l w 15 8, cols := wf l w 23 16, rows := wf l w 31 24 }

def parseRegion (l : List Byte) : RegionDef :=
  { id := wf l 0 7 0, paired := bitAt (wordAt l 0) 8, tolerant := bitAt (wordAt l 0) 9, sfuMinimal := bitAt (wordAt l 0) 10,
    narrow := wf l 0 12 11, die := wf l 0 23 16, rect1 := parseRect l 1, rect2 := parseRect l 2,
    queueFirst := wf l 3 15 0, queueCount := wf l 3 23 16, seed := BitVec.ofNat 64 (w64 l 4) }

def parseSegment (r : Nat) (l : List Byte) : Segment :=
  { region := r, base := leAt l 0 6, limit := leAt l 8 6, target := leAt l 16 6, read := bitAt (wordAt l 6) 0, write := bitAt (wordAt l 6) 1 }

def parseWindow (r : Nat) (l : List Byte) : Window :=
  { region := r, die := wf l 0 8 8, site := wf l 0 7 0, num := wf l 0 11 9, elemLog2 := wf l 0 14 12, base := wf l 1 19 0, length := wf l 2 20 0 }

def parseShared (l : List Byte) : SharedOwn :=
  { resource := wf l 0 7 0, index := wf l 0 15 8, owner := wf l 0 23 16, feature := wf l 0 31 24 }

/-- A slot-table router record. -/
structure RouterRec where
  die : Nat
  kind : Nat
  index : Nat
  attach : Nat
  /-- Reserved bits of the record and its entries are 0. -/
  clean : Bool
  entries : List SlotEntry
  deriving DecidableEq, Repr

def parseSlotEntry (die kind index attach : Nat) (l : List Byte) : SlotEntry :=
  { die := die, kind := kind, index := index, attach := attach, slot := wf l 0 11 0, inPort := wf l 0 14 12, outPort := wf l 0 17 15,
    region := wf l 0 22 18, background := bitAt (wordAt l 0) 23, route := wf l 1 15 0 }

/-- The router records of a SLOT_TABLE section (07 R231), and how many bytes they take. -/
def parseRouters (die : Nat) : Nat → List Byte → List RouterRec × Nat
  | 0, _ => ([], 0)
  | k + 1, l =>
    let n := wf l 0 31 16
    let kind := wf l 0 7 0
    let index := wf l 0 15 8
    let attach := wf l 1 7 0
    let es := chunksOf 8 n (l.drop 8)
    let rest := parseRouters die k (l.drop (8 + 8 * n))
    ({ die := die, kind := kind, index := index, attach := attach,
       clean := wf l 1 31 8 = 0 && es.all (fun e => wf e 0 31 24 = 0 && wf e 1 31 16 = 0),
       entries := es.map (parseSlotEntry die kind index attach) } :: rest.1, 8 + 8 * n + rest.2)

def parseEdge (die : Nat) (l : List Byte) : EdgeAssign :=
  { die := die, router := wf l 0 7 0, slot := wf l 0 19 8, dirIn := bitAt (wordAt l 0) 20, cls := wf l 0 21 21, region := wf l 0 26 22, route := wf l 1 15 0 }

def parseBackground (die : Nat) (l : List Byte) : Background :=
  { die := die, router := wf l 0 7 0, first := wf l 0 19 8, length := wf l 0 26 20, periodLog2 := wf l 0 30 27 }

/-- A stream record: an import's ghost range, or an export's list range (10 R401, R402). -/
def parseStream (isExport : Bool) (l : List Byte) : Stream :=
  { first := if isExport then wf l 0 15 0 else wf l 0 13 0, count := if isExport then wf l 0 31 16 else wf l 0 27 14,
    site := wf l 1 7 0, die := wf l 1 8 8, remote := bitAt (wordAt l 1) 9, package := wf l 2 16 0, route := wf l 3 15 0 }

/-- Whether the reserved bits of a stream record are 0. -/
def streamClean (isExport : Bool) (l : List Byte) : Bool :=
  (isExport || wf l 0 31 28 = 0) && wf l 1 31 10 = 0 && wf l 2 31 17 = 0 && wf l 3 31 16 = 0 &&
    (bitAt (wordAt l 1) 9 || wf l 2 16 0 = 0)

def parseIndexEntry (l : List Byte) : IndexEntry :=
  { site := wf l 0 7 0, die := wf l 0 8 8, row := wf l 0 20 9, entry := wf l 0 26 21, mirror := bitAt (wordAt l 0) 27,
    mSite := wf l 1 7 0, mDie := wf l 1 8 8, mRow := wf l 1 20 9, mEntry := wf l 1 26 21 }

/-- Export-list entries of two bytes. -/
def halves (l : List Byte) : List Nat := (List.range (l.length / 2)).map (fun i => leAt l (2 * i) 2)

def parseIndexTable (r : Nat) (l : List Byte) : IndexTable :=
  let kind := wf l 0 7 0
  let n := wordAt l 1
  let body := l.drop 16
  let streams := if kind = 1 || kind = 2 then (chunksOf 16 n body).map (parseStream (kind = 2)) else []
  { region := r, kind := kind, site := wf l 0 15 8, die := wf l 0 16 16, base := wf l 2 19 0, tableId := wf l 3 3 0,
    streams := streams,
    lists := if kind = 2 then halves (body.drop (16 * n)) else [],
    entries := if kind = 3 || kind = 4 then (chunksOf 8 n body).map parseIndexEntry else [],
    body := body }

/-- The records of a TREES section (13 R532), whether their reserved bits are 0, and their bytes. -/
def parseTrees (r : Nat) : Nat → List Byte → List (Tree × Bool) × Nat
  | 0, _ => ([], 0)
  | k + 1, l =>
    let p := wf l 0 7 0
    let leaves := chunksOf 4 p (l.drop 8)
    let edges := chunksOf 8 (p - 1) (l.drop (8 + 4 * p))
    let clean := wf l 0 31 8 = 0 && wordAt l 1 = 0 && leaves.all (fun e => wf e 0 31 9 = 0) && edges.all (fun e => wordAt e 1 = 0)
    let size := max 8 (12 * p)
    let rest := parseTrees r k (l.drop size)
    (({ region := r, leaves := leaves.map (fun e => (wf e 0 8 8, wf e 0 7 0)), edges := edges.map (fun e => (wf e 0 15 0, wf e 0 31 16)) }, clean) :: rest.1,
      size + rest.2)

/-! ## TOPOLOGY (20 R761) -/

def parseTopoPort (l : List Byte) : TopoPort :=
  { neighbour := wf l 0 16 0, farPort := wf l 0 19 17, used := bitAt (wordAt l 0) 20, rate16 := bitAt (wordAt l 0) 21 }

def parseLink (l : List Byte) : LinkEntry :=
  { linkRoute := wf l 0 15 0, port := wf l 0 18 16, dirIn := bitAt (wordAt l 0) 19, slot := wf l 0 30 20, alternate := bitAt (wordAt l 0) 31,
    forwarded := bitAt (wordAt l 1) 0, fwdPort := wf l 1 3 1, region := wf l 1 8 4, route := wf l 1 31 16, altKey := wf l 2 15 0, raw := l }

def linkClean (l : List Byte) : Bool :=
  wf l 1 15 9 = 0 && wf l 2 31 16 = 0 && wordAt l 3 = 0 &&
  (if bitAt (wordAt l 1) 0 then wf l 1 8 4 = 0 && wf l 1 31 16 = 0 else wf l 1 3 1 = 0) &&
  (bitAt (wordAt l 0) 31 || wf l 2 15 0 = 0)

def parseTopoTrees : Nat → List Byte → List (TopoTree × Bool) × Nat
  | 0, _ => ([], 0)
  | k + 1, l =>
    let n := wordAt l 3
    let es := chunksOf 8 n (l.drop 16)
    let clean := wf l 0 31 5 = 0 && wf l 1 31 17 = 0 && wf l 2 31 18 = 0 && es.all (fun e => wf e 0 31 18 = 0)
    let size := 16 + 8 * n
    let rest := parseTopoTrees k (l.drop size)
    (({ region := wf l 0 4 0, first := wf l 1 16 0, leaves := wf l 2 17 0,
        edges := es.map (fun e => (wf e 0 16 0, bitAt (wordAt e 0) 17, wf e 1 15 0, wf e 1 31 16)) }, clean) :: rest.1, size + rest.2)

def topoLinkCount (l : List Byte) : Nat := wf l 6 15 0
def topoTreeCount (l : List Byte) : Nat := wf l 6 31 16
def topoAltCount (l : List Byte) : Nat := wf l 7 15 0
def topoTreeBytes (l : List Byte) : List Byte := l.drop (128 + 16 * topoLinkCount l + 8 * topoAltCount l)

def parseTopo (l : List Byte) : Topo :=
  { self := wf l 0 16 0, packages := wf l 1 17 0, kind := wf l 1 19 18, dimX := wf l 3 17 0, dimY := wf l 4 17 0, dimZ := wf l 5 17 0,
    epochK := wf l 2 15 0, systemId := BitVec.ofNat 64 (w64 l 8),
    ports := (chunksOf 8 8 (l.drop 64)).map parseTopoPort,
    links := (chunksOf 16 (topoLinkCount l) (l.drop 128)).map parseLink,
    alts := (chunksOf 8 (topoAltCount l) (l.drop (128 + 16 * topoLinkCount l))).map (fun e => (wf e 0 16 0, wf e 0 19 17)),
    trees := (parseTopoTrees (topoTreeCount l) (topoTreeBytes l)).1.map (·.1) }

/-! ## The whole image -/

/-- Payload section (06 R193). -/
def parsePayload (r : Nat) (l : List Byte) : Payload :=
  { region := r, va := leAt l 0 6, data := (l.drop 16).take (wordAt l 2) }

/-- The header's signature offset. -/
def sigOffset (img : List Byte) : Nat := wordAt img 5
/-- The signature block. -/
def sigBlock (img : List Byte) : List Byte := img.drop (sigOffset img)
/-- The image digest (06 R170). -/
def imageDigest (img : List Byte) : List Byte := sha384 (img.take (sigOffset img))

/-- Every record of the sections of a type, with its section. -/
def recordsOf (d : List ImgSec) (t : SecType) (n : Nat) : List (ImgSec × Nat × List Byte) :=
  (secsOf d t).flatMap (fun x => (x.records n).map (fun p => (x, p.1, p.2)))

def regionDefs (d : List ImgSec) : List RegionDef := (recordsOf d .regions 64).map (fun p => parseRegion p.2.2)

/-- The POWER_PLAN bytes, and the SITE_MAP words. -/
def powerBytes (d : List ImgSec) : List Nat := (((secsOf d .powerPlan).head?.map (·.data)).getD []).map (·.toNat)
def siteMapWord (d : List ImgSec) (w : Nat) : Nat := wordAt (((secsOf d .siteMap).head?.map (·.data)).getD []) w

/-- The accepted image's header and regions. -/
def parseImage (img : List Byte) (d : List ImgSec) : Image :=
  { cols := wf img 6 7 0, rows := wf img 6 15 8, stepping := wf img 6 23 16, clockPlan := wf img 7 7 0, powerPlan := wf img 7 15 8,
    sfuTable := wf img 7 23 16, noiseFn := wf img 7 31 24, sepia := bitAt (wordAt img 8) 0, modeRequired := wf img 8 2 1,
    securityVersion := BitVec.ofNat 32 (wordAt img 9), seed := BitVec.ofNat 64 (w64 img 10), buildId := BitVec.ofNat 64 (w64 img 12),
    keySlot := wf (sigBlock img) 0 7 0, digest := imageDigest img,
    dual0 := BitVec.ofNat 32 (siteMapWord d 0), dual1 := BitVec.ofNat 32 (siteMapWord d 1),
    regions := regionDefs d, powerOwners := powerBytes d }

/-- The accepted image's sections. -/
def parseBody (d : List ImgSec) : ImageBody :=
  { segments := (recordsOf d .segments 32).map (fun p => parseSegment p.1.inst p.2.2)
    windows := (recordsOf d .windows 16).map (fun p => parseWindow p.1.inst p.2.2)
    shared := (recordsOf d .sharedOwn 8).map (fun p => parseShared p.2.2)
    slots := (secsOf d .slotTable).flatMap (fun x => (parseRouters x.inst x.count x.data).1.flatMap (·.entries))
    edges := (recordsOf d .edgeAssign 8).map (fun p => parseEdge p.1.inst p.2.2)
    background := (recordsOf d .background 8).map (fun p => parseBackground p.1.inst p.2.2)
    indexTables := (secsOf d .indexTable).filterMap (fun x => if x.len = 0 then none else some (parseIndexTable x.inst x.data))
    trees := (secsOf d .trees).flatMap (fun x => (parseTrees x.inst x.count x.data).1.map (·.1))
    topo := ((secsOf d .topology).find? (fun x => x.len ≠ 0)).map (fun x => parseTopo x.data)
    payloads := (secsOf d .payload).map (fun x => parsePayload x.inst x.data) }

/-! ## The logical-to-physical map (06 R197-R200) -/

/-- The type code of a physical site: column 16 by its own table (07 R212). -/
def physType (p : Nat) : Nat :=
  if p % 17 < 16 then typeRow (p / 17 % 2 == 1) (p % 17)
  else [0, 1, 3, 0, 2, 1, 0, 3, 4, 0, 1, 2, 0, 3, 1, 0].getD (p / 17) 0

/-- The working physical sites of a type on a die, ascending. -/
def workingPhys (part : Part) (die t : Nat) : List Nat :=
  (List.range 272).filter (fun p => physType p = t && !part.disabled.contains (die * 512 + p))

/-- The logical sites of a type, ascending. -/
def logicalOf (rows t : Nat) : List Nat := (List.range (16 * rows)).filter (fun k => typeCode k = t)

/-- The site map of a die: logical index and physical index (06 R197). -/
def mapDie (part : Part) (rows die : Nat) : List (Nat × Nat) :=
  (List.range 5).flatMap (fun t => (logicalOf rows t).zip (workingPhys part die t))

/-- The whole map, keyed by die × 256 + logical site. -/
def buildSiteMap (part : Part) (rows : Nat) : Tab Nat :=
  (List.range 2).foldl (fun t die => (mapDie part rows die).foldl (fun t p => Tab.set t (siteKey die p.1) p.2) t) []

end Sys2Proof.Machine
end

