-- ==== Sys2Proof/Machine/ImageCheck.lean ====
section
/-!
DEFINITION. Validation steps 1 to 20 of the configuration image (06 R202, R931, R932), in order.
-/
namespace Sys2Proof.Machine

/-- A rejection: what HUB_IMAGE_STATUS and HUB_IMAGE_DETAIL record (06 R932). -/
structure Reject where
  step : Nat
  code : Code
  sec : Nat := 0xFF
  entry : Nat := 0xFFFFFFFF
  deriving DecidableEq, Repr

/-- The first rejection of a list of checks in order. -/
def firstReject (l : List (Option Reject)) : Option Reject := l.findSome? id

/-- A check: the rejection unless the condition holds. -/
def ensure (ok : Bool) (e : Reject) : Option Reject := if ok then none else some e

/-! ## Steps 1 to 6: framing, signature, rollback, reserved fields -/

/-- Step 1: the length (06 R202). -/
def checkLength (n : Nat) : Option Reject := ensure (512 ≤ n && n ≤ 0x10000000) { step := 1, code := Codes.IMAGE_FORMAT }

/-- End of the directory. -/
def dirEnd (img : List Byte) : Nat := wordAt img 4 + 32 * wf img 2 31 16

/-- Step 2 (06 R169, R171). -/
def checkFraming (img : List Byte) (len : Nat) : Option Reject :=
  let n := wf img 2 31 16
  ensure (wordAt img 0 = 0x49374541 && wf img 1 15 0 = 1 && wf img 2 15 0 = 256 && wordAt img 3 = len &&
      wordAt img 4 % 64 = 0 && 256 ≤ wordAt img 4 && sigOffset img % 64 = 0 && sigOffset img + 256 = len &&
      1 ≤ n && n ≤ 64 && dirEnd img ≤ sigOffset img && wf img 8 2 1 ≠ 3)
    { step := 2, code := Codes.IMAGE_FORMAT }

/-- Whether an image key slot is provisioned and not revoked (22 R809, R814). -/
def Fuses.slotUsable (f : Fuses) (k : Nat) : Bool := k < 8 && f.imgValid.getLsbD k && !f.imgRevoked.getLsbD k

/-- Step 3 (22 R814). -/
def checkKey (s : State) (img : List Byte) : Option Reject :=
  ensure (s.fuses.slotUsable (wf (sigBlock img) 0 7 0)) { step := 3, code := Codes.IMAGE_KEY_REVOKED }

/-- The usable key of a slot: the stored key whose hash equals the slot's fuses (22 R808). -/
def State.imageKey (s : State) (k : Nat) : Option (Nat × Nat) :=
  let b := Tab.get [] s.flash.keyStore k
  if b.length = 96 && beNat (sha384 b) = (Tab.get 0 s.fuses.imgHash k).toNat then some (beNat (b.take 48), beNat (b.drop 48)) else none

/-- Step 4 (06 R196, R931; 22 R813). -/
def checkSignature (s : State) (img : List Byte) : Option Reject :=
  let b := sigBlock img
  let ok := match s.imageKey (wf b 0 7 0) with
    | none => false
    | some (x, y) => ecdsaVerify x y (imageDigest img) (beNat (sliceBytes b 4 48)) (beNat (sliceBytes b 52 48))
  ensure (wf b 0 15 8 = 1 && wf b 0 31 16 = 0 && zeroWords b 25 39 && ok) { step := 4, code := Codes.IMAGE_SIG_INVALID }

/-- Step 5. -/
def checkRollback (s : State) (img : List Byte) : Option Reject :=
  ensure (s.fuses.imgRollback ≤ wordAt img 9) { step := 5, code := Codes.IMAGE_ROLLBACK }

/-- Step 6 (06 R931): the header, then the directory. -/
def checkReserved (img : List Byte) (d : List ImgSec) : Option Reject :=
  firstReject (ensure (wf img 6 31 24 = 0 && wf img 8 31 3 = 0 && zeroWords img 14 50) { step := 6, code := Codes.RESERVED_NONZERO } ::
    d.map (fun x => ensure x.clean { step := 6, code := Codes.RESERVED_NONZERO, sec := x.idx }))

/-! ## Step 7: sections (06 R173-R175) -/

def roundUp (n m : Nat) : Nat := (n + m - 1) / m * m

/-- Whether a section's length is the size of its entries (06 R175). -/
def ImgSec.sized (x : ImgSec) : Bool :=
  match secType? x.typ with
  | some .siteMap => x.count = 1 && x.len = 64
  | some .regions => x.count ≤ 32 && x.len = 64 * x.count
  | some .segments => x.count ≤ 64 && x.len = 32 * x.count
  | some .windows => x.len = 16 * x.count
  | some .powerPlan => x.count = 1 && x.len = 64
  | some .sharedOwn => x.len = 8 * x.count
  | some .slotTable => x.len = (parseRouters x.inst x.count x.data).2
  | some .edgeAssign => x.len = 8 * x.count
  | some .background => x.len = 8 * x.count
  | some .indexTable =>
    (x.count = 0 && x.len = 0) ||
      (let k := wf x.data 0 7 0
       let t := parseIndexTable x.inst x.data
       16 ≤ x.len && wordAt x.data 1 = x.count &&
       if k = 1 then x.len = 16 + 16 * x.count
       else if k = 2 then
         16 + 16 * x.count ≤ x.len && (x.len - 16) % 8 = 0 &&
           t.streams.all (fun e => 16 + 16 * x.count + 2 * (e.first + e.count) ≤ x.len)
       else if k = 3 || k = 4 then x.len = 16 + 8 * x.count
       else true)
  | some .trees => x.len = (parseTrees x.inst x.count x.data).2
  | some .topology =>
    (x.count = 0 && x.len = 0) ||
      (64 ≤ x.len && x.count = topoLinkCount x.data + topoAltCount x.data + topoTreeCount x.data &&
       x.len = 128 + 16 * topoLinkCount x.data + 8 * topoAltCount x.data + (parseTopoTrees (topoTreeCount x.data) (topoTreeBytes x.data)).2)
  | some .payload => x.count = 1 && 16 ≤ x.len && x.len = roundUp (16 + wordAt x.data 2) 64
  | none => false

/-- Whether a section's instance is one that its type has (06 R174). -/
def ImgSec.instOk (x : ImgSec) : Bool :=
  match secType? x.typ with
  | some .siteMap => x.inst = 0
  | some .regions => x.inst = 0
  | some .powerPlan => x.inst = 0
  | some .sharedOwn => x.inst = 0
  | some .topology => x.inst = 0
  | some .slotTable => x.inst < 2
  | some .edgeAssign => x.inst < 2
  | some .background => x.inst < 2
  | some _ => x.inst < 32
  | none => false

/-- Types of which an instance may have several sections. -/
def repeats (t : Nat) : Bool := t = 0x000A || t = 0x000D

/-- Whether a die holds a site of any region. -/
def dieUsed (d : List ImgSec) (die : Nat) : Bool :=
  (regionDefs d).any (fun g => g.die = die || g.paired)

/-- Step 7. -/
def checkSections (img : List Byte) (d : List ImgSec) : Option Reject :=
  let bad (i : Nat) : Reject := { step := 7, code := Codes.SECTION_INVALID, sec := i }
  let one (x : ImgSec) : Option Reject :=
    let before := d.take x.idx
    let floor := ((before.filter (fun y => y.len ≠ 0 && x.len ≠ 0)).map (fun y => y.off + y.len)).foldl max (dirEnd img)
    ensure ((secType? x.typ).isSome && x.instOk && x.off % 64 = 0 && floor ≤ x.off && before.all (fun y => y.off ≤ x.off) &&
      x.off + x.len ≤ sigOffset img && x.sized &&
      (repeats x.typ || !before.any (fun y => y.typ = x.typ && y.inst = x.inst))) (bad x.idx)
  firstReject (d.map one ++
    [ensure (!(secsOf d .siteMap).isEmpty && !(secsOf d .regions).isEmpty && !(secsOf d .powerPlan).isEmpty) (bad 0xFF)] ++
    (List.range 2).map (fun die =>
      let t := (secsOf d .slotTable).filter (fun x => x.inst = die)
      if dieUsed d die then ensure (!t.isEmpty) (bad 0xFF) else ensure (t.all (·.len = 0)) (bad ((t.map (·.idx)).headD 0xFF))))

/-! ## Steps 8 to 13: the header's values -/

def checkHeader (s : State) (img : List Byte) : Option Reject :=
  let h := parseImage img []
  firstReject
    [ensure (h.cols = 16 && h.rows = s.partRows) { step := 8, code := Codes.SHAPE_MISMATCH },
     ensure (h.stepping = 1) { step := 9, code := Codes.STEPPING_MISMATCH },
     ensure ([0x21, 0x23, 0x11, 0x13].contains h.clockPlan) { step := 10, code := Codes.CLK_PLAN_UNSUPPORTED },
     ensure ([0x10, 0x11, 0x12, 0x14, 0x15, 0x16].contains h.powerPlan) { step := 11, code := Codes.PWR_PLAN_UNSUPPORTED },
     ensure (((h.sfuTable = 1 && !h.sepia) || (h.sfuTable = 5 && h.sepia)) && h.noiseFn = 1) { step := 12, code := Codes.PROFILE_UNSUPPORTED },
     ensure (h.modeRequired = 0 || (h.modeRequired = 1 && s.dev.aux.slateCtl) || (h.modeRequired = 2 && !s.dev.aux.slateCtl))
       { step := 13, code := Codes.IMAGE_MODE_MISMATCH }]

/-! ## Step 14: site map (06 R176, R177, R199) -/

def checkSiteMap (s : State) (d : List ImgSec) : Option Reject :=
  let rows := s.partRows
  firstReject
    ((secsOf d .siteMap).map (fun x =>
      ensure (zeroWords x.data 2 14 && (rows = 16 || (wf x.data 0 31 24 = 0 && wf x.data 1 31 24 = 0)))
        { step := 14, code := Codes.RESERVED_NONZERO, sec := x.idx, entry := 0 }) ++
    (List.range 2).flatMap (fun die => (List.range 5).map (fun t =>
      ensure ((logicalOf rows t).length ≤ (workingPhys s.part die t).length)
        { step := 14, code := Codes.MAP_SHORTFALL, entry := t + 8 * die })))

/-! ## Step 15: regions (06 R178-R182) -/

def Rect.valid (q : Rect) (rows : Nat) : Bool :=
  1 ≤ q.cols && 1 ≤ q.rows && q.col0 + q.cols ≤ 16 && q.row0 + q.rows ≤ rows

def Rect.hasCol (q : Rect) (c : Nat) : Bool := q.col0 ≤ c && c < q.col0 + q.cols

/-- The die-facing column of a die (07 R213). -/
def facingCol (die : Nat) : Nat := if die = 0 then 15 else 0

def rectsMeet (a b : Rect) : Bool :=
  a.col0 < b.col0 + b.cols && b.col0 < a.col0 + a.cols && a.row0 < b.row0 + b.rows && b.row0 < a.row0 + a.rows

/-- Whether two regions share a logical site or a hardware queue (06 R181). -/
def regionsMeet (a b : RegionDef) : Bool :=
  (List.range 2).any (fun die => rectsMeet (a.rectOn die) (b.rectOn die)) ||
    (a.queueFirst < b.queueFirst + b.queueCount && b.queueFirst < a.queueFirst + a.queueCount)

def regionOk (img : List Byte) (rows : Nat) (before : List RegionDef) (l : List Byte) : Bool :=
  let g := parseRegion l
  g.id < 32 && g.die < 2 && wf l 0 15 13 = 0 && wf l 0 31 24 = 0 && wf l 3 31 24 = 0 && zeroWords l 6 10 && g.narrow ≠ 3 &&
  g.rect1.valid rows &&
  (if g.paired then
     g.rect2.valid rows && g.rect1.row0 = g.rect2.row0 && g.rect1.rows = g.rect2.rows &&
       g.rect1.hasCol (facingCol g.die) && g.rect2.hasCol (facingCol (1 - g.die))
   else wordAt l 2 = 0) &&
  1 ≤ g.queueCount && g.queueCount ≤ 64 && g.queueFirst + g.queueCount ≤ 1024 &&
  !(wf img 8 2 1 = 1 && g.tolerant) &&
  !before.any (fun b => b.id = g.id || regionsMeet b g)

def checkRegions (s : State) (img : List Byte) (d : List ImgSec) : Option Reject :=
  let bad (i e : Nat) : Reject := { step := 15, code := Codes.REGION_INVALID, sec := i, entry := e }
  let defs := regionDefs d
  firstReject (d.map (fun x =>
    if x.is .regions then
      firstReject ((x.records 64).map (fun p =>
        (ensure (regionOk img s.partRows (defs.take p.1) p.2) (bad x.idx p.1)).or
          (ensure ((secsOf d .segments).any (fun y => y.inst = (parseRegion p.2).id)) (bad x.idx 0xFFFFFFFF))))
    else if x.is .segments then ensure (defs.any (fun g => g.id = x.inst)) (bad x.idx 0xFFFFFFFF)
    else none))

/-! ## Step 16: power plan (06 R188-R190, 04 R115) -/

/-- The regions with a mapped logical site in a site block. -/
def blockRegions (s : State) (d : List ImgSec) (block : Nat) : List Nat :=
  let die := block / 20
  let m := mapDie s.part s.partRows die
  (m.filter (fun p => p.2 % 17 = block % 20)).filterMap (fun p => ((regionDefs d).find? (fun g => g.holds die p.1)).map (·.id))

/-- Site blocks. -/
def siteBlocks : List Nat := List.range 17 ++ upFrom 20 17

def checkPower (s : State) (d : List ImgSec) : Option Reject :=
  firstReject ((secsOf d .powerPlan).map (fun x =>
    let own (n : Nat) : Nat := (x.data.getD n 0).toNat
    let bad (c : Code) : Reject := { step := 16, code := c, sec := x.idx, entry := 0 }
    let reg (o : Nat) : Bool := (regionDefs d).any (fun g => g.id = o)
    firstReject
      [ensure (own 19 = 0 && (upFrom 39 25).all (fun n => own n = 0)) (bad Codes.ENTRY_INVALID),
       ensure ((List.range 39).all (fun n => n = 19 || own n < 0x20 || own n = 0x40 || own n = 0xFF)) (bad Codes.ENTRY_INVALID),
       ensure (siteBlocks.all (fun b => !(own b < 0x20) || (blockRegions s d b).all (fun r => r = own b))) (bad Codes.PWR_BLOCK_SHARED),
       ensure (siteBlocks.all (fun b => own b ≠ 0xFF || (blockRegions s d b).isEmpty)) (bad Codes.PWR_BLOCK_UNOWNED),
       ensure ([17, 18, 37, 38].all (fun n => own n = 0x40 || own n = 0xFF || reg (own n))) (bad Codes.ENTRY_INVALID)]))

/-! ## Steps 17 to 19: segments (06 R184-R187) -/

/-- Whether a device range lies wholly in scratchpads of sites of a region (06 R185). -/
def inRegionSites (g : RegionDef) (lo n : Nat) : Bool :=
  isScratch lo && isScratch (lo + n - 1) && scratchDie lo = scratchDie (lo + n - 1) &&
    (upFrom (scratchSite lo) (scratchSite (lo + n - 1) - scratchSite lo + 1)).all (fun k => g.holds (scratchDie lo) k)

def segmentOk (defs : List RegionDef) (r : Nat) (l : List Byte) : Bool :=
  let g := parseSegment r l
  let n := g.limit - g.base + 1
  leAt l 6 2 = 0 && leAt l 14 2 = 0 && leAt l 22 2 = 0 && wf l 6 31 2 = 0 && wordAt l 7 = 0 &&
  g.base ≤ g.limit && g.base % 4096 = 0 && (g.limit + 1) % 4096 = 0 && g.target % 4096 = 0 &&
  (g.target + n ≤ dramTop || (defs.find? (fun x => x.id = r)).any (fun x => inRegionSites x g.target n))

/-- The device range of a DRAM segment. -/
def Segment.devEnd (g : Segment) : Nat := g.target + (g.limit - g.base) + 1

def segmentsMeet (a b : Segment) : Bool :=
  (a.region = b.region && a.base ≤ b.limit && b.base ≤ a.limit) ||
    (a.region ≠ b.region && a.target < dramTop && b.target < dramTop && a.target < b.devEnd && b.target < a.devEnd)

/-- DRAM present at this start (06 R187). -/
def State.dramPresent (s : State) : Nat := ((List.range 6).filter (fun m => (s.memDie m).present)).length * 2 ^ 34

def checkSegments (s : State) (d : List ImgSec) : Option Reject :=
  let recs := recordsOf d .segments 32
  let segs := recs.map (fun p => parseSegment p.1.inst p.2.2)
  let bad (n : Nat) (c : Code) (p : ImgSec × Nat × List Byte) : Reject := { step := n, code := c, sec := p.1.idx, entry := p.2.1 }
  firstReject
    (recs.map (fun p => ensure (segmentOk (regionDefs d) p.1.inst p.2.2) (bad 17 Codes.ENTRY_INVALID p)) ++
     (indexed recs).map (fun q =>
       ensure (!(segs.take q.1).any (fun g => segmentsMeet g (parseSegment q.2.1.inst q.2.2.2))) (bad 18 Codes.SEGMENT_OVERLAP q.2)) ++
     recs.map (fun p =>
       let g := parseSegment p.1.inst p.2.2
       ensure (dramTop ≤ g.target || g.devEnd ≤ s.dramPresent) (bad 19 Codes.MEM_CAPACITY p)))

/-! ## Step 20: windows (08 R277) -/

def windowOk (defs : List RegionDef) (before : List Window) (r : Nat) (l : List Byte) : Bool :=
  let w := parseWindow r l
  let e := 2 ^ w.elemLog2
  wf l 0 31 15 = 0 && wf l 1 31 20 = 0 && wf l 2 31 21 = 0 && wordAt l 3 = 0 &&
  defs.any (fun g => g.id = r && g.holds w.die w.site) && w.elemLog2 ≤ 6 && w.base % e = 0 && w.length % e = 0 &&
  w.base + w.length ≤ 0x100000 &&
  !before.any (fun b => b.die = w.die && b.site = w.site &&
    (b.num = w.num || (b.length ≠ 0 && w.length ≠ 0 && b.base < w.base + w.length && w.base < b.base + b.length)))

def checkWindows (d : List ImgSec) : Option Reject :=
  let recs := recordsOf d .windows 16
  let ws := recs.map (fun p => parseWindow p.1.inst p.2.2)
  firstReject ((indexed recs).map (fun q =>
    ensure (windowOk (regionDefs d) (ws.take q.1) q.2.1.inst q.2.2.2)
      { step := 20, code := Codes.ENTRY_INVALID, sec := q.2.1.idx, entry := q.2.2.1 }))

end Sys2Proof.Machine
end

