-- ==== Sys2Proof/Machine/ImageSchedule.lean ====
section
/-!
DEFINITION. The logical network of a die and validation steps 21 to 24: slot tables, background records, edge assignments
and single owners (06 R191, R202, R931; 07 R214-R219, R224-R232, R239-R246, R252, R253).
-/
namespace Sys2Proof.Machine

/-! ## The network's links (07 R214-R219, R224) -/

/-- Where a port of a router leads. -/
inductive PortEnd where
  /-- The port does not exist. -/
  | absent
  /-- The L client. -/
  | client
  /-- A mesh link: the router and its facing port, for the next slot. -/
  | mesh (x : Router) (port : Nat)
  /-- A memory die: the response is at the same router's X 40 slots later. -/
  | memory
  /-- The boundary router of the other die, 8 slots later. -/
  | across (x : Router)
  /-- H. -/
  | hub
  deriving DecidableEq, Repr

/-- The boundary router that serves a row, and its port to it (07 R218). -/
def boundaryOf (rows r : Nat) : Nat × Nat :=
  if rows = 16 then (r / 2, if r % 2 = 0 then 1 else 3)
  else if r < 8 then (r / 2, if r % 2 = 0 then 1 else 3) else (r - 4, 1)

/-- The row that a boundary router serves on a port. -/
def boundaryRow (rows j port : Nat) : Option Nat :=
  (List.range rows).find? (fun r => boundaryOf rows r = (j, port))

/-- The lowest engine router attached to a site, of (index, attach) pairs. -/
def engineAt (att : List (Nat × Nat)) (k : Nat) : Option Nat := (att.find? (fun a => a.2 = k)).map (·.1)

/-- Where a port of a site router leads (07 R214, R215). -/
def sitePort (rows die : Nat) (att : List (Nat × Nat)) (k port : Nat) : PortEnd :=
  let c := k % 16
  let r := k / 16
  let out := PortEnd.mesh (die, 2, (boundaryOf rows r).1) (boundaryOf rows r).2
  match port with
  | 0 => .client
  | 1 => if r = 0 then .mesh (die, 1, c) 3 else .mesh (die, 0, k - 16) 3
  | 2 => if c < 15 then .mesh (die, 0, k + 1) 4 else if die = 0 then out else .absent
  | 3 => if r + 1 < rows then .mesh (die, 0, k + 16) 1 else .absent
  | 4 => if 0 < c then .mesh (die, 0, k - 1) 2 else if die = 1 then out else .absent
  | 5 => match engineAt att k with
    | some n => .mesh (die, 3, n) 1
    | none => .absent
  | _ => .absent

/-- Whether an edge router has a bundle (07 R217). -/
def hasBundle (rows : Nat) (code : Nat) : Bool := code < 24 && (rows = 16 || !(8 ≤ code && code < 12))

/-- Where a port of an edge router leads (07 R214-R219). -/
def northPort (rows die e port : Nat) : PortEnd :=
  match port with
  | 0 => .client
  | 3 => .mesh (die, 0, e) 1
  | 5 => if e < 12 then (if hasBundle rows e then .memory else .absent) else .hub
  | _ => .absent

def boundaryPort (rows die j port : Nat) : PortEnd :=
  if port = 0 then .client
  else if port = 5 then .across (1 - die, 2, j)
  else if port = 1 ∨ port = 3 then
    match boundaryRow rows j port with
    | some r => .mesh (die, 0, 16 * r + facingCol die) (if die = 0 then 2 else 4)
    | none => .absent
  else .absent

/-- Where a port of a router leads; `att` lists the die's engine routers with their attach sites. -/
def portEnd (rows : Nat) (att : List (Nat × Nat)) (x : Router) (port : Nat) : PortEnd :=
  match x with
  | (die, kind, i) =>
    if kind = 0 then (if i < 16 * rows then sitePort rows die att i port else .absent)
    else if kind = 1 then (if i < 16 then northPort rows die i port else .absent)
    else if kind = 2 then (if i < 8 then boundaryPort rows die i port else .absent)
    else if kind = 3 then
      (if port = 0 then .client
       else if port = 1 then
         match att.find? (fun a => a.1 = i) with
         | some a => .mesh (die, 0, a.2) 5
         | none => .absent
       else .absent)
    else .absent

/-- The same, from the records of both dies. -/
def attachOf (recs : List RouterRec) (die : Nat) : List (Nat × Nat) :=
  (recs.filter (fun r => r.kind = 3 && r.die = die)).map (fun r => (r.index, r.attach))

def RouterRec.router (r : RouterRec) : Router := (r.die, r.kind, r.index)

/-! ## Chains -/

/-- Entries of one route: background or not, region, route identifier. -/
def SlotEntry.sameRoute (a b : SlotEntry) : Bool := a.background == b.background && a.region = b.region && a.route = b.route

/-- The entry at a router with an in-port in a slot. -/
def entryIn (es : List SlotEntry) (x : Router) (port slot : Nat) : Option SlotEntry :=
  es.find? (fun e => e.router = x && e.inPort = port && e.slot = slot % 4096)

/-- The entry that takes what an entry sends (07 R224, R225). -/
def nextEntry (rows : Nat) (recs : List RouterRec) (es : List SlotEntry) (e : SlotEntry) : Option SlotEntry :=
  match portEnd rows (attachOf recs e.die) e.router e.outPort with
  | .mesh x p => entryIn es x p (e.slot + 1)
  | .memory => entryIn es e.router 5 (e.slot + 40)
  | .across x => entryIn es x 5 (e.slot + 8)
  | _ => none

/-- Whether a packet's onward entry exists and is of the same route (07 R232 checks 4 and 5). -/
def sentOn (rows : Nat) (recs : List RouterRec) (es : List SlotEntry) (e : SlotEntry) : Bool :=
  match portEnd rows (attachOf recs e.die) e.router e.outPort with
  | .absent => false
  | .client => true
  | .hub => true
  | _ => (nextEntry rows recs es e).any (fun n => n.sameRoute e)

/-- Whether a mesh in-port is fed by the router on its link (07 R232 check 4, in reverse). -/
def fedBy (rows : Nat) (recs : List RouterRec) (es : List SlotEntry) (e : SlotEntry) : Bool :=
  match portEnd rows (attachOf recs e.die) e.router e.inPort with
  | .absent => false
  | .mesh x p => es.any (fun f => f.router = x && f.outPort = p && f.slot = (e.slot + 4095) % 4096 && f.sameRoute e)
  | _ => true

/-- Whether an entry begins, or ends, at a hub edge router's X (07 R227). -/
def SlotEntry.hubIn (e : SlotEntry) : Bool := e.kind = 1 && 12 ≤ e.index && e.inPort = 5
def SlotEntry.hubOut (e : SlotEntry) : Bool := e.kind = 1 && 12 ≤ e.index && e.outPort = 5
def SlotEntry.isOrigin (e : SlotEntry) : Bool := e.inPort = 0 || e.hubIn
def SlotEntry.isEnd (e : SlotEntry) : Bool := e.outPort = 0 || e.hubOut

/-- The entries of a chain from an entry, at most `n`. -/
def walkChain (rows : Nat) (recs : List RouterRec) (es : List SlotEntry) : Nat → SlotEntry → List SlotEntry
  | 0, _ => []
  | n + 1, e =>
    e :: (if e.isEnd then [] else match nextEntry rows recs es e with
      | some f => walkChain rows recs es n f
      | none => [])

/-- Whether a route's entries form one chain (07 R227, R232 checks 6 and 7). -/
def chainOk (rows : Nat) (recs : List RouterRec) (es : List SlotEntry) (route : List SlotEntry) : Bool :=
  let origins := route.filter (·.isOrigin)
  let ends := route.filter (·.isEnd)
  let hubs := (route.filter (·.hubIn)).length + (route.filter (·.hubOut)).length
  match origins, ends with
  | [o], [f] =>
    let c := walkChain rows recs es route.length o
    c.length = route.length && c.getLast? = some f &&
      (if o.background then 1 ≤ hubs else hubs ≤ 1)
  | _, _ => false

/-! ## Step 21 (07 R232) -/

def rowsOf (l : List RouterRec) : List SlotEntry := l.flatMap (·.entries)

def sortedPairs (l : List SlotEntry) : Bool :=
  (l.zip (l.drop 1)).all (fun p => p.1.slot < p.2.slot || (p.1.slot = p.2.slot && p.1.outPort < p.2.outPort))

/-- No two entries of one router in one slot share an in-port. -/
def inPortsOnce (l : List SlotEntry) : Bool :=
  (l.zipIdx).all (fun p => !(l.take p.2).any (fun e => e.slot = p.1.slot && e.inPort = p.1.inPort))

/-- Checks 1 to 7 for a router record, after the record before it of its section. -/
def routerOk (rows : Nat) (recs : List RouterRec) (prev : Option RouterRec) (r : RouterRec) : Bool :=
  let es := rowsOf recs
  prev.all (fun p => p.kind < r.kind || (p.kind = r.kind && p.index < r.index)) &&
  r.clean &&
  (if r.kind = 0 then r.index < 16 * rows && r.attach = 0
   else if r.kind = 1 then r.index < 16 && r.attach = 0 && (hasBundle rows r.index || r.entries.isEmpty)
   else if r.kind = 2 then r.index < 8 && r.attach = 0
   else r.kind = 3 && r.index < 2 && r.attach < 16 * rows) &&
  sortedPairs r.entries && inPortsOnce r.entries &&
  r.entries.all (fun e =>
    (!e.background || e.region = 0) &&
    sentOn rows recs es e && fedBy rows recs es e &&
    chainOk rows recs es (es.filter (fun f => f.sameRoute e)))

/-- Check 8 for a BACKGROUND record (07 R252, R253). -/
def backgroundOk (rows : Nat) (before : List Background) (l : List Byte) : Bool :=
  let b := parseBackground 0 l
  wf l 0 31 31 = 0 && wordAt l 1 = 0 && hasBundle rows b.router && 1 ≤ b.length && b.length ≤ 64 && b.periodLog2 ≤ 10 &&
    !before.any (fun x => x.router = b.router)

/-- Check 9 for an EDGE_ASSIGN record. -/
def edgeOk (defs : List RegionDef) (l : List Byte) : Bool :=
  let e := parseEdge 0 l
  e.router ≤ 0x17 && defs.any (fun g => g.id = e.region) && wf l 0 31 27 = 0 && wf l 1 31 16 = 0

/-- The router records of every SLOT_TABLE section. -/
def allRouters (d : List ImgSec) : List RouterRec :=
  (secsOf d .slotTable).flatMap (fun x => (parseRouters x.inst x.count x.data).1)

def checkSchedule (s : State) (d : List ImgSec) : Option Reject :=
  let rows := s.partRows
  let recs := allRouters d
  let bad (i e : Nat) : Reject := { step := 21, code := Codes.SCHEDULE_CONFLICT, sec := i, entry := e }
  firstReject (d.map (fun x =>
    if x.is .slotTable then
      let l := (parseRouters x.inst x.count x.data).1
      firstReject (l.zipIdx.map (fun p =>
        ensure (routerOk rows recs (if p.2 = 0 then none else l[p.2 - 1]?) p.1) (bad x.idx p.2)))
    else if x.is .background then
      let l := x.records 8
      firstReject (l.map (fun p =>
        ensure (backgroundOk rows ((l.take p.1).map (fun q => parseBackground 0 q.2)) p.2) (bad x.idx p.1)))
    else if x.is .edgeAssign then
      firstReject ((x.records 8).map (fun p => ensure (edgeOk (regionDefs d) p.2) (bad x.idx p.1)))
    else none))

/-! ## Step 22 (07 R240-R243) -/

/-- The region of a logical site in an image under validation. -/
def regionAt (defs : List RegionDef) (die k : Nat) : Option Nat := (defs.find? (fun g => g.holds die k)).map (·.id)

/-- The class of a route: 1 when it begins or ends at a copy engine (07 R243). -/
def routeClass (route : List SlotEntry) : Nat :=
  b2n (route.any (fun e => (e.kind = 1 || e.kind = 2) && (e.inPort = 0 || e.outPort = 0)))

/-- The EDGE_ASSIGN code of an edge router. -/
def edgeCode (kind index : Nat) : Nat := if kind = 1 then index else 16 + index

def leakFree (rows : Nat) (defs : List RegionDef) (owners : Nat → Nat) (edges : List EdgeAssign) (recs : List RouterRec)
    (r : RouterRec) : Bool :=
  let es := rowsOf recs
  let assigned (e : SlotEntry) (dirIn : Bool) : Bool :=
    edges.any (fun a => a.die = e.die && a.router = edgeCode e.kind e.index && a.slot = e.slot && a.dirIn == dirIn &&
      a.region = e.region && a.route = e.route && a.cls = routeClass (es.filter (fun f => f.sameRoute e)))
  let meshOk (e : SlotEntry) (p : Nat) : Bool :=
    match portEnd rows (attachOf recs e.die) e.router p with
    | .mesh (die, 0, k) _ => regionAt defs die k = some e.region
    | _ => true
  if r.kind = 0 then
    r.entries.all (fun e => (regionAt defs r.die r.index).isSome && (e.background || regionAt defs r.die r.index = some e.region))
  else if r.kind = 3 then
    let o := owners (r.die * 20 + 17 + r.index)
    if o < 0x20 then regionAt defs r.die r.attach = some o && r.entries.all (fun e => !e.background && e.region = o) else r.entries.isEmpty
  else
    r.entries.all (fun e => e.background ||
      (meshOk e e.inPort && meshOk e e.outPort && (e.inPort ≠ 5 || assigned e true) && (e.outPort ≠ 5 || assigned e false)))

def checkLeak (s : State) (d : List ImgSec) : Option Reject :=
  let recs := allRouters d
  let edges := (recordsOf d .edgeAssign 8).map (fun p => parseEdge p.1.inst p.2.2)
  let own (n : Nat) : Nat := (powerBytes d).getD n 0xFF
  firstReject ((secsOf d .slotTable).map (fun x =>
    firstReject ((parseRouters x.inst x.count x.data).1.zipIdx.map (fun p =>
      ensure (leakFree s.partRows (regionDefs d) own edges recs p.1)
        { step := 22, code := Codes.SCHEDULE_LEAK, sec := x.idx, entry := p.2 }))))

/-! ## Step 23 (07 R245, R253) -/

/-- Whether a BACKGROUND record covers a slot of a router. -/
def Background.covers (b : Background) (die router slot : Nat) : Bool :=
  b.die = die && b.router = router && (slot + 4096 - b.first) % 4096 < b.length

/-- The slots of a router and direction that records name, without repeats. -/
def streamSlots (l : List EdgeAssign) (a : EdgeAssign) : List Nat :=
  (l.filter (fun x => x.die = a.die && x.router = a.router && x.dirIn == a.dirIn)).foldl
    (fun t x => if t.contains x.slot then t else x.slot :: t) []

def checkBudget (s : State) (d : List ImgSec) : Option Reject :=
  let backs := (recordsOf d .background 8).map (fun p => parseBackground p.1.inst p.2.2)
  firstReject ((secsOf d .edgeAssign).map (fun x =>
    let l := (x.records 8).map (fun p => parseEdge x.inst p.2)
    firstReject (l.zipIdx.map (fun p =>
      let held := streamSlots (l.take p.2) p.1
      ensure (hasBundle s.partRows p.1.router && (held.contains p.1.slot || held.length < 4032) &&
          !backs.any (fun b => b.covers p.1.die p.1.router p.1.slot))
        { step := 23, code := Codes.EDGE_BUDGET, sec := x.idx, entry := p.2 }))))

/-! ## Step 24 (06 R191, R192; 07 R246; 02 R49) -/

/-- Whether a region has a site on a die. -/
def RegionDef.onDie (g : RegionDef) (die : Nat) : Bool := g.die = die || g.paired

/-- The permitted values of a SHARED_OWN entry (06 R191). -/
def sharedOk (defs : List RegionDef) (l : List Byte) : Bool :=
  let o := parseShared l
  let reg := defs.any (fun g => g.id = o.owner)
  wordAt l 1 = 0 &&
  (match o.resource with
   | 1 => o.index = 0 && o.owner = 0x40 && (o.feature = 1 || o.feature = 2)
   | 2 => o.index = 0 && ((o.owner = 0x40 && o.feature = 1) || (reg && o.feature = 2))
   | 3 => o.index = 0 && ((o.owner = 0x40 && o.feature = 1) || (reg && o.feature = 2))
   | 4 => o.index < 8 && reg && (o.feature = 1 || o.feature = 2)
   | 5 => o.index < 2 && defs.any (fun g => g.id = o.owner && g.onDie o.index) && (o.feature = 1 || o.feature = 2)
   | _ => false)

def checkOwners (d : List ImgSec) : Option Reject :=
  let bad (c : Code) (i e : Nat) : Reject := { step := 24, code := c, sec := i, entry := e }
  firstReject (d.map (fun x =>
    if x.is .sharedOwn then
      let l := x.records 8
      firstReject (l.map (fun p =>
        let o := parseShared p.2
        firstReject
          [ensure (sharedOk (regionDefs d) p.2) (bad Codes.ENTRY_INVALID x.idx p.1),
           ensure (!(l.take p.1).any (fun q => (parseShared q.2).resource = o.resource && (parseShared q.2).index = o.index))
             (bad Codes.RESOURCE_OWNED x.idx p.1)]))
    else if x.is .edgeAssign then
      let l := (x.records 8).map (fun p => parseEdge x.inst p.2)
      firstReject (l.zipIdx.map (fun p =>
        ensure (!(l.take p.2).any (fun q => q.router = p.1.router && q.slot = p.1.slot && q.dirIn == p.1.dirIn))
          (bad Codes.RESOURCE_OWNED x.idx p.2)))
    else none))

end Sys2Proof.Machine
end

