-- ==== Sys2Proof/Machine/ImageTables.lean ====
section
/-!
DEFINITION. Validation steps 25 to 27: index tables and trees (10 R407-R411, 13 R532-R534), TOPOLOGY (20 R760-R762) and
payloads (06 R193, R194; 10 R396), and the whole validation in order (06 R202).
-/
namespace Sys2Proof.Machine

/-! ## What an image under validation says -/

/-- The facts of an image that steps 25 to 27 read. -/
structure ImgView where
  defs : List RegionDef
  dual0 : Word
  dual1 : Word
  slots : List SlotEntry
  tables : List IndexTable
  deriving Repr

def viewOf (d : List ImgSec) : ImgView :=
  { defs := regionDefs d
    dual0 := BitVec.ofNat 32 (siteMapWord d 0)
    dual1 := BitVec.ofNat 32 (siteMapWord d 1)
    slots := rowsOf (allRouters d)
    tables := (parseBody d).indexTables }

/-- Whether a logical site has spin personality (06 R176). -/
def spinAt (dual0 dual1 : Word) (die k : Nat) : Bool :=
  match siteType k with
  | .spin => true
  | .dual => (if die = 0 then dual0 else dual1).getLsbD (dualOrdinal k)
  | _ => false

/-- Whether it is a matrix site or a dual site in matrix personality. -/
def matrixAt (dual0 dual1 : Word) (die k : Nat) : Bool :=
  match siteType k with
  | .matrix => true
  | .dual => !(if die = 0 then dual0 else dual1).getLsbD (dualOrdinal k)
  | _ => false

/-- Whether a site is a spin-personality site of a region. -/
def ImgView.spinOf (v : ImgView) (r die k : Nat) : Bool := regionAt v.defs die k = some r && spinAt v.dual0 v.dual1 die k

/-- The foreground entries of a region's route. -/
def ImgView.route (v : ImgView) (r id : Nat) : List SlotEntry :=
  v.slots.filter (fun e => !e.background && e.region = r && e.route = id)

/-- Whether a route leads from one site's L to another's. -/
def ImgView.leads (v : ImgView) (r id : Nat) (x y : Router) : Bool := routeFrom (v.route r id) x && routeTo (v.route r id) y

/-- Whether some route of a region leads from one site to another. -/
def ImgView.anyLeads (v : ImgView) (r : Nat) (x y : Router) : Bool :=
  v.slots.any (fun e => !e.background && e.region = r && e.inPort = 0 && e.router = x && v.leads r e.route x y)

/-! ## Step 25: index tables (10 R410) -/

/-- Export list entries of a site; table bits [15:12] of each are reserved. -/
def listBad (n : Nat) : Bool := 4096 ≤ n

/-- The header checks of a section: checks 1, 2 and 6. -/
def tableHeaderOk (v : ImgView) (before : List IndexTable) (x : ImgSec) (t : IndexTable) : Bool :=
  let l := x.data
  wf l 0 31 17 = 0 && wf l 2 31 20 = 0 && wf l 3 31 4 = 0 &&
  regionAt v.defs t.die t.site = some x.inst &&
  (if t.kind = 1 || t.kind = 2 then
     spinAt v.dual0 v.dual1 t.die t.site && t.base = 0 && t.tableId = 0 && x.count ≤ 64 && t.lists.length ≤ 57344 &&
       !before.any (fun u => u.die = t.die && u.site = t.site && u.kind = t.kind)
   else if t.kind = 3 || t.kind = 4 then
     matrixAt v.dual0 v.dual1 t.die t.site && t.base % 64 = 0 && t.base + 8 * x.count ≤ 0x100000 &&
       !before.any (fun u => (u.kind = 3 || u.kind = 4) && u.die = t.die && u.site = t.site &&
         (u.tableId = t.tableId || (x.count ≠ 0 && u.entries.length ≠ 0 && u.base < t.base + 8 * x.count && t.base < u.base + 8 * u.entries.length)))
   else false)

/-- Check 5: the other end's stream. -/
def streamMatched (v : ImgView) (r : Nat) (t : IndexTable) (e : Stream) : Bool :=
  (e.die ≠ t.die || e.site ≠ t.site) && v.spinOf r e.die e.site &&
  v.tables.any (fun u => u.kind = 3 - t.kind && u.region = r && u.die = e.die && u.site = e.site &&
    u.streams.any (fun f => !f.remote && f.die = t.die && f.site = t.site && f.route = e.route && f.count = e.count)) &&
  (if t.kind = 1 then v.leads r e.route (siteRouter e.die e.site) (siteRouter t.die t.site)
   else v.leads r e.route (siteRouter t.die t.site) (siteRouter e.die e.site))

/-- Checks 3 to 5 for a stream record. -/
def streamOk (v : ImgView) (r : Nat) (t : IndexTable) (i : Nat) (raw : List Byte) (e : Stream) : Bool :=
  streamClean (t.kind = 2) raw && 1 ≤ e.count && e.count ≤ 12288 &&
  (if t.kind = 1 then
     e.first + e.count ≤ 12288 && !(t.streams.take i).any (fun f => f.first < e.first + e.count && e.first < f.first + f.count)
   else
     e.first + e.count ≤ 57344 && ((t.lists.drop e.first).take e.count).all (fun n => !listBad n)) &&
  (e.remote || streamMatched v r t e)

/-- The destinations that an index entry names: primary and mirror. -/
def IndexEntry.dests (kind : Nat) (e : IndexEntry) : List (Nat × Nat × Nat × Nat) :=
  (e.die, e.site, e.row, e.entry) :: (if kind = 3 && e.mirror then [(e.mDie, e.mSite, e.mRow, e.mEntry)] else [])

/-- Checks 1, 7 and 8 for an index entry. -/
def indexEntryOk (v : ImgView) (r : Nat) (t : IndexTable) (i : Nat) (raw : List Byte) (e : IndexEntry) : Bool :=
  let ds := e.dests t.kind
  let before := (t.entries.take i).flatMap (fun f => f.dests t.kind)
  wf raw 0 31 28 = 0 && wf raw 1 31 27 = 0 &&
  (t.kind = 3 || (e.entry = 0 && !e.mirror && wordAt raw 1 = 0)) &&
  ds.all (fun p => v.spinOf r p.1 p.2.1 && v.anyLeads r (siteRouter t.die t.site) (siteRouter p.1 p.2.1) && !before.contains p) &&
  (match ds with
   | [p, q] => decide (p ≠ q)
   | _ => true)

def checkIndexTable (v : ImgView) (before : List IndexTable) (x : ImgSec) : Option Reject :=
  let t := parseIndexTable x.inst x.data
  let bad (e : Nat) : Reject := { step := 25, code := Codes.ENTRY_INVALID, sec := x.idx, entry := e }
  let body := x.data.drop 16
  if x.len = 0 then none
  else firstReject (ensure (tableHeaderOk v before x t) (bad 0xFFFFFFFF) ::
    (t.streams.zipIdx.map (fun p => ensure (streamOk v x.inst t p.2 (body.drop (16 * p.2)) p.1) (bad p.2)) ++
     t.entries.zipIdx.map (fun p => ensure (indexEntryOk v x.inst t p.2 (body.drop (8 * p.2)) p.1) (bad p.2)) ++
     [ensure (t.lists.all (fun n => !listBad n)) (bad 0xFFFFFFFF)]))

/-! ## Step 25: trees (13 R529, R533, R534) -/

/-- One round of R529 over the first leaves of the nodes: the additions made, as (left holder, right holder) leaf indices,
and the next level. -/
def treeRound : List Nat → List (Nat × Nat) × List Nat
  | a :: b :: t => let r := treeRound t
    ((a, b) :: r.1, a :: r.2)
  | l => ([], l)

/-- The additions of the fixed tree over a level, in the order performed (13 R529). -/
def treeRounds : Nat → List Nat → List (Nat × Nat)
  | 0, _ => []
  | n + 1, l => if l.length ≤ 1 then [] else
    let r := treeRound l
    r.1 ++ treeRounds n r.2

/-- The additions over `p` leaves: a level halves, so 20 rounds do for 131,072 leaves and more. -/
def treeAdds (p : Nat) : List (Nat × Nat) := treeRounds 20 (List.range p)

def treeOk (v : ImgView) (r : Nat) (before : List Tree) (clean : Bool) (t : Tree) : Bool :=
  let p := t.leaves.length
  2 ≤ p && p ≤ 64 && clean &&
  t.leaves.zipIdx.all (fun x => v.spinOf r x.1.1 x.1.2 && !(t.leaves.take x.2).contains x.1) &&
  !before.any (fun u => u.region = r && u.leaves == t.leaves) &&
  ((treeAdds p).zip t.edges).all (fun q =>
    let left := t.leaves.getD q.1.1 (0, 0)
    let right := t.leaves.getD q.1.2 (0, 0)
    v.leads r q.2.1 (siteRouter right.1 right.2) (siteRouter left.1 left.2) &&
    v.leads r q.2.2 (siteRouter left.1 left.2) (siteRouter right.1 right.2))

def checkTables (d : List ImgSec) : Option Reject :=
  let v := viewOf d
  firstReject (d.map (fun x =>
    if x.is .indexTable then
      checkIndexTable v (((d.take x.idx).filter (fun y => y.is .indexTable && y.len ≠ 0)).map (fun y => parseIndexTable y.inst y.data)) x
    else if x.is .trees then
      let l := (parseTrees x.inst x.count x.data).1
      firstReject (l.zipIdx.map (fun p =>
        ensure (treeOk v x.inst ((l.take p.2).map (·.1)) p.1.2 p.1.1) { step := 25, code := Codes.ENTRY_INVALID, sec := x.idx, entry := p.2 }))
    else none))

/-! ## Step 26: TOPOLOGY (20 R760-R762) -/

/-- The neighbour that a reference topology gives a port (20 R760). -/
def refNeighbour (t : Topo) (port : Nat) : Option Nat :=
  let p := t.self
  let up := port % 2 = 0
  let step (x dim : Nat) : Nat := if up then (x + 1) % dim else (x + dim - 1) % dim
  let x := p % t.dimX
  let y := p / t.dimX % t.dimY
  let z := p / (t.dimX * t.dimY)
  if t.kind = 1 then some (step p t.packages)
  else if t.kind = 2 then
    (if port / 2 % 2 = 0 then some (step x t.dimX + t.dimX * (p / t.dimX)) else some (x + t.dimX * step (p / t.dimX) t.dimY))
  else if t.kind = 3 then
    (if port / 2 = 0 then some (step x t.dimX + t.dimX * (y + t.dimY * z))
     else if port / 2 = 1 then some (x + t.dimX * (step y t.dimY + t.dimY * z))
     else if port / 2 = 2 then some (x + t.dimX * (y + t.dimY * step z t.dimZ))
     else none)
  else none

/-- Check 1: the header. -/
def topoHeaderOk (anyRemote : Bool) (l : List Byte) (t : Topo) : Bool :=
  wf l 0 31 17 = 0 && wf l 1 31 20 = 0 && wf l 2 31 16 = 0 && wf l 3 31 18 = 0 && wf l 4 31 18 = 0 && wf l 5 31 18 = 0 &&
  wf l 7 31 16 = 0 && zeroWords l 10 6 &&
  t.self < t.packages && t.packages ≤ 131072 && (1 ≤ t.epochK || !anyRemote) &&
  (if t.kind = 0 then t.dimX = 0 && t.dimY = 0 && t.dimZ = 0
   else if t.kind = 1 then t.dimX = t.packages && 2 ≤ t.dimX && t.dimY = 0 && t.dimZ = 0
   else if t.kind = 2 then 2 ≤ t.dimX && 2 ≤ t.dimY && t.dimX * t.dimY = t.packages && t.dimZ = 0
   else 2 ≤ t.dimX && 2 ≤ t.dimY && 2 ≤ t.dimZ && t.dimX * t.dimY * t.dimZ = t.packages)

/-- Checks 1 and 2 for a port record. -/
def topoPortOk (t : Topo) (port : Nat) (raw : List Byte) (q : TopoPort) : Bool :=
  wf raw 0 31 22 = 0 && wordAt raw 1 = 0 &&
  (!q.used ||
    (q.neighbour ≠ t.self && q.neighbour < t.packages &&
      (t.kind = 0 || (refNeighbour t port = some q.neighbour && q.farPort = port ^^^ 1))))

/-- The link entries in force when the alternates of a key are active: they replace the primary entries of their link
routes (20 R755). -/
def entriesUnder (links : List LinkEntry) (key : Nat) : List LinkEntry :=
  let alts := links.filter (fun e => e.alternate && e.altKey = key)
  links.filter (fun e => !e.alternate && !alts.any (fun a => a.linkRoute = e.linkRoute)) ++ alts

/-- Entries that share port, direction and slot. -/
def LinkEntry.clash (a b : LinkEntry) : Bool := a.port = b.port && a.dirIn == b.dirIn && a.slot = b.slot

/-- Whether an entry of a set clashes with an earlier one. -/
def clashes (l : List LinkEntry) (e : LinkEntry) : Bool := 2 ≤ (l.filter (fun f => f.clash e)).length

/-- Checks 1 and 3 to 5 for a link entry. -/
def linkOk (v : ImgView) (t : Topo) (raw : List Byte) (e : LinkEntry) : Bool :=
  linkClean raw &&
  (t.ports.getD e.port { neighbour := 0, farPort := 0, used := false, rate16 := false }).used && e.slot < 1364 && e.slot % 16 ≠ 15 &&
  (e.alternate || !clashes (t.links.filter (fun f => !f.alternate)) e) &&
  (List.range t.alts.length).all (fun k => !(entriesUnder t.links k).contains e || !clashes (entriesUnder t.links k) e) &&
  (if e.forwarded then
     !e.dirIn ||
       (let outs := t.links.filter (fun f => !f.dirIn && f.linkRoute = e.linkRoute && f.port = e.fwdPort && f.alternate == e.alternate && f.altKey = e.altKey)
        let ins := t.links.filter (fun f => f.dirIn && f.linkRoute = e.linkRoute && f.port = e.port && f.alternate == e.alternate && f.altKey = e.altKey)
        !outs.isEmpty && ins.length ≤ outs.length)
   else if e.dirIn then (v.route e.region e.route).any (·.hubIn)
   else (v.route e.region e.route).any (·.hubOut)) &&
  (!e.alternate || e.altKey < t.alts.length)

/-- The edges that check 7 demands of a leaf: (addition, holds the right operand). -/
def leafEdges (p leaf : Nat) : List (Nat × Bool) :=
  (treeAdds p).zipIdx.filterMap (fun a =>
    if a.1.1 = leaf then some (a.2, false) else if a.1.2 = leaf then some (a.2, true) else none)

/-- Whether a link route leaves, or arrives at, this package. -/
def Topo.leaves (t : Topo) (lr : Nat) : Bool := t.links.any (fun e => e.linkRoute = lr && !e.dirIn)
def Topo.arrives (t : Topo) (lr : Nat) : Bool := t.links.any (fun e => e.linkRoute = lr && e.dirIn)

/-- Check 7. -/
def topoTreeOk (v : ImgView) (t : Topo) (before : List TopoTree) (clean : Bool) (u : TopoTree) : Bool :=
  clean && !before.any (fun b => b.region = u.region) && v.defs.any (fun g => g.id = u.region) &&
  2 ≤ u.leaves && u.leaves ≤ 131072 && u.first + u.leaves ≤ t.packages && u.first ≤ t.self && t.self < u.first + u.leaves &&
  (let need := leafEdges u.leaves (t.self - u.first)
   let got := u.edges.map (fun e => (e.1, e.2.1))
   need.length = got.length && need.all (fun e => got.contains e) && got.all (fun e => need.contains e)) &&
  u.edges.all (fun e =>
    if e.2.1 then t.leaves e.2.2.1 && t.arrives e.2.2.2 else t.arrives e.2.2.1 && t.leaves e.2.2.2)

/-- Check 6 for a remote stream of a region. -/
def remoteOk (t : Topo) (r : Nat) (isExport : Bool) (e : Stream) : Bool :=
  e.package ≠ t.self && e.package < t.packages &&
  t.links.any (fun l => !l.forwarded && l.region = r && l.route = e.route && l.dirIn == !isExport)

/-- The remote-stream records of an INDEX_TABLE section. -/
def remoteStreams (x : ImgSec) : List (Nat × Bool × Stream) :=
  if x.is .indexTable && x.len ≠ 0 then
    let t := parseIndexTable x.inst x.data
    t.streams.zipIdx.filterMap (fun p => if p.1.remote then some (p.2, t.kind = 2, p.1) else none)
  else []

def checkTopology (d : List ImgSec) : Option Reject :=
  let v := viewOf d
  let bad (i e : Nat) : Reject := { step := 26, code := Codes.TOPOLOGY_INVALID, sec := i, entry := e }
  let topo := (parseBody d).topo
  let anyRemote := d.any (fun x => !(remoteStreams x).isEmpty)
  firstReject (d.map (fun x =>
    if x.is .topology && x.len ≠ 0 then
      let t := parseTopo x.data
      let l := x.data
      let nl := t.links.length
      let na := t.alts.length
      let trees := (parseTopoTrees (topoTreeCount l) (topoTreeBytes l)).1
      firstReject (ensure (topoHeaderOk anyRemote l t) (bad x.idx 0xFFFFFFFF) ::
        (t.ports.zipIdx.map (fun p => ensure (topoPortOk t p.2 (l.drop (64 + 8 * p.2)) p.1) (bad x.idx 0xFFFFFFFF)) ++
         t.links.zipIdx.map (fun p => ensure (linkOk v t (l.drop (128 + 16 * p.2)) p.1) (bad x.idx p.2)) ++
         (List.range na).map (fun i =>
           let raw := l.drop (128 + 16 * nl + 8 * i)
           ensure (wf raw 0 31 20 = 0 && wordAt raw 1 = 0) (bad x.idx (nl + i))) ++
         trees.zipIdx.map (fun p => ensure (topoTreeOk v t ((trees.take p.2).map (·.1)) p.1.2 p.1.1) (bad x.idx (nl + na + p.2)))))
    else
      firstReject ((remoteStreams x).map (fun p =>
        ensure (topo.any (fun t => remoteOk t x.inst p.2.1 p.2.2)) (bad x.idx p.1)))))

/-! ## Step 27: payloads (06 R193, R194; 10 R396) -/

/-- Whether a device address is protected on a spin-personality site of the image. -/
def ImgView.spinProtected (v : ImgView) (a : Nat) : Bool :=
  isScratch a && spinAt v.dual0 v.dual1 (scratchDie a) (scratchSite a) && 0xC2000 ≤ scratchOff a && scratchOff a < 0xE0000

/-- The 4 KiB pieces of a virtual range: segments are whole pages and the protected range begins 0x2000 into its site. -/
def pagesOf (va n : Nat) : List (Nat × Nat) :=
  if n = 0 then []
  else (upFrom (va / 4096) ((va + n - 1) / 4096 - va / 4096 + 1)).map (fun p =>
    (max va (p * 4096), min (va + n) ((p + 1) * 4096)))

/-- Whether every byte of a payload may be written (06 R194, 10 R396). -/
def payloadPlaced (v : ImgView) (segs : List Segment) (r va n : Nat) : Bool :=
  (pagesOf va n).all (fun q =>
    match segs.find? (fun g => g.region = r && g.base ≤ q.1 && q.2 ≤ g.limit + 1) with
    | some g => g.write && !v.spinProtected (g.phys q.1)
    | none => false)

def checkPayloads (d : List ImgSec) : Option Reject :=
  let v := viewOf d
  let segs := (parseBody d).segments
  let bad (c : Code) (i : Nat) : Reject := { step := 27, code := c, sec := i, entry := 0 }
  firstReject ((secsOf d .payload).map (fun x =>
    let l := x.data
    firstReject
      [ensure (wf l 1 31 16 = 0 && wordAt l 3 = 0) { bad Codes.ENTRY_INVALID x.idx with entry := 0xFFFFFFFF },
       ensure (payloadPlaced v segs x.inst (leAt l 0 6) (wordAt l 2)) (bad Codes.BOUNDS x.idx)]))

/-! ## The whole validation (06 R202) -/

/-- The first failing check of an image of a given length: none when it passes every step. -/
def validateImage (s : State) (img : List Byte) : Option Reject :=
  let d := parseDir img
  firstReject [checkLength img.length, checkFraming img img.length] |>.or
    (firstReject [checkKey s img, checkSignature s img, checkRollback s img, checkReserved img d]) |>.or
    ((checkSections img d).or
      (firstReject [checkHeader s img, checkSiteMap s d, checkRegions s img d, checkPower s d, checkSegments s d, checkWindows d,
        checkSchedule s d, checkLeak s d, checkBudget s d, checkOwners d, checkTables d, checkTopology d, checkPayloads d]))

end Sys2Proof.Machine
end

