-- ==== Sys2Proof/Machine/Image.lean ====
section
/-!
DEFINITION. Image commands (05 R149-R155, R160), acceptance and its failure (06 R203-R209), the leaving of an image, and the
checks of a region's start (11 R431, 15 R582).
-/
namespace Sys2Proof.Machine

/-! ## Taking hold of an image (06 R207) -/

/-- The determinism profile (18 R676). -/
def profileOf (h : Image) : Word64 :=
  BitVec.ofNat 64 (h.stepping + h.sfuTable * 2 ^ 8 + h.noiseFn * 2 ^ 16 + h.clockPlan * 2 ^ 24 + h.powerPlan * 2 ^ 32 +
    b2n h.sepia * 2 ^ 40 + h.cols * 2 ^ 48 + h.rows * 2 ^ 56)

/-- Domains in Charcoal at acceptance, others in Ivory (04 R99): site blocks with a mapped site of a region, and engines whose
owner is a region, are on. -/
def State.acceptOn (s : State) (n : Nat) : Bool :=
  if n = 19 ∨ n = 39 ∨ (40 ≤ n ∧ n ≤ 45) then true
  else if 46 ≤ n then s.domPresent n
  else if n % 20 < 17 then (upFrom 0 256).any (fun k => (s.siteRegion? (n / 20) k).isSome && s.siteDomain (n / 20) k = n)
  else s.image.powerOwners.getD n 0xFF < 0x20

/-- Domains take the states of acceptance (04 R99): those that are to stay off and are on leave Ivory through closing and Pewter (04 R91).
After a thermal trip they stay as they are (04 R126). -/
def State.acceptDomains (s : State) : State := if s.dev.aux.tripHold then s else
  let s := s.toIvory ((List.range 52).filter s.acceptOn)
  ((List.range 52).filter (fun n => !s.acceptOn n)).foldl
    (fun s n => (s.onDomain n fun d => { d with target := 3, request := none }).begin_ n .charcoal) s

/-- What a failed acceptance brings back (06 R208): the domains, the plans and the mode as they are at the start of a load. -/
def State.saveLoad (s : State) : State :=
  s.onPwr fun p => { p with saved := p.domains, savedPlans := some (s.dev.clk.planCode, s.dev.clk.window, p.planCode, s.dev.aux.slateInForce) }

/-- A domain returns to its state before the load (06 R208), through closing and Pewter where it leaves Ivory (04 R91). A state that no
transition reaches any more is taken at once (DESIGN CHOICE, log 107). -/
def State.restoreDomain (s : State) (n : Nat) (d : Domain) : State :=
  let back := if d.state = .closing then d.goal.getD .ivory else d.state
  let s := s.onDomain n fun e => { e with target := d.target, retain := d.retain }
  if (s.domain n).state = .closing || reachable (s.domain n).state back then s.begin_ n back
  else s.onDomain n fun e => { e with state := back, moving := none, goal := none }

/-- Writes a payload through its region's segments (06 R193-R195). -/
def State.writePayload (s : State) (p : Payload) : State :=
  (pagesOf p.va p.data.length).foldl (fun s q =>
    match s.segOf p.region q.1 (q.2 - q.1) with
    | some g => s.loaderWrite (g.phys q.1) ((p.data.drop (q.1 - p.va)).take (q.2 - q.1))
    | none => s) s

/-- The owners that SHARED_OWN entries give (06 R191, R192; 02 R48). -/
def ownersOf (l : List SharedOwn) : Shared :=
  l.foldl (fun (h : Shared) e =>
    match e.resource with
    | 1 => { h with alertOwner := BitVec.ofNat 8 e.feature }
    | 2 => { h with syncInOwner := if e.owner = 0x40 then 1 else BitVec.ofNat 8 (0x20 + e.owner) }
    | 3 => { h with syncOutOwner := if e.owner = 0x40 then 1 else BitVec.ofNat 8 (0x20 + e.owner) }
    | 4 => { h with timers := Tab.set h.timers e.index (e.owner, e.feature) }
    | _ => { h with visBuf := Tab.set h.visBuf e.index (e.owner, e.feature) }) {}

/-- A site after an acceptance or the unloading of an image: its counters stay (25 R906). -/
def cleanSite (x : Site) : Site :=
  { mat := { completed := x.mat.completed, rows := x.mat.rows, repeated := x.mat.repeated, overflowed := x.mat.overflowed }
    sfu := { rangeEvents := x.sfu.rangeEvents, rows := x.sfu.rows, tableFault := x.sfu.tableFault } }

/-- All scratchpads read 0. -/
def State.wipeScratch (s : State) : State := s.onMem fun m => m.clearRange scratchBase (scratchBase + 2 ^ 37)

/-- A port without the scheduled traffic of an image: live and mismatch read up. -/
def Port.unload (p : Port) : Port :=
  { p with state := if p.state = .live ∨ p.state = .mismatch then .up else p.state, sent := [] }

/-- A port at an acceptance: a loss ends. -/
def Port.accept (p : Port) : Port :=
  { p.unload with state := if p.state = .lost then .training else if p.state = .returned then .up else p.unload.state }

/-- The link routes' state goes with the image. -/
def Lnk.clear (l : Lnk) (f : Port → Port) : Lnk :=
  { retryBudget := l.retryBudget, ports := l.ports.map (fun e => (e.1, f e.2)) }

/-- Takes hold of an image that passed validation, up to the frame boundary that starts its regions (06 R207). -/
def State.acceptImage (s : State) (img : List Byte) : State :=
  let d := parseDir img
  let h := parseImage img d
  let s := s.onPwr fun p => { p with planCode := BitVec.ofNat 8 h.powerPlan }
  let s := s.onClk fun c => { c with planCode := BitVec.ofNat 8 h.clockPlan, window := BitVec.ofNat 4 (planWindow h.clockPlan) }
  let s := s.onAux fun a =>
    { a with detProfile := profileOf h, slateInForce := a.slateCtl, starting := true, detailStep := 0, detailSection := 0xFF, detailEntry := 0xFFFFFFFF }
  let s := s.onFab fun b =>
    { b with image := some h, dual0 := h.dual0, dual1 := h.dual1, body := parseBody d, siteMap := buildSiteMap s.part h.rows, regions := [], sites := b.sites.map (fun e => (e.1, cleanSite e.2)) }
  let s := s.acceptDomains
  let s := (s.onMem Mem.forgetDram).wipeScratch
  let s := s.writeTables (fun _ => true)
  let s := s.onLnk fun l => l.clear Port.accept
  let s := s.onShared fun h' => { ownersOf s.fab.body.shared with hubResult := h'.hubResult }
  s.fab.body.payloads.foldl (fun s p => s.writePayload p) s

/-! ## Unloading -/

/-- Boot frames begin anew (07 R222). -/
def State.bootFrames (s : State) : State :=
  s.onNoc fun n => { n with
    counting := false, frame := 0, bootFrame := 0, frameTick := s.tick, held := false, queues := [], linkErr := [], starved := [],
    heldLog := [], heldCount := 0, lastSent := [], voids := [], deferred := [], bgLast := [], bgWindowLast := [] }

/-- The image leaves the device: no region, route, owner or profile of it stays (05 R155; 07 R222; 18 R672, R676; 21 R781). -/
def State.dropImage (s : State) : State :=
  let s := s.onAux fun a => { a with detProfile := 0, starting := false }
  let s := s.onFab fun b =>
    { b with image := none, body := {}, siteMap := [], regions := [], sites := b.sites.map (fun e => (e.1, cleanSite e.2)),
             dies := b.dies.map (fun e => (e.1, { e.2 with featFault := none, steFault := none })) }
  let s := (s.onShared fun h => { hubResult := h.hubResult }).syncOutRest
  let s := s.onHst fun h => { h with vfEnable := false, funcs := h.funcs.map (fun e => if e.1 = 0 then e else (e.1, { e.2 with enabled := false })) }
  let s := s.onSec fun c => { c with attests := [] }
  let s := s.onClk fun c => { c with unlocked := [] }
  let s := s.onDbg fun d => { d with armed := false, running := false, ending := false, collect := [] }
  let s := s.onLnk fun l => l.clear Port.unload
  (s.onBoot fun b => { b with stage := .awaitImage }).bootFrames

/-! ## Region reset (05 R162) -/

/-- The keys of a region's sites. -/
def State.siteKeys (s : State) (r : Nat) : List Nat :=
  (List.range 2).flatMap (fun die => (s.regionSites r die).map (siteKey die))

/-- A site after its region's reset: out-of-service units return, but a stopped island until it relocks (23 R856, R858). -/
def resetSite (x : Site) : Site :=
  { cleanSite x with
    sfu := { rangeEvents := x.sfu.rangeEvents, rows := x.sfu.rows, tableFault := false }
    island := x.island, telSlots := x.telSlots }

/-- Ends a capture of a region (24 R896, 25 R906). -/
def State.endTrace (s : State) (r : Nat) : State :=
  if bitsOf s.dev.dbg.ctl.toNat 5 1 = r then s.onDbg fun d => { d with armed := false, running := false, ending := false, collect := [] } else s

/-- The detail word of ISLAND_LOCK_LOST (09 R929). -/
def islandDetail (dom : Nat) (site : Option Nat) (byReset : Bool) : Nat :=
  (match site with | some k => k % 256 + k / 256 * 2 ^ 8 | none => 0xFF + dom / 20 % 2 * 2 ^ 8) + dom * 2 ^ 9 + b2n byReset * 2 ^ 15

def islandKind (site : Option Nat) : Nat := if site.isSome then 2 else 6

/-- The function tables of a site of a region fail their checksum (09 R929; 15 R582; 23 R856). -/
def State.tableFails (s : State) (r : Nat) (x : SiteRef) : State :=
  let d := x.die.val
  s.whenP (s.siteRegion? d x.site.val = some r && siteType x.site.val = .vector) fun s =>
    let s := s.assignFault Codes.SFU_TABLE_FAULT (some r) d (some x.site.val)
    let id := s.lastFault
    let s := s.onSite (siteRefKey x) fun t =>
      { t with sfu := { t.sfu with tableFault := true }, sfuFault := some { code := Codes.SFU_TABLE_FAULT, faultId := id, tick := s.stamp } }
    s.bothEvent r 2 Codes.SFU_TABLE_FAULT (x.site.val + d * 2 ^ 8)

/-- The table checks of a region's start: the checksums that its sites computed are compared with those published for the set in force, and a
site with a difference fails (15 R582). A site that the list does not name computed the published ones. -/
def State.checkTables (s : State) (r : Nat) (sums : List TableSum) : State :=
  let bad := (sums.filter (fun x => x.sum ≠ publishedSum (!s.image.sepia) (tableOf x.table.val))).map (·.site)
  bad.eraseDups.foldl (fun s x => s.tableFails r x) s

/-- A site's noise self-test finds a difference (11 R432, R460; 23 R856): what runs on the site ends. -/
def State.noiseFails (s : State) (r die k : Nat) : State :=
  let s := s.onDie die fun t => { t with failures := satAdd t.failures 1, lastSite := BitVec.ofNat 8 k, noiseFailed := true }
  let s := s.assignFault Codes.ANL_NOISE_FAULT (some r) die (some k)
  let id := s.lastFault
  let s := s.onSite (siteKey die k) fun t =>
    { t with noise := some (t.noise.getD { code := Codes.ANL_NOISE_FAULT, faultId := id, tick := s.stamp }) }
  let s := match (s.site (siteKey die k)).spin.op with
    | some key => s.latch key.1 key.2.1 key.2.2 Codes.ANL_NOISE_FAULT 0 id
    | none => s
  s.bothEvent r 2 Codes.ANL_NOISE_FAULT (k + die * 2 ^ 8)

/-- One noise self-test of a site of a region (11 R431, R460). -/
def State.noiseTest (s : State) (r die k : Nat) (ok : Bool) : State :=
  let s := s.onDie die fun t => { t with testsRun := t.testsRun + 1 }
  if ok then s else s.noiseFails r die k

/-- The self-tests of a region's start (11 R431): every spin site of the region is tested, and each site of `bad` fails. -/
def State.checkNoise (s : State) (r : Nat) (bad : List SiteRef) : State :=
  ((s.siteKeys r).filter (fun k => s.isSpin (k / 256) (k % 256) && s.ivory (s.siteDomain (k / 256) (k % 256)))).foldl
    (fun s k => s.noiseTest r (k / 256) (k % 256) (!bad.any (fun x => siteRefKey x = k))) s

/-! ## Image commands -/

/-- The result of an image command that ends (05 R165). -/
def State.imageEnd (s : State) (c : Code) : State :=
  (s.onBoot fun b => { b with imageBusy := false, imageResult := c }).onAux fun a => { a with loading := none, loadDeferred := false }

/-- A rejection (06 R204, R932). -/
def State.rejectImage (s : State) (e : Reject) : State :=
  (s.imageEnd e.code).onAux fun a =>
    { a with detailStep := BitVec.ofNat 8 e.step, detailSection := BitVec.ofNat 8 e.sec, detailEntry := BitVec.ofNat 32 e.entry }

/-- A fetch that could not be made or failed (05 R151). -/
def State.fetchFailed (s : State) (c : Code) : State := s.rejectImage { step := 0, code := c }

/-- An image command in a stage that does not accept it fails and changes nothing else (05 R152, R154, R155). -/
def State.imageState (s : State) : State := s.onBoot fun b => { b with imageResult := Codes.IMAGE_STATE }

/-- An image command in AWAIT_IMAGE: it is ignored while another is in progress (log 13). -/
def State.inAwait (s : State) (f : State → State) : State :=
  if s.dev.boot.stage ≠ .awaitImage then s.imageState else s.whenP (!s.dev.boot.imageBusy) f

/-- Starts the fetch of an image of HUB_IMAGE_LEN bytes, or ends the command (05 R150-R152; 06 R202 step 1, R203). -/
def State.startFetch (s : State) (k : LoadKind) : State :=
  let n := s.dev.boot.imageLen.toNat
  if n = 0 then s.imageEnd Codes.OK
  else match (if k = .store && 0x2000000 < n then some { step := 1, code := Codes.IMAGE_FORMAT } else checkLength n) with
  | some e => s.rejectImage e
  | none =>
    if !s.dev.hst.linkUp then s.fetchFailed Codes.HST_LINK_DOWN
    else if !s.pfHostAllowed then s.fetchFailed Codes.HST_HOST_DENIED
    else (s.saveLoad.onBoot fun b => { b with imageBusy := true, stage := if k = .load then .imageLoad else b.stage }).onAux fun a => { a with loading := some k, loadDeferred := false }

/-- IMAGE_AUTOLOAD (05 R149, R153; 22 R820): the stored image is loaded without a host command. -/
def execImageAutoload (s : State) : Host.Outcome State Fault Refusal :=
  .next (s.effect fun s =>
    s.whenP (s.dev.boot.stage = .awaitImage && s.flash.autoload.isSome && !s.dev.aux.autoloadTried && !s.dev.boot.imageBusy && !s.dev.sec.busy) fun s =>
      (s.saveLoad.onBoot fun b => { b with stage := .imageLoad }).onAux fun a => { a with loading := some .autoload })

/-- IMAGE_LOAD (05 R150, R154; 06 R203; 22 R820): HUB_IMAGE_CMD.cmd 1. -/
def execImageLoad (s : State) : Host.Outcome State Fault Refusal :=
  .next (s.effect fun s => s.whenP (s.pfReach true) fun s => s.inAwait fun s =>
    if s.dev.sec.busy then (s.onBoot fun b => { b with imageBusy := true }).onAux fun a => { a with loadDeferred := true }
    else s.startFetch .load)

/-- FLASH_FIRMWARE (05 R160; 22 R811): HUB_IMAGE_CMD.cmd 3. The code of a copy that does not verify is a free value (log 12). -/
def execFlashFirmware (copy : FwCopy) (s : State) : Host.Outcome State Fault Refusal :=
  .next (s.flashEffect fun s => s.whenP (s.pfReach true) fun s =>
    if s.dev.boot.stage ≠ .recovery then s.imageState
    else if !s.pfHostAllowed then s.fetchFailed Codes.HST_HOST_DENIED
    else
      let s := { s with flash := if s.flash.activeB then { s.flash with copyA := some copy } else { s.flash with copyB := some copy } }
      if s.copyVerifies (some copy) then { s with flash := { s.flash with activeB := !s.flash.activeB } }.imageEnd Codes.OK
      else (s.imageEnd (BitVec.ofNat 16 (s.freeVal 0))).bump)

/-- STORE_AUTOLOAD (05 R152): HUB_IMAGE_CMD.cmd 4. -/
def execStoreAutoload (s : State) : Host.Outcome State Fault Refusal :=
  .next (s.effect fun s => s.whenP (s.pfReach true) fun s => s.inAwait fun s => s.startFetch .store)

/-- ERASE_AUTOLOAD (05 R152): HUB_IMAGE_CMD.cmd 5. -/
def execEraseAutoload (s : State) : Host.Outcome State Fault Refusal :=
  .next (s.flashEffect fun s => s.whenP (s.pfReach true) fun s => s.inAwait fun s =>
    ({ s with flash := { s.flash with autoload := none } }.onBoot fun b => { b with autoloadBit := false }).imageEnd Codes.OK)

/-- IMAGE_LOAD_DEFERRED_START (22 R820): the fuse command that held a load command back has ended. -/
def execImageLoadDeferredStart (s : State) : Host.Outcome State Fault Refusal :=
  .next (s.effect fun s => s.whenP (s.dev.aux.loadDeferred && !s.dev.sec.busy && s.dev.boot.stage = .awaitImage) fun s =>
    (s.onBoot fun b => { b with imageBusy := false }).startFetch .load)

/-- The stage returns to AWAIT_IMAGE after a rejection of a load (05 R150, 07 R222). -/
def State.backToAwait (s : State) : State := (s.onBoot fun b => { b with stage := .awaitImage }).bootFrames

/-- The fetched, or stored, bytes are validated (05 R150-R153; 06 R202-R207). -/
def State.fetchDone (s : State) (k : LoadKind) (bytes : List Byte) : State :=
  let img := if k = .autoload then s.flash.autoload.getD [] else bytes
  match validateImage s img with
  | some e =>
    let s := s.rejectImage e
    if k = .store then s
    else if k = .autoload then
      ((s.backToAwait.onAux fun a => { a with autoloadTried := true }).pfEvent 6 Codes.IMAGE_AUTOLOAD_FAILED e.code.toNat)
    else s.backToAwait
  | none =>
    if k = .store then
      ({ s with flash := { s.flash with autoload := some img } }.onBoot fun b => { b with autoloadBit := true }).onAux (fun a => { a with autoloadTried := false })
        |>.imageEnd Codes.OK
    else (s.acceptImage img).onAux fun a => { a with loading := none }

/-- IMAGE_FETCH_DONE (05 R150-R153; 06 R202-R207, R931, R932): the bytes of an image fetch have arrived; an autoload reads
boot flash instead. -/
def execImageFetchDone (bytes : List Byte) (s : State) : Host.Outcome State Fault Refusal :=
  .next (s.flashEffect fun s =>
    match s.dev.aux.loading with
    | some k => s.whenP (k = .autoload || (s.dev.hst.linkUp && bytes.length = s.dev.boot.imageLen.toNat)) fun s => s.fetchDone k bytes
    | none => s)

def fetchCode : FetchFailure → Code
  | .hostError => Codes.HST_HOST_ERROR
  | .denied => Codes.HST_HOST_DENIED
  | .linkDown => Codes.HST_LINK_DOWN

/-- An image fetch ends: the stage returns to AWAIT_IMAGE (05 R151; 07 R222). -/
def State.fetchEnds (s : State) (c : Code) : State :=
  match s.dev.aux.loading with
  | some .load => (s.fetchFailed c).backToAwait
  | some .store => s.fetchFailed c
  | _ => s

/-- IMAGE_FETCH_ERROR (05 R151): a host read of the fetch fails, is denied, or the link goes down. -/
def execImageFetchError (why : FetchFailure) (s : State) : Host.Outcome State Fault Refusal :=
  .next (s.effect fun s => s.whenP (s.dev.aux.loading = some .load || s.dev.aux.loading = some .store) fun s =>
    let s := if why = .hostError then s.assignFault Codes.HST_HOST_ERROR none 0 none else s
    s.fetchEnds (fetchCode why))

/-- REGIONS_START (06 R207 step 6, R209; 07 R221; 11 R431; 15 R582): at the frame boundary, every region starts, the function tables of the
sites whose sums differ and the self-tests of those named fail, and the stage is RUNNING. -/
def execRegionsStart (tests : SiteTests) (s : State) : Host.Outcome State Fault Refusal :=
  .next (s.effect fun s => s.whenP s.dev.aux.starting fun s =>
    let s := s.onAux fun a => { a with starting := false }
    let s := s.onPwr fun p => { p with saved := [], savedPlans := none }
    let s := s.onNoc fun n => { n with
      counting := true, frame := 0, frameTick := s.tick, held := false
      heldLog := [], heldCount := 0, lastSent := [], voids := [], deferred := [], starved := [], bgLast := [], bgWindowLast := [] }
    let s := s.onYdi fun y => { y with bundles := y.bundles.map (fun (e : Nat × Bundle) => (e.1, { e.2 with changeFrame := none })) }
    let s := s.regionIds.foldl (fun s r => (s.checkTables r tests.sums).checkNoise r tests.badNoise) s
    (s.onBoot fun b => { b with stage := .running }).imageEnd Codes.OK)

/-- The plans and the mode in force before a load that an apply fault stops hold again (03 R70; 04 R116; 06 R208; 18 R672). -/
def State.restorePlans (s : State) : State :=
  match s.dev.pwr.savedPlans with
  | some (clk, w, pwr, slate) =>
    (((s.onClk fun c => { c with planCode := clk, window := w }).onPwr fun p => { p with planCode := pwr, savedPlans := none })).onAux fun a =>
      { a with slateInForce := slate }
  | none => s

/-- IMAGE_APPLY_FAULT (06 R208): a hardware fault stops the acceptance at step `step` of R207. -/
def execImageApplyFault (step : Fin 7) (s : State) : Host.Outcome State Fault Refusal :=
  .next (s.effect fun s => s.whenP (s.dev.aux.starting && step ≠ 0) fun s =>
    let s := s.restorePlans
    let s := (List.range 52).foldl (fun s n => s.restoreDomain n (Tab.get {} s.dev.pwr.saved n)) s
    let s := s.onPwr fun p => { p with saved := [] }
    let s := (s.onMem Mem.forgetDram).wipeScratch
    (s.dropImage.imageEnd Codes.IMAGE_APPLY_FAULT).pfEvent 6 Codes.IMAGE_APPLY_FAULT step.val)

end Sys2Proof.Machine
end

