-- ==== Sys2Proof/Machine/Power.lean ====
section
/-!
DEFINITION. Clocks (03 R83-R86), frame boundaries (07 R221, R222; 04 R117, R120-R128), power domains (04 R88-R112) and the
supply (26 R907-R913).
-/
namespace Sys2Proof.Machine

/-! ## Requests (04 R101-R106, R130) -/

/-- Latches a request: the physical function's wins over another of the same tick (04 R102). -/
def State.latchPower (s : State) (n : Nat) (q : PwrReq) : State :=
  s.onDomain n fun d =>
    match d.request with
    | some p => if p.tick = q.tick && p.who.isNone && q.who.isSome then d else { d with request := some q, target := BitVec.ofNat 3 q.target }
    | none => { d with request := some q, target := BitVec.ofNat 3 q.target }

/-- A failed request through REGION_PWR_REQ is an event of its region (04 R130, 09 R929). -/
def State.powerFails (s : State) (n : Nat) (q : PwrReq) (c : Code) : State :=
  match q.who with
  | some r => s.regionEvent r 5 c (n + q.target * 2 ^ 8)
  | none => s

/-- Whether a block, engine or memory die is on, or on its way (04 R97, R98). -/
def Domain.leansOnEdge (d : Domain) (n : Nat) : Bool :=
  d.state = .ivory || (d.state = .closing && !isMemDomain n) || d.moving.any (fun m => m.1 = .ivory)

/-- Whether a request keeps the dependencies (04 R97, R98). -/
def State.dependencyOk (s : State) (n : Nat) (t : PState) : Bool :=
  if t = .ivory then
    match edgeOf n with
    | some e => s.ivory e
    | none => true
  else if n = 19 ∨ n = 39 then
    (List.range 52).all (fun m => edgeOf m ≠ some n || !(s.domain m).leansOnEdge m)
  else true

/-- Acts on a latched request (04 R92, R93, R97, R98, R101). The retention mask of a request reaches PWR_RETAIN when the request is acted on
and passes its checks (DESIGN CHOICE, log 111). While a thermal trip stands, a request that passes begins nothing (04 R126). -/
def State.actPower (s : State) (n : Nat) (q : PwrReq) : State :=
  let s := s.onDomain n fun d => { d with request := none }
  match pstate? q.target with
  | none => s.powerFails n q Codes.PWR_STATE_INVALID
  | some t =>
    if !supports n t || !reachable (s.domain n).state t then s.powerFails n q Codes.PWR_STATE_INVALID
    else if !s.dependencyOk n t then s.powerFails n q Codes.PWR_DEPENDENCY
    else if s.dev.aux.tripHold then s
    else
      let s := match q.mask with
        | some m => if t = PState.ash then s.onDomain n fun d => { d with retain := m } else s
        | none => s
      s.begin_ n t

/-- REGION_PWR_REQ (04 R89, R101-R103, R130): a request for an absent domain is ignored, and one for a domain that the region does not own
fails at once (log 15). -/
def execRegionPwrReq (f : FnId) (r : RegionId) (v : Word) (s : State) : Host.Outcome State Fault Refusal :=
  .next (s.effect fun s => s.whenP (s.reaches f.val r.val) fun s =>
    let n := bitsOf v.toNat 5 0
    s.whenP (s.domPresent n) fun s =>
    let q : PwrReq := { who := some r.val, target := bitsOf v.toNat 10 8, tick := s.tick, mask := some (v.extractLsb' 16 16) }
    if s.domOwner n ≠ r.val then s.powerFails n q Codes.PWR_NOT_OWNER else s.latchPower n q)

/-- PWR_DOMAIN_TARGET_WRITE (04 R89, R101, R102, R129): requests for absent domains are ignored. -/
def execPwrDomainTargetWrite (n : Fin 64) (v : Word) (s : State) : Host.Outcome State Fault Refusal :=
  .next (s.effect fun s => s.whenP (s.pfReach false && switchable n.val && s.domPresent n.val) fun s =>
    s.latchPower n.val { who := none, target := bitsOf v.toNat 2 0, tick := s.tick, mask := none })

/-- PWR_REQUEST_ACT (04 R92, R93, R97, R98, R101-R106): at the first frame boundary after the latch. -/
def execPwrRequestAct (n : Fin 64) (s : State) : Host.Outcome State Fault Refusal :=
  .next (s.effect fun s => s.whenP s.atFrame fun s =>
    match (s.domain n.val).request with
    | some q => s.whenP (q.tick ≠ s.tick) fun s => s.actPower n.val q
    | none => s)

/-- CLOSING_DRAINED (04 R104, R108): at a frame boundary after the one at which closing began, the last accepted operation has
completed, and the domain enters Pewter. -/
def execClosingDrained (n : Fin 64) (s : State) : Host.Outcome State Fault Refusal :=
  .next (s.effect fun s => s.whenP (s.atFrame && (s.domain n.val).state = .closing && 1 ≤ (s.domain n.val).closingFrames && !s.domainBusy n.val) fun s =>
    let goal := (s.domain n.val).goal
    let s := s.enter n.val .pewter
    s.onDomain n.val fun d =>
      { d with goal := none, closingFrames := 0, drainRaised := false,
               moving := match goal with
                 | some t => if t = .pewter then none else some (t, frames .pewter t)
                 | none => none })

/-- PWR_TRANSITION_COMPLETE (04 R95, R96, R104): the frames of a transition have elapsed. -/
def execPwrTransitionComplete (n : Fin 64) (s : State) : Host.Outcome State Fault Refusal :=
  .next (s.effect fun s => s.whenP s.atFrame fun s =>
    match (s.domain n.val).moving with
    | some (t, 0) => (s.onDomain n.val fun d => { d with moving := none }).enter n.val t
    | _ => s)

/-- PWR_DRAIN_LONG (04 R111): closing has lasted 64 frames. -/
def execPwrDrainLong (n : Fin 64) (s : State) : Host.Outcome State Fault Refusal :=
  .next (s.effect fun s =>
    s.whenP ((s.domain n.val).state = .closing && 64 ≤ (s.domain n.val).closingFrames && !(s.domain n.val).drainRaised) fun s =>
      let s := s.onDomain n.val fun d => { d with drainRaised := true }
      let o := s.domOwner n.val
      s.eventAll (if o < 0x20 then [o] else []) 5 Codes.PWR_DRAIN_LONG n.val)

/-! ## Throttling, trip and droop (04 R117-R128) -/

/-- The throttle level from the hottest reading (04 R117), in units of 0.25 °C. -/
def Pwr.newLevel (p : Pwr) : Nat :=
  let t := p.hottest.toNat
  if 4 * p.trip.toNat ≤ t then 4
  else if 4 * p.throttle.toNat ≤ t then min 4 ((t - 4 * p.throttle.toNat) / 8 + 1)
  else if 4 * p.release.toNat ≤ t && p.level ≠ 0 then 1
  else 0

/-- Whether a frame is held at a level (04 R120). -/
def heldAt (level frame : Nat) : Bool :=
  match level with
  | 0 => false
  | 1 => frame % 8 = 7
  | 2 => frame % 8 = 3 || frame % 8 = 7
  | 3 => frame % 2 = 1
  | _ => frame % 8 ≠ 0 && frame % 8 ≠ 4

/-- A droop holds the frame that begins: one latched, or one that has not yet seen 64 good frames (04 R128; 26 R911, R913). -/
def Pwr.drooping (p : Pwr) : Bool := p.droopLatched || (p.droop && p.droopGoodFrames < 64)

/-- The throttle level of the frame that begins: computed anew every 64 frames (04 R117). -/
def State.levelNow (s : State) : Nat := if s.frame % 64 = 0 then s.dev.pwr.newLevel else s.dev.pwr.level.toNat

/-- The level that holds the frame that begins: 4 in a droop, one lower in Ochre mode except under power plan 0x16, none after a trip
(04 R120, R123, R127; 26 R913). -/
def State.holdLevel (s : State) : Nat :=
  if s.dev.aux.tripHold then 0
  else if s.dev.pwr.drooping then 4
  else if s.dev.aux.slateInForce || s.dev.pwr.planCode = 0x16 then s.levelNow
  else s.levelNow - 1

/-- Decides whether the frame that begins is held; the operations in flight during a held frame are disturbed (04 R121). -/
def State.setHeld (s : State) : State :=
  let h := heldAt s.holdLevel s.frame
  let log := fun (n : Noc) => if h then (s.frame :: n.heldLog).take 1024 else n.heldLog
  let s' := s.onNoc fun n => { n with held := h, heldLog := log n, heldCount := n.heldCount + h.toNat }
  if h then s.regionIds.foldl (fun s r => s.disturbAll r) s' else s'

/-- The largest reading and the lowest domain that shows it (04 R129). -/
def hottestOf (l : List (BitVec 10)) : Nat × Nat :=
  l.zipIdx.foldl (fun b p => if b.1 < p.1.toNat then (p.1.toNat, p.2) else b) (0, 0)

/-- A domain counts one frame of its transition or closing. -/
def Domain.frame1 (d : Domain) : Domain :=
  { d with moving := d.moving.map (fun m => (m.1, m.2 - 1)), closingFrames := if d.state = .closing then d.closingFrames + 1 else 0 }

/-- A frame begins: the count, the readings, the trim, the held decision (07 R221, R222; 03 R84; 04 R104, R111, R117, R120;
19 R722; 23 R859; 24 R871; 26 R911). `avgMv` is the rail's mean over 64 frames, and `lowMv` its lowest reading in the frame that ends. -/
def State.frameStart (s : State) (temps : List (BitVec 10)) (inputPower avgMv lowMv : BitVec 16) : State :=
  let h := hottestOf temps
  let s := s.onNoc fun n =>
    { n with frame := if n.counting then n.frame + 1 else n.frame
             bootFrame := if n.counting then n.bootFrame else n.bootFrame + 1
             frameTick := s.tick, held := false }
  let s := if s.frame % 1024 = 0 then s.onNoc fun n => { n with linkErr := [] } else s
  let s := s.onClk fun c => { c with trim := c.trimPending.getD c.trim, trimPending := none }
  let s := s.onPwr fun p =>
    { p with sensors := temps.zipIdx.map (fun q => (q.2, q.1)), hottest := BitVec.ofNat 10 h.1, hottestId := BitVec.ofNat 6 h.2,
             inputPower := inputPower, avgRail := avgMv,
             droopGoodFrames := if p.droop && 11400 < lowMv.toNat then p.droopGoodFrames + 1 else 0,
             domains := p.domains.map (fun e => (e.1, e.2.frame1)) }
  (s.setHeld).evacuateLost

/-- FRAME_BOUNDARY (07 R221, R222): a network or boot frame ends and the next begins; the sensors' readings are given, and which groups of
stored bytes have been damaged in the frame that ends (08 R262, R275; DESIGN CHOICE, log 112). -/
def execFrameBoundary (temps : List (BitVec 10)) (inputPower : BitVec 16) (reads : FrameReads) (s : State) : Host.Outcome State Fault Refusal :=
  if temps.length ≠ 46 then .refused .illFormed
  else .next (s.effect fun s => s.whenP (s.dev.boot.stage ≠ .reset) fun s =>
    (s.onMem fun m => reads.upsets.foldl (fun m p => m.mark p.1 p.2) m).frameStart temps inputPower reads.avgMv reads.lowMv)

/-- The throttle level changes (04 R118). -/
def State.throttleTo (s : State) (lv : Nat) : State :=
  if lv = s.dev.pwr.level.toNat then s
  else (s.onPwr fun p => { p with level := BitVec.ofNat 3 lv }).pfEvent 5 Codes.THERM_THROTTLE (lv + s.dev.pwr.hottestId.toNat * 2 ^ 3)

/-- THROTTLE_RECOMPUTE (04 R117, R118, R123, R127): at the boundary of every 64th frame. -/
def execThrottleRecompute (s : State) : Host.Outcome State Fault Refusal :=
  .next (s.effect fun s => s.whenP (s.atFrame && s.frame % 64 = 0 && !s.dev.aux.tripHold && s.dev.boot.stage ≠ .reset) fun s =>
    s.throttleTo s.dev.pwr.newLevel)

/-- THERM_TRIP (04 R118, R125, R127): the hottest reading has reached the trip threshold; the throttle level becomes 4. -/
def execThermTrip (s : State) : Host.Outcome State Fault Refusal :=
  .next (s.effect fun s => s.whenP (4 * s.dev.pwr.trip.toNat ≤ s.dev.pwr.hottest.toNat && !s.dev.aux.tripHold && s.dev.boot.stage ≠ .reset) fun s =>
    let s := s.assignFault Codes.THERM_TRIP none 0 none
    let s := s.pfEvent 5 Codes.THERM_TRIP (s.dev.pwr.hottestId.toNat + s.dev.pwr.hottest.toNat * 2 ^ 6)
    let s := (s.throttleTo 4).onPwr fun p => { p with tripped := true, tripPending := true }
    s.onAux fun a => { a with tripHold := true })

/-- The ID of the newest logged fault of a code. -/
def State.faultIdOf (s : State) (c : Code) : BitVec 16 :=
  ((s.dev.faults.log.filter (fun e => e.2.code = c)).foldl (fun (b : FaultEntry) e => if b.tick.toNat ≤ e.2.tick.toNat then e.2 else b) {}).id

/-- Domains that a trip turns off, and those that it sends to Pewter (04 R125). -/
def tripOff : List Nat := (List.range 52).filter (fun n => n < 19 || (20 ≤ n && n < 39) || n = 41 || n = 42 || 46 ≤ n)
def tripPewter : List Nat := [19, 39, 45]

/-- THERM_TRIP_APPLY (04 R125, R126): at the next frame boundary. -/
def execThermTripApply (s : State) : Host.Outcome State Fault Refusal :=
  .next (s.effect fun s => s.whenP (s.atFrame && s.dev.pwr.tripPending) fun s =>
    let s := s.onPwr fun p => { p with tripPending := false }
    let s := s.endAll Codes.THERM_TRIP (s.faultIdOf Codes.THERM_TRIP)
    let clear (t : PState) (s : State) (n : Nat) : State :=
      (s.onDomain n fun d => { d with target := BitVec.ofNat 3 t.code, request := none, goal := none, moving := none, closingFrames := 0, drainRaised := false }).enter n t
    let s := tripOff.foldl (clear .charcoal) s
    let s := tripPewter.foldl (clear .pewter) s
    s.stopFabric)

/-- SUPPLY_DROOP_BEGIN (04 R128; 26 R911-R913): a latched droop is acted on at the frame boundary; the frame that begins there is held by
it already (State.setHeld). -/
def execSupplyDroopBegin (s : State) : Host.Outcome State Fault Refusal :=
  .next (s.effect fun s => s.whenP (s.atFrame && s.dev.pwr.droopLatched) fun s =>
    let was := s.dev.pwr.droop
    let s := s.onPwr fun p => { p with droopLatched := false, droop := true, droopGoodFrames := 0 }
    if was then s else s.pfEvent 5 Codes.SUPPLY_DROOP 1)

/-- SUPPLY_DROOP_END (26 R911-R913): the rail has stayed above 11.4 V for 64 frames. -/
def execSupplyDroopEnd (s : State) : Host.Outcome State Fault Refusal :=
  .next (s.effect fun s => s.whenP (s.atFrame && s.dev.pwr.droop && 64 ≤ s.dev.pwr.droopGoodFrames) fun s =>
    let s := s.onPwr fun p => { p with droop := false, droopGoodFrames := 0 }
    s.pfEvent 5 Codes.SUPPLY_DROOP 0)

/-- RAIL_DROOP (04 R128; 26 R910, R911): the rail falls below 11.2 V, and the fall is latched. -/
def execRailDroop (mv : BitVec 16) (s : State) : Host.Outcome State Fault Refusal :=
  .next (s.effect fun s =>
    let s := s.onPins fun p => { p with railMv := mv }
    s.whenP (mv.toNat < 11200 && s.powered) fun s => s.onPwr fun p => { p with droopLatched := true, droopGoodFrames := 0 })

/-- PWR_THERM_CTL_WRITE (04 R129): a write that breaks the thresholds' order is ignored. -/
def execPwrThermCtlWrite (v : Word) (s : State) : Host.Outcome State Fault Refusal :=
  .next (s.devEffect fun s =>
    let throttle := v.extractLsb' 0 8
    let release := v.extractLsb' 8 8
    let trip := v.extractLsb' 16 8
    s.whenP (s.pfReach false && release < throttle && throttle < trip && trip ≤ 110) fun s =>
      s.onPwr fun p => { p with throttle := throttle, release := release, trip := trip })

/-! ## Clocks (03 R83-R86) -/

/-- RESONATOR_CHECK (03 R85): once per 2^20 hub ticks; a disagreement stops fabric work until power-on reset. A further one raises nothing
more (DESIGN CHOICE, log 113). -/
def execResonatorCheck (disagree : Bool) (s : State) : Host.Outcome State Fault Refusal :=
  .next (s.effect fun s => s.whenP (disagree && s.powered && !s.dev.clk.resFault) fun s =>
    let s := s.assignFault Codes.RES_FAULT none 0 none
    let s := s.pfEvent 6 Codes.RES_FAULT 0
    (s.onClk fun c => { c with resFault := true }).stopFabric)

/-- RESONATOR_CALIBRATION (03 R84, R87): a step of at most 0.5 ppm, in units of 0.01 ppm, waits for the frame boundary. -/
def execResonatorCalibration (step : BitVec 16) (s : State) : Host.Outcome State Fault Refusal :=
  .next (s.devEffect fun s =>
    s.whenP (s.powered && s.dev.boot.stage ≠ .reset && s.dev.clk.trimPending.isNone && s.bgFree 0 12 s.slot &&
        decide (-50 ≤ step.toInt) && decide (step.toInt ≤ 50)) fun s =>
      (s.bgServed 0 12 .calibration).onClk fun c => { c with trimPending := some (c.trim + step) })

/-- Sites that lose their island: the one named, or every site of a block (23 R856). -/
def State.islandKeys (s : State) (n : Nat) (inSite : Bool) (key : Nat) : List Nat :=
  if inSite then [key] else if isBlock n then s.blockKeys n else []

/-- Whether an operation runs on any of these sites, or on a stopped vision or copy engine. -/
def Slot.onSites (sl : Slot) (keys : List Nat) : Bool :=
  sl.op.dispatched &&
    (sl.run.task.any (fun t => t.threads.any (fun x => keys.contains x.1)) ||
     sl.run.anneal.any (fun a => a.sites.any (fun x => keys.contains x)) ||
     sl.run.matrix.any (fun m => keys.contains m.site))
def Slot.onEngine (sl : Slot) (n : Nat) : Bool :=
  sl.op.dispatched && (sl.run.vis.any (fun v => visDomain v.die v.stereo = n) ||
    (sl.op.type = 1 && sl.op.state = .running && edgeDomain (sl.op.field 14 9 9) = n))

/-- The one region that a lock loss concerns, if there is one. -/
def State.islandRegion (s : State) (n : Nat) (inSite : Bool) (key : Nat) : Option Nat :=
  if inSite then s.siteRegion? (key / 256) (key % 256)
  else if (isBlock n || isEngine n) && s.domOwner n < 0x20 then some (s.domOwner n) else none

/-- An island loses lock: its site, block or engine is out of service (03 R86; 23 R856). -/
def State.loseIsland (s : State) (n : Nat) (inSite : Bool) (key : Nat) : State :=
  let reg := s.islandRegion n inSite key
  let site := if inSite then some key else none
  let s := s.assignFault Codes.ISLAND_LOCK_LOST reg (if inSite then key / 256 else n / 20 % 2) (site.map (· % 256))
  let id := s.lastFault
  let out : OutOfService := { code := Codes.ISLAND_LOCK_LOST, faultId := id, tick := s.stamp }
  let s := s.onClk fun c => { c with lockLost := true, lostCount := satAdd c.lostCount 1, unlocked := (n, site) :: c.unlocked }
  let keys := s.islandKeys n inSite key
  let s := keys.foldl (fun s k => s.onSite k fun x => { x with island := some (x.island.getD out) }) s
  let s := if isEngine n && !inSite then
      s.onDie (n / 20) fun x => if n % 20 = 17 then { x with featFault := some (x.featFault.getD out) } else { x with steFault := some (x.steFault.getD out) }
    else s
  let s := s.regionIds.foldl (fun s r =>
    ((s.slots r).filter (fun sl => sl.onSites keys || (!inSite && sl.onEngine n))).foldl
      (fun s sl => s.latch r sl.op.queue sl.op.seq Codes.ISLAND_LOCK_LOST 0 id) s) s
  s.eventAll reg.toList (islandKind site) Codes.ISLAND_LOCK_LOST (islandDetail n site false)

/-- ISLAND_LOCK_LOST (03 R86; 23 R856): an island of a powered domain loses frequency lock. -/
def execIslandLockLost (domain : BitVec 6) (inSite : Bool) (at_ : SiteRef) (s : State) : Host.Outcome State Fault Refusal :=
  .next (s.effect fun s =>
    let n := if inSite then s.siteDomain at_.die.val at_.site.val else domain.toNat
    s.whenP (s.dev.boot.stage ≠ .reset && (s.ivory n || s.domState n = .closing)) fun s => s.loseIsland n inSite (siteRefKey at_))

end Sys2Proof.Machine
end

