-- ==== Sys2Proof/Machine/Units.lean ====
section
/-!
DEFINITION. What every unit of an operation shares: dispatch marks and acceptance by domains (04 R107-R110), the statuses that
an operation meets while it runs on (08 R264; 23 R846, R857), and reads and writes of a unit's bytes with their checks.
-/
namespace Sys2Proof.Machine

/-! ## Dispatch -/

/-- Domains of a list that take new work. -/
def State.openDomains (s : State) (l : List Nat) : List Nat := l.filter s.ivory

/-- An operation dispatches: its first dispatch fixes its slot, its tick and its digests; open domains accept it
(04 R107; 09 R353, R364; 18 R691; 24 R880). The domains given are those whose unit runs the operation. -/
def State.dispatchMark (s : State) (r : Nat) (sl : Slot) (doms : List Nat) : State :=
  let q := sl.op.queue
  let seq := sl.op.seq
  let s := s.capture r q seq
  let s := s.onOp r q seq fun o =>
    let o := if o.dispatched then o
      else { o with dispatched := true, dispatchFrame := s.frame, dispatchSlot := s.slot, timeoutTick := s.tick, timeoutPaused := 0 }
    { o with state := .running, accepted := o.accepted ++ (s.openDomains doms).map (fun n => (n, s.slotCount)) }
  s.trace r 1 (traceKey 4 q seq.toNat 0) q 0 seq.toNat sl.op.type

/-- An operation completes at the boundary at which it dispatches (09 R353). -/
def State.finishNow (s : State) (r : Nat) (sl : Slot) (status : Code) (fault : BitVec 16) : State :=
  (s.dispatchMark r sl []).finish r sl.op.queue sl.op.seq status 0 fault

/-- Whether a domain serves an operation: it is on, or it is closing and has accepted it (04 R108-R110). -/
def State.serves (s : State) (accepted : List (Nat × Nat)) (n : Nat) : Bool :=
  s.ivory n || (s.domState n = .closing && accepted.any (·.1 = n))

/-- Notes a status that an operation met while it runs on. -/
def OpRec.note (c : OpRec) (spin : Bool) (status : Code) (fault : BitVec 16) : OpRec :=
  let p := firstStatus spin (c.pendingStatus, c.pendingFault) (status, fault)
  { c with pendingStatus := p.1, pendingFault := p.2 }

def State.note (s : State) (k : OpKey) (status : Code) (fault : BitVec 16) : State :=
  s.onSlot k.1 k.2.1 k.2.2 fun sl => { sl with rec_ := sl.rec_.note sl.op.onSpins status fault }

/-- The status noted so far. -/
def State.noted (s : State) (k : OpKey) : Code × BitVec 16 :=
  match s.slotOf k.1 k.2.1 k.2.2 with
  | some sl => (sl.rec_.pendingStatus, sl.rec_.pendingFault)
  | none => (Codes.OK, 0)

/-- Latches an operation's end: the first of its own status and those noted. -/
def State.latchEnd (s : State) (k : OpKey) (own : Code) (result : Word) : State :=
  let spin := (s.slotOf k.1 k.2.1 k.2.2).any (·.op.onSpins)
  let p := firstStatus spin (own, 0) (s.noted k)
  s.latch k.1 k.2.1 k.2.2 p.1 result p.2

def State.acceptedOf (s : State) (k : OpKey) : List (Nat × Nat) := ((s.slotOf k.1 k.2.1 k.2.2).map (·.op.accepted)).getD []

/-- A domain accepts an operation whose first packet reaches it in slot `at_`, counted since frame 0 (04 R107). -/
def State.acceptAt (s : State) (k : OpKey) (n at_ : Nat) : State :=
  if s.ivory n && !(s.acceptedOf k).any (·.1 = n) then s.onOp k.1 k.2.1 k.2.2 fun o => { o with accepted := (n, at_) :: o.accepted } else s

/-- A domain accepts an operation whose packet reaches it now. -/
def State.accept (s : State) (k : OpKey) (n : Nat) : State := s.acceptAt k n s.slotCount

/-! ## Bytes of a unit -/

/-- Removes repeats. -/
def dedupNat (l : List Nat) : List Nat := l.foldl (fun t x => if t.contains x then t else t ++ [x]) []

/-- Why a byte cannot be reached by an operation: its site's island is lost, or its domain does not serve it. -/
def State.reachFails (s : State) (k : OpKey) (a : Nat) : Option (Code × BitVec 16) :=
  match s.islandAt a with
  | some o => some (o.code, o.faultId)
  | none => if s.serves (s.acceptedOf k) (s.domainOf a) then none else some (Codes.DEST_CLOSED, 0)

/-- Accepts, then notes what keeps an operation from each of these bytes' domains. -/
def State.meet (s : State) (k : OpKey) (l : List Nat) : State :=
  let s := (dedupNat (l.map s.domainOf)).foldl (fun s n => s.accept k n) s
  (l.filterMap (s.reachFails k)).foldl (fun s e => s.note k e.1 e.2) s

/-- Raises MEM_UNCORRECTABLE for each bad unit among addresses, and notes it (08 R264). -/
def State.badUnits (s : State) (k : OpKey) (l : List Nat) : State :=
  let hit := (s.mem.marks.filter (fun p => p.2 != .corrected && l.any (fun a => a / checkUnit a == p.1 / checkUnit p.1))).map (·.1)
  (dedupNat (hit.map (fun a => a / checkUnit a * checkUnit a))).foldl
    (fun s a => (s.memFault k.1 a).note k Codes.MEM_UNCORRECTABLE s.dev.faults.next) s

/-- Reads an operation's bytes: none where a byte could not be delivered (04 R109; 08 R264; 23 R857). -/
def State.unitRead (s : State) (k : OpKey) (l : List Nat) : State × List (Option Byte) :=
  let s := (s.meet k l).badUnits k l
  let s := s.countCorrected l
  (s, l.map (fun a =>
    if (s.reachFails k a).isSome || (s.mem.bad [a]).isSome then none else some (s.mem.read s.free a)))

/-- Writes an operation's bytes; what cannot be written is noted and stays (04 R109; 08 R264, R265; 10 R398; 23 R857). Answers
which bytes were written. -/
def State.unitWrite (s : State) (k : OpKey) (l : List (Nat × Byte)) : State × List Bool :=
  let s := s.meet k (l.map (·.1))
  let ok (a : Nat) : Bool := (s.reachFails k a).isNone && !s.busyByte a
  let s1 := if l.any (fun p => s.busyByte p.1 && (s.reachFails k p.1).isNone) then s.note k Codes.ANL_SITE_BUSY 0 else s
  let good := l.filter (fun p => ok p.1)
  let addrs := good.map (·.1)
  let s1 := s1.countMerged addrs
  let torn (a : Nat) : Bool :=
    !coversUnit addrs a && s.mem.marks.any (fun p => p.2 != .corrected && p.1 / checkUnit p.1 == a / checkUnit a)
  let s2 := s1.badUnits k (addrs.filter torn)
  let s3 := s2.onMem fun m => (m.writeCells good).1
  (s3, l.map (fun p => ok p.1 && !torn p.1))

end Sys2Proof.Machine
end

