-- ==== Sys2Proof/Machine/Operands.lean ====
section
/-!
DEFINITION. Thread operands: the instruction word and its fields (09 R313), registers, register pairs and addresses (09
R315), which registers an instruction waits for (09 R322), and LMF-64 draws for a region (11 R427-R429).
-/
namespace Sys2Proof.Machine

/-! ## The instruction word (09 R313) -/

/-- An instruction word from its fields. -/
def enc (op rd ra rb rc imm : Nat) : Nat :=
  op + rd * 2 ^ 8 + ra * 2 ^ 14 + rb * 2 ^ 20 + rc * 2 ^ 26 + imm * 2 ^ 32

/-- The fields of an instruction word. -/
def wOp (w : Nat) : Nat := bitsOf w 7 0
def wRd (w : Nat) : Nat := bitsOf w 13 8
def wRa (w : Nat) : Nat := bitsOf w 19 14
def wRb (w : Nat) : Nat := bitsOf w 25 20
def wRc (w : Nat) : Nat := bitsOf w 31 26
def wImm (w : Nat) : Nat := bitsOf w 63 32

/-- Which of the fields rd, ra, rb, rc and which immediate bits an opcode uses (09 R313, R316-R321): none for an opcode not in
the map. Fields first, then the mask of the immediate. -/
def opFields (op : Nat) : Option ((Bool × Bool × Bool × Bool) × Nat) :=
  let all := 0xFFFFFFFF
  if op = 0 then some ((false, false, false, false), 0)
  else if op ≤ 0x13 then some ((true, true, true, false), 0)
  else if 0x41 ≤ op ∧ op ≤ 0x53 then some ((true, true, false, false), all)
  else if op = 0x20 then some ((true, false, false, false), all)
  else if op = 0x21 then some ((true, true, false, false), 0)
  else if op = 0x22 then some ((true, true, true, true), 0)
  else if 0x28 ≤ op ∧ op ≤ 0x2E then some ((true, true, true, false), 0)
  else if op = 0x2F ∨ op = 0x30 then some ((true, true, false, false), 0)
  else if op = 0x34 then some ((true, true, true, true), 0xFF3F)
  else if op = 0x35 then some ((true, true, false, false), 0xFF1F)
  else if 0x60 ≤ op ∧ op ≤ 0x65 then some ((true, true, false, false), all)
  else if 0x68 ≤ op ∧ op ≤ 0x6B then some ((false, true, true, false), all)
  else if op = 0x70 ∨ op = 0x71 then some ((true, true, true, true), all)
  else if op = 0x80 then some ((false, false, false, false), all)
  else if op = 0x81 ∨ op = 0x82 then some ((false, true, false, false), all)
  else if op = 0x83 then some ((true, false, false, false), all)
  else if op = 0x84 then some ((false, true, false, false), 0)
  else if op = 0x8F then some ((false, false, false, false), 0)
  else if op = 0x90 ∨ op = 0x91 then some ((false, true, false, false), 0x3FF)
  else if op = 0x92 then some ((true, true, false, false), all)
  else if 0xA0 ≤ op ∧ op ≤ 0xA7 then some ((true, true, false, false), 1)
  else if op = 0xA8 then some ((false, true, true, true), 0x7FFFF)
  else none

/-- Conversion fields: the stochastic bit makes rc used; the zero point is used for U8 alone (09 R313, R318). -/
def cvtFieldsOk (w : Nat) : Bool :=
  let i := wImm w
  if wOp w = 0x34 then (bitAt i 5 || wRc w = 0) && (i % 16 = 3 || bitsOf i 15 8 = 0)
  else if wOp w = 0x35 then i % 16 = 3 || bitsOf i 15 8 = 0
  else true

/-- Whether a site can decode a word: a known opcode whose unused fields and bits are 0 (09 R311, R313). -/
def decodes (w : Nat) : Bool :=
  match opFields (wOp w) with
  | none => false
  | some ((d, a, b, c), m) =>
    (d || wRd w = 0) && (a || wRa w = 0) && (b || wRb w = 0) && (c || wRc w = 0) &&
      (wImm w).land (0xFFFFFFFF - m) = 0 && cvtFieldsOk w

/-- The integer formats of CVTN and CVTW: code 7 is no format there (09 R318). -/
def cvtFmt? (c : Nat) : Option Fmt := if c = 7 then none else fmt? c

/-! ## Registers -/

/-- The site key and number of a hardware thread. -/
def tk (t : Tid) : Nat × Nat := (tidKey t, t.th.val)

def Thread.reg (x : Thread) (n : Nat) : Word := Tab.get 0 x.regs n
def Thread.setReg (x : Thread) (n : Nat) (v : Word) : Thread := { x with regs := Tab.set x.regs n v }

/-- The 64-bit value of a register pair (09 R315). -/
def Thread.pair (x : Thread) (n : Nat) : Nat := (x.reg n).toNat + (x.reg (n + 1)).toNat * 2 ^ 32

/-- The address of a memory instruction: the pair's 48 bits plus the immediate, modulo 2^48 (09 R315). -/
def Thread.address (x : Thread) (ra imm : Nat) : Nat :=
  patternOf 48 (((x.pair ra % 2 ^ 48 : Nat) : Int) + signedOf 32 imm)

/-- Whether an instruction must wait for a register (09 R305, R322; log 19). -/
def Thread.waits (x : Thread) (rs : List Nat) : Bool :=
  x.outstanding.any (fun p => rs.contains p.reg || (p.pair && rs.contains (p.reg + 1)))

/-- Writes a register pair. -/
def Thread.setPair (x : Thread) (n : Nat) (v : Nat) : Thread :=
  (x.setReg n (BitVec.ofNat 32 v)).setReg (n + 1) (BitVec.ofNat 32 (v / 2 ^ 32))

/-- The registers that a pair names. -/
def pairRegs (n : Nat) : List Nat := [n, n + 1]

/-! ## Draws (11 R427-R429) -/

/-- A region's seed. -/
def State.regionSeed (s : State) (r : Nat) : Word64 := ((s.regionDef? r).map (·.seed)).getD 0

/-- LMF-64 for a region with the counter fields of R429. -/
def State.draw (s : State) (r domain index replica sweep attempt : Nat) : Word64 :=
  lmf64 s.image.seed (s.regionSeed r)
    (BitVec.ofNat 64 (index % 2 ^ 38 + replica * 2 ^ 38 + domain * 2 ^ 48)) (BitVec.ofNat 64 (sweep % 2 ^ 32 + attempt * 2 ^ 32))

/-- The draw of a stochastic rounding (14 R558): bits [31:0]. -/
def State.roundDraw (s : State) (r index sweep attempt : Nat) : Nat := (s.draw r 2 index 0 sweep attempt).toNat % 2 ^ 32

/-- The narrow mode of a region (14 R555). -/
def State.narrowMode (s : State) (r : Nat) : Nat := ((s.regionDef? r).map (·.narrow)).getD 0

end Sys2Proof.Machine
end

