-- ==== Sys2Proof/Machine/Flags.lean ====
section
/-!
DEFINITION. Handoff flags: updates, conditions, the latch of a boundary and its order (09 R344, R367-R370), and threads that
wait on a flag.
-/
namespace Sys2Proof.Machine

/-- A flag update: 0 set, 1 add, 2 or, 3 clear (09 R344, R367). -/
def flagApply (op : Nat) (old v : Word) : Word :=
  match op with
  | 0 => v | 1 => old + v | 2 => old ||| v | _ => 0

/-- A wait condition: 0 equal, 1 not equal, 2 unsigned greater or equal, 3 any bit of the value set (09 R344, R367). -/
def condHolds (cond : Nat) (flag v : Word) : Bool :=
  match cond with
  | 0 => flag == v | 1 => flag != v | 2 => decide (v.toNat ≤ flag.toNat) | _ => flag &&& v != 0

def State.flag (s : State) (r n : Nat) : Word := Tab.get 0 (s.region r).sched.flags n

/-- Latches an update for the next boundary (09 R368). -/
def State.latchFlag (s : State) (r : Nat) (u : FlagUpd) : State :=
  s.onSched r fun g => { g with flagUpds := g.flagUpds ++ [u] }

/-- The place of an update among those of a boundary: its source, then the order within the source (09 R368). -/
def flagBefore (a b : FlagUpd) : Bool := a.source < b.source || (a.source = b.source && a.sub < b.sub)

/-- Whether every store and atomic operation that the thread sent before the update has reached its destination (09 R369). -/
def State.flagLanded (s : State) (u : FlagUpd) : Bool :=
  u.source ≠ 4 || s.dev.noc.queues.all (fun e => e.2.all (fun p =>
    !(p.kind ≠ 0 && p.src * 64 + p.thread = u.sub && p.no < u.after)))

/-- Applies one update, and traces it where the flag changes (24 R880). -/
def State.applyFlag (s : State) (r i : Nat) (u : FlagUpd) : State :=
  let old := s.flag r u.flag
  let new := flagApply u.op old u.value
  let s := s.onSched r fun g => { g with flags := Tab.set g.flags u.flag new }
  if new = old then s else s.trace r 3 (traceKey 2 0 i 0) 0 0 new.toNat u.flag

/-- Applies the updates of the boundary in their order; those whose writes have not landed wait (09 R368, R369). -/
def State.applyFlags (s : State) (r : Nat) : State :=
  let us := (s.region r).sched.flagUpds
  let now := sortBy flagBefore (us.filter s.flagLanded)
  let later := us.filter (fun u => !s.flagLanded u)
  now.zipIdx.foldl (fun s u => s.applyFlag r u.2 u.1) (s.onSched r fun g => { g with flagUpds := later })

/-- Releases a thread whose flag condition holds: FWAIT is done (09 R370). -/
def State.releaseFlag (s : State) (r : Nat) (k th : Nat) : State :=
  match (s.thread k th).state with
  | .stallFlag flag cond v =>
    if condHolds cond (s.flag r flag) v then s.onThread k th fun x => { x with state := .running, pc := x.pc + 8 } else s
  | _ => s

/-- The threads of the running tasks of a region, by R334's order within each task. -/
def State.taskThreads (s : State) (r : Nat) : List (Nat × Nat) :=
  (s.slots r).flatMap (fun sl => if sl.op.state = .running then (sl.run.task.map (·.threads)).getD [] else [])

/-- Evaluates the flag waits of every thread of a region. -/
def State.releaseFlags (s : State) (r : Nat) : State :=
  (s.taskThreads r).foldl (fun s t => s.releaseFlag r t.1 t.2) s

end Sys2Proof.Machine
end

