-- ==== Sys2Proof/Machine/LinkRoutes.lean ====
section
/-!
DEFINITION. Link routes at this package: which link entries are in force, what an operation's link routes are, and the queues and
deliveries of cells (20 R739-R743, R754-R757, R761, R763).
-/
namespace Sys2Proof.Machine

/-! ## Entries in force -/

def State.topo? (s : State) : Option Topo := s.fab.body.topo
/-- The link entries of the accepted image. -/
def State.links (s : State) : List LinkEntry := (s.topo?.map (·.links)).getD []
/-- The port record of a port. -/
def State.topoPort? (s : State) (p : Nat) : Option TopoPort := s.topo?.bind (fun t => t.ports[p]?)
/-- Whether a port carries scheduled traffic under the image. -/
def State.portUsed (s : State) (p : Nat) : Bool := (s.topoPort? p).any (·.used)
/-- Whether a port has declared a loss that no acceptance has ended (20 R753). -/
def Port.isLost (p : Port) : Bool := p.state = .lost || p.state = .returned
/-- Whether alternate entries of a link route are in force (20 R755). -/
def State.routeSwitched (s : State) (l : Nat) : Bool :=
  s.links.any (fun e => e.linkRoute = l && e.alternate && s.dev.lnk.switched.contains e.altKey)
/-- Whether a link entry is in force (20 R754, R755). -/
def State.entryActive (s : State) (e : LinkEntry) : Bool :=
  if e.alternate then s.dev.lnk.switched.contains e.altKey else !(s.port e.port).isLost && !s.routeSwitched e.linkRoute
/-- The entries of a link route in force here. -/
def State.routeActive (s : State) (l : Nat) : List LinkEntry := s.links.filter (fun e => e.linkRoute = l && s.entryActive e)
/-- Whether a link route has entries in force here, all on live ports (20 R770). -/
def State.routeLive (s : State) (l : Nat) : Bool :=
  !(s.routeActive l).isEmpty && (s.routeActive l).all (fun e => (s.port e.port).state = .live)

/-- The link route that an on-die route of a region is tied to (20 R739, R741). -/
def State.tiedRoute (s : State) (r route : Nat) (dirIn : Bool) : Option Nat :=
  (s.links.find? (fun e => e.dirIn = dirIn && !e.forwarded && e.region = r && e.route = route)).map (·.linkRoute)

/-! ## Operations and their link routes -/

/-- The package tree's edges of a region: role right, up and down link routes (20 R761). -/
def State.treeEdges (s : State) (r : Nat) : List (Bool × Nat × Nat) :=
  ((s.topo?.bind (fun t => t.trees.find? (fun x => x.region = r))).map (fun x => x.edges.map (·.2))).getD []

/-- The link routes of a multi-package operation over these sites: those of its remote streams and of its package tree (20 R754,
R763, R770). -/
def State.opLinkRoutes (s : State) (r : Nat) (ks : List Nat) : List Nat :=
  let ins := ks.flatMap (fun k => ((s.imports k).filter (·.remote)).filterMap (fun e => s.tiedRoute r e.route true))
  let outs := ks.flatMap (fun k => ((s.exports k).filter (·.remote)).filterMap (fun e => s.tiedRoute r e.route false))
  if ins.isEmpty && outs.isEmpty then [] else ins ++ outs ++ (s.treeEdges r).flatMap (fun e => [e.2.1, e.2.2])

/-- The multi-package operation of a region that runs over a link route. -/
def State.linkOp (s : State) (r l : Nat) : Option OpKey :=
  ((sortBy slotBefore (s.slots r)).find? (fun sl => sl.op.state = .running &&
    (sl.run.anneal.map (fun a => (s.opLinkRoutes r a.sites).contains l)).getD false)).map (fun sl => sl.key r)

/-! ## Queues of cells -/

/-- Puts a cell of a local operation in a link route's queue, with the route's next sequence. -/
def State.queueCell (s : State) (key : Option OpKey) (l : Nat) (packet : List Byte) (mark : Option EpochMark) : State :=
  s.onLnk fun x =>
    let cell : LinkCell := { route := l, seq := Tab.get 0 x.seqOut l, retried := false, packet := packet, mark := mark, op := key }
    { x with seqOut := Tab.set x.seqOut l (Tab.get 0 x.seqOut l + 1), queues := Tab.set x.queues l (Tab.get [] x.queues l ++ [cell]) }

/-- Takes a remote stream's payload of `n` bytes from the packets that its on-die route delivered; none while they have not all
arrived (10 R404; 20 R741). -/
def State.takeFromHub (s : State) (r route n : Nat) : Option (List Byte × State) :=
  let l := Tab.get [] s.dev.lnk.fromHub (r * 65536 + route)
  let k := ceilDiv n 320
  if l.length < k then none
  else some (((l.take k).flatMap id).take n, s.onLnk fun x => { x with fromHub := Tab.set x.fromHub (r * 65536 + route) (l.drop k) })

/-- The bits of a remote stream's exchange (10 R404). -/
def State.takeStream (s : State) (r reps : Nat) (e : Stream) : Option (List Nat × State) :=
  (s.takeFromHub r e.route ((e.count * reps + 7) / 8)).map (fun p => (payloadBits p.1, p.2))

end Sys2Proof.Machine
end

