-- ==== Sys2Proof/Machine/Routes.lean ====
section
/-!
DEFINITION. Routes in time (07 R224-R229): a route's origin and length, the bundles that it crosses, and the slots in which a bundle blocks
a packet (19 R715-R718).
-/
namespace Sys2Proof.Machine

/-! ## A route in time -/

/-- The key of a route in the tables. -/
def routeKey (r route : Nat) : Nat := r * 65536 + route

/-- The slot of a route's origin entry (07 R227, R228). -/
def State.routeOrigin (s : State) (r route : Nat) : Option Nat := ((s.routeEntries r route).find? SlotEntry.isOrigin).map (·.slot)

/-- Slots from a route's origin to its end: one a hop, 40 at a memory die, 8 between the dies (07 R224, R225). -/
def State.routeLength (s : State) (r route : Nat) : Nat :=
  let l := s.routeEntries r route
  l.length - 1 + 39 * (l.filter (fun e => e.outPort = 5 && e.kind = 1 && e.index < 12)).length +
    7 * (l.filter (fun e => e.outPort = 5 && e.kind = 2)).length

/-- The next slot, since frame 0, that bears a number: the present one included. -/
def State.nextSlot (s : State) (slot : Nat) : Nat :=
  s.frame * 4096 + slot + (if slot < s.slot then 4096 else 0)

/-- The slot, since frame 0, in which the next packet of a route reaches the router at which it leaves on X or ends (07 R224, R228). -/
def State.routeArrival (s : State) (r route : Nat) (x : Router) : Nat :=
  let o := (s.routeOrigin r route).getD 0
  let at_ := (((s.routeEntries r route).find? (fun e => e.router = x)).map (·.slot)).getD o
  s.nextSlot o + (at_ + 4096 - o) % 4096

/-- Whether every die that a route passes keeps its edge domain's lock, and the memory die that it reaches its own (03 R86; 07 R233). -/
def State.routeLocked (s : State) (r route : Nat) : Bool :=
  (s.routeEntries r route).all (fun e => s.islandUp (edgeDomain e.die) &&
    (!(e.kind = 1 && e.outPort = 5 && e.index < 12) || s.islandUp (46 + (e.die * 3 + e.index / 4))))

/-- Whether the present slot is an occurrence of the route that has not run yet, carries no void and no packet that waits for its bundle
(07 R226, R228; 19 R719). -/
def State.occurs (s : State) (r route : Nat) : Bool :=
  s.atBoundary && s.routeLocked r route && s.routeOrigin r route = some s.slot && Tab.get 0 s.dev.noc.lastSent (routeKey r route) ≠ s.slotCount + 1 &&
    !s.dev.noc.voids.contains (routeKey r route, s.frame) && !s.dev.noc.deferred.any (fun d => d.key = routeKey r route)

/-- The slot, since frame 0, in which the first packet of a unit at router `x` of `die` reaches the domain behind an address (04 R107). -/
def State.arrives (s : State) (r die : Nat) (x : Router) (a : Nat) : Nat :=
  if isScratch a then
    let y := siteRouter (scratchDie a) (scratchSite a)
    ((s.pathRoute r x y).map (fun id => s.routeArrival r id y)).getD s.slotCount
  else match s.dramRoute r die x a, s.dramRouter a with
    | some id, some (d, e) => s.routeArrival r id (d, 1, e)
    | _, _ => s.slotCount

/-- The slot (those of held frames left out) in which a packet that waits at a route's origin from slot `t` on comes to the route's end. -/
def State.hop (s : State) (r route t : Nat) : Nat :=
  match s.routeOrigin r route with
  | some o => t + (o + 4096 - t % 4096) % 4096 + s.routeLength r route
  | none => t

/-- The slot in which the last of `n` packets leaves the origin of a route, of those that wait from now on. -/
def State.leaves (s : State) (r route n : Nat) : Nat :=
  match s.routeOrigin r route with
  | some o => s.runSlots + (o + 4096 - s.runSlots % 4096) % 4096 + 4096 * (n - 1)
  | none => s.runSlots

/-- The occurrence has run. -/
def State.occurred (s : State) (r route : Nat) : State :=
  s.onNoc fun n => { n with lastSent := Tab.set n.lastSent (routeKey r route) (s.slotCount + 1), voids := n.voids.filter (fun v => s.frame ≤ v.2) }

/-! ## Bundles (19 R701, R715-R718) -/

/-- The bundle that an edge router serves. -/
def bundleOf (x : Router) : Nat := if x.2.1 = 1 then x.1 * 16 + x.2.2 else 32 + x.2.2

/-- Whether the edge router of bundle `b` that sends from `die` has an entry in a slot: out on X, or in from X. -/
def State.sendsOn (s : State) (b die slot : Nat) (out : Bool) : Bool :=
  s.fab.body.slots.any (fun e => (e.kind = 1 || e.kind = 2) && bundleOf e.router = b && e.die = die && e.slot = slot &&
    (if out then e.outPort = 5 else e.inPort = 5))

/-- The bundles that send on a host bundle in one slot and direction, ascending (19 R717, R718). -/
def State.sharers (s : State) (h die slot : Nat) (out : Bool) : List Nat :=
  (groupMembers h).filter (fun b => s.carriedOn b = h && s.sendsOn b die slot out)

/-- Whether a width blocks a slot of a frame (19 R716). -/
def widthBlocks (width slot frame : Nat) : Bool :=
  match width with
  | 3 => false
  | 2 => (slot + frame) % 4 = 3
  | 1 => (slot + frame) % 2 = 1
  | _ => true

/-- Whether a packet of bundle `b` that leaves `die` (or arrives there, where `out` is false) is blocked in a slot of a frame: by the change
of the lanes, by the width, or by sharing (19 R715, R716, R718). -/
def State.blocked (s : State) (b die slot frame : Nat) (out : Bool) : Bool :=
  let h := s.carriedOn b
  let u := s.bundle h
  let l := s.sharers h die slot out
  (u.changeFrame = some frame && slot < 16) || widthBlocks u.width.toNat slot frame || (1 < l.length && l[frame % l.length]? ≠ some b)

/-- Where a route crosses a bundle on its way out, and in from a memory die or H: bundle, die, slot, and whether it goes out. A crossing
between the dies goes out of one of them. -/
def State.crossings (s : State) (r route : Nat) : List (Nat × Nat × Nat × Bool) :=
  (s.routeEntries r route).flatMap fun e =>
    if e.kind ≠ 1 ∧ e.kind ≠ 2 then []
    else (if e.outPort = 5 then [(bundleOf e.router, e.die, e.slot, true)] else []) ++
      (if e.inPort = 5 && e.kind = 1 then [(bundleOf e.router, e.die, e.slot, false)] else [])

/-- The frame in which a packet that leaves its origin now crosses in a slot. -/
def State.crossFrame (s : State) (slot : Nat) : Nat := s.frame + (if slot < s.slot then 1 else 0)

/-- The first crossing on the way out that blocks a packet that leaves now. -/
def State.firstBlock (s : State) (r route : Nat) : Option (Nat × Nat × Nat × Bool) :=
  (s.crossings r route).find? (fun c => c.2.2.2 && s.blocked c.1 c.2.1 c.2.2.1 (s.crossFrame c.2.2.1) true)

/-- Frames that a response waits where it comes in: until one that blocks none of its crossings, of the next 64 (19 R719, R720). -/
def State.responseWait (s : State) (r route : Nat) : Nat :=
  let ins := (s.crossings r route).filter (fun c => !c.2.2.2)
  ((List.range 64).find? (fun n => ins.all (fun c => !s.blocked c.1 c.2.1 c.2.2.1 (s.crossFrame c.2.2.1 + n) false))).getD 0

/-- A bundle counts deferrals of an operation's packet, each of which disturbs it (19 R720). -/
def State.deferrals (s : State) (k : OpKey) (b n : Nat) : State :=
  (s.onBundle b fun u => { u with deferrals := satAdd u.deferrals n }).onRec k.1 k.2.1 k.2.2 fun c => { c with disturbance := satAdd c.disturbance n }

/-- The frames from `since` on, before the present one, in which a crossing was blocked and the frame not held (19 R719, R720). -/
def State.blockedFrames (s : State) (b die slot since : Nat) (out : Bool) : Nat :=
  ((upFrom since (s.frame - since)).filter (fun f => s.blocked b die slot f out && !s.dev.noc.heldLog.contains f)).length

end Sys2Proof.Machine
end

