-- ==== Sys2Proof/Machine/Anneal.lean ====
section
/-!
DEFINITION. ANNEAL and SAMPLE: dispatch and its checks (12 R461-R468; 10 R406, R412-R414; 13 R535; 23 R857), windows, update slots,
commits and exchanges (11 R433-R454; 12 R470-R479), stops, preemption and completion (12 R484-R490).
-/
namespace Sys2Proof.Machine

/-! ## Checks at dispatch (12 R465) -/

/-- Step 1. -/
def Op.annealFieldsOk (o : Op) : Bool :=
  let common := !bitAt (o.word 4) 31 && o.field 7 31 28 = 0 && o.field 8 31 20 = 0 && o.field 9 31 29 = 0 &&
    o.field 11 31 20 = 0 && o.field 4 20 18 ≤ 4 && o.field 4 16 8 ≠ 0
  if o.isSample then
    common && !bitAt (o.word 4) 29 && o.field 5 31 16 = 0 && !bitAt (o.word 12) 31 && (upFrom 13 3).all (fun i => o.word i = 0) &&
      !bitAt (o.word 5) 15 && o.field 5 14 7 ≠ 255 && o.pairCount * o.reps ≤ 1024
  else common && o.field 10 31 20 = 0 && o.exchangeDelay ≠ 0 && (upFrom 12 4).all (fun i => o.word i = 0)

/-- Whether the operation's streams cross Rincen links (20 R763). -/
def State.crossesLinks (s : State) (ks : List Nat) : Bool :=
  ks.any (fun k => (s.imports k).any (·.remote) || (s.exports k).any (·.remote))

def Op.readoutLen (o : Op) : Nat := if o.isSample then 0x2200 + 2 * o.pairCount * o.reps else if o.trackBest then 0x400 else 0x200
def Op.saveLen (o : Op) : Nat := if o.isSample then 0x4000 else 0x1000

/-- The areas of a site: offset and length; the starting state last (12 R462, R463, R487). -/
def Op.areas (o : Op) (lead : Bool) : List (Nat × Nat) × List (Nat × Nat) :=
  ((if o.isSample then [(o.pairOff, 4 * o.pairCount)] else [(o.schedOff, 8 * o.stepCount)]) ++
    (if lead then [(o.reportOff, 320)] else []) ++ (if o.preemptible then [(o.saveOff, o.saveLen)] else []) ++ [(o.readoutOff, o.readoutLen)],
   if o.initEn then [(o.initOff, 512)] else [])

/-- The pieces of an area in its site's scratchpad, after its window's wrap (08 R278). -/
def State.areaPieces (s : State) (k : Nat) (a : Nat × Nat) : List (Nat × Nat) :=
  match s.windowAt (k / 256) (k % 256) a.1 with
  | none => [(a.1, a.1 + a.2)]
  | some w =>
    let x := (a.1 - w.base) % w.length
    if x + a.2 ≤ w.length then [(w.base + x, w.base + x + a.2)]
    else [(w.base + x, w.base + w.length), (w.base, w.base + (x + a.2 - w.length))]

/-- Step 4 for one area. -/
def State.areaFails (s : State) (k : Nat) (a : Nat × Nat) : Option Code :=
  if a.2 = 0 then none
  else if !(s.areaPieces k a).all (fun p => 0xE0000 ≤ p.1 && p.2 ≤ 0x100000) then some Codes.BOUNDS
  else match s.windowAt (k / 256) (k % 256) a.1 with
    | none => none
    | some w =>
      let e := 2 ^ w.elemLog2
      if (a.1 - w.base) % e ≠ 0 ∨ a.2 % e ≠ 0 then some Codes.WINDOW_ALIGN
      else if w.length < a.2 then some Codes.BOUNDS else none

/-- Whether two areas share a byte. -/
def State.areasMeet (s : State) (k : Nat) (a b : Nat × Nat) : Bool :=
  a.2 ≠ 0 && b.2 ≠ 0 && (s.areaPieces k a).any (fun p => (s.areaPieces k b).any (fun q => p.1 < q.2 && q.1 < p.2))

/-- Step 5: the areas of a site are apart; the starting state may lie on the readout alone. -/
def State.areasApart (s : State) (k : Nat) (as : List (Nat × Nat) × List (Nat × Nat)) : Bool :=
  let pairwise (l : List (Nat × Nat)) : Bool := l.zipIdx.all (fun a => l.zipIdx.all (fun b => a.2 = b.2 || !s.areasMeet k a.1 b.1))
  pairwise as.1 && as.2.all (fun a => as.1.dropLast.all (fun b => !s.areasMeet k a b))

/-- The window of the last slot of sweep t at the plan's widths (12 R470). -/
def markWindow (w lanes t : Nat) : Nat := ((t + 1) * sweepSlots lanes - 1) / w

/-- Step 8: neighbours among rising windows are at least the delay apart. -/
def marksApart (delay : Nat) : List Nat → Bool
  | a :: b :: t => a + delay ≤ b && marksApart delay (b :: t)
  | _ => true

/-- The pair table of a SAMPLE: spin and ref (12 R479). -/
def State.pairTable (s : State) (k : Nat) (o : Op) : List (Nat × Nat) :=
  let l := s.areaBytes k o.pairOff (4 * o.pairCount)
  (List.range o.pairCount).map (fun p => let w := leAt l (4 * p) 4; (w % 4096, bitsOf w 25 12))

/-- The commit window W. -/
def State.windowLen (s : State) : Nat := s.dev.clk.window.toNat

/-- The lanes in force: the plan's, or narrowed in Ochre mode (04 R113, R123). -/
def State.lanesNow (s : State) : Nat :=
  let l := planLanes s.dev.pwr.planCode.toNat
  if s.narrows then max 8 (l / 2) else l

/-- The fault of R857 for an ANNEAL or SAMPLE over these sites: the earliest one. -/
def State.spinFault (s : State) (ks : List Nat) : Option OutOfService :=
  (sortBy (fun (a b : OutOfService) => a.tick.toNat < b.tick.toNat)
    (ks.flatMap (fun k => (s.site k).island.toList ++ (s.site k).noise.toList))).head?

/-! ## Words that are not delivered (08 R264, R275; log 91) -/

/-- Whether the checking group of an offset of coupling memory holds bytes of a row, or of its bias, that `p` picks. -/
def rowHit (off : Nat) (p : Nat → Bool) : Bool :=
  if off < 0xC0000 then p (off / 0xC0) else off < 0xC2000 && (upFrom ((off - 0xC0000) / 8 * 4) 4).any p

/-- The first uncorrectable group among the rows and biases that `p` picks at a site. -/
def State.rowsUnread (s : State) (k : Nat) (p : Nat → Bool) : Option Nat :=
  (s.mem.marks.find? (fun q => q.2 != .corrected && isScratch q.1 && siteKey (scratchDie q.1) (scratchSite q.1) = k &&
    rowHit (scratchOff q.1) p)).map (·.1)

/-- The first uncorrectable group of an area of a site. -/
def State.areaUnread (s : State) (k base n : Nat) : Option Nat := s.mem.bad ((List.range n).map (s.areaAddr k base))

/-- The first uncorrectable group of a site's schedule or pair table. -/
def State.tableUnread (s : State) (o : Op) (k : Nat) : Option Nat :=
  if o.isSample then s.areaUnread k o.pairOff (4 * o.pairCount) else s.areaUnread k o.schedOff (8 * o.stepCount)

/-- The first uncorrectable group among what a start reads at a site: its table, its rows, its starting state. -/
def State.startUnread (s : State) (o : Op) (k : Nat) : Option Nat :=
  (s.tableUnread o k).or ((s.rowsUnread k (fun i => i < o.spins)).or (if o.initEn then s.areaUnread k o.initOff 512 else none))

/-- Whether an ANNEAL's steps are all of 0 sweeps: its schedule can be read, and its encoding is valid (08 R286; 12 R464). -/
def State.noSweeps (s : State) (o : Op) (lead : Nat) : Bool :=
  !o.isSample && (s.areaFails lead (o.schedOff, 8 * o.stepCount)).isNone && (s.tableUnread o lead).isNone &&
    stepsOk o.stepCount (s.areaBytes lead o.schedOff (8 * o.stepCount)) && s.opSweeps lead o = 0

/-- The checks of R465 in order, with MAT_TREE_MISSING after step 9, LNK_PORT_DOWN after it (20 R770) and the empty work of R464; the second component is the
result word. `none`: the operation starts, or meets a word that is not delivered. -/
def State.annealRefused (s : State) (r : Nat) (o : Op) : Option (Code × Nat) :=
  let ks := s.annealSites r o
  let lead := ks.headD 0
  let named := ks.zipIdx.map (fun p => (p.1, o.field 4 7 0 + p.2))
  let areasOf (k : Nat) := o.areas (k = lead)
  let steps := s.schedule lead o
  let table (k : Nat) : List Byte := s.areaBytes k o.schedOff (8 * o.stepCount)
  let total := s.opSweeps lead o
  if !o.annealFieldsOk then some (Codes.ANL_DESC_INVALID, 0)
  else if (o.isSample && o.burnIn + o.sampleN = 0) || (!o.isSample && o.stepCount = 0) then some (Codes.OK, 0)
  else if ks.length < o.field 4 16 8 then some (Codes.BOUNDS, 0)
  else if s.noSweeps o lead then some (Codes.OK, 0)
  else if s.crossesLinks ks && o.preemptible then some (Codes.ANL_DESC_INVALID, 0)
  else
    match named.findSome? (fun p => ((areasOf p.1).1 ++ (areasOf p.1).2).findSome? (fun a => (s.areaFails p.1 a).map (fun c => (c, p.2)))) with
    | some e => some e
    | none =>
      match named.find? (fun p => !s.areasApart p.1 (areasOf p.1)) with
      | some p => some (Codes.ANL_DESC_INVALID, p.2)
      | none =>
        if ks.any (fun k => (s.tableUnread o k).isSome) then none
        else match (if o.isSample then none else named.find? (fun p => table p.1 ≠ table lead || !stepsOk o.stepCount (table p.1))) with
        | some p => some (Codes.ANL_SCHED_INVALID, p.2)
        | none =>
          if 2 ^ 32 < o.sweepBase + total then some (Codes.BOUNDS, 0)
          else if !o.isSample && !marksApart o.exchangeDelay ((markSweeps steps 0).map (markWindow s.windowLen s.lanesNow)) then
            some (Codes.ANL_SCHED_INVALID, 0)
          else
            match named.find? (fun p => (s.pairTable p.1 o).any (fun e => !(e.1 < o.spins && refOk o.spins e.1 e.2))) with
            | some p => some (Codes.ANL_BAD_REF, p.2)
            | none =>
              if 2 ≤ ks.length && !s.fab.body.trees.any (fun t => t.region = r && t.leaves.map (fun l => siteKey l.1 l.2) = ks) then
                some (Codes.MAT_TREE_MISSING, 0)
              else if (s.opLinkRoutes r ks).any (fun l => !s.routeLive l) then some (Codes.LNK_PORT_DOWN, 0)
              else none

/-! ## The start (10 R406, R412-R415) -/

/-- Whether a site takes part in an operation. -/
def State.takesPart (s : State) (key : OpKey) (k : Nat) : Bool := (s.site k).spin.op = some key

/-- Whether an import stream takes part: its source does, or its link route is not broken (11 R445; 20 R757). -/
def State.streamLive (s : State) (key : OpKey) (multi : Bool) (e : Stream) : Bool :=
  if e.remote then multi && !(s.tiedRoute key.1 e.route true).any (fun l => s.dev.lnk.broken.contains l) else s.takesPart key e.peer

/-- Fills the ghosts of a site from the committed states of its sources on this package (10 R406). -/
def State.fillSite (s : State) (n m k : Nat) : State :=
  (s.imports k).foldl (fun s e =>
    if e.remote then s
    else match s.exportOf k e with
      | some x =>
        let src := (s.site e.peer).spin.committed
        let bits := exportBits n m (s.exportList e.peer) x (fun b => src.getLsbD b)
        s.onSpin k fun g => { g with ghosts := fillGhosts n e bits g.ghosts }
      | none => s) s

/-- Hands a remote stream's payload to its link route as packets of at most 320 bytes (10 R404; 20 R736). -/
def State.sendRemote (s : State) (key : OpKey) (e : Stream) (n : Nat) (bits : List Nat) : State :=
  match s.tiedRoute key.1 e.route false with
  | none => s
  | some l =>
    let bytes := packBits ((List.range ((e.count * n + 7) / 8 * 8)).map (fun i => bits.contains i))
    (List.range (ceilDiv bytes.length 320)).foldl (fun s i => s.queueCell (some key) l ((bytes.drop (320 * i)).take 320) none) s

/-- Sends the committed state of a site on its remote export streams, for the ghost fill of the other packages (10 R406). -/
def State.sendFill (s : State) (key : OpKey) (o : Op) (k : Nat) : State :=
  let g := (s.site k).spin
  ((s.exports k).filter (·.remote)).foldl (fun s e =>
    s.sendRemote key e o.reps (exportBits o.reps o.spins (s.exportList k) e (fun b => g.committed.getLsbD b))) s

/-- Computes the partial energies of a site as its running energies. -/
def State.startEnergy (s : State) (n m k : Nat) : State :=
  s.onTally k fun t => { t with energy := (List.range n).map (fun r => s.partialEnergy k (s.site k).spin m r) }

/-- A window of a site starts (11 R436, R437). -/
def Spin.startWindow (g : Spin) (w lanes now : Nat) : Spin :=
  { g with work := { g.work with
      active := true, window := w, inWindow := 0, repairDue := !g.work.repair.isEmpty, slotNo := 0,
      start := g.committed, cur := g.committed, flips := [], claimsSent := false, committed := false, slotsOver := false, began := now,
      claims := g.work.claims.filter (fun c => w ≤ c.1), lanes := lanes } }

/-- Takes a site into the operation. -/
def State.takeSite (s : State) (key : OpKey) (o : Op) (k : Nat) : State :=
  s.onSpin k fun g =>
    { committed := g.committed, best := g.committed, ghosts := g.ghosts, op := some key, tally := { positions := List.range o.reps } }

/-- Loads a site's starting state (12 R465, R477). -/
def State.loadSite (s : State) (o : Op) (k : Nat) : State :=
  let init := BitVec.ofNat 4096 (leNat (s.areaBytes k o.initOff 512))
  s.onSpin k fun g => { g with committed := init, best := init }

/-- The ghost fill and the energy pass of an operation's sites (10 R406, R412). -/
def State.energyPass (s : State) (o : Op) (ks : List Nat) : State :=
  let s := ks.foldl (fun s k => s.fillSite o.reps o.spins k) s
  ks.foldl (fun s k => s.startEnergy o.reps o.spins k) s

/-- An operation starts: its sites are taken, ghosts filled, the energy pass made; then the starting state is loaded, and the energies and
ghosts become those of it (log 25); window 0 starts, or the start barrier of a multi-package operation begins (10 R406, R412-R415; 12 R465,
R477; 20 R765). -/
def State.annealStart (s : State) (r : Nat) (sl : Slot) (ks : List Nat) (bound : Nat) : State :=
  let o := sl.op
  let key := sl.key r
  let multi := s.crossesLinks ks
  let lanes := s.lanesNow
  let s := (ks.foldl (fun s k => s.takeSite key o k) s).energyPass o ks
  let s := if o.initEn then (ks.foldl (fun s k => s.loadSite o k) s).energyPass o ks else s
  let s := ks.foldl (fun s k => s.sendFill key o k) s
  let run : AnnealRun :=
    { sites := ks, isSample := o.isSample, lanes := lanes, positions := List.range o.reps, multi := multi,
      downStart := !multi, started := !multi, updatesBegan := !multi, bound := bound }
  let e0 := s.packageSums run 0 (sumEnergies (ks.map (fun k => (s.site k).spin.tally.energy)) o.reps)
  let s := (s.onRun r o.queue o.seq fun u => { u with anneal := some { run with energies := e0, best := e0 } }).bumpSums run
  if multi then s else ks.foldl (fun s k => s.onSpin k fun g => g.startWindow 0 lanes s.runSlots) s

/-- Completes at dispatch with a result word. -/
def State.finishWith (s : State) (r : Nat) (sl : Slot) (status : Code) (result : Nat) (fault : BitVec 16) : State :=
  (s.dispatchMark r sl []).finish r sl.op.queue sl.op.seq status (BitVec.ofNat 32 result) fault

/-- The domains of sites. -/
def State.siteDomains (s : State) (ks : List Nat) : List Nat := dedupNat (ks.map (fun k => s.siteDomain (k / 256) (k % 256)))

/-- Resumes a preempted operation: sites are reloaded, ghosts refilled (12 R488). -/
def State.annealResume (s : State) (r : Nat) (sl : Slot) (a : AnnealRun) : State :=
  let o := sl.op
  let key := sl.key r
  let s := s.dispatchMark r sl (s.siteDomains a.sites)
  let s := (a.sites.zip a.saved).foldl (fun s p => s.onSpin p.1 fun _ => { p.2 with op := some key, inbox := [] }) s
  let s := a.sites.foldl (fun s k => s.fillSite o.reps o.spins k) s
  let s := a.sites.foldl (fun s k => s.onWork k fun w =>
    { w with valuesIn := (List.range (s.imports k).length).map (fun i => (w.window, i)) }) s
  s.onRun r o.queue o.seq fun u => { u with anneal := some { a with stopWindow := none, stopCode := 0, saved := [] } }

/-- An ANNEAL or SAMPLE dispatches: it resumes, ends at once, or starts (12 R464, R465, R488; 10 R413, R414; 23 R857; 04 R109). -/
def State.dispatchAnneal (s : State) (r : Nat) (sl : Slot) : State :=
  let o := sl.op
  let ks := match sl.run.anneal with
    | some a => a.sites
    | none => s.annealSites r o
  match s.spinFault ks with
  | some f => s.finishWith r sl f.code 0 f.faultId
  | none =>
    let closed := !(s.siteDomains ks).all (fun n => s.serves o.accepted n)
    match sl.run.anneal with
    | some a => if closed then s.finishWith r sl Codes.DEST_CLOSED 0 0 else s.annealResume r sl a
    | none =>
      match s.annealRefused r o with
      | some e => s.finishWith r sl e.1 e.2 0
      | none =>
        if closed then s.finishWith r sl Codes.DEST_CLOSED 0 0
        else match ks.findSome? (s.startUnread o) with
        | some a => (s.memFault r a).finishWith r sl Codes.MEM_UNCORRECTABLE 0 s.dev.faults.next
        | none =>
          match (sortBy (fun (a b : Nat × Nat) => a.1 < b.1) (ks.zipIdx)).find? (fun p => !s.refsOk p.1 o.spins) with
          | some p => s.finishWith r sl Codes.ANL_BAD_REF (o.field 4 7 0 + p.2) 0
          | none =>
            let bound := (ks.map (fun k => s.magnitude k o.spins)).sum
            if 2 ^ 47 ≤ bound then s.finishWith r sl Codes.ANL_ENERGY_RANGE 0 0
            else (s.dispatchMark r sl (s.siteDomains ks)).annealStart r sl ks bound

/-! ## Update slots (11 R433-R439) -/

/-- The operation of a busy spin site while it runs. -/
def State.spinSlot (s : State) (k : Nat) : Option (OpKey × Slot × AnnealRun) :=
  match (s.site k).spin.op with
  | none => none
  | some key =>
    match s.slotOf key.1 key.2.1 key.2.2 with
    | some sl => if sl.op.state = .running then sl.run.anneal.map (fun a => (key, sl, a)) else none
    | none => none

/-- The problem spin index (10 R384). -/
def State.spinIndex (s : State) (k i : Nat) : Nat := s.package * 2 ^ 21 + k / 256 * 2 ^ 20 + k % 256 * 2 ^ 12 + i

/-- Evaluates one state bit against the working values: its energy change, and whether it flips (11 R422-R425, R429, R438). -/
def State.evaluate (s : State) (key : OpKey) (o : Op) (a : AnnealRun) (k : Nat) (g : Spin) (attempt bit : Nat) : Int × Bool :=
  let m := o.spins
  let r := bit / m
  let i := bit % m
  let loc (b : Nat) : Bool := g.work.cur.getLsbD b
  let dE := 2 * spinVal (loc bit) * s.field k g m r i loc
  let t := g.work.sweep
  let beta := s.betaCode (a.sites.headD 0) o t (g.tally.positions.getD r 0)
  let u := (s.draw key.1 0 (s.spinIndex k i) r (o.sweepBase + t) attempt).toNat % 2 ^ 32
  (dE, accepts o.metropolis beta dE o.scaleShift u)

/-- Flips that R439 cancels: of two coupled local spins of one replica that flipped in one slot, the higher. -/
def State.sameSlot (s : State) (k m : Nat) (bits : List Nat) : List Nat :=
  bits.filter (fun b =>
    bits.any (fun c => c / m = b / m && c % m < b % m &&
      ((s.spinRow k (b % m)).any (fun e => e.2 = c % m) || (s.spinRow k (c % m)).any (fun e => e.2 = b % m))))

def flipBit (x : BitVec 4096) (b : Nat) : BitVec 4096 := x ^^^ ((1 : BitVec 4096) <<< b)

/-- Runs one slot over listed bits: evaluation, R439, the repair list (11 R437-R439). -/
def State.runSlot (s : State) (key : OpKey) (o : Op) (a : AnnealRun) (k attempt : Nat) (bits : List Nat) : State :=
  let g := (s.site k).spin
  let hits := bits.filterMap (fun b => let e := s.evaluate key o a k g attempt b; if e.2 then some (b, e.1) else none)
  let cancelled := s.sameSlot k o.spins (hits.map (·.1))
  let flips := hits.map (fun h => { slot := g.work.slotNo, bit := h.1, dE := h.2, cancelled := cancelled.contains h.1, stale := false : Flip })
  let s := s.onWork k fun w =>
    { w with slotNo := w.slotNo + 1, flips := w.flips ++ flips,
             cur := (flips.filter (fun f => !f.cancelled)).foldl (fun x f => flipBit x f.bit) w.cur,
             repair := w.repair.filter (fun b => !bits.contains b) ++ cancelled }
  s.onTally k fun t => { t with c439 := t.c439 + cancelled.length }

/-- Runs a slot, unless it reads a word that is not delivered: the operation then ends with MEM_UNCORRECTABLE (08 R264; log 91). -/
def State.slotOver (s : State) (key : OpKey) (o : Op) (a : AnnealRun) (k attempt : Nat) (bits : List Nat) : State :=
  match s.rowsUnread k (fun i => bits.any (fun b => b % o.spins = i)) with
  | some x => (s.badUnits key [x]).latchEnd key Codes.OK 0
  | none => s.runSlot key o a k attempt bits

/-- The bits of an ordinary slot in order of lane and cycle (11 R434). -/
def slotBits (lanes u : Nat) : List Nat := (List.range (8 * lanes)).map (fun x => u + sweepSlots lanes * x)

/-- Whether the ordinary slot that follows `w` ends its window: the W-th in Slate mode; in Ochre mode the first from the W-th on that ends
after the values of the window before have left, and at the latest the 4W-th (11 R436, R451). -/
def State.windowOver (s : State) (w : SpinWork) : Bool :=
  let n := w.inWindow + 1
  if s.dev.aux.slateInForce then s.windowLen ≤ n else (s.windowLen ≤ n && w.valuesLeave < s.runSlots) || 4 * s.windowLen ≤ n

/-- The next update slot of a window: the repair slot first, then ordinary slots; slots beyond the last sweep evaluate nothing
(11 R434-R437; 12 R471). -/
def State.updateSlot (s : State) (key : OpKey) (o : Op) (a : AnnealRun) (k : Nat) : State :=
  let w := (s.site k).spin.work
  if w.repairDue then
    let bits := (sortBy (fun (x y : Nat) => x < y) w.repair).take (8 * w.lanes)
    (s.slotOver key o a k (2 ^ 31 + w.window % 2 ^ 31) bits).onWork k fun w => { w with repairDue := false }
  else if s.opSweeps (a.sites.headD 0) o ≤ w.sweep then
    s.onWork k fun w => { w with inWindow := w.inWindow + 1, slotNo := w.slotNo + 1, slotsOver := s.windowOver w }
  else
    let last := w.uslot + 1 = sweepSlots w.lanes
    (s.slotOver key o a k 0 (slotBits w.lanes w.uslot)).onWork k fun w =>
      { w with inWindow := w.inWindow + 1, uslot := if last then 0 else w.uslot + 1, sweep := if last then w.sweep + 1 else w.sweep, slotsOver := s.windowOver w }

/-! ## Claims and commits (11 R440-R446, R449) -/

/-- The bits whose claim is set (11 R440). -/
def SpinWork.claimed (w : SpinWork) (b : Nat) : Bool := w.flips.any (fun f => f.bit = b && !f.cancelled)

/-- Packets of a stream's exchange (10 R404). -/
def Stream.packets (e : Stream) (reps : Nat) : Nat := max 1 (ceilDiv (e.count * reps) 2560)

/-- The slot in which a site's exchange, sent now, has left on every export stream (11 R450, R451). -/
def State.exportsLeave (s : State) (r reps k : Nat) : Nat :=
  ((s.exports k).map (fun e => s.leaves r e.route (e.packets reps))).foldl max 0

/-- Sends claims, or values, of a window on every export stream of a site (11 R440, R444). -/
def State.exportAll (s : State) (key : OpKey) (o : Op) (k window : Nat) (claims : Bool) (v : Nat → Bool) : State :=
  (s.exports k).foldl (fun s e =>
    let bits := exportBits o.reps o.spins (s.exportList k) e v
    if e.remote then s.sendRemote key e o.reps bits
    else if s.takesPart key e.peer then
      match s.importOf k e with
      | some (_, i) =>
        let due := s.leaves key.1 e.route (e.packets o.reps) + s.routeLength key.1 e.route
        s.onSpin e.peer fun g => { g with inbox := g.inbox ++ [{ stream := i, window := window, claims := claims, bits := bits, due := due }] }
      | none => s
    else s) s

/-- Whether the site holds the claims of its window from every stream that takes part (11 R449). -/
def State.claimsHeld (s : State) (key : OpKey) (a : AnnealRun) (k : Nat) : Bool :=
  let w := (s.site k).spin.work
  (s.imports k).zipIdx.all (fun e => !s.streamLive key a.multi e.1 || w.claims.any (fun c => c.1 = w.window && c.2.1 = e.2))

/-- Whether the values of its window have arrived on every stream that takes part (11 R450). -/
def State.valuesHeld (s : State) (key : OpKey) (a : AnnealRun) (k : Nat) : Bool :=
  let w := (s.site k).spin.work
  (s.imports k).zipIdx.all (fun e => !s.streamLive key a.multi e.1 || w.valuesIn.contains (w.window, e.2))

/-- Bits that R441 rolls back: a row entry names a ghost filled from a lower site whose claim is set. -/
def State.claimRolled (s : State) (k n m : Nat) (w : SpinWork) (b : Nat) : Bool :=
  (s.spinRow k (b % m)).any (fun e =>
    4096 ≤ e.2 &&
      match s.ghostStream k (e.2 - 4096) with
      | some (st, i) =>
        s.streamRank st < s.siteRank k &&
          w.claims.any (fun c => c.1 = w.window && c.2.1 = i && c.2.2.contains ((e.2 - 4096 - st.first) * n + b / m))
      | none => false)

/-- One pass of R442 over the flips in slot order: more bits that read a rolled-back flip of an earlier slot. -/
def State.followRolled (s : State) (k m : Nat) (live : List Flip) (rolled : List Nat) : List Nat :=
  live.foldl (fun rolled f =>
    if rolled.contains f.bit then rolled
    else if (s.spinRow k (f.bit % m)).any (fun e =>
        e.2 < m && rolled.contains (f.bit / m * m + e.2) && live.any (fun h => h.bit = f.bit / m * m + e.2 && h.slot < f.slot)) then
      rolled ++ [f.bit]
    else rolled) rolled

/-- R442 until nothing further is rolled back. -/
def State.rollClosure (s : State) (k m : Nat) (live : List Flip) : Nat → List Nat → List Nat
  | 0, rolled => rolled
  | fuel + 1, rolled =>
    let more := s.followRolled k m live rolled
    if more.length = rolled.length then rolled else s.rollClosure k m live fuel more

/-- Adds energy changes by replica. -/
def addEnergies (m : Nat) (fs : List Flip) (e : List Int) : List Int :=
  fs.foldl (fun e f => e.set (f.bit / m) (e.getD (f.bit / m) 0 + f.dE)) e

/-- Commits the window of a site: rollbacks, committed state, energies and counts (11 R441-R443, R453, R459). -/
def State.commitBits (s : State) (o : Op) (k : Nat) : State :=
  let w := (s.site k).spin.work
  let m := o.spins
  let live := w.flips.filter (fun f => !f.cancelled)
  let bits := dedupNat (live.map (·.bit))
  let by441 := bits.filter (s.claimRolled k o.reps m w)
  let by453 := bits.filter (fun b => !by441.contains b && live.any (fun f => f.bit = b && f.stale))
  let all := s.rollClosure k m live (live.length + 1) (by441 ++ by453)
  let by442 := all.filter (fun b => !by441.contains b && !by453.contains b)
  let kept := live.filter (fun f => !all.contains f.bit)
  let count (l : List Nat) : Nat := (live.filter (fun f => l.contains f.bit)).length
  s.onSpin k fun g =>
    { g with
      committed := kept.foldl (fun x f => flipBit x f.bit) w.start
      work := { w with committed := true, repair := w.repair.filter (fun b => !all.contains b) ++ all }
      tally := { g.tally with
        windows := g.tally.windows + 1, c441 := g.tally.c441 + count by441, c442 := g.tally.c442 + count by442,
        c453 := g.tally.c453 + count by453, energy := addEnergies m kept g.tally.energy } }

/-- The sweeps that have ended at a commit; a change of lanes ends the sweep in progress (11 R454). -/
def State.commitSweeps (s : State) (k : Nat) : State :=
  let lanes := s.lanesNow
  let s := s.onWork k fun w =>
    if w.lanes = lanes || s.dev.aux.slateInForce then w
    else { w with lanes := lanes, sweep := if w.uslot = 0 then w.sweep else w.sweep + 1, uslot := 0 }
  s.onTally k fun t => { t with sweepsDone := (s.site k).spin.work.sweep }

/-! ## Sampling (12 R478, R479) -/

/-- Counts the committed +1 bits `times` times. -/
def addCounts (x : BitVec 4096) (times : Nat) (c : Tab (BitVec 16)) : Tab (BitVec 16) :=
  if times = 0 then c
  else (List.range 4096).foldl (fun c b => if x.getLsbD b then Tab.set c b (Tab.get 0 c b + BitVec.ofNat 16 times) else c) c

/-- The import stream that fills the ghost slot a ref names; none for a local spin. -/
def State.refStream (s : State) (k ref : Nat) : Option Nat := if ref < 4096 then none else (s.ghostStream k (ref - 4096)).map (·.2)

/-- Adds the counts of the pairs whose second spin's stream `p` picks, for a committed state, with the ghosts as they stand. -/
def State.addPairs (s : State) (o : Op) (k times : Nat) (x : BitVec 4096) (pick : Option Nat → Bool) : State :=
  let n := o.reps
  let m := o.spins
  let pairs := s.pairTable k o
  s.onSpin k fun g =>
    { g with pairs := pairs.zipIdx.foldl (fun c p =>
        (List.range n).foldl (fun c r =>
          if pick (s.refStream k p.1.2) && x.getLsbD (r * m + p.1.1) == g.ref m r p.1.2 (fun b => x.getLsbD b) then
            Tab.set c (p.2 * n + r) (Tab.get 0 c (p.2 * n + r) + BitVec.ofNat 16 times)
          else c) c) g.pairs }

/-- A SAMPLE whose pair table no longer reads ends with MEM_UNCORRECTABLE (08 R264; log 91). -/
def State.pairsOver (s : State) (key : OpKey) (o : Op) (k : Nat) (f : State → State) : State :=
  match s.areaUnread k o.pairOff (4 * o.pairCount) with
  | some x => (s.badUnits key [x]).latchEnd key Codes.OK 0
  | none => f s

/-- The values of a window have come in on a stream: the pairs that wait for them are counted (12 R479). -/
def State.settlePairs (s : State) (key : OpKey) (o : Op) (k i window : Nat) : State :=
  let mine (d : PairDue) : Bool := d.window = window && d.awaited.contains i
  let ds := (s.site k).spin.tally.due.filter mine
  if ds.isEmpty then s
  else
    let s := s.pairsOver key o k fun s => ds.foldl (fun s d => s.addPairs o k d.times d.state (fun p => p = some i)) s
    s.onTally k fun t => { t with due := (t.due.map (fun d => if mine d then { d with awaited := d.awaited.erase i } else d)).filter (fun d => !d.awaited.isEmpty) }

/-- The import streams whose values of a site's window are still to come. -/
def State.awaited (s : State) (key : OpKey) (a : AnnealRun) (k : Nat) : List Nat :=
  let w := (s.site k).spin.work
  ((s.imports k).zipIdx.filter (fun e => s.streamLive key a.multi e.1 && !w.valuesIn.contains (w.window, e.2))).map (·.2)

/-- A commit's sampling: counts for each sampled sweep that ended in it (12 R478). -/
def State.sampleCommit (s : State) (key : OpKey) (o : Op) (a : AnnealRun) (k before : Nat) : State :=
  if !o.isSample then s
  else
    let g := (s.site k).spin
    let times := ((upFrom before (g.tally.sweepsDone - before)).filter (fun t => o.burnIn ≤ t && t < o.burnIn + o.sampleN)).length
    if times = 0 then s
    else
      let late := s.awaited key a k
      let s := s.onSpin k fun g => { g with counts := addCounts g.committed times g.counts }
      let s := s.pairsOver key o k fun s => s.addPairs o k times g.committed (fun p => p.all (fun i => !late.contains i))
      if late.isEmpty then s
      else s.onTally k fun t => { t with due := t.due ++ [{ window := g.work.window, times := times, state := g.committed, awaited := late }] }

/-! ## Marks: exchange and best state (12 R470-R477) -/

/-- 8 (β_y − β_x)(E_x − E_y) 2^shift, at a scale of 2^140 (12 R474). -/
def exchangeX (bx by_ : Nat) (ex ey shift : Int) : Int :=
  let b (l : Nat) : Int := if l / 128 = 0 then 0 else ((128 + l % 128) * 2 ^ (l / 128 + 6) : Nat)
  8 * (b by_ - b bx) * (ex - ey) * (2 ^ (shift + 64).toNat : Nat)

/-- Whether a pair swaps for a draw u; the scale of X is 2^204. -/
def exchangeSwaps (x : Int) (u : Nat) : Bool :=
  if x ≤ 0 then true
  else
    let v := x / (2 ^ 204 : Nat)
    let k := (if 127 < v then 255 else v + 128).toNat
    decide (u * logistic (255 - k) < logistic k * 2 ^ 32)

/-- The replica at a position. -/
def replicaAt (positions : List Nat) (j : Nat) : Nat := positions.idxOf j

/-- Tests the pairs of a mark: the new positions, pairs tested, pairs swapped (12 R473-R475). -/
def State.exchange (s : State) (key : OpKey) (o : Op) (a : AnnealRun) (q t : Nat) (e : List Int) : List Nat × Nat × Nat :=
  (List.range (o.reps - 1)).foldl (fun (acc : List Nat × Nat × Nat) j =>
    if j % 2 ≠ q % 2 then acc
    else
      let x := replicaAt acc.1 j
      let y := replicaAt acc.1 (j + 1)
      let lead := a.sites.headD 0
      let xx := exchangeX (s.betaCode lead o t j) (s.betaCode lead o t (j + 1)) (e.getD x 0) (e.getD y 0) o.scaleShift
      let u := (s.draw key.1 1 j 0 (o.sweepBase + t) 0).toNat % 2 ^ 32
      if exchangeSwaps xx u then ((acc.1.set x (j + 1)).set y j, acc.2.1 + 1, acc.2.2 + 1) else (acc.1, acc.2.1 + 1, acc.2.2))
    (a.positions, 0, 0)

/-- Replica r's bits of a state. -/
def takeReplica (m r : Nat) (old new : BitVec 4096) : BitVec 4096 :=
  let mask : BitVec 4096 := BitVec.ofNat 4096 ((2 ^ m - 1) * 2 ^ (r * m))
  (old &&& ~~~mask) ||| (new &&& mask)

/-- One level of the tree of 13 R529: values are (holder, slot in which it is there), edges (up route, down route). Gives the next level, the
edges left, and the additions made: left holder, right holder, down route. -/
def State.treeLevel (s : State) (r : Nat) : List (Nat × Nat) → List (Nat × Nat) → List (Nat × Nat) × List (Nat × Nat) × List (Nat × Nat × Nat)
  | a :: b :: t, e :: es =>
    let x := s.treeLevel r t es
    ((a.1, max a.2 (s.hop r e.1 b.2)) :: x.1, x.2.1, (a.1, b.1, e.2) :: x.2.2)
  | l, es => (l, es, [])

/-- The slots in which the sum of a mark is back at each holder (13 R529, R533): the sites' values go up, and the result down. -/
def State.treeTimes (s : State) (r : Nat) : Nat → List (Nat × Nat) → List (Nat × Nat) → Tab Nat
  | 0, l, _ => l
  | n + 1, l, es =>
    if l.length ≤ 1 then l
    else
      let x := s.treeLevel r l es
      let up := s.treeTimes r n x.1 x.2.1
      x.2.2.foldl (fun m d => Tab.set m d.2.1 (s.hop r d.2.2 (Tab.get 0 m d.1))) up

/-- The TREES record of an operation's sites (13 R535). -/
def State.treeOf (s : State) (r : Nat) (ks : List Nat) : Option Tree :=
  s.fab.body.trees.find? (fun t => t.region = r && t.leaves.map (fun l => siteKey l.1 l.2) = ks)

/-- The slots in which a mark's decision reaches each site; what other packages add to the way is not known here. -/
def State.decisionSlots (s : State) (r : Nat) (a : AnnealRun) (q : Nat) : List (Nat × Nat) :=
  let at_ := a.sites.map (fun k => (k, (((s.site k).spin.tally.atMark.find? (fun m => m.1 = q)).map (·.2.2.2)).getD 0))
  match s.treeOf r a.sites with
  | some t => let m := s.treeTimes r 8 at_ t.edges; at_.map (fun p => (p.1, Tab.get p.2 m p.1))
  | none => at_

/-- A mark that every site has committed: energies, best states, exchanges (12 R473-R477). -/
def State.markDone (s : State) (key : OpKey) (o : Op) (a : AnnealRun) (q : Nat) : State :=
  let snaps := a.sites.map (fun k => (k, ((s.site k).spin.tally.atMark.find? (fun m => m.1 = q)).getD (q, [], 0, 0)))
  let e := s.packageSums a 0 (sumEnergies (snaps.map (fun p => p.2.2.1)) o.reps)
  let better := (List.range o.reps).filter (fun r => o.trackBest && decide (e.getD r 0 < a.best.getD r 0))
  let s := snaps.foldl (fun s p => s.onSpin p.1 fun g =>
    { g with best := better.foldl (fun b r => takeReplica o.spins r b p.2.2.2.1) g.best }) s
  let t := (markSweeps (s.schedule (a.sites.headD 0) o) 0).getD q 0
  let x := if 1 < o.reps && o.ladder ≠ 0 then s.exchange key o a q t e else (a.positions, 0, 0)
  let window := markWindow s.windowLen a.lanes t
  let a := { a with
    energies := e, best := (List.range o.reps).map (fun r => if better.contains r then e.getD r 0 else a.best.getD r 0)
    marksDone := q + 1, tested := a.tested + x.2.1, swapped := a.swapped + x.2.2, positions := x.1
    decisions := if x.2.1 = 0 then a.decisions else a.decisions ++ [(window, x.1, [])]
    decisionDue := if x.2.1 = 0 then a.decisionDue else a.decisionDue ++ (s.decisionSlots key.1 a q).map (fun p => (window, p.1, p.2)) }
  (s.onRun key.1 key.2.1 key.2.2 fun u => { u with anneal := some a }).bumpSums a

/-- Records the marks of a commit at a site, then settles the next mark when every site has it. -/
def State.markCommit (s : State) (key : OpKey) (o : Op) (a : AnnealRun) (k before : Nat) : State :=
  if o.isSample then s
  else
    let marks := (markSweeps (s.schedule (a.sites.headD 0) o) 0).zipIdx
    let g := (s.site k).spin
    let mine := marks.filter (fun p => before ≤ p.1 && p.1 < g.tally.sweepsDone)
    let s := s.onTally k fun t => { t with atMark := t.atMark ++ mine.map (fun p => (p.2, t.energy, g.committed, s.runSlots)) }
    mine.foldl (fun s p =>
      match (s.slotOf key.1 key.2.1 key.2.2).bind (·.run.anneal) with
      | some a =>
        if a.marksDone = p.2 && a.sites.all (fun x => (s.site x).spin.tally.atMark.any (fun m => m.1 = p.2)) then s.markDone key o a p.2 else s
      | none => s) s

/-- WINDOW_COMMIT's effect (11 R441-R444, R449). -/
def State.windowCommit (s : State) (key : OpKey) (o : Op) (a : AnnealRun) (k : Nat) : State :=
  let before := (s.site k).spin.tally.sweepsDone
  let s := (s.commitBits o k).commitSweeps k
  let g := (s.site k).spin
  let s := s.exportAll key o k g.work.window false (fun b => g.committed.getLsbD b)
  let leave := s.exportsLeave key.1 o.reps k
  let s := s.onWork k fun w => { w with valuesLeave := leave }
  (s.sampleCommit key o a k before).markCommit key o a k before

/-! ## Windows start and stop -/

/-- Whether the site's sweeps are all done. -/
def State.sweepsOver (s : State) (o : Op) (a : AnnealRun) (k : Nat) : Bool :=
  s.opSweeps (a.sites.headD 0) o ≤ (s.site k).spin.tally.sweepsDone

/-- Whether a window begun lies after the stop window: it is given up without a commit (12 R476). -/
def AnnealRun.abandons (a : AnnealRun) (w : SpinWork) : Bool := a.stopWindow.any (fun x => x < w.window) && !w.committed

/-- Whether a site has reached its last commit: all sweeps, or the stop window (12 R471, R476, R486). -/
def State.siteDone (s : State) (o : Op) (a : AnnealRun) (k : Nat) : Bool :=
  let w := (s.site k).spin.work
  w.active && (if w.committed then s.sweepsOver o a k || a.stopWindow.any (fun x => x ≤ w.window) else a.abandons w)

/-- The newest exchange decision that a site uses from a window, and whether one that is due has not reached it (12 R476). -/
def State.decisionFor (s : State) (o : Op) (a : AnnealRun) (k window : Nat) : Option (List Nat) × Bool :=
  let due := if s.dev.aux.slateInForce then a.decisions.filter (fun d => d.1 + o.exchangeDelay ≤ window)
    else a.decisions.filter (fun d => d.2.2.contains k)
  ((due.filter (fun d => d.2.2.contains k)).getLast?.map (·.2.1), due.any (fun d => !d.2.2.contains k))

/-- The epoch length of the image (20 R761). -/
def State.epochK (s : State) : Nat := (s.fab.body.topo.map (·.epochK)).getD 0

/-- Whether an epoch barrier holds window w + 1 back (11 R456, R458). -/
def State.epochHolds (s : State) (a : AnnealRun) (w : Nat) : Bool :=
  a.multi && s.dev.aux.slateInForce && s.epochK ≠ 0 && (w + 1) % s.epochK = 0 && !a.epochDone.contains w

/-- A decision has not reached a site by the start of the window after `w`: the operation stops after window `w`, whatever stop was asked
before (12 R476, R490). -/
def State.lateStop (s : State) (key : OpKey) (w : Nat) : State :=
  s.onRun key.1 key.2.1 key.2.2 fun u => { u with anneal := u.anneal.map (fun a =>
    { a with stopWindow := some (min w (a.stopWindow.getD w)), stopCode := (firstStatus true (a.stopCode, 0) (Codes.ANL_EXCHANGE_LATE, 0)).1 }) }

/-- Starts the next window of a site, or stops the operation on a late decision (11 R450, R452; 12 R476). -/
def State.nextWindow (s : State) (key : OpKey) (o : Op) (a : AnnealRun) (k : Nat) : State :=
  let w := (s.site k).spin.work
  let next := if w.active then w.window + 1 else 0
  let d := s.decisionFor o a k next
  if d.2 && s.dev.aux.slateInForce then s.lateStop key w.window
  else
    let s := s.onTally k fun t => { t with positions := d.1.getD t.positions }
    let s := s.onSpin k fun g => g.startWindow next (if s.dev.aux.slateInForce then a.lanes else if w.active then w.lanes else s.lanesNow) s.runSlots
    s.onRun key.1 key.2.1 key.2.2 fun u => { u with anneal := u.anneal.map (fun a => { a with updatesBegan := true }) }

/-- The window number under which a site notes a remote stream's ghost fill: one above every window, whose numbers stay below the
2^32 - 1 of the start barrier. -/
def fillWindow : Nat := 2 ^ 32

/-- Whether the next window of a site may start. -/
def State.windowMayStart (s : State) (key : OpKey) (o : Op) (a : AnnealRun) (k : Nat) : Bool :=
  let w := (s.site k).spin.work
  if !w.active then
    a.started &&
      (s.imports k).zipIdx.all (fun e => !e.1.remote || !s.streamLive key a.multi e.1 || w.valuesIn.contains (fillWindow, e.2))
  else w.committed && !s.siteDone o a k && !s.epochHolds a w.window && 
    (!s.dev.aux.slateInForce || (s.valuesHeld key a k && w.valuesLeave < s.runSlots))

/-- The stop window of a request (12 R484, R485): one more than the highest window started; at an epoch's end when streams cross links. -/
def State.stopAt (s : State) (a : AnnealRun) : Nat :=
  let top := (a.sites.map (fun k => let w := (s.site k).spin.work; if w.active then w.window + 1 else 0)).foldl max 0
  let k := s.epochK
  if a.multi && k ≠ 0 then top + (k - 1 - top % k) else top

/-- The status of an operation that was asked to stop and is asked again: the first request stands against a later cancellation, timeout or
abort (12 R486), and gives way to a preemption's end and to a status that comes before those three (12 R490). -/
def stopCodeAfter (old new : Code) : Code :=
  if old = 0 then new
  else if statusRank true new < statusRank true Codes.CANCELLED_RUNNING then (firstStatus true (old, 0) (new, 0)).1 else old

/-- Asks a running operation to stop (12 R484, R486). A multi-package one in Ochre mode asks its partners first (20 R767). -/
def State.annealStop (s : State) (key : OpKey) (code : Code) : State :=
  s.onRun key.1 key.2.1 key.2.2 fun u =>
    { u with anneal := u.anneal.map (fun a =>
        if a.stopWindow.isSome || a.stopAsked then { a with stopCode := stopCodeAfter a.stopCode code }
        else if a.multi && !s.dev.aux.slateInForce then { a with stopAsked := true, stopCode := code }
        else { a with stopWindow := some (s.stopAt a), stopCode := code }) }

/-- Whether every site has stopped, with its last values in (12 R486). -/
def State.annealQuiet (s : State) (key : OpKey) (o : Op) (a : AnnealRun) : Bool :=
  a.sites.all (fun k => s.siteDone o a k && (a.abandons (s.site k).spin.work || s.valuesHeld key a k))

/-- The status of an operation's end (12 R486, R490): a stop counts where it ended the sweeps. -/
def State.annealStatus (s : State) (o : Op) (a : AnnealRun) (asym : Bool) : Code :=
  let stopped := a.sites.any (fun k => !s.sweepsOver o a k) || a.sites.all (fun k => a.stopWindow.any (fun x => x ≤ (s.site k).spin.work.window))
  let own := if asym then Codes.ANL_ASYMMETRIC else Codes.OK
  if stopped && a.stopWindow.isSome then (firstStatus true (own, 0) (a.stopCode, 0)).1 else own

/-- The end of an operation: readout, report, status (12 R480-R483, R486, R490; 10 R416). -/
def State.annealFinish (s : State) (key : OpKey) (sl : Slot) (a : AnnealRun) : State :=
  if !a.updatesBegan then s.latchEnd key (if a.stopWindow.isSome then a.stopCode else Codes.OK) 0
  else
    let s := s.badUnits key (a.sites.filterMap (fun k => s.rowsUnread k (fun i => i < sl.op.spins)))
    let e := s.annealEnd sl a
    let own := s.annealStatus sl.op a e.asymmetric
    let status := (firstStatus true (own, 0) (s.noted key)).1
    let out := s.annealOutput sl a status
    let s := (s.unitWrite key out.1).1
    let s := s.onRec key.1 key.2.1 key.2.2 fun c => out.2.zipIdx.foldl (fun c t => c.addTensor t.2 t.1) c
    let s := s.onRun key.1 key.2.1 key.2.2 fun u => { u with anneal := u.anneal.map (fun a => { a with written := true }) }
    (s.latchEnd key own (BitVec.ofNat 32 e.sweeps)).bumpSums a

/-- A preemption: each site's state is saved and the site freed; the save area's bytes are free values (12 R487; log 26). -/
def State.annealPreempt (s : State) (key : OpKey) (sl : Slot) (a : AnnealRun) : State :=
  let saved := a.sites.map (fun k => (s.site k).spin)
  let s := s.onRun key.1 key.2.1 key.2.2 fun u => { u with anneal := some { a with saved := saved } }
  let s := (a.sites.zipIdx).foldl (fun s p =>
    (s.unitWrite key (s.areaCells p.1 sl.op.saveOff 0
      ((List.range sl.op.saveLen).map (fun i => BitVec.ofNat 8 (s.freeVal (p.2 * sl.op.saveLen + i)))))).1) s
  a.sites.foldl (fun s k => s.onSpin k fun g => { g with op := none }) s.bump

/-! ## The commands -/

/-- Applies `f` to the running operation of a busy spin site. -/
def State.onBusy (s : State) (k : Nat) (f : OpKey → Slot → AnnealRun → State) : State :=
  if !s.fabricOn then s
  else match s.spinSlot k with
    | some (key, sl, a) => f key sl a
    | none => s

/-- UPDATE_SLOT (11 R433-R439; 12 R471): in Slate mode a window has W ordinary slots, in Ochre mode up to 4W (11 R436, R451). -/
def execUpdateSlot (x : SiteRef) (s : State) : Host.Outcome State Fault Refusal :=
  .next (s.effect fun s => s.onBusy (siteRefKey x) fun key sl a =>
    let k := siteRefKey x
    let w := (s.site k).spin.work
    s.whenP (w.active && !w.committed && !w.claimsSent && (w.repairDue || !w.slotsOver)) (·.updateSlot key sl.op a k))

/-- Network slots allotted to a window's update slots in Slate mode (11 R448): 11, or 14 with a repair slot. -/
def SpinWork.allotment (w : SpinWork) : Nat := if w.slotNo = w.inWindow then 11 else 14

/-- CLAIMS_SEND (11 R440, R448, R451): the window's update slots have ended, and in Slate mode their allotment, at a slot boundary. -/
def execClaimsSend (x : SiteRef) (s : State) : Host.Outcome State Fault Refusal :=
  .next (s.effect fun s => s.onBusy (siteRefKey x) fun key sl _ =>
    let k := siteRefKey x
    let w := (s.site k).spin.work
    s.whenP (s.atBoundary && w.active && !w.claimsSent && !w.repairDue && w.slotsOver && (!s.dev.aux.slateInForce || w.began + w.allotment ≤ s.runSlots)) fun s =>
      (s.onWork k fun w => { w with claimsSent := true }).exportAll key sl.op k w.window true w.claimed)

/-- The exchange that comes in next on a remote import stream: claims or values, and their window; they take turns (11 R446). -/
def SpinWork.nextRemote (w : SpinWork) (i : Nat) : Bool × Nat := let n := Tab.get 0 w.taken i; (n % 2 = 0, n / 2)

/-- An exchange of a remote import stream is taken. -/
def SpinWork.took (w : SpinWork) (i : Nat) : SpinWork := { w with taken := Tab.modify 0 w.taken i (· + 1) }

/-- The exchange that comes in next on an import stream from this package: the oldest, once its last packet is there (11 R446). -/
def State.nextLocal (s : State) (k i : Nat) : Option StreamMsg :=
  ((s.site k).spin.inbox.find? (fun b => b.stream = i)).filter (fun b => b.due ≤ s.runSlots)

/-- CLAIMS_ARRIVE (11 R440, R446): the claims of the site's window arrive on an import stream, behind the values of the window before. -/
def execClaimsArrive (x : SiteRef) (stream : Fin 64) (s : State) : Host.Outcome State Fault Refusal :=
  .next (s.effect fun s => s.onBusy (siteRefKey x) fun key sl a =>
    let k := siteRefKey x
    let g := (s.site k).spin
    match (s.imports k)[stream.val]? with
    | none => s
    | some e =>
      if !s.streamLive key a.multi e || !g.work.active || g.work.claims.any (fun c => c.1 = g.work.window && c.2.1 = stream.val) then s
      else if e.remote then
        if g.work.nextRemote stream.val ≠ (true, g.work.window) then s
        else match s.takeStream key.1 sl.op.reps e with
        | some (bits, s) => s.onWork k fun w => { w.took stream.val with claims := w.claims ++ [(w.window, stream.val, bits)] }
        | none => s
      else
        match s.nextLocal k stream.val with
        | some b =>
          if !b.claims || b.window ≠ g.work.window then s
          else s.onSpin k fun g =>
            { g with inbox := g.inbox.erase b, work := { g.work with claims := g.work.claims ++ [(b.window, stream.val, b.bits)] } }
        | none => s)

/-- WINDOW_COMMIT (11 R441-R444, R449): at a slot boundary. -/
def execWindowCommit (x : SiteRef) (s : State) : Host.Outcome State Fault Refusal :=
  .next (s.effect fun s => s.onBusy (siteRefKey x) fun key sl a =>
    let k := siteRefKey x
    let w := (s.site k).spin.work
    s.whenP (s.atBoundary && w.active && w.claimsSent && !w.committed && !a.abandons w && s.claimsHeld key a k) (·.windowCommit key sl.op a k))

/-- Marks the flips whose evaluation read a ghost that takes a different value (11 R453). -/
def State.markStale (s : State) (o : Op) (k : Nat) (old : Spin) : State :=
  if s.dev.aux.slateInForce then s
  else s.onSpin k fun g =>
    if g.work.committed then g
    else { g with work := { g.work with flips := g.work.flips.map (fun f =>
      { f with stale := f.stale || (s.spinRow k (f.bit % o.spins)).any (fun e => 4096 ≤ e.2 &&
          (Tab.get 0 g.ghosts (e.2 - 4096)).getLsbD (f.bit / o.spins) != (Tab.get 0 old.ghosts (e.2 - 4096)).getLsbD (f.bit / o.spins)) }) } }

/-- Values of a window fill a stream's ghosts. -/
def State.takeValues (s : State) (key : OpKey) (o : Op) (k i window : Nat) (e : Stream) (bits : List Nat) : State :=
  let old := (s.site k).spin
  let s := s.onSpin k fun g =>
    { g with ghosts := fillGhosts o.reps e bits g.ghosts, work := { g.work with valuesIn := (window, i) :: g.work.valuesIn.take 127 } }
  (s.markStale o k old).settlePairs key o k i window

/-- GHOST_VALUES_ARRIVE (11 R444, R450, R452; 10 R403, R405, R406): the committed values of a window arrive on an import stream; before
window 0 of a multi-package operation, those of the ghost fill. -/
def execGhostValuesArrive (x : SiteRef) (stream : Fin 64) (s : State) : Host.Outcome State Fault Refusal :=
  .next (s.effect fun s => s.onBusy (siteRefKey x) fun key sl a =>
    let k := siteRefKey x
    let g := (s.site k).spin
    let slate := s.dev.aux.slateInForce
    match (s.imports k)[stream.val]? with
    | none => s
    | some e =>
      if !s.streamLive key a.multi e then s
      else if e.remote then
        let next := g.work.nextRemote stream.val
        if !g.work.valuesIn.contains (fillWindow, stream.val) && !g.work.active then
          match s.takeStream key.1 sl.op.reps e with
          | some (bits, s) => (s.takeValues key sl.op k stream.val fillWindow e bits).startEnergy sl.op.reps sl.op.spins k
          | none => s
        else if next.1 || (slate && !(g.work.committed && next.2 = g.work.window)) then s
        else
          match s.takeStream key.1 sl.op.reps e with
          | some (bits, s) => (s.onWork k (·.took stream.val)).takeValues key sl.op k stream.val next.2 e bits
          | none => s
      else
        match s.nextLocal k stream.val with
        | some b =>
          if b.claims || (slate && !(g.work.committed && b.window = g.work.window)) then s
          else (s.onSpin k fun g => { g with inbox := g.inbox.erase b }).takeValues key sl.op k stream.val b.window e b.bits
        | none => s)

/-- WINDOW_START (11 R436, R437, R450, R452, R456; 12 R476; 20 R765): at a slot boundary. -/
def execWindowStart (x : SiteRef) (s : State) : Host.Outcome State Fault Refusal :=
  .next (s.effect fun s => s.onBusy (siteRefKey x) fun key sl a =>
    let k := siteRefKey x
    s.whenP (s.atBoundary && s.windowMayStart key sl.op a k) (·.nextWindow key sl.op a k))

/-- EXCHANGE_DECISION_ARRIVE (12 R476; 13 R533): the oldest decision that has not reached the site arrives by the tree. -/
def execExchangeDecisionArrive (x : SiteRef) (s : State) : Host.Outcome State Fault Refusal :=
  .next (s.effect fun s => s.onBusy (siteRefKey x) fun key _ a =>
    let k := siteRefKey x
    match a.decisions.find? (fun d => !d.2.2.contains k) with
    | some d => s.whenP (a.decisionDue.all (fun t => t.1 ≠ d.1 || t.2.1 ≠ k || t.2.2 ≤ s.runSlots)) fun s => s.onRun key.1 key.2.1 key.2.2 fun u =>
        { u with anneal := u.anneal.map (fun a => { a with decisions := a.decisions.map (fun c => if c = d then (c.1, c.2.1, c.2.2 ++ [k]) else c) }) }
    | none => s)

/-- Whether the epoch marks of every window that all sites have committed were sent: what the partners wait for (11 R456, R457;
12 R485). -/
def State.epochsSent (s : State) (a : AnnealRun) : Bool :=
  !a.multi || !s.dev.aux.slateInForce || s.epochK = 0 ||
    a.sites.any (fun k => (s.site k).spin.tally.windows / s.epochK < a.epochSent.length) || !a.updatesBegan

/-- ANNEAL_COMPLETE (12 R480-R483, R486, R490; 10 R416): every site has made its last commit and holds the last values. -/
def execAnnealComplete (o : OpRef) (s : State) : Host.Outcome State Fault Refusal :=
  .next (s.effect fun s => s.whenP s.fabricOn fun s =>
    match s.slotAt o with
    | some sl =>
      match sl.run.anneal with
      | some a =>
        let key := opKey o
        s.whenP (sl.op.state = .running && s.annealQuiet key sl.op a && s.epochsSent a &&
            !(a.stopWindow.isSome && a.stopCode = 0 && a.sites.any (fun k => !s.sweepsOver sl.op a k))) fun s =>
          s.annealFinish key sl a
      | none => s
    | none => s)

/-- The inputs of the self-test (11 R430). -/
def selfTest : List Word64 := [lmf64 0 0 0 0, lmf64 0 0 1 0, lmf64 0 1 0 0]

/-- NOISE_SELF_TEST (07 R249, R250; 11 R431, R432, R460; 23 R856): in a background slot of a background route that reaches the site, the
site's generator gives three words, compared with those of R427. -/
def execNoiseSelfTest (x : SiteRef) (z0 z1 z2 : Word64) (s : State) : Host.Outcome State Fault Refusal :=
  .next (s.effect fun s =>
    let d := x.die.val
    s.whenP (s.fabricOn && s.isSpin d x.site.val && (s.siteRegion? d x.site.val).isSome && s.ivory (s.siteDomain d x.site.val) &&
        s.bgHere d x.site.val) fun s =>
      (s.bgSite d x.site.val .noiseTest).noiseTest ((s.siteRegion? d x.site.val).getD 0) d x.site.val ([z0, z1, z2] = selfTest))

end Sys2Proof.Machine
end

