-- ==== Sys2Proof/Machine/Copy.lean ====
section
/-!
DEFINITION. The copy engine: validation (08 R295), overlap (08 R296, R297), dispatch and completion of COPY (08 R285-R299,
R395; 21 R790-R792, R802; 18 R682).
-/
namespace Sys2Proof.Machine

/-! ## The descriptor (08 R290) -/

def Op.dims (o : Op) : Nat := o.field 14 1 0
def Op.srcHost (o : Op) : Bool := bitAt (o.word 14) 2
def Op.dstHost (o : Op) : Bool := bitAt (o.word 14) 3
def Op.engine (o : Op) : Nat := o.field 14 8 4
def Op.engineDie (o : Op) : Nat := o.field 14 9 9
/-- Rows and planes that dims uses (08 R291). -/
def Op.rowsN (o : Op) : Nat := if 2 ≤ o.dims then o.field 9 15 0 else 1
def Op.planesN (o : Op) : Nat := if o.dims = 3 then o.field 9 31 16 else 1

/-- One side of a copy: its base and strides. -/
structure Side where
  base : Nat
  stride1 : Int
  stride2 : Int
  deriving DecidableEq, Repr

def Op.src (o : Op) : Side := { base := o.word2 4, stride1 := signedOf 32 (o.word 10), stride2 := signedOf 32 (o.word 12) }
def Op.dst (o : Op) : Side := { base := o.word2 6, stride1 := signedOf 32 (o.word 11), stride2 := signedOf 32 (o.word 13) }

/-- Lowest and one past the highest offset of a side from its base. -/
def Side.span (x : Side) (o : Op) : Int × Int :=
  let e1 := (o.rowsN - 1 : Nat) * (if 2 ≤ o.dims then x.stride1 else 0)
  let e2 := (o.planesN - 1 : Nat) * (if o.dims = 3 then x.stride2 else 0)
  (min 0 e1 + min 0 e2, max 0 e1 + max 0 e2 + o.word 8)

/-- Starts of the rows of a side, in ascending plane and row, from its base. -/
def Side.rowStarts (x : Side) (o : Op) : List Int :=
  (List.range o.planesN).flatMap (fun (p : Nat) => (List.range o.rowsN).map (fun (r : Nat) =>
    (x.base : Int) + (p : Int) * x.stride2 + (r : Int) * x.stride1))

/-- The virtual, or host, addresses of a side's bytes in ascending plane, row and byte (08 R291). -/
def Side.bytes (x : Side) (o : Op) : List Nat :=
  (x.rowStarts o).flatMap (fun a => (List.range (o.word 8)).map (fun (b : Nat) => (a + (b : Int)).toNat))

/-! ## Validation (08 R295) -/

/-- Step 1. -/
def State.copyFieldsOk (s : State) (o : Op) : Bool :=
  o.dims ≠ 0 && o.field 14 31 10 = 0 && o.word 15 = 0 &&
  (o.srcHost || o.field 5 31 16 = 0) && (o.dstHost || o.field 7 31 16 = 0) &&
  (2 ≤ o.dims || (o.field 9 15 0 = 0 && o.word 10 = 0 && o.word 11 = 0)) &&
  (o.dims = 3 || (o.field 9 31 16 = 0 && o.word 12 = 0 && o.word 13 = 0)) &&
  hasBundle s.partRows o.engine &&
  (!(o.srcHost || o.dstHost) || (12 ≤ o.engine && o.engine < 16)) && !(o.srcHost && o.dstHost)

/-- Step 2: whether the copy moves nothing. -/
def Op.copyEmpty (o : Op) : Bool := o.word 8 = 0 || o.rowsN = 0 || o.planesN = 0

/-- The segment that holds a device side (step 3). -/
def State.sideSeg (s : State) (r : Nat) (x : Side) (o : Op) : Option Segment :=
  let sp := x.span o
  let lo := (x.base : Int) + sp.1
  if lo < 0 then none else s.segOf r lo.toNat (sp.2 - sp.1).toNat

/-- Where a side lies on the device: its lowest address, its span, its window, and where each byte goes. -/
structure Placed where
  seg : Segment
  lo : Nat
  span : Nat
  window : Option Window
  deriving DecidableEq, Repr

def State.place (s : State) (x : Side) (o : Op) (g : Segment) : Placed :=
  let sp := x.span o
  let lo := g.phys ((x.base : Int) + sp.1).toNat
  { seg := g, lo := lo, span := (sp.2 - sp.1).toNat, window := s.windowOf lo }

/-- The device addresses of a side's bytes, after the wrap (08 R278, R281). -/
def Placed.addrs (p : Placed) (x : Side) (o : Op) : List Nat :=
  (x.bytes o).map (fun v => wrapAddr p.window p.lo (p.seg.phys v))

/-- Steps 5 and 6. -/
def Placed.windowAligned (p : Placed) (x : Side) (o : Op) : Bool :=
  match p.window with
  | none => true
  | some w =>
    let e := 2 ^ w.elemLog2
    (scratchOff p.lo - w.base) % e = 0 && o.word 8 % e = 0 &&
      (o.dims < 2 || x.stride1.natAbs % e = 0) && (o.dims < 3 || x.stride2.natAbs % e = 0)
def Placed.windowFits (p : Placed) : Bool := p.window.all (fun w => p.span ≤ w.length)

/-- Step 7: the destination's rows and planes are disjoint and nested. -/
def Op.dstNested (o : Op) : Bool :=
  let a1 := o.dst.stride1.natAbs
  (!(2 ≤ o.dims && 1 < o.rowsN) || o.word 8 ≤ a1) &&
  (!(o.dims = 3 && 1 < o.planesN) || (o.rowsN - 1) * a1 + o.word 8 ≤ o.dst.stride2.natAbs)

/-- The pieces that a side occupies (08, Copy validation). -/
def Placed.pieces (p : Placed) : List (Nat × Nat) :=
  match p.window with
  | none => [(p.lo, p.lo + p.span)]
  | some w =>
    let start := p.lo - scratchOff p.lo + w.base
    let x := (scratchOff p.lo - w.base) % w.length
    if x + p.span ≤ w.length then [(start + x, start + x + p.span)]
    else [(start + x, start + w.length), (start, start + (x + p.span - w.length))]

def piecesMeet (a b : List (Nat × Nat)) : Bool := a.any (fun p => b.any (fun q => p.1 < q.2 && q.1 < p.2))

/-- Steps 8 and 9. -/
def overlaps (a b : Placed) : Bool := piecesMeet a.pieces b.pieces
def Op.equalLayout (o : Op) : Bool :=
  (o.dims < 2 || o.src.stride1 = o.dst.stride1) && (o.dims < 3 || o.src.stride2 = o.dst.stride2)

/-- The 4 KiB pages of a side: a site, a channel and a memory die hold whole pages. -/
def Placed.pages (p : Placed) (x : Side) (o : Op) : List Nat :=
  dedupNat ((x.rowStarts o).flatMap (fun a =>
    let lo := p.seg.phys a.toNat
    (upFrom (lo / 4096) ((lo + o.word 8 - 1) / 4096 - lo / 4096 + 1)).map (fun g => wrapAddr p.window p.lo (max lo (g * 4096)))))

/-- The class-1 route from an engine to a destination page, or for a source page to the engine (07 R933, step 10). -/
def State.copyRoute (s : State) (r die e a : Nat) (isSrc : Bool) : Bool :=
  let x := edgeRouter die e
  if isScratch a then
    let y := siteRouter (scratchDie a) (scratchSite a)
    (s.pathRoute r x y).isSome && (!isSrc || (s.pathRoute r y x).isSome)
  else (s.dramRoute r die x a).isSome

/-- The routes of a host side (07 R933). -/
def State.hostRoute (s : State) (r die e : Nat) (isSrc : Bool) : Bool :=
  let x := edgeRouter die e
  (s.findRoute r (fun l => routeFrom l x && l.any (fun t => t.hubOut && t.router = x))).isSome &&
    (!isSrc || (s.findRoute r (fun l => routeTo l x && l.any (fun t => t.hubIn && t.router = x))).isSome)

/-- Steps 3 to 10 for the device sides. -/
def State.copyPlaced (s : State) (r : Nat) (o : Op) : Except Code (Option Placed × Option Placed) :=
  let sg := if o.srcHost then none else s.sideSeg r o.src o
  let dg := if o.dstHost then none else s.sideSeg r o.dst o
  if (!o.srcHost && sg.isNone) || (!o.dstHost && dg.isNone) then .error Codes.BOUNDS
  else if sg.any (fun g => !g.read) || dg.any (fun g => !g.write) then .error Codes.SEG_PERM
  else
    let sp := sg.map (s.place o.src o)
    let dp := dg.map (s.place o.dst o)
    let meet := match sp, dp with
      | some a, some b => overlaps a b
      | _, _ => false
    if dp.any (fun p => (p.addrs o.dst o).any s.protectedByte) then .error Codes.ANL_TABLE_PROTECTED
    else if sp.any (fun p => !p.windowAligned o.src o) || dp.any (fun p => !p.windowAligned o.dst o) then .error Codes.WINDOW_ALIGN
    else if sp.any (fun p => !p.windowFits) || dp.any (fun p => !p.windowFits) then .error Codes.BOUNDS
    else if !o.dstNested then .error Codes.COPY_DST_ALIAS
    else if meet && (sp.any (fun p => p.window.isSome) || dp.any (fun p => p.window.isSome)) then .error Codes.OVERLAP_WRAP
    else if meet && !o.equalLayout then .error Codes.COPY_OVERLAP_LAYOUT
    else
      let routed (p : Option Placed) (x : Side) (isSrc : Bool) : Bool :=
        match p with
        | some p => (p.pages x o).all (fun a => s.copyRoute r o.engineDie o.engine a isSrc)
        | none => s.hostRoute r o.engineDie o.engine isSrc
      if routed sp o.src true && routed dp o.dst false then .ok (sp, dp) else .error Codes.NO_ROUTE

/-! ## Dispatch -/

/-- The pages of a copy's sides that lie on the device. -/
def Op.copyPages (o : Op) (sp dp : Option Placed) : List Nat :=
  let of (p : Option Placed) (x : Side) : List Nat := (p.map (fun p => p.pages x o)).getD []
  of sp o.src ++ of dp o.dst

/-- The domains of a copy's sides accept it in the slots in which its first packets reach them (04 R107). -/
def State.copyAccept (s : State) (r : Nat) (o : Op) (sp dp : Option Placed) : State :=
  let firsts := (o.copyPages sp dp).map (fun a => (s.domainOf a, s.arrives r o.engineDie (edgeRouter o.engineDie o.engine) a))
  (sortBy (fun (a b : Nat × Nat) => a.2 < b.2) firsts).foldl (fun s p => s.acceptAt (r, o.queue, o.seq) p.1 p.2) s

/-- Whether what a copy runs through keeps its lock: its engine's edge, the host interface of a host side, and its sides' domains (03 R86). -/
def State.copyLocked (s : State) (r : Nat) (o : Op) : Bool :=
  s.islandUp (edgeDomain o.engineDie) && (!(o.srcHost || o.dstHost) || s.islandUp 40) &&
    match s.copyPlaced r o with
    | .ok (sp, dp) => (o.copyPages sp dp).all (fun a => s.islandUp (s.domainOf a))
    | .error _ => true

/-- The status of a denied or lost host side (21 R790, R802). -/
def State.hostSide (s : State) (r : Nat) (o : Op) : Option (Code × BitVec 16) :=
  if !(o.srcHost || o.dstHost) then none
  else if !s.dev.hst.linkUp then some (Codes.HST_LINK_DOWN, s.faultIdOf Codes.HST_LINK_DOWN)
  else if !s.hostAllowed r then some (Codes.HST_HOST_DENIED, 0)
  else none

/-- Records a rejection at the engine (08 R299). -/
def State.copyReject (s : State) (o : Op) (c : Code) : State :=
  s.onEngine o.engineDie o.engine fun e => { e with rejected := satAdd e.rejected 1, lastReject := c }

/-- A COPY dispatches: it is validated, and runs or completes (08 R295). -/
def State.dispatchCopy (s : State) (r : Nat) (sl : Slot) : State :=
  let o := sl.op
  if !s.copyFieldsOk o then (s.copyReject o Codes.COPY_INVALID).finishNow r sl Codes.COPY_INVALID 0
  else if o.copyEmpty then s.finishNow r sl Codes.OK 0
  else
    match s.copyPlaced r o with
    | .error c => (s.copyReject o c).finishNow r sl c 0
    | .ok (sp, dp) =>
      match s.hostSide r o with
      | some e => s.finishNow r sl e.1 e.2
      | none =>
        let s := (s.dispatchMark r sl [edgeDomain o.engineDie]).copyAccept r o sp dp
        if o.srcHost then s.retryBegin (sl.key r) else s

/-! ## The order of a copy (08 R297) -/

/-- Ascending indices, or descending ones. -/
def ordered (n : Nat) (up : Bool) : List Nat := if up then List.range n else (List.range n).reverse

/-- The order in which the engine moves a copy's bytes, by their index in ascending plane, row and byte: where the sides overlap, each
dimension descends unless δ × stride < 0 (08 R297). -/
def Op.copyOrder (o : Op) (sp dp : Option Placed) : List Nat :=
  let delta : Option Int := match sp, dp with
    | some a, some b => if overlaps a b then some ((b.lo : Int) - a.lo) else none
    | _, _ => none
  let dir (stride : Int) : Bool := delta.all (fun d => d * stride < 0)
  (ordered o.planesN (dir o.dst.stride2)).flatMap fun p => (ordered o.rowsN (dir o.dst.stride1)).flatMap fun r =>
    (ordered (o.word 8) (dir 1)).map fun b => (p * o.rowsN + r) * o.word 8 + b

/-! ## Completion -/

/-- The bytes of the destination as they were written: those not written count as 0 (18 R682). -/
def maskedBytes (bs : List Byte) (ok : List Bool) : List Byte := (bs.zip ok).map (fun p => if p.2 then p.1 else 0)

/-- Moves a copy's bytes, as if every source byte were read before any was written (08 R296, R297), and latches its end. -/
def State.completeCopy (s : State) (r : Nat) (sl : Slot) (hostBytes : List Byte) : State :=
  let k := sl.key r
  let o := sl.op
  let s := if o.srcHost then s.retryEnd k else s
  match s.hostSide r o, s.copyPlaced r o with
  | some e, _ => (s.note k e.1 e.2).latchEnd k Codes.OK 0
  | none, .error _ => s.latchEnd k Codes.OK 0
  | none, .ok (sp, dp) =>
    let rd : State × List (Option Byte) :=
      match sp with
      | some p => s.unitRead k (p.addrs o.src o)
      | none => (s, hostBytes.map some)
    let s := rd.1
    let bytes := rd.2.map (·.getD 0)
    let wr : State × List Bool :=
      match dp with
      | some p =>
        let pairs := (((p.addrs o.dst o).zip rd.2).filterMap (fun q => q.2.map (fun v => (q.1, v))))
        let w := s.unitWrite k pairs
        let flags := rd.2.foldl (fun (t : List Bool × List Bool) v =>
          match v with
          | some _ => (t.1 ++ [t.2.headD false], t.2.tail)
          | none => (t.1 ++ [false], t.2)) ([], w.2)
        (w.1, flags.1)
      | none =>
        let cells := ((o.dst.bytes o).zip rd.2).filterMap (fun q => q.2.map (fun v => (q.1, v)))
        ({ s with hostMem := cells.foldl (fun l c => putCell l (c.1 % 2 ^ 64) c.2) s.hostMem }, rd.2.map (·.isSome))
    let s := wr.1.onRec k.1 k.2.1 k.2.2 fun c => c.addTensor 0 (maskedBytes bytes wr.2)
    s.latchEnd k Codes.OK 0

/-- COPY_COMPLETE (08 R289, R296, R297; 18 R682; 21 R790): the last destination byte of a running copy is written; the bytes
of a host source are given. -/
def execCopyComplete (o : OpRef) (hostBytes : List Byte) (s : State) : Host.Outcome State Fault Refusal :=
  .next (s.effect fun s => s.whenP s.fabricOn fun s =>
    match s.slotAt o with
    | some sl =>
      s.whenP (sl.op.desc? = some .copy && sl.op.state = .running && s.copyLocked o.region.val sl.op &&
          (!sl.op.srcHost || hostBytes.length = sl.op.planesN * sl.op.rowsN * sl.op.word 8)) fun s =>
        s.completeCopy o.region.val sl hostBytes
    | none => s)

end Sys2Proof.Machine
end

