-- ==== Sys2Proof/Machine/Pins.lean ====
section
/-!
DEFINITION. The SMBus commands (02 R45-R47, 24 R885-R887), requests for shared resources (02 R50-R54) and the reads that
change a register (03 R80).
-/
namespace Sys2Proof.Machine

/-! ## SMBus -/

/-- SMBus works while the always-on domain is powered and MGT_VIO is present (02 R31, R56; 04). -/
def State.smbusUp (s : State) : Bool := s.dev.pins.mgtVio && !s.dev.boot.causeRail

/-- One byte of a PEC: CRC-8 with x^8 + x^2 + x + 1. PRESUMED (log 120): the polynomial and what it covers are those of the SMBus
specification, which 24 R887 names only as Packet Error Checking. -/
def pecByte (c b : Byte) : Byte :=
  let step (x : Byte) : Byte := if x.getLsbD 7 then (x <<< 1) ^^^ 0x07 else x <<< 1
  step (step (step (step (step (step (step (step (c ^^^ b))))))))

/-- The PEC of the bytes of a message, addresses included. -/
def pec (l : List Byte) : Byte := l.foldl pecByte 0

/-- An answer on SMBus after the bytes `head` of its message, with the PEC byte that follows; none when the AE7 does not acknowledge (24
R887). -/
def State.smbusAnswer (s : State) (head : List Byte) (answer : Option (List Byte)) : State :=
  let answer := if s.smbusUp then answer else none
  s.onDbg fun d => { d with smbus := answer, smbusPec := answer.elim 0 (fun l => pec (head ++ l)) }

/-- In RESET and ROM, every command but 0x00 and 0x06 returns 0 (24 R886). -/
def State.smbusLive (s : State) (n v : Nat) : List Byte :=
  leBytes n (if s.dev.boot.stage = .reset ∨ s.dev.boot.stage = .rom then 0 else v)

/-- MGMT_STATUS by stage: ready, in_reset, fault (02 R47, 05 R156). -/
def mgmtStatus (g : Stage) : Nat :=
  match g with
  | .reset => 2 | .rom => 2
  | .fwVerify => 0 | .dieLink => 0 | .memInit => 0
  | .awaitImage => 1 | .imageLoad => 1 | .running => 1
  | .thermalHold => 4 | .clockFault => 4 | .recovery => 4 | .bootFailed => 4

/-- The newest fault-log entry's ID and code (24 R885). -/
def State.lastFaultWord (s : State) : Nat :=
  match s.dev.faults.newest with
  | none => 0
  | some i => let e := Tab.get {} s.dev.faults.log i
    e.id.toNat + e.code.toNat * 2 ^ 16

/-- The content of a command byte; none for a byte that is not in the table of R885. -/
def State.smbusContent (s : State) (cmd : Nat) : Option (List Byte) :=
  match cmd with
  | 0 => some (leBytes 1 (mgmtStatus s.dev.boot.stage))
  | 1 => some (s.smbusLive 2 s.dev.pwr.hottest.toNat)
  | 2 => some (s.smbusLive 2 s.dev.pwr.inputPower.toNat)
  | 3 => some (s.smbusLive 2 s.dev.pwr.avgRail.toNat)
  | 4 => some (s.smbusLive 1 (s.dev.boot.stage.code + s.dev.pwr.level.toNat * 2 ^ 4))
  | 5 => some (s.smbusLive 4 s.lastFaultWord)
  | 6 => some (leBytes 8 s.part.deviceId.toNat)
  | _ => none

/-- A read protocol with a command byte at address 0x4C (02 R45; 24 R885-R887); the commands 0x05 and 0x06 are Block Reads, whose answer
begins with its length on the bus. A command byte outside the table is not acknowledged. -/
def State.smbusRead (s : State) (cmd : Nat) : State :=
  let answer := s.smbusContent cmd
  let count : List Byte := if cmd = 5 || cmd = 6 then [BitVec.ofNat 8 ((answer.getD []).length)] else []
  s.smbusAnswer ([0x98, BitVec.ofNat 8 cmd, 0x99] ++ count) answer

/-- MGMT_STATUS (02 R47, 05 R156, 24 R885): SMBus command 0x00. -/
def execMgmtStatus (s : State) : Host.Outcome State Fault Refusal :=
  .next (s.devEffect (·.smbusRead 0))

/-- TEMP (24 R885, R886): SMBus command 0x01. -/
def execTemp (s : State) : Host.Outcome State Fault Refusal :=
  .next (s.devEffect (·.smbusRead 1))

/-- POWER (24 R871, R885, R886): SMBus command 0x02. -/
def execPower (s : State) : Host.Outcome State Fault Refusal :=
  .next (s.devEffect (·.smbusRead 2))

/-- RAIL (24 R871, R885, R886): SMBus command 0x03. -/
def execRail (s : State) : Host.Outcome State Fault Refusal :=
  .next (s.devEffect (·.smbusRead 3))

/-- STAGE (24 R885, R886): SMBus command 0x04. -/
def execStage (s : State) : Host.Outcome State Fault Refusal :=
  .next (s.devEffect (·.smbusRead 4))

/-- LAST_FAULT (24 R885, R886): SMBus command 0x05. -/
def execLastFault (s : State) : Host.Outcome State Fault Refusal :=
  .next (s.devEffect (·.smbusRead 5))

/-- DEVICE_ID (24 R885): SMBus command 0x06. -/
def execDeviceId (s : State) : Host.Outcome State Fault Refusal :=
  .next (s.devEffect (·.smbusRead 6))

/-- ALERT_RESPONSE (02 R46): while ALERT_N is owned for SMBus alert, the AE7 answers with 0x4C and releases it. -/
def execAlertResponse (s : State) : Host.Outcome State Fault Refusal :=
  .next (s.devEffect fun s =>
    if s.dev.shared.alertOwner = 0x01 && s.smbusUp then
      (s.smbusAnswer [0x19] (some [0x4C])).onAux fun a => { a with alertLow := false }
    else s.smbusAnswer [] none)

/-! ## Requests for shared resources -/

/-- The owner of a requestable resource, as (region or 0x40, feature). -/
def Shared.ownerOf (h : Shared) (res idx : Nat) : Option (Nat × Nat) :=
  let sync (b : Byte) : Option (Nat × Nat) := if b = 0 then none else if b = 1 then some (0x40, 1) else some (b.toNat - 0x20, 2)
  match res with
  | 2 => sync h.syncInOwner
  | 3 => sync h.syncOutOwner
  | _ => (h.timers.find? (fun t => t.1 = idx)).map (·.2)

/-- Gives a resource to an owner. -/
def Shared.give (h : Shared) (res idx : Nat) (o : Nat × Nat) : Shared :=
  let code : Byte := if o.1 = 0x40 then 1 else BitVec.ofNat 8 (0x20 + o.1)
  match res with
  | 2 => { h with syncInOwner := code }
  | 3 => { h with syncOutOwner := code }
  | _ => { h with timers := Tab.set h.timers idx o }

/-- Whether a request is one that its requester may make: a region's, or the control cores' (02 R54, 06 R191). -/
def requestOk (v : Word) (pf : Bool) : Bool :=
  let n := v.toNat
  let res := bitsOf n 7 0
  let idx := bitsOf n 15 8
  let feat := bitsOf n 23 16
  bitsOf n 31 24 = 0 &&
    (((res = 2 || res = 3) && idx = 0 && feat = (if pf then 1 else 2)) ||
      (!pf && res = 4 && idx < 8 && (feat = 1 || feat = 2)))

/-- Records the outcome of a request, which reads from the next hub tick: of a region, or of the control cores (02 R53). -/
def State.sharedResult (s : State) (who : Nat) (c : Code) : State :=
  if who = 0 then s.onShared fun h => { h with hubResult := h.hubResult.give s.tick c }
  else s.onRAux (who - 1) fun a => { a with sharedResult := a.sharedResult.give s.tick c }

/-- A run-time enable (02 R50-R54): `who` is 0 for the control cores and r + 1 for region r. An enable of the same tick by
a higher-numbered requester gives way (02 R52). DESIGN CHOICE (log 102): the present owner's request for the feature that it holds answers
OK, and one for another feature of its timer RESOURCE_OWNED. -/
def State.sharedRequest (s : State) (who : Nat) (v : Word) : State :=
  let n := v.toNat
  let res := bitsOf n 7 0
  let idx := bitsOf n 15 8
  let o : Nat × Nat := (if who = 0 then 0x40 else who - 1, bitsOf n 23 16)
  if !requestOk v (who = 0) then s.sharedResult who Codes.SHARED_REQ_INVALID
  else
    let key := res * 16 + idx
    let take (s : State) : State :=
      (s.onShared fun h => { h.give res idx o with takes := Tab.set h.takes key (s.tick, who) }).sharedResult who Codes.OK
    match s.dev.shared.ownerOf res idx with
    | none => take s
    | some p =>
      if p = o then s.sharedResult who Codes.OK
      else
        match s.dev.shared.takes.find? (fun e => e.1 = key) with
        | some (_, t, w) => if t = s.tick && who < w then take (s.sharedResult w Codes.RESOURCE_OWNED) else s.sharedResult who Codes.RESOURCE_OWNED
        | none => s.sharedResult who Codes.RESOURCE_OWNED

/-- REGION_SHARED_REQ (02 R50-R54). -/
def execRegionSharedReq (f : FnId) (r : RegionId) (v : Word) (s : State) : Host.Outcome State Fault Refusal :=
  .next (s.effect fun s => s.whenP (s.reaches f.val r.val) fun s => s.sharedRequest (r.val + 1) v)

/-- HUB_SHARED_REQ (02 R50-R54): the physical function's request counts as the control cores'. -/
def execHubSharedReq (v : Word) (s : State) : Host.Outcome State Fault Refusal :=
  .next (s.effect fun s => s.whenP (s.pfReach true) fun s => s.sharedRequest 0 v)

/-! ## A read that latches -/

/-- CLK_TICK_LO_READ (03 R80; 21 R785): the read returns the low half and latches the upper half for the function. -/
def execClkTickLoRead (f : FnId) (s : State) : Host.Outcome State Fault Refusal :=
  .next (s.devEffect fun s => s.whenP (s.funcReach f.val) fun s =>
    let s := s.onClk fun c => { c with latches := Tab.set c.latches f.val (c.tick.extractLsb' 32 32) }
    s.onDbg fun d => { d with readAnswer := (s.tick.setWidth 32).setWidth 64 })

end Sys2Proof.Machine
end

