-- ==== Sys2Proof/Machine/Quant.lean ====
section
/-!
DEFINITION. MATRIX: its fields (13 R495, R496), areas of scratchpad (08 R278-R280), the quantisation block (14 R542-R549), the value
of an output at the drain and its narrowing (14 R551-R560), and statistics (14 R562-R567).
-/
namespace Sys2Proof.Machine

/-! ## The descriptor (13 R495) -/

/-- What a MATRIX does. -/
inductive MatKind where
  | product | combine | reduce | invalid
  deriving DecidableEq, Repr

def Op.matKind (o : Op) : MatKind :=
  match o.field 4 10 9 with
  | 0 => .product | 1 => .combine | 2 => .reduce | _ => .invalid
def Op.aFmt (o : Op) : Nat := o.field 4 13 11
def Op.bFmt (o : Op) : Nat := o.field 4 16 14
def Op.exact (o : Op) : Bool := bitAt (o.word 4) 17
def Op.red (o : Op) : Nat := o.field 4 21 18
def Op.axis (o : Op) : Nat := o.field 4 23 22
def Op.kLen (o : Op) : Nat := o.word 5
def Op.aOff (o : Op) : Nat := o.field 6 19 0
def Op.bOff (o : Op) : Nat := o.field 7 19 0
def Op.aStride (o : Op) : Nat := o.field 8 15 0
def Op.bStride (o : Op) : Nat := o.field 8 31 16
def Op.outOff (o : Op) : Nat := o.field 9 19 0
def Op.outKind (o : Op) : Nat := o.field 9 22 20
def Op.tableId (o : Op) : Nat := o.field 9 26 23
def Op.outStride (o : Op) : Nat := o.field 10 15 0
def Op.accIn (o : Op) : Bool := bitAt (o.word 10) 16
def Op.accOff (o : Op) : Nat := o.field 11 19 0
def Op.quantOff (o : Op) : Nat := o.field 12 19 0
def Op.matSaveOff (o : Op) : Nat := o.field 13 19 0

/-- Whether the operation works on the floating path (13 R492, R526). -/
def Op.floating (o : Op) : Bool :=
  match o.matKind with
  | .product => o.aFmt = 3 || o.bFmt = 3
  | .combine => o.aFmt = 5
  | _ => o.aFmt = 3

/-- Whether outputs are sums, which the quantisation block narrows: all but the reduces of R527 and R528. -/
def Op.sums (o : Op) : Bool := o.matKind ≠ .reduce || o.red = 0

/-- The number of outputs (13 R502). -/
def Op.outputs (o : Op) : Nat :=
  match o.matKind with
  | .reduce => if o.axis = 3 then 1 else 32
  | .product => if o.exact then 32 else 1024
  | _ => if o.aFmt = 6 then 32 else 1024

/-- Elements that one output of a reduce takes. -/
def Op.reduceElems (o : Op) : Nat := o.kLen * (if o.axis = 3 then 1024 else 32)

/-- The operand pairs of R492. -/
def Op.pairOk (o : Op) : Bool :=
  [(0, 0), (1, 0), (0, 1), (2, 2), (3, 3), (0, 3), (2, 3), (3, 0), (3, 2)].contains (o.aFmt, o.bFmt)

/-- The combinations of R496. -/
def Op.combinationOk (o : Op) : Bool :=
  let plainOut := o.outKind = 0 || o.outKind = 3 || (if o.exact then o.outKind = 2 else o.outKind = 1)
  match o.matKind with
  | .product => o.pairOk && !(o.exact && o.aFmt = 2 && o.bFmt = 2) && o.red = 0 && o.axis = 0 && plainOut
  | .combine => (if o.exact then o.aFmt = 6 else o.aFmt = 4 || o.aFmt = 5) && o.bFmt = 0 && o.red = 0 && o.axis = 0 && plainOut && !o.accIn
  | .reduce => o.aFmt ≤ 3 && o.bFmt = 0 && !o.exact && o.red ≤ 8 && o.axis ≠ 0 && !o.accIn &&
      (o.outKind = 0 || (o.red = 0 && (o.outKind = 1 || o.outKind = 3)))
  | .invalid => false

/-! ## Areas of the site -/

/-- An area: `n` rows of `width` bytes, `stride` bytes apart from `off` on. -/
structure Area where
  off : Nat
  n : Nat
  stride : Nat
  width : Nat
  deriving DecidableEq, Repr

/-- An area of rows; a single row has no stride. -/
def Area.rows (off n stride width : Nat) : Area := { off := off, n := n, stride := if 1 < n then stride else 0, width := width }
/-- An area of consecutive bytes. -/
def Area.block (off width : Nat) : Area := { off := off, n := 1, stride := 0, width := width }
/-- Bytes from an area's first to its last. -/
def Area.span (a : Area) : Nat := (a.n - 1) * a.stride + a.width
/-- The stretches of an area from its offset on, as first byte and length: its rows, or one where no byte lies between them. -/
def Area.stretches (a : Area) : List (Nat × Nat) :=
  if a.stride ≤ a.width then [(0, a.span)] else (List.range a.n).map (fun i => (i * a.stride, a.width))

/-- The pieces of an area. -/
def State.pieces (s : State) (k : Nat) (a : Area) : List (Nat × Nat) := a.stretches.flatMap (fun p => s.piecesAt k a.off p.1 p.2)

/-- Why an area does not fit its site (08 R279, R280, R288). -/
def State.areaUnfit (s : State) (k : Nat) (a : Area) : Option Code :=
  match s.windowAt (k / 256) (k % 256) a.off with
  | none => if 0x100000 < a.off + a.span then some Codes.BOUNDS else none
  | some w =>
    let e := 2 ^ w.elemLog2
    if (a.off - w.base) % e ≠ 0 ∨ a.span % e ≠ 0 ∨ a.stride % e ≠ 0 then some Codes.WINDOW_ALIGN
    else if w.length < a.span then some Codes.BOUNDS else none

/-- Whether two areas share a byte. -/
def State.areasShare (s : State) (k : Nat) (a b : Area) : Bool :=
  (s.pieces k a).any (fun p => (s.pieces k b).any (fun q => p.1 < q.2 && q.1 < p.2))

/-- Whether an area has a protected byte (10 R411). -/
def State.areaProtected (s : State) (k : Nat) (a : Area) : Bool :=
  a.stretches.any (fun p => (upFrom p.1 p.2).any (fun i => s.protectedByte (s.areaAddr k a.off i)))

/-! ## The quantisation block (14 R545) -/

/-- A quantisation block. -/
abbrev Quant := List Byte

def Quant.field (q : Quant) (i hi lo : Nat) : Nat := bitsOf (wordAt q i) hi lo
def Quant.outFmt (q : Quant) : Nat := q.field 0 3 0
def Quant.outGran (q : Quant) : Nat := q.field 0 5 4
def Quant.stochastic (q : Quant) : Bool := bitAt (wordAt q 0) 6
def Quant.weightsB (q : Quant) : Bool := bitAt (wordAt q 0) 7
def Quant.inGran (q : Quant) : Nat := q.field 0 9 8
def Quant.zpMode (q : Quant) : Nat := q.field 0 11 10
def Quant.biasEn (q : Quant) : Bool := bitAt (wordAt q 0) 12
def Quant.statEn (q : Quant) : Bool := bitAt (wordAt q 0) 13
def Quant.aExp (q : Quant) : Int := signedOf 8 (q.field 1 7 0)
def Quant.bExp (q : Quant) : Int := signedOf 8 (q.field 1 15 8)
def Quant.outExp (q : Quant) : Int := signedOf 8 (q.field 1 23 16)
def Quant.inZp (q : Quant) : Nat := q.field 1 31 24
def Quant.outZp (q : Quant) : Nat := q.field 2 7 0
def Quant.underBits (q : Quant) : Nat := q.field 2 11 8
def Quant.inExpOff (q : Quant) : Nat := q.field 3 19 0
def Quant.outExpOff (q : Quant) : Nat := q.field 4 19 0
def Quant.sumOff (q : Quant) : Nat := q.field 5 19 0
def Quant.biasOff (q : Quant) : Nat := q.field 6 19 0
def Quant.statOff (q : Quant) : Nat := q.field 7 19 0
def Quant.satThreshold (q : Quant) : Nat := wordAt q 8
def Quant.underThreshold (q : Quant) : Nat := wordAt q 9
def Quant.srStep (q : Quant) : Nat := wordAt q 10
def Quant.srTensor (q : Quant) : Nat := wordAt q 11
def Quant.srBase (q : Quant) : Nat := leAt q 48 8 % 2 ^ 38

/-- The output format. -/
def Quant.out (q : Quant) : Option Fmt := fmt? q.outFmt

/-- Precision of an integer format (14 R549). -/
def Fmt.precision : Fmt → Nat
  | .i4 => 3 | .i8 => 7 | .u8 => 8 | .i16 => 15 | _ => 0

/-- The blocks of a product, a combine and a sum reduce are read (14 R547). -/
def Op.readsQuant (o : Op) : Bool := o.sums

/-- Whether an exponent byte is legal (14 R543). -/
def expOk (x : Int) : Bool := -64 ≤ x && x ≤ 63

/-- The tables of a block: input exponents, output exponents, weight sums, bias, statistics, where in use (14 R546). -/
def Quant.tables (q : Quant) (o : Op) : List Area :=
  (if q.inGran = 1 then [.block q.inExpOff 32] else if q.inGran = 2 then [.block q.inExpOff o.kLen] else []) ++
  (if q.outGran = 1 then [.block q.outExpOff 32] else if q.outGran = 2 then [.block q.outExpOff ((o.outputs + 31) / 32)] else []) ++
  (if q.zpMode = 1 then [.block q.sumOff 256] else []) ++
  (if q.biasEn then [.block q.biasOff 128] else []) ++
  (if q.statEn then [.block q.statOff 320] else [])

/-- The entries of an exponent table: those that its window holds, or those up to the end of the scratchpad. -/
def State.expTable (s : State) (k off n : Nat) : List Byte :=
  s.areaBytes k off (min n (match s.windowAt (k / 256) (k % 256) off with | some w => w.length | none => 0x100000 - off))

/-- Step 1 of R548. A raw output narrows nothing, so it uses no exponent field; with in_gran 1 the table stands in for the
weight side's exponent. -/
def State.quantFieldsOk (s : State) (k : Nat) (o : Op) (q : Quant) : Bool :=
  let narrows := o.outKind = 0 || o.outKind = 3
  o.quantOff % 64 = 0 && wordAt q 0 / 2 ^ 14 = 0 && q.field 2 31 12 = 0 && (upFrom 3 5).all (fun i => q.field i 31 20 = 0) &&
  q.field 13 31 6 = 0 && wordAt q 14 = 0 && wordAt q 15 = 0 &&
  q.outFmt ≤ 7 && q.outGran ≤ 2 && q.inGran ≤ 2 && q.zpMode ≤ 2 &&
  (!narrows || ((expOk q.aExp || (q.inGran = 1 && !q.weightsB)) && (expOk q.bExp || (q.inGran = 1 && q.weightsB)) &&
    (expOk q.outExp || q.outGran ≠ 0))) &&
  (q.inGran = 0 || (s.expTable k q.inExpOff (if q.inGran = 1 then 32 else o.kLen)).all (fun b => expOk b.toInt)) &&
  (q.outGran = 0 || (s.expTable k q.outExpOff (if q.outGran = 1 then 32 else (o.outputs + 31) / 32)).all (fun b => expOk b.toInt))

/-- Step 2 of R548: the rules of R549. -/
def State.quantRulesOk (s : State) (k : Nat) (o : Op) (q : Quant) : Bool :=
  let kind := ((s.fab.body.indexTables.find? (fun t => (t.kind = 3 || t.kind = 4) && siteKey t.die t.site = k && t.tableId = o.tableId)).map (·.kind)).getD 0
  let r1 := !(o.outKind = 1 || o.outKind = 2) ||
    (q.outFmt = 0 && q.zpMode = 0 && !q.biasEn && !q.statEn && !q.stochastic && q.outZp = 0)
  let r2 := (o.outKind ≠ 0 || q.outFmt ≠ 0) &&
    (o.outKind ≠ 3 || (q.outFmt = 2 && kind ≠ 4) || (q.outFmt = 4 && kind ≠ 3))
  let r3 := (q.outZp = 0 || q.outFmt = 3) &&
    (match q.out with
      | none => true
      | some f => if f.isFloat then q.underBits = 0 else q.underBits < f.precision)
  let r4 := o.matKind ≠ .product ||
    (let aU := o.aFmt = 1
     if o.aFmt = 1 || o.bFmt = 1 then
       let weightU := aU != q.weightsB
       (q.inZp = 0 || q.zpMode ≠ 0) && (q.zpMode ≠ 1 || !weightU) && (q.zpMode ≠ 2 || weightU)
     else q.zpMode = 0 && q.inZp = 0)
  let r5 := o.matKind ≠ .reduce ||
    (q.bExp = 0 && q.inGran = 0 && !q.weightsB &&
      (if o.aFmt = 1 && q.inZp ≠ 0 then q.zpMode = 2 else q.zpMode = 0 && q.inZp = 0))
  let r6 := o.matKind ≠ .combine || (q.zpMode ≤ 1 && q.inGran ≤ 1)
  let r7 := q.inGran ≠ 2 ||
    (o.matKind = .product && !o.exact && o.floating && (if q.weightsB then o.aFmt = 3 && o.bFmt ≠ 3 else o.bFmt = 3 && o.aFmt ≠ 3))
  r1 && r2 && r3 && r4 && r5 && r6 && r7

/-- The block checks of R548: the first failure's code, given the output and save areas. -/
def State.quantRefused (s : State) (r k : Nat) (o : Op) (q : Quant) (outputs : List Area) : Option Code :=
  let ts := q.tables o
  if !s.quantFieldsOk k o q then some Codes.NUM_QUANT_INVALID
  else if !s.quantRulesOk k o q then some Codes.NUM_QUANT_INVALID
  else if (q.inGran = 2 && s.narrowMode r = 0) || (q.stochastic && s.narrowMode r ≠ 2) then some Codes.NUM_MODE_DENIED
  else
    match ts.findSome? (s.areaUnfit k) with
    | some c => some c
    | none =>
      if q.statEn && q.statOff % 64 ≠ 0 then some Codes.WINDOW_ALIGN
      else if ts.zipIdx.any (fun a => outputs.any (s.areasShare k a.1) || ts.zipIdx.any (fun b => a.2 ≠ b.2 && s.areasShare k a.1 b.1)) then
        some Codes.NUM_QUANT_INVALID
      else if q.statEn && s.areaProtected k (.block q.statOff 320) then some Codes.ANL_TABLE_PROTECTED else none

/-! ## The value of an output (14 R551-R560) -/

/-- An exact dyadic value: x × 2^e. -/
structure Dyadic where
  x : Int
  e : Int
  deriving DecidableEq, Repr

def Dyadic.add (a b : Dyadic) : Dyadic :=
  let e := min a.e b.e
  { x := a.x * 2 ^ (a.e - e).toNat + b.x * 2 ^ (b.e - e).toNat, e := e }
def Dyadic.num (a : Dyadic) : Num := .fin (a.x < 0) a.x.natAbs a.e
def Num.dyadic : Num → Option Dyadic
  | .fin n m e => some { x := if n then -(m : Int) else (m : Int), e := e }
  | _ => none

/-- The output channel (14 R543). -/
def Op.channel (o : Op) (q : Quant) (e : Nat) : Nat :=
  if o.matKind = .product && !o.exact && !q.weightsB then e / 32 else e % 32

/-- The correcting sum S(e) (14 R551). -/
def MatRun.correction (m : MatRun) (o : Op) (e : Nat) : Int :=
  let q : Quant := m.quant
  if q.zpMode = 1 then signedOf 64 (leAt m.sumTab (8 * o.channel q e) 8)
  else if o.matKind = .reduce then (o.reduceElems : Int)
  else m.sums.getD (if q.weightsB then (if o.exact then 0 else e / 32) else e % 32) 0

/-- The drain value w of output e, in output units, from its accumulator (14 R552). -/
def MatRun.drainValue (m : MatRun) (o : Op) (e : Nat) (acc : Dyadic) : Dyadic :=
  let q : Quant := m.quant
  let sf : Int := if o.floating then 0 else o.inShift - (m.repeats : Int)
  let ch := o.channel q e
  let v : Dyadic := { acc with e := acc.e - sf }
  let v := if q.zpMode ≠ 0 then v.add { x := -((q.inZp : Int) * m.correction o e), e := 0 } else v
  let v := if q.biasEn then v.add { x := signedOf 32 (leAt m.bias (4 * ch) 4), e := 0 } else v
  let tab (l : List Byte) (i : Nat) : Int := (l.getD i 0).toInt
  let xa := if q.inGran = 1 && !q.weightsB then tab m.inExp ch else q.aExp
  let xb := if q.inGran = 1 && q.weightsB then tab m.inExp ch else q.bExp
  let y := if q.outGran = 1 then tab m.outExp ch else if q.outGran = 2 then tab m.outExp (e / 32) else q.outExp
  { v with e := v.e + xa + xb - y }

/-- How output e of a block is rounded (14 R554, R558). -/
def State.outRounding (s : State) (r : Nat) (q : Quant) (e : Nat) : Rounding :=
  if q.stochastic then .stochastic (s.roundDraw r (q.srBase + e) q.srStep q.srTensor) else .nearest

/-- Narrows the value of output e; none is not a number (14 R553-R560). -/
def State.narrowOut (s : State) (r : Nat) (q : Quant) (f : Fmt) (e : Nat) (w : Option Dyadic) : Narrowed :=
  match w with
  | none => f.narrowNan q.outZp
  | some w => f.narrowNum (s.outRounding r q e) q.outZp w.num 0

/-! ## Statistics (14 R562-R567) -/

/-- The counters of a record, by index: bins 0 to 63, zero 64, overflow 65, saturated 66, underuse 67. -/
def statHits (q : Quant) (f : Fmt) (w : Option Dyadic) (n : Narrowed) : List Nat :=
  let bin := match w with
    | none => 65
    | some w =>
      if n.saturated then 65
      else if w.x = 0 then 64
      else (clampInt 0 63 ((Nat.log2 w.x.natAbs : Int) + w.e + 32)).toNat
  let under := w.any (fun w => w.x ≠ 0 &&
    (n.zero || (!f.isFloat && 0 < q.underBits && n.qr ≠ 0 && n.qr.natAbs < 2 ^ (f.precision - q.underBits))))
  [bin] ++ (if n.saturated then [66] else []) ++ (if under then [67] else [])

/-- Adds the counts of an operation into its record (14 R565). -/
def addStats (old : List Byte) (hits : List Nat) : List Byte :=
  (List.range 68).flatMap (fun i => leBytes 4 (min (wordAt old i + hits.count i) 0xFFFFFFFF))

/-- The detail word of QUANT_DRIFT (14 R567). -/
def driftDetail (k counter off : Nat) : Nat := k % 256 + k / 256 * 2 ^ 8 + counter * 2 ^ 9 + off * 2 ^ 10

/-- Raises QUANT_DRIFT for a counter that reached its threshold (14 R566, R569). -/
def State.drift (s : State) (r k counter threshold off : Nat) (old new : List Byte) : State :=
  let i := 66 + counter
  if threshold ≠ 0 ∧ wordAt old i < threshold ∧ threshold ≤ wordAt new i then
    let s := s.onDie (k / 256) fun d =>
      { d with driftEvents := satAdd d.driftEvents 1, driftSite := BitVec.ofNat 8 (k % 256), driftCounter := counter = 1 }
    s.regionEvent r 2 Codes.QUANT_DRIFT (driftDetail k counter off)
  else s

end Sys2Proof.Machine
end

