-- ==== Sys2Proof/Machine/Softmax.lean ====
section
/-!
DEFINITION. SOFTMAX rows: their areas and checks (15 R591, R592), their results (15 R594-R596), the writes of their outputs, and the
terms of stores in a fold digest (18 R683).
-/
namespace Sys2Proof.Machine

/-- The operation of a hardware thread. -/
def Thread.key (x : Thread) : OpKey := (x.region, x.queue, x.seq)

/-- The term of one store of `n` aligned bytes (18 R683), or of a part of a longer one that lies in one 8-byte chunk. -/
def storeTerm (va n v : Nat) : Word64 := foldM (va / 8 + (2 ^ n - 1) * 2 ^ (va % 8) * 2 ^ 56) (v % 2 ^ (8 * n) * 2 ^ (8 * (va % 8)))

/-- A store of a thread enters its task's fold digest (18 R683); one that fails after it was sent leaves it again. -/
def State.foldStore (s : State) (key : OpKey) (va n v : Nat) (fails : Bool) : State :=
  s.onRec key.1 key.2.1 key.2.2 fun c =>
    if fails then { c with acc := c.acc - storeTerm va n v, n := c.n - 1 }
    else { c with acc := c.acc + storeTerm va n v, n := c.n + 1 }

/-- Whether the bytes lie in the issuing site's own scratchpad. -/
def ownBytes (k : Nat) (l : List Nat) : Bool := l.all (fun a => isScratch a && siteKey (scratchDie a) (scratchSite a) = k)

/-! ## SOFTMAX: its areas -/

/-- The areas of a soft maximum. -/
structure Row where
  src : Nat
  dst : Nat
  rec_ : Nat
  n : Nat
  inF32 : Bool
  outF32 : Bool
  maxEn : Bool
  deriving DecidableEq, Repr

def Row.inSize (x : Row) : Nat := if x.inF32 then 4 else 2
def Row.outSize (x : Row) : Nat := if x.outF32 then 4 else 2

/-- The operands of a SOFTMAX word (09 R321; 15 R591). -/
def Thread.row (x : Thread) (w : Nat) : Row :=
  let i := wImm w
  { src := x.pair (wRa w) % 2 ^ 48, dst := x.pair (wRb w) % 2 ^ 48, rec_ := x.pair (wRc w) % 2 ^ 48, n := i % 65536,
    inF32 := bitAt i 16, outF32 := bitAt i 17, maxEn := bitAt i 18 }

/-- Whether two areas of a site share a byte, each as its device address and its length, after their windows' wrap (08 R278). -/
def State.rowsShare (s : State) (k : Nat) (a b : Nat × Nat) : Bool :=
  let at_ (x : Nat × Nat) : List (Nat × Nat) := s.piecesAt k (scratchOff x.1) 0 x.2
  (at_ a).any (fun p => (at_ b).any (fun q => p.1 < q.2 && q.1 < p.2))

/-- The checks of R592: the device addresses of source, destination and record, or the trap and the virtual address that it
names. -/
def State.rowAreas (s : State) (k r : Nat) (x : Row) : Except (Code × Nat) (List Nat × List Nat × List Nat) :=
  let src : Nat × Nat × Bool × Bool := (x.src, x.n * x.inSize, true, false)
  let dst : Nat × Nat × Bool × Bool := (x.dst, x.n * x.outSize, false, true)
  let rec_ : Nat × Nat × Bool × Bool := (x.rec_, 32, false, true)
  let areas := [src, dst, rec_]
  let seg (a : Nat × Nat × Bool × Bool) : Option Segment := s.segOf r a.1 a.2.1
  match areas.find? (fun a => (seg a).isNone) with
  | some a => .error (Codes.SEG_FAULT, a.1)
  | none =>
    match areas.find? (fun a => (seg a).any (fun g => (a.2.2.1 && !g.read) || (a.2.2.2 && !g.write))) with
    | some a => .error (Codes.SEG_PERM, a.1)
    | none =>
      let phys (a : Nat × Nat × Bool × Bool) : Nat := ((seg a).map (·.phys a.1)).getD 0
      let own (a : Nat × Nat × Bool × Bool) : Bool := ownBytes k [phys a, phys a + a.2.1 - 1]
      let sn := x.n * x.inSize
      let dn := x.n * x.outSize
      if areas.any (fun a => !own a) || x.rec_ % 32 ≠ 0 ||
          (s.rowsShare k (phys src, sn) (phys dst, dn) && !(x.src = x.dst && x.inF32 == x.outF32)) ||
          s.rowsShare k (phys rec_, 32) (phys src, sn) || s.rowsShare k (phys rec_, 32) (phys dst, dn) then .error (Codes.SFU_ROW_INVALID, x.src)
      else
        let place (a : Nat × Nat × Bool × Bool) : Except (Code × Nat) (List Nat) :=
          match s.accessAddrs (phys a) a.2.1 with
          | .ok l => .ok l
          | .error c => .error (c, a.1)
        match areas.map place with
        | [.ok a, .ok b, .ok c] => .ok (a, b, c)
        | l => .error ((l.findSome? (fun e => match e with | .error c => some c | .ok _ => none)).getD (Codes.BOUNDS, x.src))

/-! ## SOFTMAX: its result (15 R594-R597) -/

/-- The elements of a row as patterns. -/
def rowElems (size : Nat) : Nat → List Byte → List Nat
  | 0, _ => []
  | n + 1, l => leNat (l.take size) :: rowElems size n (l.drop size)

/-- The sum by the fixed tree. -/
def l48Tree (l : List Nat) : Nat := (treeFold l48Add 17 l).headD 0

/-- The first element that attains the largest value, −0 below +0; equal values keep the earlier one (15 R596; 13 R527). -/
def rowMax (g : FloatFmt) : List Nat → Nat → Nat
  | [], best => best
  | x :: t, best => rowMax g t (if (g.decode best).before (g.decode x) then x else best)

/-- What a row gives: S, lse, maximum, saturated inputs, NaN, outputs. -/
structure RowResult where
  s : Nat
  lse : Nat
  max : Nat
  sat : Nat
  nan : Bool
  out : List Nat
  deriving DecidableEq, Repr

/-- Computes a soft maximum over patterns (15 R594, R595); `k` names the free values of undecided roundings (log 60). -/
def rowCompute (k : Nat) (row : Row) (xs : List Nat) : RowResult :=
  let gi := sfuFmt row.inF32
  let go := sfuFmt row.outF32
  let nan := xs.any (fun x => (gi.decode x).isNan)
  let ts := xs.map (fun x => softmaxTerm (gi.decode x))
  let sat := (ts.filter (·.2)).length
  let top := if row.maxEn then (if nan then gi.nanBits else rowMax gi xs (xs.headD 0)) else 0
  if nan then { s := l48F.nanBits, lse := f32F.nanBits, max := top, sat := sat, nan := true, out := xs.map (fun _ => go.nanBits) }
  else
    let ps := ts.zipIdx.map (fun p => p.1.1.getD (Config.undecided k (p.2 + 1) % 2 ^ 48))
    let s := l48Tree ps
    { s := s, lse := (l48Ln s).getD (Config.undecided k 0 % 2 ^ 32), max := top, sat := sat, nan := false,
      out := ps.map (fun p => l48Div go p s) }

/-- The record (15 R596). -/
def RowResult.bytes (x : RowResult) : List Byte :=
  leBytes 8 x.s ++ leBytes 4 x.lse ++ leBytes 4 x.max ++ leBytes 4 x.sat ++ leBytes 4 (b2n x.nan) ++ leBytes 8 0

/-- The word of a SOFTMAX in the unit. -/
def rowWord (h : Nat × Nat × Nat × Nat × Word) : Nat := enc 0xA8 0 h.2.1 h.2.2.1 h.2.2.2.1 h.2.2.2.2.toNat

/-- Writes the first `m` outputs of a row, in ascending order (15 R596); answers where a write failed. Each is a store of the thread
(18 R683). -/
def State.rowOutputs (s : State) (key : OpKey) (row : Row) (dst : List Nat) (res : RowResult) (m : Nat) : State × Option Nat :=
  let outs := res.out.take m
  let w := s.mem.writeCells (dst.zip (outs.flatMap (leBytes row.outSize)))
  (outs.zipIdx.foldl (fun s v => s.foldStore key (row.dst + v.2 * row.outSize) row.outSize v.1 false) { s with mem := w.1 }, w.2)

end Sys2Proof.Machine
end

