-- ==== Sys2Proof/Machine/Threads.lean ====
section
/-!
DEFINITION. What every thread instruction shares: fetch and issue (09 R302, R305, R314), traps (09 R309, R310; 08 R284),
register results, memory accesses on the own scratchpad and over routes (09 R303-R308, R319; 07 R227-R230), and returns.
-/
namespace Sys2Proof.Machine

/-! ## Traps -/

def State.threadSlot (s : State) (k th : Nat) : Option Slot :=
  let x := s.thread k th
  s.slotOf x.region x.queue x.seq

/-- A thread's task takes a trap: the lowest group index among the traps of the earliest vector tick stands (09 R310). -/
def TaskRun.trapped (t : TaskRun) (code : Code) (index : Nat) (now : Nat) (fault : BitVec 16) : TaskRun :=
  match t.trap with
  | none => { t with trap := some (code, index, now), trapFault := fault }
  | some (_, i, at_) => if now < at_ || (at_ = now && index < i) then { t with trap := some (code, index, now), trapFault := fault } else t

/-- The vector tick that is in course at a site: the one in which it issued last, or the first of the present hub tick. -/
def State.vecNow (s : State) (k : Nat) : Nat := max s.vecFirst ((s.site k).nextVec - 1)

/-- The vector tick in which the site may issue next (09 R302). -/
def State.vecNext (s : State) (k : Nat) : Nat := max s.vecFirst (s.site k).nextVec

/-- Abandons the soft maximum of a stopping thread and frees its unit; how many of its outputs were written is a free value (15 R599). -/
def State.abandonRow (s : State) (k th : Nat) : State :=
  match (s.site k).sfu.holder with
  | some h =>
    s.whenP (h.1 = th) fun s =>
      let x := s.thread k th
      let row := x.row (rowWord h)
      let s := match s.rowAreas k x.region row with
        | .ok (src, dst, _) =>
          if (s.mem.bad src).isSome then s
          else (s.rowOutputs x.key row dst (rowCompute s.free row (rowElems row.inSize row.n (s.mem.gather s.free src))) (s.freeVal 0 % (row.n + 1))).1.bump
        | .error _ => s
      s.onSite k fun x => { x with sfu := { x.sfu with holder := none }
                                   threads := Tab.modify {} x.threads th (fun y => { y with state := .exited }) }
  | none => s

/-- A trap of the thread at (k, th) of an operation: every thread of its task stops (09 R309). A thread's group index is its
place in the task's list (09 R341). -/
def State.trapOf (s : State) (key : OpKey) (k th : Nat) (code : Code) (fault : BitVec 16) : State :=
  match s.slotOf key.1 key.2.1 key.2.2 with
  | some sl =>
    let ts := (sl.run.task.map (·.threads)).getD []
    let s := s.onRun key.1 key.2.1 key.2.2 fun u =>
      { u with task := u.task.map (fun t => t.trapped code (ts.idxOf (k, th)) (s.vecNow k) fault) }
    if sl.op.state = .running then ts.foldl (fun s t => s.abandonRow t.1 t.2) s else s
  | none => s

/-- A trap of a running thread. -/
def State.trap (s : State) (k th : Nat) (code : Code) (fault : BitVec 16) : State :=
  s.trapOf (s.thread k th).key k th code fault

/-- Records a memory fault in REGION_MEM_FAULT (08 R284, R300). -/
def State.recordMemFault (s : State) (r va : Nat) (code : Code) : State :=
  s.onRAux r fun a =>
    if a.memFaultValid then { a with memFaultCount := satAdd a.memFaultCount 1 }
    else { a with memFaultValid := true, memFaultAddr := BitVec.ofNat 48 va, memFaultCode := code.setWidth 8,
                  memFaultCount := satAdd a.memFaultCount 1 }

/-- Codes that REGION_MEM_FAULT records (08 R284). -/
def recordsMemFault (c : Code) : Bool :=
  [Codes.SEG_FAULT, Codes.SEG_PERM, Codes.WINDOW_ALIGN, Codes.BOUNDS, Codes.MEM_UNCORRECTABLE].contains c

/-- A trap of a memory access at a virtual address. -/
def State.trapAt (s : State) (k th va : Nat) (code : Code) (fault : BitVec 16) : State :=
  let s := if recordsMemFault code then s.recordMemFault (s.thread k th).region va code else s
  s.trap k th code fault

/-- A trap on an uncorrectable unit: the fault is assigned first (08 R264). -/
def State.trapBad (s : State) (k th va a : Nat) : State :=
  (s.memFault (s.thread k th).region a).trapAt k th va Codes.MEM_UNCORRECTABLE s.dev.faults.next

/-! ## Fetch and issue -/

/-- Whether a thread's task lets it issue: it runs, and no thread of it has trapped in an earlier vector tick than the one in which the
site issues next (09 R309, R310). -/
def State.taskRuns (s : State) (k th : Nat) : Bool :=
  match s.threadSlot k th with
  | some sl => sl.op.state = .running && sl.run.task.any (fun t => t.trap.all (fun p => s.vecNext k ≤ p.2.2))
  | none => false

/-- The scratchpad bytes of the instruction at pc, or why the fetch traps (09 R314). -/
def State.fetchAddr (s : State) (k th : Nat) : Except Code Nat :=
  let x := s.thread k th
  match s.segOf x.region x.pc.toNat 8 with
  | none => .error Codes.SEG_FAULT
  | some g =>
    if !g.read then .error Codes.SEG_PERM
    else if !isScratch (g.phys x.pc.toNat) then .error Codes.SEG_FAULT
    else .ok (scratchAddr (k / 256) (k % 256) (scratchOff (g.phys x.pc.toNat)))

/-- The instruction word at an address. -/
def State.fetchWord (s : State) (a : Nat) : Nat := leNat (s.mem.readBytes s.free a 8)

/-- The registers that a word's instruction reads or writes; of a word that no site decodes, none (09 R313, R315). -/
def wordRegs (w : Nat) : List Nat :=
  match opFields (wOp w) with
  | none => []
  | some ((d, a, b, c), _) =>
    let op := wOp w
    let pairs := 0x60 ≤ op && op ≤ 0x71
    let row := op = 0xA8
    (if op = 0x92 then [] else if d then (if op = 0x65 || op = 0x71 then pairRegs (wRd w) else [wRd w]) else []) ++
    (if a then (if pairs || row || op = 0x92 then pairRegs (wRa w) else [wRa w]) else []) ++
    (if b then (if op = 0x6B || op = 0x71 || row then pairRegs (wRb w) else [wRb w]) else []) ++
    (if op = 0x71 && wRc w = 9 then pairRegs (wRb w + 2) else if op = 0x70 && wRc w = 9 then [wRb w + 1] else []) ++
    (if c && !pairs then (if row then pairRegs (wRc w) else [wRc w]) else [])

/-- Whether a thread has an instruction to issue: it runs, its task lets it, and no register of that instruction is awaited; a fetch that
traps issues too (09 R302, R305). -/
def State.threadIssues (s : State) (k th : Nat) : Bool :=
  (s.thread k th).state = .running && s.taskRuns k th &&
    match s.fetchAddr k th with
    | .ok a => !(s.thread k th).waits (wordRegs (s.fetchWord a))
    | .error _ => true

/-- The threads of a site in the order of their turns: ascending hardware thread number, after the thread that issued last (09 R302). -/
def turnOrder (last : Nat) : List Nat := (List.range 64).map (fun i => (last + 1 + i) % 64)

/-- The thread whose turn it is at a site (09 R302). -/
def State.turnOf (s : State) (k : Nat) : Option Nat := (turnOrder (s.site k).lastIssued).find? (s.threadIssues k)

/-- Whether a thread issues now: the fabric runs, the site has a vector tick left in the present hub tick, and it is the thread's turn
(09 R302). -/
def State.threadReady (s : State) (k th : Nat) : Bool :=
  s.fabricOn && s.vecNext k < s.vecEnd && s.turnOf k = some th

/-- A site issues an instruction of a thread in its next vector tick (09 R302). -/
def State.issued (s : State) (k th : Nat) : State :=
  let v := s.vecNext k
  s.onSite k fun x => { x with lastIssued := th, nextVec := v + 1 }

/-- Runs an instruction of a thread: it is fetched, and where the word fetched is `w`, it waits for its registers `rs`
(unchanged), traps where its operands are not legal, or takes its effect `f` (09 R302, R305, R313-R315). -/
def State.issueAs (s : State) (t : Tid) (w : Nat) (legal : Bool) (rs : List Nat) (f : State → State) : State :=
  let k := tidKey t
  let th := t.th.val
  if !s.threadReady k th then s
  else
    let pc := (s.thread k th).pc.toNat
    match s.fetchAddr k th with
    | .error c => (s.issued k th).trapAt k th pc c 0
    | .ok a =>
      if (s.mem.bad (upFrom a 8)).isSome then (s.issued k th).trapBad k th pc a
      else if s.fetchWord a ≠ w then s
      else if !legal then (s.issued k th).trap k th Codes.THREAD_ILLEGAL 0
      else if (s.thread k th).waits rs then s
      else f (s.issued k th)

/-- The pc advances by 8 (09 R314). -/
def State.advance (s : State) (k th : Nat) : State := s.onThread k th fun x => { x with pc := x.pc + 8 }

/-- A register result, and the pc's advance. -/
def State.result (s : State) (t : Tid) (rd : Reg) (v : Word) : State :=
  s.onThread (tidKey t) t.th.val fun x => { x.setReg rd.toNat v with pc := x.pc + 8 }

/-- A register of a thread. -/
def State.reg (s : State) (t : Tid) (r : Reg) : Word := (s.thread (tidKey t) t.th.val).reg r.toNat

/-! ## Integer and F32 forms -/

/-- The register form: rd = ra op rb. -/
def State.aluReg (s : State) (t : Tid) (op : Nat) (rd ra rb : Reg) (f : Word → Word → Word) : State :=
  s.issueAs t (enc op rd.toNat ra.toNat rb.toNat 0 0) true [rd.toNat, ra.toNat, rb.toNat] fun s =>
    s.result t rd (f (s.reg t ra) (s.reg t rb))

/-- The immediate form: rd = ra op imm. -/
def State.aluImm (s : State) (t : Tid) (op : Nat) (rd ra : Reg) (imm : Word) (f : Word → Word → Word) : State :=
  s.issueAs t (enc op rd.toNat ra.toNat 0 0 imm.toNat) true [rd.toNat, ra.toNat] fun s => s.result t rd (f (s.reg t ra) imm)

/-- The one-operand form: rd = f(ra). -/
def State.aluOne (s : State) (t : Tid) (op : Nat) (rd ra : Reg) (f : Word → Word) : State :=
  s.issueAs t (enc op rd.toNat ra.toNat 0 0 0) true [rd.toNat, ra.toNat] fun s => s.result t rd (f (s.reg t ra))

/-- High halves of products, comparisons and selections (09 R317). -/
def mulHighS (a b : Word) : Word := BitVec.ofInt 32 ((a.toInt * b.toInt) / 2 ^ 32)
def mulHighU (a b : Word) : Word := BitVec.ofNat 32 (a.toNat * b.toNat / 2 ^ 32)
def shiftAmount (b : Word) : Nat := b.toNat % 32
def boolWord (b : Bool) : Word := if b then 1 else 0
def minS (a b : Word) : Word := if b.toInt < a.toInt then b else a
def maxS (a b : Word) : Word := if a.toInt < b.toInt then b else a
def minU (a b : Word) : Word := if b.toNat < a.toNat then b else a
def maxU (a b : Word) : Word := if a.toNat < b.toNat then b else a

/-- An F32 operation on patterns. -/
def f32Op (f : Nat → Nat → Nat) (a b : Word) : Word := BitVec.ofNat 32 (f a.toNat b.toNat)

/-! ## Memory instructions (09 R319) -/

/-- Bytes of a memory opcode. -/
def memSize (op : Nat) : Nat :=
  if op = 0x60 ∨ op = 0x61 ∨ op = 0x68 then 1
  else if op = 0x62 ∨ op = 0x63 ∨ op = 0x69 then 2
  else if op = 0x64 ∨ op = 0x6A ∨ op = 0x70 then 4 else 8

/-- 0 load, 1 store, 2 atomic. -/
def memKindOf (op : Nat) : Nat := if op < 0x68 then 0 else if op < 0x70 then 1 else 2
def accessKindOf (kind : Nat) : AccessKind := match kind with | 0 => .load | 1 => .store | _ => .atomic

/-- Whether the operand registers and the operation code are legal (09 R315, R319; log 20). -/
def memLegal (w : Nat) : Bool :=
  let op := wOp w
  wRa w % 2 = 0 && (op ≠ 0x65 || wRd w % 2 = 0) && (op ≠ 0x6B || wRb w % 2 = 0) &&
  (op ≠ 0x70 || (wRc w ≤ 10 && (wRc w ≠ 9 || wRb w ≠ 63))) &&
  (op ≠ 0x71 || (wRc w ≤ 9 && wRd w % 2 = 0 && (if wRc w = 9 then wRb w % 4 = 0 else wRb w % 2 = 0)))

/-- The registers that a memory instruction reads or writes. -/
def memRegs (w : Nat) : List Nat :=
  let op := wOp w
  pairRegs (wRa w) ++
  (if op = 0x65 ∨ op = 0x71 then pairRegs (wRd w) else if memKindOf op = 1 then [] else [wRd w]) ++
  (if memKindOf op = 0 then []
   else if op = 0x6B then pairRegs (wRb w)
   else if op = 0x71 then pairRegs (wRb w) ++ (if wRc w = 9 then pairRegs (wRb w + 2) else [])
   else [wRb w] ++ (if op = 0x70 ∧ wRc w = 9 then [wRb w + 1] else []))

/-- An atomic operation on `n` bytes (09 R306, R319): what is stored. -/
def atomApply (code n old x y : Nat) : Nat :=
  let m := 2 ^ (8 * n)
  let sg := signedOf (8 * n)
  match code with
  | 0 => (old + x) % m
  | 1 => if sg x < sg old then x else old
  | 2 => if sg old < sg x then x else old
  | 3 => if x < old then x else old
  | 4 => if old < x then x else old
  | 5 => old.land x
  | 6 => old.lor x
  | 7 => old.xor x
  | 8 => x
  | 9 => if old = x then y else old
  | _ => f32Add old x

/-- The access of a memory instruction word by a thread, without its addresses. -/
def Thread.packet (x : Thread) (k th w no va : Nat) (addrs : List Nat) : Packet :=
  let op := wOp w
  let wide := op = 0x6B ∨ op = 0x71
  { src := k, thread := th, queue := x.queue, seq := x.seq, no := no, kind := memKindOf op, va := va, addrs := addrs,
    data := BitVec.ofNat 64 (if wide then x.pair (wRb w) else (x.reg (wRb w)).toNat),
    data2 := BitVec.ofNat 64 (if op = 0x71 then x.pair (wRb w + 2) else if op = 0x70 then (x.reg (wRb w + 1)).toNat else 0),
    atomic := wRc w, reg := wRd w, signed := op = 0x61 ∨ op = 0x63 }

/-- A loaded value as its register takes it. -/
def extendLoad (n : Nat) (signed : Bool) (v : Nat) : Word64 :=
  BitVec.ofNat 64 (if signed then patternOf 32 (signedOf (8 * n) v) else v)

/-- The value of an access is known, and on its way on a route until slot `due`: it then waits for its return to the register (09 R303,
R304). -/
def Thread.filled (x : Thread) (reg : Nat) (v : Word64) (route : Option Nat) (due : Nat) : Thread :=
  { x with outstanding := x.outstanding.map (fun p => if p.reg = reg ∧ p.value.isNone then { p with value := some v, route := route, due := due } else p) }

/-- Whether an access is still its thread's (09 R309). -/
def State.holdsAccess (s : State) (r : Nat) (p : Packet) : Bool :=
  (s.thread p.src p.thread).key = (r, p.queue, p.seq) && (s.slotOf r p.queue p.seq).isSome

/-- A value sets out for its thread on a route that its packet entered in slot `at_`, since frame 0: its occurrences until a bundle lets
the response in carry void (07 R224; 19 R719, R720). -/
def State.sendValue (s : State) (r route : Nat) (p : Packet) (v : Word64) : State :=
  let n := s.responseWait r route
  let ins := ((s.crossings r route).find? (fun c => !c.2.2.2)).map (·.1)
  let s := if n = 0 then s else
    (s.onNoc fun c => { c with voids := c.voids ++ (upFrom (s.frame + 1) n).map (fun f => (routeKey r route, f)) }).deferrals
      (r, p.queue, p.seq) (ins.getD 0) n
  let due := s.runSlots + s.routeLength r route + 1 + 4096 * n
  if s.holdsAccess r p then s.onThread p.src p.thread (fun x => x.filled p.reg v (some route) due) else s

/-- A response joins the send queue of the route that leads back to the issuing site (07 R228, R933). -/
def State.queueResponse (s : State) (r : Nat) (p : Packet) (route : Nat) (v : Word64) : State :=
  let q := Tab.get [] s.dev.noc.queues (routeKey r route)
  s.onNoc fun n => { n with serial := n.serial + 1, queues := Tab.set n.queues (routeKey r route) (q ++ [{ p with kind := 3, data := v, no := n.serial }]) }

/-- The value of an access goes to its thread: at once from the own scratchpad, on the route of its request from DRAM, and on the route back
from another site's scratchpad (07 R933; 09 R303, R304). -/
def State.respond (s : State) (r : Nat) (p : Packet) (route : Option Nat) (v : Word64) : State :=
  let a := p.addrs.headD 0
  match route with
  | none => if s.holdsAccess r p then s.onThread p.src p.thread (fun x => x.filled p.reg v none 0) else s
  | some id =>
    if isScratch a then
      match s.pathRoute r (siteRouter (scratchDie a) (scratchSite a)) (siteRouter (p.src / 256) (p.src % 256)) with
      | some back => s.queueResponse r p back v
      | none => s.sendValue r id p v
    else s.sendValue r id p v

/-- Writes the bytes of a thread's store, or traps where the write fails (08 R265, R275; 10 R398). -/
def State.threadWrite (s : State) (r : Nat) (p : Packet) (v : Nat) (trapped : State → BitVec 16 → State) : State :=
  let cells := p.addrs.zip (leBytes p.addrs.length v)
  let s := s.countMerged p.addrs
  let m := s.mem.writeCells cells
  let s := { s with mem := m.1 }
  match m.2 with
  | some a => trapped (s.memFault r a) s.dev.faults.next
  | none => s

/-- Performs an access where its bytes lie, reached on a route or in the own scratchpad; the domain there accepts the operation with its first
packet (04 R107). A thread whose task is over takes no trap and no value (09 R309). -/
def State.perform (s : State) (r : Nat) (p : Packet) (route : Option Nat) : State :=
  let k := p.src
  let th := p.thread
  let trapIf (s : State) (c : Code) (id : BitVec 16) : State :=
    let s := if p.kind = 1 then s.foldStore (r, p.queue, p.seq) p.va p.addrs.length p.data.toNat true else s
    let s := if recordsMemFault c then s.recordMemFault r p.va c else s
    s.trapOf (r, p.queue, p.seq) k th c id
  let a := p.addrs.headD 0
  let key : OpKey := (r, p.queue, p.seq)
  let s := s.accept key (s.domainOf a)
  match s.reachFails key a with
  | some e => trapIf s e.1 e.2
  | none =>
    if p.kind ≠ 0 ∧ p.addrs.any s.busyByte then trapIf s Codes.ANL_SITE_BUSY 0
    else if p.kind = 1 then
      s.threadWrite r p p.data.toNat (fun s id => trapIf s Codes.MEM_UNCORRECTABLE id)
    else
      match s.mem.bad p.addrs with
      | some b => trapIf (s.memFault r b) Codes.MEM_UNCORRECTABLE s.dev.faults.next
      | none =>
        let s := s.countCorrected p.addrs
        let old := leNat (s.mem.gather s.free p.addrs)
        let n := p.addrs.length
        let s := if p.kind = 2 then
            s.threadWrite r p (atomApply p.atomic n old (p.data.toNat % 2 ^ (8 * n)) (p.data2.toNat % 2 ^ (8 * n))) (fun s _ => s)
          else s
        s.respond r p route (extendLoad n p.signed old)

/-- An access with translated bytes: its checks, then the own scratchpad at once, or a packet in the route's send queue, or a
stall where that queue is full (07 R229, R230; 09 R305, R307; 10 R394; log 21). -/
def State.access (s : State) (k th w va : Nat) (l : List Nat) : State :=
  let x := s.thread k th
  let r := x.region
  let kind := memKindOf (wOp w)
  let a := l.headD 0
  let out (s : State) : State :=
    if kind = 1 then s.foldStore x.key va l.length (x.packet k th w 0 va l).data.toNat false
    else s.onThread k th fun x =>
      { x with outstanding := x.outstanding ++ [{ reg := wRd w, pair := wOp w = 0x65 ∨ wOp w = 0x71, value := none, sfu := false }] }
  if kind = 2 ∧ !isScratch a then s.trap k th Codes.ATOMIC_TARGET 0
  else if kind ≠ 0 ∧ l.any s.protectedByte then s.trap k th Codes.ANL_TABLE_PROTECTED 0
  else if ownBytes k l then ((out s).perform r (x.packet k th w 0 va l) none).advance k th
  else
    match s.threadRoute r (k / 256) (k % 256) a (kind = 1) with
    | none => s.trap k th Codes.NO_ROUTE 0
    | some id =>
      match s.reachFails x.key a with
      | some e => s.trap k th e.1 e.2
      | none =>
        let q := Tab.get [] s.dev.noc.queues (routeKey r id)
        if 8 ≤ q.length then s.onThread k th fun x => { x with state := .stallSend id (BitVec.ofNat 64 w) }
        else
          let s := s.onNoc fun n =>
            { n with serial := n.serial + 1
                     queues := Tab.set n.queues (routeKey r id) (q ++ [x.packet k th w n.serial va l]) }
          (out s).advance k th

/-- A memory instruction with its word: its mode, alignment and translation, then its access (08 R278-R283; 09 R308, R319). -/
def State.memOp (s : State) (k th w : Nat) : State :=
  let x := s.thread k th
  let n := memSize (wOp w)
  let va := x.address (wRa w) (wImm w)
  if wOp w = 0x70 ∧ wRc w = 10 ∧ s.dev.aux.slateInForce then s.trap k th Codes.ATOMIC_ORDER 0
  else if va % n ≠ 0 then s.trap k th Codes.THREAD_ALIGN 0
  else
    match s.threadAddrs x.region va n (accessKindOf (memKindOf (wOp w))) with
    | .error c => s.trapAt k th va c 0
    | .ok l => s.access k th w va l

/-- Issues a memory instruction. -/
def State.mem1 (s : State) (t : Tid) (w : Nat) : State :=
  s.issueAs t w (memLegal w) (memRegs w) fun s => s.memOp (tidKey t) t.th.val w

/-- Data that has come in returns to its register (09 R303, R304). -/
def State.returnTo (s : State) (t : Tid) (rd : Reg) (sfu : Bool) : State :=
  s.onThread (tidKey t) t.th.val fun x =>
    match x.outstanding.find? (fun p => p.reg = rd.toNat && p.sfu == sfu && p.value.isSome && p.due ≤ s.runSlots) with
    | some p =>
      let v := (p.value.getD 0).toNat
      let y := if p.pair then x.setPair p.reg v else x.setReg p.reg (BitVec.ofNat 32 v)
      { y with outstanding := x.outstanding.erase p }
    | none => x

/-! ## Routes -/

/-- The first thread of a region stalled on a route, by site and hardware thread. -/
def State.stalledOn (s : State) (r route : Nat) : Option (Nat × Nat × Nat) :=
  (sortBy (fun (a b : Nat × Nat × Nat) => a.1 < b.1 || (a.1 = b.1 && a.2.1 < b.2.1))
    ((s.taskThreads r).filterMap (fun t =>
      match (s.thread t.1 t.2).state with
      | .stallSend id w => if id = route && s.taskRuns t.1 t.2 then some (t.1, t.2, w.toNat) else none
      | _ => none))).head?

/-- A stalled thread's access proceeds (09 R305). -/
def State.retrySend (s : State) (r route : Nat) : State :=
  match s.stalledOn r route with
  | some (k, th, w) => (s.onThread k th fun x => { x with state := .running }).memOp k th w
  | none => s

/-- A packet leaves the origin of its route: an access takes effect, and a response sets out for its thread (log 16). -/
def State.launch (s : State) (r route : Nat) (p : Packet) : State :=
  if p.kind = 3 then s.sendValue r route p p.data else s.perform r p (some route)

/-- A route's occurrence sends its oldest packet, or leaves it to wait where a bundle blocks it; a stalled thread's access then proceeds
(07 R228, R229; 09 R305; 19 R719). -/
def State.drainRoute (s : State) (r route : Nat) : State :=
  let s := s.occurred r route
  match Tab.get [] s.dev.noc.queues (routeKey r route) with
  | [] => s.retrySend r route
  | p :: q =>
    let s := s.onNoc fun n => { n with queues := Tab.set n.queues (routeKey r route) q }
    match s.firstBlock r route with
    | some c =>
      (s.onNoc fun n => { n with deferred := n.deferred ++
        [{ key := routeKey r route, bundle := c.1, die := c.2.1, slot := c.2.2.1, since := s.crossFrame c.2.2.1, packet := p }] }).retrySend r route
    | none => (s.launch r route p).retrySend r route

/-- A packet that waited crosses its bundle: its deferrals are counted, and it takes effect (19 R719, R720). -/
def State.crossDeferred (s : State) (d : Deferral) : State :=
  let r := d.key / 65536
  let s := s.onNoc fun n => { n with deferred := n.deferred.erase d }
  let s := s.deferrals (r, d.packet.queue, d.packet.seq) d.bundle (max 1 (s.blockedFrames d.bundle d.die d.slot d.since true))
  s.launch r (d.key % 65536) d.packet

end Sys2Proof.Machine
end

