-- ==== Sys2Proof/Machine/Task.lean ====
section
/-!
DEFINITION. TASK: its fields and selection (09 R340-R342), its start (09 R301, R343), its end by a trap (09 R310) and its
preemption point (09 R356).
-/
namespace Sys2Proof.Machine

/-! ## The descriptor (09 R340) -/

def Op.taskDie (o : Op) : Nat := o.field 8 16 16
def Op.taskScalar (o : Op) : Bool := bitAt (o.word 8) 17
def Op.perSite (o : Op) : Nat := o.field 9 6 0
def Op.siteCount (o : Op) : Nat := o.field 8 15 8
def Op.entry (o : Op) : Nat := o.word2 4 % 2 ^ 48

/-- Whether the fields are valid (09 R314, R342). -/
def Op.taskFieldsOk (o : Op) : Bool :=
  o.field 5 31 16 = 0 && o.field 8 31 18 = 0 && o.field 9 31 7 = 0 && (upFrom 10 6).all (fun i => o.word i = 0) &&
  o.entry % 8 = 0 && o.perSite ≤ (if o.taskScalar then 16 else 64)

/-- The selected sites (09 R341). -/
def State.taskSites (s : State) (r : Nat) (o : Op) : List Nat :=
  (((s.regionSites r o.taskDie).filter (fun k =>
    o.field 8 7 0 ≤ k && siteType k = (if o.taskScalar then .scalar else .vector))).take o.siteCount).map (siteKey o.taskDie)

/-- Free hardware threads of a site, ascending. -/
def State.freeAt (s : State) (k : Nat) : List Nat :=
  (List.range (if siteType (k % 256) = .scalar then 16 else 64)).filter (fun n => (s.thread k n).state = .free)

/-- The fault that takes one of these sites out of service first: by tick, then die and site (23 R857). -/
def State.firstIsland (s : State) (ks : List Nat) : Option OutOfService :=
  (sortBy (fun (a b : OutOfService) => a.tick.toNat < b.tick.toNat) (ks.filterMap (fun k => (s.site k).island))).head?

/-- Why a TASK ends at dispatch, if it does (09 R342; 08 R286, R288; 04 R109; 23 R857). -/
def State.taskRefused (s : State) (r : Nat) (o : Op) : Option (Code × BitVec 16) :=
  let ks := s.taskSites r o
  if !o.taskFieldsOk then some (Codes.TASK_INVALID, 0)
  else if o.siteCount = 0 ∨ o.perSite = 0 then some (Codes.OK, 0)
  else if ks.length < o.siteCount then some (Codes.BOUNDS, 0)
  else match s.firstIsland ks with
    | some f => some (f.code, f.faultId)
    | none =>
      if ks.all (fun k => s.serves o.accepted (s.siteDomain (k / 256) (k % 256))) then none else some (Codes.DEST_CLOSED, 0)

/-- The places that a task's threads take: those that it had before a preemption, else the lowest free ones (09 R343, R356). -/
def State.taskPlaces (s : State) (r : Nat) (sl : Slot) : List (Nat × Nat) :=
  match sl.run.task with
  | some t => t.threads
  | none => (s.taskSites r sl.op).flatMap (fun k => ((s.freeAt k).take sl.op.perSite).map (fun n => (k, n)))

/-- Whether every thread can start at one boundary (09 R343). -/
def State.taskFits (s : State) (r : Nat) (sl : Slot) : Bool :=
  let ps := s.taskPlaces r sl
  match sl.run.task with
  | some _ => ps.all (fun p => (s.thread p.1 p.2).state = .free)
  | none => ps.length = (s.taskSites r sl.op).length * sl.op.perSite

/-- A thread at its start (09 R301). -/
def startThread (r : Nat) (sl : Slot) (size index : Nat) : Thread :=
  { regs := [(0, BitVec.ofNat 32 index), (1, BitVec.ofNat 32 size), (2, BitVec.ofNat 32 (sl.op.word 6)), (3, BitVec.ofNat 32 (sl.op.word 7))]
    pc := BitVec.ofNat 48 sl.op.entry, entry := BitVec.ofNat 48 sl.op.entry, state := .running, index := index
    region := r, queue := sl.op.queue, seq := sl.op.seq }

/-- A restored thread: an access or a special function that had stalled is tried again. -/
def Thread.resume (x : Thread) : Thread :=
  match x.state with
  | .stallSend _ _ => { x with state := .running }
  | .stallSfu _ => { x with state := .running }
  | _ => x

/-- The threads of a task as they start or are restored. -/
def Slot.freshThreads (r : Nat) (sl : Slot) (n : Nat) : List Thread :=
  match sl.run.task with
  | some t => t.store.map Thread.resume
  | none => (List.range n).map (startThread r sl n)

/-- A TASK dispatches: it ends at once, or starts or restores its threads. -/
def State.dispatchTask (s : State) (r : Nat) (sl : Slot) : State :=
  match s.taskRefused r sl.op with
  | some e => s.finishNow r sl e.1 e.2
  | none =>
    let ps := s.taskPlaces r sl
    let xs := sl.freshThreads r ps.length
    let s := s.dispatchMark r sl (dedupNat (ps.map (fun p => s.siteDomain (p.1 / 256) (p.1 % 256))))
    let s := (ps.zip xs).foldl (fun s p => s.onThread p.1.1 p.1.2 fun _ => p.2) s
    s.onRun r sl.op.queue sl.op.seq fun u => { u with task := some { threads := ps } }

/-- A trapped task's end is latched (09 R309, R310). -/
def State.settleTask (s : State) (r : Nat) (sl : Slot) : State :=
  match sl.run.task with
  | some t =>
    match t.trap with
    | some (code, _, _) =>
      let own := firstStatus false (code, t.trapFault) (sl.rec_.pendingStatus, sl.rec_.pendingFault)
      s.latch r sl.op.queue sl.op.seq own.1 0 own.2
    | none => s
  | none => s

/-- Whether a running task stands at an instruction boundary of all its threads: none runs a soft maximum, and no data is still
on its way to a thread (09 R356; log 23). -/
def State.taskAtBoundary (s : State) (t : TaskRun) : Bool :=
  t.threads.all (fun p =>
    let x := s.thread p.1 p.2
    x.state ≠ .softmax && x.outstanding.all (fun q => q.value.isSome))

/-- Outstanding results that are known reach their registers. -/
def Thread.settled (x : Thread) : Thread :=
  { x.outstanding.foldl (fun x p =>
      let v := (p.value.getD 0).toNat
      if p.pair then x.setPair p.reg v else x.setReg p.reg (BitVec.ofNat 32 v)) x with outstanding := [] }

/-- A task is preempted: its threads are saved and their hardware threads freed (09 R356). -/
def State.preemptTask (s : State) (r : Nat) (sl : Slot) (t : TaskRun) : State :=
  let saved := t.threads.map (fun p => (s.thread p.1 p.2).settled)
  let s := t.threads.foldl (fun s p => s.onSite p.1 fun x => { x with threads := Tab.erase x.threads p.2 }) s
  s.onRun r sl.op.queue sl.op.seq fun u => { u with task := some { t with store := saved } }

end Sys2Proof.Machine
end

