-- ==== Sys2Proof/Machine/Matrix.lean ====
section
/-!
DEFINITION. MATRIX on its site (13 R491-R538): checks at dispatch, operands, accumulation, the overflow repeat, the shadow set, the
drain (with 10 R417-R421 and 14 R552-R566), and the save area.
-/
namespace Sys2Proof.Machine

/-! ## Sizes and areas -/

/-- Bytes of n elements of an input format, from an even element (13 R499). -/
def fmtBytes (f n : Nat) : Nat := match f with | 2 => n / 2 | 3 => 2 * n | _ => n
/-- The number format of an input code. -/
def matFmt (f : Nat) : Fmt := match f with | 0 => .i8 | 1 => .u8 | 2 => .i4 | _ => .w16

/-- Bytes of one output row of n values: an I4 output format packs two in a byte (13 R503; 14 R540). -/
def Op.outWidth (o : Op) (q : Quant) (n : Nat) : Nat :=
  if o.outKind = 1 then 8 * n
  else if o.outKind = 2 then 72 * n
  else if !o.sums then (if o.aFmt = 3 then 2 * n else n)
  else match q.out with
    | some .i4 => (n + 1) / 2
    | some .i8 => n | some .u8 => n
    | some .f32 => 4 * n
    | some _ => 2 * n
    | none => n

def Op.outRows (o : Op) : Nat := (o.outputs + 31) / 32

/-- The operand, starting-value and block areas (13 R499-R504). -/
def Op.inAreas (o : Op) : List Area :=
  let side (off stride f : Nat) : Area :=
    .rows off (if f = 2 then (o.kLen + 1) / 2 else o.kLen) stride (if f = 2 then 32 else fmtBytes f 32)
  (match o.matKind with
    | .product =>
      if o.exact then
        [.rows o.aOff ((o.kLen + 31) / 32) o.aStride (fmtBytes o.aFmt 32), .rows o.bOff ((o.kLen + 31) / 32) o.bStride (fmtBytes o.bFmt 1024)]
      else [side o.aOff o.aStride o.aFmt, side o.bOff o.bStride o.bFmt]
    | .combine => [.rows o.aOff o.kLen o.aStride (if o.aFmt = 6 then 32 * 72 else 1024 * 8)]
    | _ => [.rows o.aOff o.kLen o.aStride (fmtBytes o.aFmt 1024)]) ++
  (if o.accIn then [.block o.accOff (o.outputs * (if o.exact then 72 else 8))] else [])

def Op.quantArea (o : Op) : List Area := if o.readsQuant then [.block o.quantOff 64] else []
def Op.outArea (o : Op) (q : Quant) : List Area :=
  if o.outKind = 3 then [] else [.rows o.outOff o.outRows o.outStride (o.outWidth q (min 32 o.outputs))]
/-- The save area (13 R495, R497): the rules check it for every MATRIX, whether or not it can be preempted (log 80). -/
def Op.saveArea (o : Op) : List Area := [.block o.matSaveOff 8256]

/-! ## Dispatch (13 R497) -/

/-- Step 1. -/
def State.matFieldsOk (s : State) (r : Nat) (o : Op) : Bool :=
  let k := o.matSite
  o.field 6 31 20 = 0 && o.field 7 31 20 = 0 && o.field 9 31 27 = 0 && o.field 10 31 17 = 0 &&
  (upFrom 11 3).all (fun i => o.field i 31 20 = 0) && o.word 14 = 0 && o.word 15 = 0 &&
  s.siteRegion? (k / 256) (k % 256) = some r && s.isMatrix (k / 256) (k % 256) && o.combinationOk &&
  (!o.floating || o.inShift = 0) && (-64 ≤ o.inShift && o.inShift ≤ 63) && (o.matKind ≠ .combine || o.kLen ≤ 64)

/-- The index table of an output through a table (10 R407). -/
def State.outTable (s : State) (o : Op) : Option IndexTable :=
  s.fab.body.indexTables.find? (fun t => (t.kind = 3 || t.kind = 4) && siteKey t.die t.site = o.matSite && t.tableId = o.tableId)

/-- Whether an output would take too many terms (step 3): sums on the floating path. -/
def Op.tooLong (o : Op) : Bool :=
  o.floating && !o.exact &&
    (match o.matKind with
      | .product => 65536 < o.kLen
      | .reduce => o.red = 0 && 65536 < o.reduceElems
      | _ => false)

/-- The checks of R497 and R548 in order: the code with which a MATRIX ends at dispatch. -/
def State.matrixRefused (s : State) (r : Nat) (o : Op) : Option (Code × BitVec 16) :=
  let k := o.matSite
  if !s.matFieldsOk r o then some (Codes.MAT_DESC_INVALID, 0)
  else if o.kLen = 0 then some (Codes.OK, 0)
  else if o.tooLong then some (Codes.MAT_REDUCTION_LONG, 0)
  else
    let q : Quant := if o.readsQuant then s.areaBytes k o.quantOff 64 else []
    let ins := o.inAreas
    let out := o.outArea q
    let save := o.saveArea
    match (ins ++ o.quantArea ++ out ++ save).findSome? (s.areaUnfit k) with
    | some c => some (c, 0)
    | none =>
      if (o.outKind ≠ 3 && 1 < o.outRows && o.outStride < o.outWidth q 32) ||
          save.any (fun a => (ins ++ o.quantArea ++ out).any (s.areasShare k a)) ||
          o.quantArea.any (fun a => out.any (s.areasShare k a)) then some (Codes.MAT_DESC_INVALID, 0)
      else
        match (if o.readsQuant then s.quantRefused r k o q (out ++ save) else none) with
        | some c => some (c, 0)
        | none =>
          if (out ++ save).any (s.areaProtected k) then some (Codes.ANL_TABLE_PROTECTED, 0)
          else
            match (if o.outKind = 3 then some (s.outTable o) else none) with
            | some none => some (Codes.MAT_DESC_INVALID, 0)
            | some (some t) => if t.entries.length < o.outputs then some (Codes.BOUNDS, 0) else none
            | none => none

/-- A fault or a closed domain that keeps a MATRIX from its site (23 R857; 04 R109). -/
def State.matrixBarred (s : State) (o : Op) : Option (Code × BitVec 16) :=
  match (s.site o.matSite).island with
  | some f => some (f.code, f.faultId)
  | none => if s.serves o.accepted (s.siteDomain (o.matSite / 256) (o.matSite % 256)) then none else some (Codes.DEST_CLOSED, 0)

/-- Active rows (13 R493; 04 R123). -/
def State.rowsNow (s : State) : Nat := if s.narrows then 16 else planRows s.dev.pwr.planCode.toNat

/-! ## Arithmetic -/

/-- X48 in floating form (13 R505). -/
def x48F : FloatFmt := { prec := 37, ebits := 11, subnormal := false }

/-- `round48` of a dyadic (13 R507); none is not a number. -/
def round48 (neg : Bool) (m : Nat) (e : Int) : Option Int :=
  if m = 0 then some 0
  else
    let p := scale2 m 1 e
    let q := x48F.magnitude .nearest p.1 p.2
    if q.2 then none else if q.1 = 0 then some 0 else some ((q.1 + (if neg then x48F.signBit else 0) : Nat) : Int)

/-- Adds an exact number to a floating X48 value. -/
def add48 (g : Option Int) (p : Num) : Option Int :=
  match g, p with
  | some g, .fin n2 m2 e2 =>
    match x48F.decode g.toNat with
    | .fin n1 m1 e1 => let t := dyAdd n1 m1 e1 n2 m2 e2; round48 t.1 t.2.1 t.2.2
    | _ => none
  | _, _ => none

/-- `shift` (13 R508). -/
def shift48 (x s : Int) : Int :=
  if 0 ≤ s then x * 2 ^ s.toNat else Rounding.nearest.int { neg := x < 0, num := x.natAbs, den := 2 ^ (-s).toNat }

/-- The exact product of two delivered operands (13 R509). -/
def mulNum (x y : Num) : Num :=
  match x, y with
  | .fin n1 m1 e1, .fin n2 m2 e2 => .fin (n1 != n2) (m1 * m2) (e1 + e2)
  | _, _ => .nan

/-- The value of an integer operand. -/
def Num.int : Num → Int
  | .fin n m _ => if n then -(m : Int) else (m : Int)
  | _ => 0

/-- What an accumulation gives: none when the attempt overflows. -/
abbrev Acc := Option (Option Int)

/-- An integer bank in range (13 R517). -/
def inX48 (x : Int) : Acc := if -(2 ^ 47) ≤ x ∧ x ≤ 2 ^ 47 - 1 then some (some x) else none
/-- An exact register in range (13 R515). -/
def inExact (x : Int) : Acc := if x.natAbs < 2 ^ 575 then some (some x) else none

/-- Adds two accumulators of the operation (13 R530). -/
def Op.addAcc (o : Op) (a b : Acc) : Acc :=
  match a, b with
  | some x, some y =>
    if o.exact then
      match x, y with
      | some x, some y => inExact (x + y)
      | _, _ => some none
    else if o.floating then some (add48 x (match y with | some y => x48F.decode y.toNat | none => .nan))
    else inX48 (x.getD 0 + y.getD 0)
  | _, _ => none

/-- One group of terms of one output enters its bank (13 R510, R513). -/
def Op.promote (o : Op) (repeats : Nat) (bank : Option Int) (ps : List Num) : Acc :=
  if o.exact then
    ps.foldl (fun a p =>
      match a with
      | none => none
      | some none => some none
      | some (some x) =>
        match p with
        | .fin n m e =>
          let t : Nat := if o.floating then m * 2 ^ (e + 266).toNat else m * 2 ^ (o.inShift + 266).toNat
          inExact (x + (if n then -(t : Int) else (t : Int)))
        | _ => some none) (some bank)
  else if o.floating then
    let g := ps.foldl add48 (some 0)
    some (add48 bank (match g with | some g => x48F.decode g.toNat | none => .nan))
  else inX48 (bank.getD 0 + shift48 ((ps.map Num.int).sum) (o.inShift - (repeats : Int)))

/-! ## Operands -/

/-- Bytes of a site's area as an operation reads them; a byte that is not delivered reads 0 and its status is noted (08 R264). -/
def State.matRead (s : State) (key : OpKey) (k base : Nat) (offs : List Nat) : State × List Nat :=
  let p := s.unitRead key (offs.map (s.areaAddr k base))
  (p.1, p.2.map (fun b => (b.getD 0).toNat))

/-- Little-endian 16-bit elements. -/
def pairs16 : List Nat → List Nat
  | a :: b :: t => (a + 256 * b) :: pairs16 t
  | _ => []

def nibbleOf (hi : Bool) (b : Nat) : Nat := if hi then b / 16 % 16 else b % 16

/-- Element patterns of a step's bytes. -/
def sidePatterns (f : Nat) (odd : Bool) (bs : List Nat) : List Nat :=
  match f with
  | 2 => bs.map (nibbleOf odd)
  | 3 => pairs16 bs
  | _ => bs

/-- The value of an element: U8 as its stored q (14 R551). -/
def matValue (f x : Nat) : Num := (matFmt f).decode x 0

/-- A W16 operand as delivered with a step exponent (14 R550). -/
def stepAdjust (x : Nat) (xk : Int) : Nat :=
  let e : Nat := x / 2 ^ 7 % 2 ^ 8
  if e = 0 ∨ e = 255 then x
  else
    let e' : Int := (e : Int) + xk
    let sgn : Nat := x / 2 ^ 15 * 2 ^ 15
    if 255 ≤ e' then 0x7FC0 else if e' ≤ 0 then sgn else sgn + e'.toNat * 2 ^ 7 + x % 2 ^ 7

/-- The operands of step k of a product: A's elements and B's (13 R499, R500; 14 R547, R550). -/
def State.stepOperands (s : State) (key : OpKey) (o : Op) (q : Quant) (t : Nat) : State × (List Num × List Num) :=
  let k := o.matSite
  let offs (f stride width : Nat) (exactAt : Nat) : List Nat :=
    if o.exact then upFrom (t / 32 * stride + exactAt) (if f = 2 then (width + 1) / 2 else fmtBytes f width)
    else if f = 2 then upFrom (t / 2 * stride) 32 else upFrom (t * stride) (fmtBytes f 32)
  let pa := s.matRead key k o.aOff (offs o.aFmt o.aStride 1 (fmtBytes o.aFmt (t % 32)))
  let pb := pa.1.matRead key k o.bOff (offs o.bFmt o.bStride 32 (fmtBytes o.bFmt (t % 32 * 32)))
  let px : State × Option Int :=
    if q.inGran = 2 then
      let p := pb.1.matRead key k q.inExpOff [t]
      (p.1, some (signedOf 8 (p.2.headD 0)))
    else (pb.1, none)
  let side (f : Nat) (act wide : Bool) (bs : List Nat) : List Num :=
    (if o.exact && wide && f = 2 then bs.flatMap (fun b => [nibbleOf false b, nibbleOf true b]) else sidePatterns f (t % 2 == 1) bs).map (fun x =>
      matValue f (match px.2 with | some xk => if act && f = 3 then stepAdjust x xk else x | none => x))
  (px.1, (side o.aFmt q.weightsB false pa.2, side o.bFmt (!q.weightsB) true pb.2))

/-- The operands of a group's steps, in order. -/
def State.groupOperands (s : State) (key : OpKey) (o : Op) (q : Quant) (ts : List Nat) : State × List (List Num × List Num) :=
  ts.foldl (fun p t => let x := p.1.stepOperands key o q t; (x.1, p.2 ++ [x.2])) (s, [])

/-- The index in its tile of element n of output e of a reduce, with its tile (13 R525). -/
def Op.reduceAt (o : Op) (e n : Nat) : Nat × Nat :=
  if o.axis = 1 then (n / 32, e * 32 + n % 32)
  else if o.axis = 2 then (n / 32, n % 32 * 32 + e)
  else (n / 1024, n % 1024)

/-- The patterns of the elements of a group, by output (13 R501). -/
def State.reduceElems (s : State) (key : OpKey) (o : Op) (ns : List Nat) : State × List (List Nat) :=
  let at_ (e n : Nat) : List Nat :=
    let p := o.reduceAt e n
    match o.aFmt with
    | 2 => [p.1 * o.aStride + p.2 / 2]
    | 3 => [p.1 * o.aStride + 2 * p.2, p.1 * o.aStride + 2 * p.2 + 1]
    | _ => [p.1 * o.aStride + p.2]
  (List.range o.outputs).foldl (fun t e =>
    let p := t.1.matRead key o.matSite o.aOff (ns.flatMap (at_ e))
    let xs := match o.aFmt with
      | 2 => (p.2.zip ns).map (fun b => nibbleOf ((o.reduceAt e b.2).2 % 2 == 1) b.1)
      | 3 => pairs16 p.2
      | _ => p.2
    (p.1, t.2 ++ [xs])) (s, [])

/-! ## Reductions other than sums (13 R527, R528) -/

/-- One element as a running result: a pattern, for a minimum or maximum that of the element. -/
def redOne (f red x : Nat) : Option Int :=
  if red ≤ 2 then some (x : Int)
  else if red ≤ 5 then some (if !(matValue f x).isZero then (if f = 3 then 0x3F80 else 1) else 0)
  else some (x : Int)

/-- Of a running pattern and the next one, the one that a minimum or maximum keeps: the first that is not a number, else the first that
attains the extreme (13 R527). -/
def redKeep (f : Nat) (max : Bool) (m n : Nat) : Nat :=
  if (matValue f m).isNan then m
  else if (matValue f n).isNan then n
  else if (if max then (matValue f m).before (matValue f n) else (matValue f n).before (matValue f m)) then n else m

/-- One more element. -/
def redStep (f red : Nat) (cur : Option Int) (x : Nat) : Option Int :=
  let y := redOne f red x
  match cur, y with
  | some a, some b =>
    let m := a.toNat
    let n := b.toNat
    let one (t : Bool) : Option Int := some (if t then (if f = 3 then 0x3F80 else 1) else 0)
    match red with
    | 1 => some ((redKeep f false m n : Nat) : Int)
    | 2 => some ((redKeep f true m n : Nat) : Int)
    | 3 => one (m ≠ 0 && n ≠ 0)
    | 4 => one (m ≠ 0 || n ≠ 0)
    | 5 => one ((m ≠ 0) != (n ≠ 0))
    | 6 => some ((m &&& n : Nat) : Int)
    | 7 => some ((m ||| n : Nat) : Int)
    | _ => some ((m ^^^ n : Nat) : Int)
  | _, _ => none

/-- A group of elements, from nothing where it is the first. -/
def redGroup (f red : Nat) (first : Bool) (cur : Option Int) (xs : List Nat) : Option Int :=
  match first, xs with
  | true, x :: t => t.foldl (redStep f red) (redOne f red x)
  | _, xs => xs.foldl (redStep f red) cur

/-! ## Accumulation -/

/-- Steps of one output in a promotion group: 16 cell steps, shared by two outputs with 16 rows; an I4 pair takes two steps in each
(13 R492, R494). A reduce takes 16 elements (R526), exact mode a chunk of 32 steps. -/
def MatRun.unit (m : MatRun) (o : Op) : Nat :=
  if o.exact then 32
  else if o.matKind = .reduce then 16
  else (if m.rows = 16 then 8 else 16) * (if o.aFmt = 2 && o.bFmt = 2 then 2 else 1)

/-- Steps or elements of one output. -/
def Op.terms (o : Op) : Nat := match o.matKind with | .reduce => o.reduceElems | _ => o.kLen

/-- Groups of an attempt. -/
def MatRun.groups (m : MatRun) (o : Op) : Nat :=
  if o.matKind = .combine then 1 else (o.terms + m.unit o - 1) / m.unit o

/-- The starting values of an attempt (13 R504, R510, R518). -/
def State.matStart (s : State) (key : OpKey) (o : Op) (repeats : Nat) : State × List (Option Int) :=
  if !o.accIn then (s, List.replicate o.outputs (some 0))
  else
    let w := if o.exact then 72 else 8
    let p := s.matRead key o.matSite o.accOff (List.range (o.outputs * w))
    let bs := p.2.map (BitVec.ofNat 8)
    (p.1, (List.range o.outputs).map (fun e =>
      let v := leNat ((bs.drop (e * w)).take w)
      if o.exact then some (signedOf 576 v)
      else if o.floating then (match x48F.decode (v % 2 ^ 48) with | .fin n m _ => if m = 0 then some (if n then 2 ^ 47 else 0) else some ((v % 2 ^ 48 : Nat) : Int) | _ => none)
      else some (shift48 (signedOf 48 v) (-(repeats : Int)))))

/-- The parts of a combine, by output, as accumulators (13 R501, R530). -/
def State.combineParts (s : State) (key : OpKey) (o : Op) (repeats : Nat) : State × List (List Acc) :=
  let w := if o.exact then 72 else 8
  let p := (List.range o.kLen).foldl (fun (t : State × List (List Byte)) q =>
    let x := t.1.matRead key o.matSite o.aOff (upFrom (q * o.aStride) (o.outputs * w))
    (x.1, t.2 ++ [x.2.map (BitVec.ofNat 8)])) (s, [])
  (p.1, (List.range o.outputs).map (fun e => p.2.map (fun bs =>
    let v := leNat ((bs.drop (e * w)).take w)
    if o.exact then some (some (signedOf 576 v))
    else if o.floating then (match x48F.decode (v % 2 ^ 48) with | .fin _ _ _ => some (some ((v % 2 ^ 48 : Nat) : Int)) | _ => some none)
    else some (some (shift48 (signedOf 48 v) (-(repeats : Int)))))))

/-- The sums of the activation side's operands over a group, added in (14 R551). -/
def MatRun.passing (m : MatRun) (L : List (List Num × List Num)) : List Int :=
  let q : Quant := m.quant
  if q.zpMode ≠ 2 then m.sums
  else L.foldl (fun t st => (List.range 32).map (fun i => t.getD i 0 + ((if q.weightsB then st.1 else st.2).map Num.int).getD i 0)) m.sums

/-- What one promotion group gives: the banks of every output, none where it overflowed; the passing sums; and whether a term was not a
number. -/
structure Promoted where
  banks : List Acc
  sums : List Int
  nan : Bool

/-- One promotion group of every output. -/
def State.promoteAll (s : State) (key : OpKey) (o : Op) (m : MatRun) : State × Promoted :=
  let q : Quant := m.quant
  let u := m.unit o
  let ts := upFrom (m.group * u) (min u (o.terms - m.group * u))
  match o.matKind with
  | .combine =>
    let p := s.combineParts key o m.repeats
    (p.1, { banks := p.2.map (fun ps => (treeFold o.addAcc 7 ps).headD (some (some 0))), sums := m.sums
            nan := p.2.any (fun ps => ps.any (· == some none)) })
  | .reduce =>
    let p := s.reduceElems key o ts
    let banks := (p.2.zipIdx).map (fun x =>
      let bank := m.banks.getD x.2 (some 0)
      if o.red = 0 then o.promote m.repeats bank (x.1.map (matValue o.aFmt))
      else some (redGroup o.aFmt o.red (m.group = 0) bank x.1))
    (p.1, { banks := banks, sums := m.sums, nan := o.red ≤ 2 && p.2.any (fun xs => xs.any (fun x => (matValue o.aFmt x).isNan)) })
  | _ =>
    let p := s.groupOperands key o q ts
    let terms := (List.range o.outputs).map (fun e =>
      let i := if o.exact then 0 else e / 32
      p.2.map (fun st => mulNum (st.1.getD i .nan) (st.2.getD (e % 32) .nan)))
    (p.1, { banks := terms.zipIdx.map (fun x => o.promote m.repeats (m.banks.getD x.2 (some 0)) x.1), sums := m.passing p.2
            nan := terms.any (fun ps => ps.any (·.isNan)) })

/-- Updates what an operation's matrix site holds of it. -/
def State.onMat (s : State) (key : OpKey) (f : MatRun → MatRun) : State :=
  s.onRun key.1 key.2.1 key.2.2 fun u => { u with matrix := u.matrix.map f }

/-- The operation in the array or the shadow set of a site. -/
def State.matIn (s : State) (h : Option OpKey) : Option (OpKey × Slot × MatRun) :=
  match h with
  | some key =>
    match s.slotOf key.1 key.2.1 key.2.2 with
    | some sl => sl.run.matrix.map (fun m => (key, sl, m))
    | none => none
  | none => none

/-- Ends a MATRIX in the array with nothing drained. -/
def State.matStop (s : State) (k : Nat) (key : OpKey) (code : Code) : State :=
  (s.onSite k fun x => { x with mat := { x.mat with array := none } }).latchEnd key code 0

/-- A promotion group of the operation in a site's array, with the overflow repeat (13 R517-R519, R515). -/
def State.promotion (s : State) (k : Nat) (key : OpKey) (o : Op) (m : MatRun) : State :=
  let p := s.promoteAll key o m
  let s := p.1.onMat key fun m => { m with nonfinite := m.nonfinite || p.2.nan }
  if p.2.banks.any (·.isNone) then
    if o.exact || o.floating || m.repeats = 4 then s.matStop k key Codes.ACC_OVERFLOW
    else
      let st := s.matStart key o (m.repeats + 1)
      st.1.onMat key fun m => { m with repeats := m.repeats + 1, group := 0, banks := st.2, sums := [] }
  else
    let banks := p.2.banks.map (·.getD none)
    s.onMat key fun m => { m with group := m.group + 1, banks := banks, sums := p.2.sums, nonfinite := m.nonfinite || banks.any (·.isNone) }

/-- MATRIX_PROMOTION (13 R510-R520, R525-R530): one promotion group's sums of the operation in the site's array are added into the
output banks. -/
def execMatrixPromotion (x : SiteRef) (s : State) : Host.Outcome State Fault Refusal :=
  .next (s.effect fun s => s.whenP s.fabricOn fun s =>
    match s.matIn (s.site (siteRefKey x)).mat.array with
    | some (key, sl, m) =>
      s.whenP (sl.op.state = .running && !m.accDone && m.group < m.groups sl.op) fun s => s.promotion (siteRefKey x) key sl.op m
    | none => s)

/-! ## The shadow set (13 R521-R523) -/

/-- The banks of an operation whose accumulation has ended move to an empty shadow set, and the array is free. -/
def State.toShadow (s : State) (k : Nat) : State :=
  match s.matIn (s.site k).mat.array with
  | some (key, _, m) =>
    if m.accDone && (s.site k).mat.shadow.isNone then
      s.onSite k fun x => { x with mat := { x.mat with array := none, shadow := some key } }
    else s
  | none => s

/-- MATRIX_ACCUMULATION_END (13 R498, R521, R523): accumulation has ended; the banks move to the shadow set, or stay in the array
until it is empty. -/
def execMatrixAccumulationEnd (x : SiteRef) (s : State) : Host.Outcome State Fault Refusal :=
  .next (s.effect fun s => s.whenP s.fabricOn fun s =>
    match s.matIn (s.site (siteRefKey x)).mat.array with
    | some (key, sl, m) =>
      s.whenP (sl.op.state = .running && !m.accDone && m.group = m.groups sl.op) fun s =>
        (s.onMat key fun m => { m with accDone := true }).toShadow (siteRefKey x)
    | none => s)

/-- SHADOW_SET_FREE (13 R523): the shadow set is empty, and a held array moves its banks into it. -/
def execShadowSetFree (x : SiteRef) (s : State) : Host.Outcome State Fault Refusal :=
  .next (s.effect fun s => s.whenP s.fabricOn fun s => s.toShadow (siteRefKey x))

/-! ## The drain -/

/-- The exact value of an accumulator. -/
def Op.accValue (o : Op) (b : Option Int) : Option Dyadic :=
  match b with
  | none => none
  | some x =>
    if o.exact then some { x := x, e := -266 }
    else if o.floating then (x48F.decode x.toNat).dyadic else some { x := x, e := 0 }

/-- The X48 pattern of an accumulator. Of a value that is not a number, the sign and the fraction are free (13 R505; log 27). -/
def State.x48Bits (s : State) (e : Nat) (b : Option Int) : Nat :=
  match b with
  | none => 2047 * 2 ^ 36 + s.freeVal e % 2 ^ 36 + s.freeVal e / 2 ^ 36 % 2 * 2 ^ 47
  | some x => patternOf 48 x

/-- The pattern of an exact register; one that is not a number has no pattern in the spec: a free value (13 R516; log 27). -/
def State.exactBits (s : State) (e : Nat) (b : Option Int) : Nat :=
  match b with
  | none => s.freeVal e % 2 ^ 576
  | some x => patternOf 576 x

/-- An output as the drain gives it: its value in the output format with what statistics need of it. -/
structure Drained where
  bits : Nat
  hits : List Nat
  deriving DecidableEq, Repr

/-- The format that an output through a table or a block narrows to. -/
def Quant.outFormat (q : Quant) : Fmt := q.out.getD .i8

/-- Output e (13 R503; 14 R552-R560). -/
def State.drainOne (s : State) (r : Nat) (o : Op) (m : MatRun) (e : Nat) : Drained :=
  let b := m.banks.getD e (some 0)
  let q : Quant := m.quant
  if o.outKind = 1 then { bits := s.x48Bits e b, hits := [] }
  else if o.outKind = 2 then { bits := s.exactBits e b, hits := [] }
  else if !o.sums then
    { bits := if o.aFmt = 2 then patternOf 8 (signedOf 4 (b.getD 0).toNat) else (b.getD 0x7FC0).toNat, hits := [] }
  else
    let w := (o.accValue b).map (m.drainValue o e)
    let n := s.narrowOut r q q.outFormat e w
    { bits := n.bits, hits := statHits q q.outFormat w n }

/-- Two I4 values in a byte, the even one in the low nibble; the high nibble beside a last value is free (14 R540; log 27). -/
def packNibbles (free : Nat) : List Nat → List Byte
  | a :: b :: t => BitVec.ofNat 8 (a % 16 + b % 16 * 16) :: packNibbles free t
  | [a] => [BitVec.ofNat 8 (a % 16 + free % 16 * 16)]
  | [] => []

/-- The bytes of a row of outputs. -/
def State.rowBytes (s : State) (o : Op) (q : Quant) (l : List Drained) : List Byte :=
  if o.outKind = 0 && o.sums && q.out = some .i4 then packNibbles (s.freeVal 0) (l.map (·.bits))
  else l.flatMap (fun d => leBytes (o.outWidth q 1) d.bits)

/-- Where output e goes through an index table: address and value byte, mirrors included (10 R418). -/
def tableCells (t : IndexTable) (l : List Drained) : List (Nat × Byte) :=
  (t.entries.zip l).flatMap (fun p =>
    let x := p.1
    let at_ (die site row entry : Nat) : List (Nat × Byte) :=
      if t.kind = 3 then [(scratchAddr die site (0xC0 * row + 3 * entry), BitVec.ofNat 8 p.2.bits)]
      else (leBytes 2 p.2.bits).zipIdx.map (fun b => (scratchAddr die site (0xC0000 + 2 * row + b.2), b.1))
    at_ x.die x.site x.row x.entry ++ (if t.kind = 3 && x.mirror then at_ x.mDie x.mSite x.mRow x.mEntry else []))

/-- The counts of the drained outputs enter the statistics record, and drift is raised (14 R565, R566). -/
def State.applyStats (s : State) (key : OpKey) (o : Op) (q : Quant) (l : List Drained) : State :=
  if !q.statEn then s
  else
    let k := o.matSite
    let p := s.matRead key k q.statOff (List.range 272)
    let old := p.2.map (BitVec.ofNat 8)
    let new := addStats old (l.flatMap (·.hits))
    let w := p.1.unitWrite key ((List.range 272).map (fun i => (s.areaAddr k q.statOff i, new.getD i 0)))
    (w.1.drift key.1 k 0 q.satThreshold q.statOff old new).drift key.1 k 1 q.underThreshold q.statOff old new

/-- Writes the outputs of an operation, or their first `rows` drain rows: each is narrowed and written. Answers the drained values and
the output's bytes, those not drained 0 (13 R522; 18 R682). -/
def State.drainRows (s : State) (key : OpKey) (o : Op) (m : MatRun) (rows : Option Nat) : State × List Drained × List Byte :=
  let q : Quant := m.quant
  let outs := (List.range o.outputs).map (s.drainOne key.1 o m)
  let taken (n : Nat) : Nat := (rows.map (min n)).getD n
  if o.outKind = 3 then
    match s.outTable o with
    | some t =>
      let w := if t.kind = 3 then 1 else 2
      let kept := outs.take (taken (o.outRows) * 32)
      ((s.unitWrite key (tableCells t kept)).1, outs,
        kept.flatMap (fun d => leBytes w d.bits) ++ List.replicate ((outs.length - kept.length) * w) 0)
    | none => (s, outs, [])
  else
    let lines := (List.range o.outRows).map (fun j => s.rowBytes o q ((outs.drop (32 * j)).take 32))
    let kept := lines.take (taken lines.length)
    let cells := kept.zipIdx.flatMap (fun x => x.1.zipIdx.map (fun b => (s.areaAddr o.matSite o.outOff (x.2 * o.outStride + b.2), b.1)))
    ((s.unitWrite key cells).1, outs, kept.flatten ++ List.replicate (lines.flatten.length - kept.flatten.length) 0)

/-- Drains an operation: every output is narrowed and written, statistics are added, and its end is latched (13 R522; 18 R682). -/
def State.drain (s : State) (key : OpKey) (o : Op) (m : MatRun) : State :=
  let p := s.drainRows key o m none
  let s := p.1.bump.applyStats key o m.quant p.2.1
  let s := s.onRec key.1 key.2.1 key.2.2 fun c => c.addTensor 0 p.2.2
  s.latchEnd key Codes.OK 0

/-- A drain is cut short after the row in progress (23 R850): which rows it had written is a free value. Their outputs enter the
statistics; of no row, none does (14 R565). -/
def State.drainCut (s : State) (key : OpKey) (o : Op) (m : MatRun) (code : Code) : State :=
  let n := s.freeVal (2 ^ 20) % (o.outRows + 1)
  let p := s.drainRows key o m (some n)
  let s := if n = 0 then p.1.bump else p.1.bump.applyStats key o m.quant (p.2.1.take (32 * n))
  (s.onRec key.1 key.2.1 key.2.2 fun c => c.addTensor 0 p.2.2).latchEnd key code 0

/-- MATRIX_DRAIN_END (13 R522; 14 R565): the last write of the shadow set lands; statistics are added and the MATRIX completes at the
next boundary. -/
def execMatrixDrainEnd (x : SiteRef) (s : State) : Host.Outcome State Fault Refusal :=
  .next (s.effect fun s => s.whenP s.fabricOn fun s =>
    let k := siteRefKey x
    match s.matIn (s.site k).mat.shadow with
    | some (key, sl, m) =>
      s.whenP (sl.op.state = .running && m.accDone) fun s =>
        (s.onSite k fun x => { x with mat := { x.mat with shadow := none } }).drain key sl.op m
    | none => s)

/-! ## Dispatch and preemption -/

/-- The operation takes its site's array with its banks. -/
def State.matrixRun (s : State) (r : Nat) (sl : Slot) (m : MatRun) : State :=
  let k := sl.op.matSite
  let s := s.dispatchMark r sl [s.siteDomain (k / 256) (k % 256)]
  let s := s.onSite k fun x => { x with mat := { x.mat with array := some (sl.key r), rows := BitVec.ofNat 6 m.rows } }
  s.onRun r sl.op.queue sl.op.seq fun u => { u with matrix := some m }

/-- The save area's content (13 R537). -/
def State.saveBytes (s : State) (o : Op) (m : MatRun) : List Byte :=
  leBytes 4 (m.group * m.unit o) ++ leBytes 1 m.repeats ++ leBytes 1 (b2n m.nonfinite) ++ List.replicate 58 0 ++
  m.banks.zipIdx.flatMap (fun b =>
    if o.exact then leBytes 72 (s.exactBits b.2 b.1)
    else leBytes 8 (if o.sums then s.x48Bits b.2 b.1 else (b.1.getD 0x7FC0).toNat))

/-- Saves a MATRIX at a preemption point and frees its array (13 R536, R537). -/
def State.preemptMatrix (s : State) (r : Nat) (sl : Slot) (m : MatRun) : State :=
  let k := sl.op.matSite
  let bs := s.saveBytes sl.op m
  let s := (s.bump.unitWrite (sl.key r) (bs.zipIdx.map (fun b => (s.areaAddr k sl.op.matSaveOff b.2, b.1)))).1
  s.onSite k fun x => { x with mat := { x.mat with array := none } }

/-- Whether a running MATRIX stands at a preemption point (13 R536). -/
def MatRun.canStop (m : MatRun) (o : Op) : Bool := o.matKind ≠ .combine && !m.accDone && m.group < m.groups o

/-- What the save area holds (13 R538): an exact register that was not a number is still none. -/
def State.matReload (s : State) (key : OpKey) (o : Op) (m : MatRun) : State × MatRun :=
  let w := if o.exact then 72 else 8
  let p := s.matRead key o.matSite o.matSaveOff (List.range (64 + o.outputs * w))
  let bs := p.2.map (BitVec.ofNat 8)
  let bank (e : Nat) : Option Int :=
    let v := leNat ((bs.drop (64 + e * w)).take w)
    if o.exact then (m.banks.getD e (some 0)).map (fun _ => signedOf 576 v)
    else if !o.sums then redOne o.aFmt (if o.red ≤ 2 then o.red else 6) (v % 2 ^ 16)
    else if o.floating then (match x48F.decode (v % 2 ^ 48) with | .fin _ _ _ => some ((v % 2 ^ 48 : Nat) : Int) | _ => none)
    else some (signedOf 48 v)
  (p.1, { m with group := leNat (bs.take 4) / m.unit o, repeats := (leNat ((bs.drop 4).take 1)), nonfinite := bitAt (leNat ((bs.drop 5).take 1)) 0,
                 banks := (List.range o.outputs).map bank })

/-- A MATRIX dispatches: it ends at once, starts, or continues from its save area (13 R497, R538). -/
def State.dispatchMatrix (s : State) (r : Nat) (sl : Slot) : State :=
  let o := sl.op
  let key := sl.key r
  let refused := match sl.run.matrix with
    | some _ => s.matrixBarred o
    | none => match s.matrixRefused r o with
      | some e => some e
      | none => s.matrixBarred o
  match refused with
  | some e => s.finishNow r sl e.1 e.2
  | none =>
    match sl.run.matrix with
    | some m =>
      let p := s.matReload key o m
      p.1.matrixRun r sl p.2
    | none =>
      let k := o.matSite
      let q : Quant := if o.readsQuant then s.areaBytes k o.quantOff 64 else []
      let rows := s.rowsNow
      let tab (en : Bool) (off n : Nat) : List Byte := if en then s.areaBytes k off n else []
      let at_ (en : Bool) (off n : Nat) : List Nat := if en then (List.range n).map (s.areaAddr k off) else []
      let s := s.badUnits key (at_ o.readsQuant o.quantOff 64 ++ at_ (q.inGran = 1) q.inExpOff 32 ++ at_ (q.outGran ≠ 0) q.outExpOff 32 ++
        at_ (q.zpMode = 1) q.sumOff 256 ++ at_ q.biasEn q.biasOff 128)
      let st := s.matStart key o 0
      st.1.matrixRun r sl
        { site := k, rows := rows, banks := st.2, quant := q, nonfinite := st.2.any (·.isNone)
          inExp := tab (q.inGran = 1) q.inExpOff 32
          outExp := tab (q.outGran ≠ 0) q.outExpOff 32
          sumTab := tab (q.zpMode = 1) q.sumOff 256
          bias := tab q.biasEn q.biasOff 128 }

end Sys2Proof.Machine
end

