-- ==== Sys2Proof/Machine/Sfu.lean ====
section
/-!
DEFINITION. The special-function unit of a vector site: its modes and stalls (15 R570-R576, R582), the elementwise instructions
and their results, and SOFTMAX (15 R591-R599).
-/
namespace Sys2Proof.Machine

/-- The opcode of an elementwise instruction (09 R321). -/
def SfuFn.opcode : SfuFn → Nat
  | .exp2 => 0xA0 | .log2 => 0xA1 | .recip => 0xA2 | .rsqrt => 0xA3 | .sigmoid => 0xA4 | .tanh => 0xA5
  | .geluErf => 0xA6 | .geluTanh => 0xA7

def sfuFnOf (op : Nat) : SfuFn :=
  match op with
  | 0xA0 => .exp2 | 0xA1 => .log2 | 0xA2 => .recip | 0xA3 => .rsqrt | 0xA4 => .sigmoid | 0xA5 => .tanh
  | 0xA6 => .geluErf | _ => .geluTanh

/-- The trap that the site's unit and mode give a special-function opcode, if any: no unit, an island or table fault, an
instruction that minimal mode excludes, gelu_erf under Sepia (15 R570, R572, R573, R582, R590; 23 R856). -/
def State.sfuDenied (s : State) (k r op : Nat) : Option (Code × BitVec 16) :=
  let x := s.site k
  let minimal := ((s.regionDef? r).map (·.sfuMinimal)).getD false
  if siteType (k % 256) ≠ .vector then some (Codes.THREAD_ILLEGAL, 0)
  else match x.sfuFault with
    | some o => some (o.code, o.faultId)
    | none =>
      if minimal && op ≠ 0xA0 && op ≠ 0xA1 then some (Codes.SFU_MODE_DENIED, 0)
      else if op = 0xA6 && s.image.sepia then some (Codes.SFU_UNAVAILABLE, 0)
      else none

/-- An elementwise result, on its way to rd (15 R575, R577, R584). -/
def State.sfuElement (s : State) (k th w : Nat) : State :=
  let f := sfuFnOf (wOp w)
  let f32 := bitAt (wImm w) 0
  let v := ((s.thread k th).reg (wRa w)).toNat
  let y := if s.image.sepia then sfuSepia f f32 v else sfuFull s.free f f32 v
  s.bump.onThread k th fun x =>
    { x with pc := x.pc + 8
             outstanding := x.outstanding ++ [{ reg := wRd w, pair := false, value := some (BitVec.ofNat 64 y), sfu := true }] }

/-! ## SOFTMAX: its start and its end -/

/-- A SOFTMAX issues: it is checked, and holds the unit; one of no elements completes at once (15 R576, R592, R593). -/
def State.rowStart (s : State) (k th w : Nat) : State :=
  let x := s.thread k th
  let row := x.row w
  if row.n = 0 then
    (s.onSite k fun q => { q with sfu := { q.sfu with rows := q.sfu.rows + 1 } }).advance k th
  else
    match s.rowAreas k x.region row with
    | .error (c, va) => s.trapAt k th va c 0
    | .ok _ =>
      (s.onSite k fun q => { q with sfu := { q.sfu with holder := some (th, wRa w, wRb w, wRc w, BitVec.ofNat 32 (wImm w)) } }).onThread
        k th fun y => { y with state := .softmax }

/-- A special-function word takes its effect: its trap, a stall while the unit is held, or its start (15 R573, R576). -/
def State.sfuOp (s : State) (k th w : Nat) : State :=
  match s.sfuDenied k (s.thread k th).region (wOp w) with
  | some e => s.trap k th e.1 e.2
  | none =>
    if (s.site k).sfu.holder.isSome then s.onThread k th fun x => { x with state := .stallSfu (BitVec.ofNat 64 w) }
    else if wOp w = 0xA8 then s.rowStart k th w
    else s.sfuElement k th w

/-- Issues an elementwise instruction. -/
def State.sfu1 (s : State) (t : Tid) (f : SfuFn) (rd ra : Reg) (f32 : Bool) : State :=
  let w := enc f.opcode rd.toNat ra.toNat 0 0 (b2n f32)
  s.issueAs t w true [rd.toNat, ra.toNat] fun s => s.sfuOp (tidKey t) t.th.val w

/-- A SOFTMAX completes: outputs, then the record; the unit is freed, and a saturated row raises SFU_RANGE (15 R594-R597). A
read or a write that fails traps the thread (08 R275). -/
def State.rowFinish (s : State) (k th w : Nat) : State :=
  let x := s.thread k th
  let r := x.region
  let row := x.row w
  let s := s.onSite k fun q => { q with sfu := { q.sfu with holder := none } }
  let s := s.onThread k th fun y => { y with state := .running }
  match s.rowAreas k r row with
  | .error (c, va) => s.trapAt k th va c 0
  | .ok (src, dst, rec_) =>
    match s.mem.bad src with
    | some a => s.trapBad k th row.src a
    | none =>
      let res := rowCompute s.free row (rowElems row.inSize row.n (s.mem.gather s.free src))
      let o := s.rowOutputs x.key row dst res row.n
      let s := o.1.bump
      match o.2 with
      | some a => s.trapBad k th row.dst a
      | none =>
        let m := s.mem.writeCells (rec_.zip res.bytes)
        let s := { s with mem := m.1 }
        match m.2 with
        | some a => s.trapBad k th row.rec_ a
        | none =>
          let s := s.onSite k fun q => { q with sfu := { q.sfu with rows := q.sfu.rows + 1 } }
          let s := (List.range 4).foldl (fun s i => s.foldStore x.key (row.rec_ + 8 * i) 8 (leAt res.bytes (8 * i) 8) false) s
          let s := if res.sat = 0 then s
            else
              let s := s.onSite k fun q => { q with sfu := { q.sfu with rangeEvents := satAdd q.sfu.rangeEvents 1 } }
              s.regionEvent r 2 Codes.SFU_RANGE (k % 256 + k / 256 * 2 ^ 8 + res.sat % 2 ^ 16 * 2 ^ 9)
          s.advance k th

/-- Stalled special-function issues of a site in the order of R302: ascending hardware thread from the one after the last. -/
def State.stalledSfu (s : State) (k : Nat) : List (Nat × Nat) :=
  let last := (s.site k).lastIssued
  (upFrom (last + 1) 64).filterMap (fun n =>
    match (s.thread k (n % 64)).state with
    | .stallSfu w => some (n % 64, w.toNat)
    | _ => none)

/-! ## The commands -/

/-- EXP2 (15 R571, R575, R577, R584). -/
def execExp2 (t : Tid) (rd ra : Reg) (f32 : Bool) (s : State) : Host.Outcome State Fault Refusal :=
  .next (s.effect (·.sfu1 t .exp2 rd ra f32))
/-- LOG2 (15 R571, R575, R577, R584). -/
def execLog2 (t : Tid) (rd ra : Reg) (f32 : Bool) (s : State) : Host.Outcome State Fault Refusal :=
  .next (s.effect (·.sfu1 t .log2 rd ra f32))
/-- RECIP (15 R571, R575, R577, R584). -/
def execRecip (t : Tid) (rd ra : Reg) (f32 : Bool) (s : State) : Host.Outcome State Fault Refusal :=
  .next (s.effect (·.sfu1 t .recip rd ra f32))
/-- RSQRT (15 R571, R575, R577, R584). -/
def execRsqrt (t : Tid) (rd ra : Reg) (f32 : Bool) (s : State) : Host.Outcome State Fault Refusal :=
  .next (s.effect (·.sfu1 t .rsqrt rd ra f32))
/-- SIGMOID (15 R571, R575, R577, R586). -/
def execSigmoid (t : Tid) (rd ra : Reg) (f32 : Bool) (s : State) : Host.Outcome State Fault Refusal :=
  .next (s.effect (·.sfu1 t .sigmoid rd ra f32))
/-- TANH (15 R571, R575, R577, R586). -/
def execTanh (t : Tid) (rd ra : Reg) (f32 : Bool) (s : State) : Host.Outcome State Fault Refusal :=
  .next (s.effect (·.sfu1 t .tanh rd ra f32))
/-- GELU_ERF (15 R571, R573, R575, R577). -/
def execGeluErf (t : Tid) (rd ra : Reg) (f32 : Bool) (s : State) : Host.Outcome State Fault Refusal :=
  .next (s.effect (·.sfu1 t .geluErf rd ra f32))
/-- GELU_TANH (15 R571, R575, R577, R586). -/
def execGeluTanh (t : Tid) (rd ra : Reg) (f32 : Bool) (s : State) : Host.Outcome State Fault Refusal :=
  .next (s.effect (·.sfu1 t .geluTanh rd ra f32))

/-- SFU_RESULT: an elementwise result reaches its register (15 R575). -/
def execSfuResult (t : Tid) (rd : Reg) (s : State) : Host.Outcome State Fault Refusal :=
  .next (s.effect fun s => s.whenP s.fabricOn (·.returnTo t rd true))

/-- SOFTMAX: a row is checked and started (15 R590-R593). -/
def execSoftmax (t : Tid) (ra rb rc : Reg) (n : BitVec 16) (inF32 outF32 maxEn : Bool) (s : State) :
    Host.Outcome State Fault Refusal :=
  let w := enc 0xA8 0 ra.toNat rb.toNat rc.toNat (n.toNat + b2n inF32 * 2 ^ 16 + b2n outF32 * 2 ^ 17 + b2n maxEn * 2 ^ 18)
  .next (s.effect (·.issueAs t w (ra.toNat % 2 = 0 && rb.toNat % 2 = 0 && rc.toNat % 2 = 0)
    (pairRegs ra.toNat ++ pairRegs rb.toNat ++ pairRegs rc.toNat) fun s => s.sfuOp (tidKey t) t.th.val w))

/-- SOFTMAX_COMPLETE: the row that the thread holds the unit for is written (15 R594-R598). -/
def execSoftmaxComplete (t : Tid) (s : State) : Host.Outcome State Fault Refusal :=
  .next (s.effect fun s =>
    match (s.site (tidKey t)).sfu.holder with
    | some h =>
      s.whenP (s.fabricOn && h.1 = t.th.val && s.taskRuns (tidKey t) t.th.val) fun s => s.rowFinish (tidKey t) t.th.val (rowWord h)
    | none => s)

/-- SFU_UNIT_FREE: stalled special-function issues are taken in the order of R302 while the unit is free (15 R576). -/
def execSfuUnitFree (x : SiteRef) (s : State) : Host.Outcome State Fault Refusal :=
  .next (s.effect fun s => s.whenP s.fabricOn fun s =>
    let k := siteRefKey x
    (s.stalledSfu k).foldl (fun s p =>
      if (s.site k).sfu.holder.isSome || !s.taskRuns k p.1 then s
      else
        let s := s.onSite k fun q => { q with lastIssued := p.1 }
        (s.onThread k p.1 fun y => { y with state := .running }).sfuOp k p.1 p.2) s)

end Sys2Proof.Machine
end

