-- ==== Sys2Proof/Machine/VisionMath.lean ====
section
/-!
DEFINITION. The pixel work of the vision engines, on planes as rows of values: pyramid levels (16 R612), corners, response, suppression,
sub-pixel offsets and orientation (16 R613-R619), descriptors (16 R621-R624), matching (16 R625, R626), and stereo (17 R635-R643).
-/
namespace Sys2Proof.Machine

/-- A plane: its rows, top first. -/
abbrev Img := List (List Nat)

def Img.width (p : Img) : Nat := (p.headD []).length
def Img.height (p : Img) : Nat := p.length
/-- The pixel at column x and row y. -/
def Img.at (p : Img) (x y : Int) : Int := ((p.getD y.toNat []).getD x.toNat 0 : Nat)
/-- The pixel with its coordinates clamped to the plane. -/
def Img.clampAt (p : Img) (x y : Int) : Int :=
  p.at (max 0 (min x ((p.width : Int) - 1))) (max 0 (min y ((p.height : Int) - 1)))

/-- The integers from a to b. -/
def intsFrom (a b : Int) : List Int := (List.range (b - a + 1).toNat).map (fun (i : Nat) => a + (i : Int))

/-- The sum of a function over a list. -/
def sumOver {α : Type} (l : List α) (f : α → Int) : Int := l.foldl (fun t x => t + f x) 0

/-! ## Pyramid (16 R612) -/

/-- The weights (1, 4, 6, 4, 1) at −2 to 2. -/
def pyrWeight (i : Int) : Int := if i = 0 then 6 else if i.natAbs = 1 then 4 else 1

/-- A destination pixel; `row` gives a source row, already clamped. -/
def pyrPixel (w : Nat) (row : Int → List Nat) (x y : Nat) : Nat :=
  ((sumOver (intsFrom (-2) 2) (fun j =>
      let line := row (2 * (y : Int) + j)
      sumOver (intsFrom (-2) 2) (fun i =>
        pyrWeight i * pyrWeight j * ((line.getD (max 0 (min (2 * (x : Int) + i) ((w : Int) - 1))).toNat 0 : Nat) : Int)))
    + 128) / 256).toNat

/-- Row y of the destination of a source of width w and height h. -/
def pyrRow (p : Img) (w h y : Nat) : List Nat :=
  (List.range ((w + 1) / 2)).map (fun x =>
    pyrPixel w (fun j => p.getD (max 0 (min j ((h : Int) - 1))).toNat []) x y)

/-! ## Corners (16 R613-R619) -/

/-- The circle (16 R614). -/
def circle : List (Int × Int) :=
  [(0, -3), (1, -3), (2, -2), (3, -1), (3, 0), (3, 1), (2, 2), (1, 3), (0, 3), (-1, 3), (-2, 2), (-3, 1), (-3, 0), (-3, -1), (-2, -2), (-1, -3)]

/-- Whether n consecutive entries of a cyclic list hold. -/
def cyclicRun (n : Nat) (l : List Bool) : Bool :=
  (List.range l.length).any (fun i => (List.range n).all (fun j => l.getD ((i + j) % l.length) false))

/-- The segment test: none, or whether the corner is brighter. -/
def segmentTest (p : Img) (t : Int) (n : Nat) (x y : Int) : Option Bool :=
  let c := p.at x y
  if cyclicRun n (circle.map (fun d => decide (c + t < p.at (x + d.1) (y + d.2)))) then some true
  else if cyclicRun n (circle.map (fun d => decide (p.at (x + d.1) (y + d.2) < c - t))) then some false
  else none

/-- The response (16 R615). -/
def response (p : Img) (x y : Int) : Int :=
  let win := (intsFrom (y - 3) (y + 3)).flatMap (fun v => (intsFrom (x - 3) (x + 3)).map (fun u => (u, v)))
  let gx (q : Int × Int) : Int := p.at (q.1 + 1) q.2 - p.at (q.1 - 1) q.2
  let gy (q : Int × Int) : Int := p.at q.1 (q.2 + 1) - p.at q.1 (q.2 - 1)
  let a := sumOver win (fun q => gx q * gx q)
  let b := sumOver win (fun q => gy q * gy q)
  let c := sumOver win (fun q => gx q * gy q)
  a * b - c * c - (a + b) * (a + b) / 16

/-- A corner: position, whether brighter, response. -/
structure Corner where
  x : Nat
  y : Nat
  brighter : Bool
  r : Int
  deriving DecidableEq, Repr

/-- The corners of a plane in raster order. -/
def corners (p : Img) (t : Int) (n : Nat) : List Corner :=
  let w := p.width
  let h := p.height
  (upFrom 21 (h - 42)).flatMap (fun (y : Nat) => (upFrom 21 (w - 42)).filterMap (fun (x : Nat) =>
    (segmentTest p t n (x : Int) (y : Int)).map (fun b => { x := x, y := y, brighter := b, r := response p (x : Int) (y : Int) })))

/-- Whether corner a is ranked before corner b: larger response, then smaller raster index (16 R616, R617). -/
def Corner.before (a b : Corner) : Bool := decide (b.r < a.r) || (a.r = b.r && (a.y < b.y || (a.y = b.y && a.x < b.x)))

/-- The corners that survive suppression (16 R616). -/
def survivors (l : List Corner) : List Corner :=
  l.filter (fun a => l.all (fun b =>
    (a.x = b.x && a.y = b.y) || 1 < ((a.x : Int) - b.x).natAbs || 1 < ((a.y : Int) - b.y).natAbs || a.before b))

/-- n / d to the nearest integer, ties away from zero; d above 0. -/
def roundAway (n d : Int) : Int :=
  let q := (2 * n.natAbs + d.natAbs) / (2 * d.natAbs)
  if n < 0 then -(q : Int) else (q : Int)

/-- A sub-pixel offset from N and D (16 R618; 17 R642). -/
def subOffset (n d : Int) : Int := if d ≤ 0 then 0 else max (-8) (min 8 (roundAway (16 * n) d))

/-- The offset along one axis from the responses before, at and after (16 R618). -/
def peakOffset (a b c : Int) : Int := subOffset (c - a) (2 * (2 * b - a - c))

/-- C_b (16 R619). -/
def cosBin (b : Nat) : Int :=
  let t : List Int := [16384, 16069, 15137, 13623, 11585, 9102, 6270, 3196, 0]
  let b := b % 32
  let b := if 16 < b then 32 - b else b
  if b ≤ 8 then t.getD b 0 else -(t.getD (16 - b) 0)
/-- S_b (16 R619). -/
def sinBin (b : Nat) : Int := cosBin ((b + 24) % 32)

/-- The orientation bin of moments (16 R619): the lowest bin of the largest score. -/
def orientBin (m10 m01 : Int) : Nat :=
  if m10 = 0 ∧ m01 = 0 then 0
  else
    let score (b : Nat) : Int := cosBin b * m10 + sinBin b * m01
    (List.range 32).foldl (fun best b => if score best < score b then b else best) 0

/-- The moments of a pixel. -/
def moments (p : Img) (x y : Int) : Int × Int :=
  let disc := (intsFrom (-15) 15).flatMap (fun dy => (intsFrom (-15) 15).filterMap (fun dx => if dx * dx + dy * dy ≤ 225 then some (dx, dy) else none))
  (sumOver disc (fun d => d.1 * p.at (x + d.1) (y + d.2)), sumOver disc (fun d => d.2 * p.at (x + d.1) (y + d.2)))

/-- A keypoint record (16 R620). -/
def keypointRecord (p : Img) (level : Nat) (sub orient : Bool) (c : Corner) : List Byte :=
  let x : Int := c.x
  let y : Int := c.y
  let px : Int := if sub then 16 * x + peakOffset (response p (x - 1) y) c.r (response p (x + 1) y) else x
  let py : Int := if sub then 16 * y + peakOffset (response p x (y - 1)) c.r (response p x (y + 1)) else y
  let m := moments p x y
  leBytes 2 px.toNat ++ leBytes 2 py.toNat ++ leBytes 1 level ++ leBytes 1 (if orient then orientBin m.1 m.2 else 0) ++
    leBytes 1 (b2n c.brighter + 2 * b2n sub) ++ [0] ++ leBytes 8 (patternOf 64 c.r)

/-- The ranked survivors of a plane. -/
def rankedCorners (p : Img) (t : Int) (n : Nat) : List Corner := sortBy Corner.before (survivors (corners p t n))

/-! ## Descriptors (16 R621-R624) -/

/-- Pattern pair i. -/
def pairA (i : Nat) : Int × Int := (((37 * i + 11) % 27 : Nat) - 13, ((71 * i + 5) % 27 : Nat) - 13)
def pairB (i : Nat) : Int × Int := (((53 * i + 19) % 27 : Nat) - 13, ((89 * i + 23) % 27 : Nat) - 13)

/-- A point of the pattern steered by a bin, relative to the centre (16 R622). -/
def steer (b : Nat) (q : Int × Int) : Int × Int :=
  ((cosBin b * q.1 - sinBin b * q.2 + 8192) / 16384, (sinBin b * q.1 + cosBin b * q.2 + 8192) / 16384)

/-- The sum of the 3 × 3 pixels around a point. -/
def box3 (p : Img) (x y : Int) : Int :=
  sumOver (intsFrom (-1) 1) (fun dy => sumOver (intsFrom (-1) 1) (fun dx => p.at (x + dx) (y + dy)))

/-- The descriptor of a centre, or none where it is too close to the edge (16 R623, R624). -/
def descriptor (p : Img) (b : Nat) (x y : Int) : Option (List Byte) :=
  if x < 20 ∨ (p.width : Int) - 21 < x ∨ y < 20 ∨ (p.height : Int) - 21 < y then none
  else
    let bit (i : Nat) : Bool :=
      let u := steer b (pairA i)
      let v := steer b (pairB i)
      decide (box3 p (x + u.1) (y + u.2) < box3 p (x + v.1) (y + v.2))
    some ((List.range 32).map (fun j => BitVec.ofNat 8 (((List.range 8).map (fun i => b2n (bit (8 * j + i)) * 2 ^ i)).sum)))

/-- The centre of a keypoint record (16 R622). -/
def keypointCentre (rec_ : List Byte) : Int × Int :=
  let x := leAt rec_ 0 2
  let y := leAt rec_ 2 2
  if bitAt (leAt rec_ 6 1) 1 then (((x + 7) / 16 : Nat), ((y + 7) / 16 : Nat)) else ((x : Nat), (y : Nat))

/-! ## Matching (16 R625, R626) -/

/-- Bits in which two descriptors differ. -/
def hamming (a b : List Byte) : Nat :=
  ((a.zip b).map (fun p => ((List.range 8).filter (fun i => p.1.getLsbD i != p.2.getLsbD i)).length)).sum

/-- The index of the smallest distance, ties to the lower index, with the distance. -/
def nearest (l : List Nat) : Option (Nat × Nat) :=
  l.zipIdx.foldl (fun best d => match best with
    | none => some (d.2, d.1)
    | some b => if d.1 < b.2 then some (d.2, d.1) else some b) none

/-- The match record of query q. -/
def matchRecord (qs ts : List (List Byte)) (maxDist : Nat) (cross : Bool) (q : Nat) : List Byte :=
  let ds := ts.map (hamming (qs.getD q []))
  match nearest ds with
  | none => leBytes 2 0xFFFF ++ leBytes 2 0xFFFF ++ leBytes 2 0xFFFF ++ leBytes 2 0
  | some (t, d) =>
    let second := (nearest ((ds.zipIdx.filter (fun e => e.2 ≠ t)).map (·.1))).map (·.2)
    let hit := d ≤ maxDist
    let mutual_ := cross && hit && (nearest (qs.map (fun x => hamming x (ts.getD t [])))).any (fun b => b.1 = q)
    leBytes 2 (if hit then t else 0xFFFF) ++ leBytes 2 d ++ leBytes 2 (second.getD 0xFFFF) ++
      leBytes 2 (b2n mutual_ + 2 * b2n (decide (d < second.getD 0xFFFF)))

/-! ## Stereo (17 R635-R643) -/

/-- The census of a pixel (17 R635). -/
def census (p : Img) (x y : Int) : List Bool :=
  let c := p.at x y
  (intsFrom (-3) 3).flatMap (fun dy => (intsFrom (-4) 4).filterMap (fun dx =>
    if dx = 0 ∧ dy = 0 then none else some (decide (p.clampAt (x + dx) (y + dy) < c))))

/-- Rows of census vectors. -/
def censusRows (p : Img) : List (List (List Bool)) :=
  (List.range p.height).map (fun (y : Nat) => (List.range p.width).map (fun (x : Nat) => census p (x : Int) (y : Int)))

def bitsDiffer (a b : List Bool) : Nat := ((a.zip b).filter (fun p => p.1 != p.2)).length

/-- The costs of a row: by column, then disparity (17 R636). -/
def costRow (dn : Nat) (l r : List (List Bool)) : List (List Nat) :=
  l.zipIdx.map (fun c => (List.range dn).map (fun d => if c.2 < d then 63 else bitsDiffer c.1 (r.getD (c.2 - d) [])))

def minNat : List Nat → Nat
  | [] => 0
  | x :: t => t.foldl min x

/-- One step of a path from the previous pixel's costs (17 R637). -/
def pathStep (p1 p2 : Nat) (prev cost : List Nat) : List Nat :=
  let m := minNat prev
  cost.zipIdx.map (fun c =>
    let d := c.2
    let best := min (prev.getD d 0) (m + p2)
    let best := if 0 < d then min best (prev.getD (d - 1) 0 + p1) else best
    let best := if d + 1 < cost.length then min best (prev.getD (d + 1) 0 + p1) else best
    c.1 + best - m)

/-- A path along a row. -/
def pathAlong (p1 p2 : Nat) : Option (List Nat) → List (List Nat) → List (List Nat)
  | _, [] => []
  | none, c :: t => c :: pathAlong p1 p2 (some c) t
  | some q, c :: t => let v := pathStep p1 p2 q c; v :: pathAlong p1 p2 (some v) t

/-- A path down the rows with the column step dx. -/
def pathDown (p1 p2 : Nat) (dx : Int) : Option (List (List Nat)) → List (List (List Nat)) → List (List (List Nat))
  | _, [] => []
  | none, c :: t => c :: pathDown p1 p2 dx (some c) t
  | some q, c :: t =>
    let v := c.zipIdx.map (fun e =>
      let x := (e.2 : Int) - dx
      if 0 ≤ x ∧ x < (c.length : Int) then pathStep p1 p2 (q.getD x.toNat []) e.1 else e.1)
    v :: pathDown p1 p2 dx (some v) t

/-- The costs of one path direction (17 R637). -/
def pathCosts (p1 p2 : Nat) (c : List (List (List Nat))) (dir : Int × Int) : List (List (List Nat)) :=
  if dir.2 = 0 then
    if 0 < dir.1 then c.map (pathAlong p1 p2 none) else c.map (fun row => (pathAlong p1 p2 none row.reverse).reverse)
  else if 0 < dir.2 then pathDown p1 p2 dir.1 none c
  else (pathDown p1 p2 dir.1 none c.reverse).reverse

def fourPaths : List (Int × Int) := [(1, 0), (-1, 0), (0, 1), (0, -1)]
def diagonalPaths : List (Int × Int) := [(1, 1), (-1, 1), (1, -1), (-1, -1)]

/-- The aggregated costs (17 R638). -/
def aggregate (p1 p2 : Nat) (eight : Bool) (c : List (List (List Nat))) : List (List (List Nat)) :=
  let ls := (fourPaths ++ (if eight then diagonalPaths else [])).map (pathCosts p1 p2 c)
  c.zipIdx.map (fun row => row.1.zipIdx.map (fun px => px.1.zipIdx.map (fun d =>
    (ls.map (fun l => ((l.getD row.2 []).getD px.2 []).getD d.2 0)).sum)))

/-- How a disparity is selected. -/
structure StereoOpts where
  dn : Nat
  eight : Bool
  sub : Bool
  lr : Bool
  tol : Nat
  p1 : Nat
  p2 : Nat
  uniq : Nat
  deriving DecidableEq, Repr

/-- The outcome of pixel x of a row of aggregated costs (17 R639-R643). -/
def disparity (o : StereoOpts) (row : List (List Nat)) (x : Nat) : Nat :=
  let w := row.length
  let invalid := if o.sub then 0xFFFF else 0xFF
  let occluded := if o.sub then 0xFFFE else 0xFF
  let s := row.getD x []
  let top := min (o.dn - 1) x
  let cand := s.take (top + 1)
  match nearest cand with
  | none => invalid
  | some (d, s1) =>
    let far := (cand.zipIdx.filter (fun e => 2 ≤ ((e.2 : Int) - d).natAbs)).map (·.1)
    if o.uniq ≠ 0 ∧ far ≠ [] ∧ 16 * minNat far < (16 + o.uniq) * s1 then invalid
    else
      let xr := x - d
      let right := (List.range (min (o.dn - 1) (w - 1 - xr) + 1)).map (fun e => (row.getD (xr + e) []).getD e 0)
      let dr := ((nearest right).map (·.1)).getD d
      if o.lr && o.tol < ((dr : Int) - d).natAbs then (if d < dr then occluded else invalid)
      else if !o.sub then d
      else
        let a : Int := s.getD (d - 1) 0
        let b : Int := s.getD d 0
        let c : Int := s.getD (d + 1) 0
        let off := if 0 < d ∧ d < top then subOffset (a - c) (2 * (a + c - 2 * b)) else 0
        (16 * (d : Int) + off).toNat

/-- The disparity plane, row by row. -/
def stereoRows (o : StereoOpts) (l r : Img) : List (List Nat) :=
  let cost := ((censusRows l).zip (censusRows r)).map (fun p => costRow o.dn p.1 p.2)
  (aggregate o.p1 o.p2 o.eight cost).map (fun row => (List.range row.length).map (disparity o row))

end Sys2Proof.Machine
end

