-- ==== Sys2Proof/Machine/Vision.lean ====
section
/-!
DEFINITION. Nodes of the vision engines: parameter blocks and operands (16 R602-R607; 17 R633, R634), where their bytes lie (16 R605, R608),
and the checks at node start (16 R603, R611, R627; 17 R632, R644, R645, R667).
-/
namespace Sys2Proof.Machine

/-! ## Parameter blocks -/

/-- Node kinds (16 R602; 17 R631). -/
inductive VisKind where
  | pyramid | detect | describe | matching | stereo
  deriving DecidableEq, Repr

def visKind? (n : Nat) : Option VisKind :=
  match n with
  | 1 => some .pyramid | 2 => some .detect | 3 => some .describe | 4 => some .matching | 0x10 => some .stereo | _ => none

/-- A plane operand (16 R604). -/
structure VPlane where
  base : Nat
  width : Nat
  height : Nat
  depth10 : Bool
  streamed : Bool
  stride : Nat
  fill : Nat
  release : Nat
  reservedOk : Bool
  deriving DecidableEq, Repr

/-- A list operand (16 R604). -/
structure VList where
  base : Nat
  cap : Nat
  reservedOk : Bool
  deriving DecidableEq, Repr

/-- The plane operand at word i of a block. -/
def planeAt (b : List Byte) (i : Nat) : VPlane :=
  let w := wordAt b (i + 2)
  let f := wordAt b (i + 3)
  { base := leAt b (4 * i) 6, width := bitsOf w 12 0, height := bitsOf w 25 13, depth10 := bitAt w 26, streamed := bitAt w 27
    stride := bitsOf f 15 0, fill := bitsOf f 23 16, release := bitsOf f 31 24
    reservedOk := leAt b (4 * i + 6) 2 = 0 && bitsOf w 31 28 = 0 }

/-- The list operand at word i of a block. -/
def listAt (b : List Byte) (i : Nat) : VList :=
  { base := leAt b (4 * i) 6, cap := leAt b (4 * i + 8) 2, reservedOk := leAt b (4 * i + 6) 2 = 0 && leAt b (4 * i + 10) 6 = 0 }

/-- Bytes of a luma pixel (16 R605). -/
def VPlane.esize (p : VPlane) : Nat := if p.depth10 then 2 else 1

/-- An operand with its element or record size, and whether the node writes it. -/
inductive VisOperand where
  | plane (p : VPlane) (esize : Nat) (out : Bool)
  | list (l : VList) (size : Nat) (out : Bool)
  deriving DecidableEq, Repr

def VisOperand.out : VisOperand → Bool
  | .plane _ _ o => o
  | .list _ _ o => o
def VisOperand.base : VisOperand → Nat
  | .plane p _ _ => p.base
  | .list l _ _ => l.base

/-- The operands of a node in block order. -/
def visOperands (k : VisKind) (b : List Byte) : List VisOperand :=
  let src := planeAt b 0
  match k with
  | .pyramid => [.plane src src.esize false, .plane (planeAt b 4) (planeAt b 4).esize true]
  | .detect => [.plane src src.esize false, .list (listAt b 4) 16 true]
  | .describe => [.plane src src.esize false, .list (listAt b 4) 16 false, .list (listAt b 8) 32 true]
  | .matching => [.list (listAt b 0) 8 true, .list (listAt b 4) 32 false, .list (listAt b 8) 32 false]
  | .stereo => [.plane src src.esize false, .plane (planeAt b 4) (planeAt b 4).esize false,
      .plane (planeAt b 8) (if bitAt (wordAt b 12) 10 then 2 else 1) true]

/-- STEREO's options (17 R633). -/
def stereoOpts (b : List Byte) : StereoOpts :=
  let w := wordAt b 12
  { dn := bitsOf w 8 0, eight := bitAt w 9, sub := bitAt w 10, lr := bitAt w 11, tol := bitsOf w 13 12, p1 := bitsOf w 19 14
    p2 := bitsOf w 27 20, uniq := bitsOf w 31 28 }

/-- Whether a plane of the node has no pixels; of a STEREO, the left one (16 R627; 17 R645). -/
def visEmpty (k : VisKind) (b : List Byte) : Bool :=
  let none_ (p : VPlane) : Bool := p.width = 0 || p.height = 0
  match k with
  | .pyramid => none_ (planeAt b 0) || none_ (planeAt b 4)
  | .matching => false
  | _ => none_ (planeAt b 0)

/-- Reserved bits of words 8 to 15 by kind (16 R612-R629; 17 R633). -/
def visReservedOk (k : VisKind) (b : List Byte) : Bool :=
  let w12 := wordAt b 12
  wordAt b 13 = 0 && wordAt b 15 = 0 && wordAt b 14 / 2 ^ 9 = 0 &&
  (match k with
    | .pyramid => (upFrom 8 5).all (fun i => wordAt b i = 0)
    | .detect => (upFrom 8 4).all (fun i => wordAt b i = 0) && w12 / 2 ^ 20 = 0
    | .describe => w12 = 0
    | .matching => w12 / 2 ^ 10 = 0
    | .stereo => true)

/-- Streamed planes of a node, each with the band that R611 asks for: none where the plane may not stream. -/
def streamBand (k : VisKind) (out : Bool) : Option Nat :=
  match k, out with
  | .pyramid, false => some 6
  | .pyramid, true => some 1
  | .detect, false => some 32
  | _, _ => none

/-- Step 1 of R627 and R645, with R667: `member` is a graph of a lockstep group, `group` its group-stream node. -/
def visParamsOk (k : VisKind) (b : List Byte) (member group : Bool) : Bool :=
  let ops := visOperands k b
  let src := planeAt b 0
  let dst := planeAt b 4
  let w := wordAt b 12
  ops.all (fun x => match x with
    | .plane p e o => p.reservedOk && p.width ≤ 4096 && p.height ≤ 4096 && p.width * e ≤ p.stride &&
        (!p.streamed || ((streamBand k o).isSome && (!member || (group && !o))))
    | .list l _ _ => l.reservedOk && 1 ≤ l.cap && l.cap ≤ 8192) &&
  visReservedOk k b &&
  (match k with
    | .pyramid => dst.width = (src.width + 1) / 2 && dst.height = (src.height + 1) / 2 && dst.depth10 == src.depth10
    | .detect => 9 ≤ bitsOf w 13 10 && bitsOf w 13 10 ≤ 12
    | .describe => true
    | .matching => bitsOf w 8 0 ≤ 256
    | .stereo =>
      let o := stereoOpts b
      let disp := planeAt b 8
      dst.width = src.width && dst.height = src.height && dst.depth10 == src.depth10 &&
      disp.width = src.width && disp.height = src.height && !disp.depth10 &&
      1 ≤ o.dn && o.dn ≤ (if o.sub then 256 else 255) && 1 ≤ o.p1 && o.p1 + 1 ≤ o.p2)

/-! ## Where operands lie -/

/-- The device address of a region virtual address, by the segment that holds it. -/
def State.visPhys (s : State) (r v : Nat) : Nat := ((s.segOf r v 1).map (fun g => g.phys v)).getD 0

/-- The window of a plane's base. -/
def State.planeWindow (s : State) (r : Nat) (p : VPlane) : Option Window := s.windowOf (s.visPhys r p.base)

/-- Rows of a streamed plane's band (16 R608). -/
def State.planeBand (s : State) (r : Nat) (p : VPlane) : Nat := ((s.planeWindow r p).map (fun w => w.length / p.stride)).getD 1

/-- Bytes that an operand spans from its base. -/
def State.visSpan (s : State) (r : Nat) (x : VisOperand) : Nat :=
  match x with
  | .plane p e _ =>
    if p.streamed then ((s.planeWindow r p).map (·.length)).getD (p.width * e) else (p.height - 1) * p.stride + p.width * e
  | .list l n _ => 16 + l.cap * n

/-- Whether n bytes from v lie in one segment of the region, on the scratchpad of one of its sites. -/
def State.visPlaced (s : State) (r v n : Nat) : Bool :=
  match s.segOf r v n with
  | none => false
  | some g =>
    let a := g.phys v
    let b := a + n - 1
    isScratch a && isScratch b && scratchDie a = scratchDie b && scratchSite a = scratchSite b &&
      s.siteRegion? (scratchDie a) (scratchSite a) = some r

/-- The device addresses of n bytes from a device address, through its window. -/
def State.linAddrs (s : State) (a n : Nat) : List Nat := (upFrom a n).map (wrapAddr (s.windowOf a) a)

/-- The device addresses of row y of a plane: `r0` is the flag value that its frame counts from (16 R605, R608). -/
def State.rowAddrs (s : State) (r : Nat) (p : VPlane) (e : Nat) (r0 : Word) (y : Nat) : List Nat :=
  let line := if p.streamed then (r0.toNat + y) % max 1 (s.planeBand r p) else y
  s.linAddrs (s.visPhys r p.base + line * p.stride) (p.width * e)

/-- The scratchpad pieces of an operand, after its windows' wrap (08 R278): site key, first and one past the last offset. A plane that is not
streamed has one access for each row. -/
def State.visPieces (s : State) (r : Nat) (x : VisOperand) : List (Nat × Nat × Nat) :=
  let a := s.visPhys r x.base
  let k := siteKey (scratchDie a) (scratchSite a)
  let of (off n : Nat) : List (Nat × Nat × Nat) := (s.piecesAt k off 0 n).map (fun p => (k, p))
  match x with
  | .plane p e _ =>
    if p.streamed then of (scratchOff a) (s.visSpan r x)
    else (List.range p.height).flatMap (fun y => of (scratchOff a + y * p.stride) (p.width * e))
  | .list _ _ _ => of (scratchOff a) (s.visSpan r x)

/-- Whether a byte of an operand is protected (10 R394). -/
def State.visProtected (s : State) (r : Nat) (x : VisOperand) : Bool :=
  (s.visPieces r x).any (fun p => (upFrom (scratchAddr (p.1 / 256) (p.1 % 256) p.2.1) (p.2.2 - p.2.1)).any s.protectedByte)

def piecesShare (a b : List (Nat × Nat × Nat)) : Bool :=
  a.any (fun p => b.any (fun q => p.1 = q.1 && p.2.1 < q.2.2 && q.2.1 < p.2.2))

/-! ## Checks at node start (16 R627; 17 R645) -/

/-- Step 4: why a plane's window does not fit it. -/
def State.visWindowFails (s : State) (r : Nat) (k : VisKind) (x : VisOperand) : Option Code :=
  match x with
  | .list _ _ _ => none
  | .plane p e o =>
    let a := s.visPhys r p.base
    if p.streamed then
      match s.planeWindow r p with
      | none => some Codes.VIS_BUFFER_INVALID
      | some w =>
        if w.base ≠ scratchOff a ∨ w.length % p.stride ≠ 0 ∨ w.length / p.stride < (streamBand k o).getD 1 then some Codes.VIS_BUFFER_INVALID
        else none
    else
      (List.range p.height).findSome? (fun y =>
        match s.accessAddrs (a + y * p.stride) (p.width * e) with
        | .ok _ => none
        | .error c => some c)

/-- The record count in a list's header. -/
def State.listCount (s : State) (r : Nat) (l : VList) : Nat :=
  leNat (s.mem.gather s.free (s.linAddrs (s.visPhys r l.base) 4))

/-- Step 5. -/
def State.visCountsOk (s : State) (r : Nat) (k : VisKind) (b : List Byte) : Bool :=
  (visOperands k b).all (fun x => match x with
    | .list l n o => (s.segOf r l.base (16 + l.cap * n)).isSome && (o || s.listCount r l ≤ l.cap)
    | .plane _ _ _ => true) &&
  (k ≠ .describe || s.listCount r (listAt b 4) ≤ (listAt b 8).cap) &&
  (k ≠ .matching || s.listCount r (listAt b 4) ≤ (listAt b 0).cap)

/-- Whether a route leads between the engine's router and an operand's site (step 7). -/
def State.visRouted (s : State) (r die : Nat) (stereo : Bool) (x : VisOperand) : Bool :=
  let a := s.visPhys r x.base
  let eng : Router := (die, 3, b2n stereo)
  let at_ := siteRouter (scratchDie a) (scratchSite a)
  (s.pathRoute r eng at_).isSome && (x.out || (s.pathRoute r at_ eng).isSome)

/-- The feature that owns a die's vision output buffer: region and feature (02 R48). -/
def State.visBuffer (s : State) (die : Nat) : Option (Nat × Nat) := (s.dev.shared.visBuf.find? (fun e => e.1 = die)).map (·.2)

/-- The checks in order: the code with which a node fails at its start. -/
def State.visRefused (s : State) (r die : Nat) (stereo : Bool) (k : VisKind) (b : List Byte) (member group : Bool) : Option Code :=
  let ops := visOperands k b
  let placed (x : VisOperand) : Bool :=
    match x with
    | .plane _ _ _ => s.visPlaced r x.base (s.visSpan r x) && !s.visProtected r x
    | .list l n o =>
      let l := if (s.segOf r l.base (16 + l.cap * n)).isSome then l else { l with cap := 0 }
      s.visPlaced r l.base (16 + l.cap * n) && !s.visProtected r (.list l n o)
  let perm (x : VisOperand) : Bool := (s.segOf r x.base 1).any (fun g => if x.out then g.write else g.read)
  if !visParamsOk k b member group then some Codes.VIS_PARAM_INVALID
  else if !ops.all placed then some Codes.VIS_BUFFER_INVALID
  else if !ops.all perm then some Codes.SEG_PERM
  else
    match ops.findSome? (s.visWindowFails r k) with
    | some c => some c
    | none =>
      if !s.visCountsOk r k b then some Codes.BOUNDS
      else if ops.zipIdx.any (fun x => x.1.out && ops.zipIdx.any (fun y => x.2 ≠ y.2 && piecesShare (s.visPieces r x.1) (s.visPieces r y.1))) then
        some Codes.VIS_BUFFER_INVALID
      else if !ops.all (s.visRouted r die stereo) then some Codes.NO_ROUTE
      else if (s.visBuffer die).any (fun o => o ≠ (r, if stereo then 2 else 1)) then some Codes.RESOURCE_OWNED
      else none

/-- The bytes of a parameter block, or none where it does not lie in a readable segment on scratchpad. -/
def State.visBlock (s : State) (r v : Nat) : Option (List Byte) :=
  match s.segOf r v 64 with
  | some g => if g.read && isScratch (g.phys v) then some (s.mem.gather s.free (s.linAddrs (g.phys v) 64)) else none
  | none => none

end Sys2Proof.Machine
end

