-- ==== Sys2Proof/Machine/VisNode.lean ====
section
/-!
DEFINITION. Nodes of a frame graph on the vision engines: frame sequencing (17 R653-R656), streaming (16 R608-R611; 17 R661), and the start
and end of each node kind (16 R612-R629; 17 R631-R645).
-/
namespace Sys2Proof.Machine

/-! ## The graph on an engine -/

/-- A VISION_GRAPH in its slot: its key, slot and run. -/
abbrev Graph := OpKey × Slot × VisRun

/-- The graph that runs on an engine (17 R601, R631). -/
def State.graphOn (s : State) (die : Nat) (stereo : Bool) : Option Graph :=
  s.regionIds.findSome? (fun r => (s.slots r).findSome? (fun sl =>
    match sl.run.vis with
    | some v => if sl.op.state = .running && v.die = die && v.stereo == stereo then some (sl.key r, sl, v) else none
    | none => none))

def State.onVis (s : State) (k : OpKey) (f : VisRun → VisRun) : State :=
  s.onRun k.1 k.2.1 k.2.2 fun u => { u with vis := u.vis.map f }
def State.onGrp (s : State) (k : OpKey) (f : VisGroupRun → VisGroupRun) : State :=
  s.onRun k.1 k.2.1 k.2.2 fun u => { u with group := f u.group }

/-- A field of a node record (17 R647). -/
def nodeWord (v : VisRun) (i j : Nat) : Nat := wordAt (v.nodes.getD i []) j
def nodeKind (v : VisRun) (i : Nat) : Option VisKind := visKind? (bitsOf (nodeWord v i 0) 7 0)
def nodeOnFail (v : VisRun) (i : Nat) : Bool := bitAt (nodeWord v i 0) 8
def nodeGroup (v : VisRun) (i : Nat) : Bool := bitAt (nodeWord v i 0) 9
def nodeParams (v : VisRun) (i : Nat) : Nat := leAt (v.nodes.getD i []) 4 6
def nodePreds (v : VisRun) (i : Nat) : Nat := nodeWord v i 3

/-- The next node to run from index i, with those skipped on the way (17 R653); none when the frame has no more. -/
def VisRun.nextNode (v : VisRun) : Nat → Nat → List Nat → Option Nat × List Nat
  | 0, _, dead => (none, dead)
  | n + 1, i, dead =>
    if v.nodes.length ≤ i then (none, dead)
    else if dead.any (fun j => bitAt (nodePreds v i) j) then v.nextNode n (i + 1) (i :: dead)
    else (some i, dead)

/-- A graph latches its end: its earliest failure, or OK (17 R654, R656). -/
def State.graphEnd (s : State) (k : OpKey) (v : VisRun) : State :=
  let s := s.onVis k fun v => { v with inFrame := false, nodeState := .idle, stream := none }
  (s.note k v.firstFail v.firstFault).latchEnd k Codes.OK 0

/-- A frame ends: it counts as completed, and the last one ends the graph (17 R650, R656). -/
def State.frameEnd (s : State) (k : OpKey) (frames : Nat) (v : VisRun) : State :=
  let v := { v with inFrame := false, nodeState := .idle, frame := v.frame + 1, completed := v.completed + 1, stream := none }
  let s := s.onVis k fun _ => v
  if frames ≤ v.frame then s.graphEnd k v else s

/-- Counts a node in its engine's register (16 R630; 17 R669). -/
def State.countNode (s : State) (v : VisRun) (status : Code) : State :=
  s.onDie v.die fun d =>
    if v.stereo then { d with steNodes := d.steNodes + 1, steStatus := if status = Codes.OK then d.steStatus else status }
    else { d with featNodes := d.featNodes + 1, featStatus := if status = Codes.OK then d.featStatus else status }

/-- A node ends with a status: the next one follows, the frame ends, or the graph does (17 R653, R654). -/
def State.nodeEnd (s : State) (k : OpKey) (o : Op) (v : VisRun) (status : Code) (fault : BitVec 16) : State :=
  let s := s.countNode v status
  let failed := status ≠ Codes.OK
  let v := { v with nodeState := .idle, taken := [], rowsOut := 0, rowsReleased := 0,
                    dead := if failed then v.node :: v.dead else v.dead,
                    firstFail := if failed && v.firstFail = Codes.OK then status else v.firstFail,
                    firstFault := if failed && v.firstFail = Codes.OK then fault else v.firstFault }
  if failed && !nodeOnFail v v.node then
    let v := { v with firstFail := status, firstFault := fault }
    (s.onVis k fun _ => v).graphEnd k v
  else
    match v.nextNode (v.nodes.length + 1) (v.node + 1) v.dead with
    | (some i, dead) => s.onVis k fun _ => { v with node := i, dead := dead }
    | (none, dead) => s.frameEnd k o.frameCount { v with dead := dead }

/-! ## Streaming (16 R608-R611; 17 R661) -/

/-- The condition of R609 for row y. -/
def State.filled (s : State) (r fill : Nat) (r0 : Word) (y : Nat) : Bool := y + 1 ≤ (s.flag r fill - r0).toNat

/-- Whether every group stream of a member's group has row y filled (17 R661). A member without one, or with one that does not stream, takes
no part. -/
def State.groupFilled (s : State) (r g y : Nat) : Bool :=
  (s.visMembers r g).all (fun sl => match sl.run.vis with
    | some v => v.stream.all (fun t => t.height ≤ y || s.filled r t.fill t.r0 y)
    | none => true)

/-- Whether row y of the running node's source can be read. -/
def State.rowReady (s : State) (r : Nat) (o : Op) (v : VisRun) (p : VPlane) (y : Nat) : Bool :=
  !p.streamed || (s.filled r p.fill v.r0Src y && (!(nodeGroup v v.node) || s.groupFilled r o.groupId y))

/-- Whether row y of a destination can be written (16 R610). -/
def State.rowRoom (s : State) (r : Nat) (v : VisRun) (p : VPlane) (y : Nat) : Bool :=
  !p.streamed || (v.r0Dst + BitVec.ofNat 32 y - s.flag r p.release).toNat < s.planeBand r p

/-- An engine's flag add (09 R368 source 3). -/
def State.visAdd (s : State) (r : Nat) (v : VisRun) (flag n : Nat) : State :=
  if n = 0 then s else s.latchFlag r { source := 3, sub := 2 * v.die + b2n v.stereo, flag := flag, op := 1, value := BitVec.ofNat 32 n }

/-- Releases rows of a streamed source up to a count (16 R609). -/
def State.releaseRows (s : State) (r : Nat) (v : VisRun) (p : VPlane) (upTo : Nat) : State × VisRun :=
  if p.streamed && v.rowsReleased < upTo then
    (s.visAdd r v p.release (upTo - v.rowsReleased),
      { v with rowsReleased := upTo
               stream := v.stream.map (fun t => if nodeGroup v v.node then { t with released := upTo } else t) })
  else (s, v)

/-- Pixels of a row's bytes (16 R605). -/
def rowPixels (wide : Bool) (l : List (Option Byte)) : List Nat :=
  let bs := l.map (fun b => (b.getD 0).toNat)
  if wide then go bs else bs
where
  /-- 10-bit pixels. -/
  go : List Nat → List Nat
    | a :: b :: t => ((a + 256 * b) % 1024) :: go t
    | _ => []

/-- Reads row y of a plane. -/
def State.takeRow (s : State) (k : OpKey) (p : VPlane) (r0 : Word) (y : Nat) : State × List Nat :=
  let q := s.unitRead k (s.rowAddrs k.1 p p.esize r0 y)
  (q.1, rowPixels p.depth10 q.2)

/-- Writes row y of a plane of elements of e bytes. -/
def State.putRow (s : State) (k : OpKey) (p : VPlane) (e : Nat) (r0 : Word) (y : Nat) (row : List Nat) : State :=
  (s.unitWrite k ((s.rowAddrs k.1 p e r0 y).zip (row.flatMap (leBytes e)))).1

/-- One step of a PYRAMID: it takes the next source row, or writes the next destination row; none when it stalls or is done. -/
def State.pyrStep (s : State) (k : OpKey) (o : Op) (v : VisRun) : Option (State × VisRun) :=
  let src := planeAt v.params 0
  let dst := planeAt v.params 4
  let need := min (2 * v.rowsOut + 2) (src.height - 1)
  if dst.height ≤ v.rowsOut then none
  else if v.taken.length ≤ need then
    if s.rowReady k.1 o v src v.taken.length then
      let q := s.takeRow k src v.r0Src v.taken.length
      some (q.1, { v with taken := v.taken ++ [q.2] })
    else none
  else if s.rowRoom k.1 v dst v.rowsOut then
    let s := s.putRow k dst dst.esize v.r0Dst v.rowsOut (pyrRow v.taken src.width src.height v.rowsOut)
    let s := if dst.streamed then s.visAdd k.1 v dst.fill 1 else s
    some (s.releaseRows k.1 { v with rowsOut := v.rowsOut + 1 } src (2 * (v.rowsOut + 1) - 2))
  else none

/-- One step of a DETECT on a streamed source: it takes the next row; rows above the 31 that the work still needs are released. -/
def State.detStep (s : State) (k : OpKey) (o : Op) (v : VisRun) : Option (State × VisRun) :=
  let src := planeAt v.params 0
  if src.height ≤ v.taken.length then none
  else if s.rowReady k.1 o v src v.taken.length then
    let q := s.takeRow k src v.r0Src v.taken.length
    let v := { v with taken := v.taken ++ [q.2] }
    some (q.1.releaseRows k.1 v src (v.taken.length - 30))
  else none

/-- Steps of the running node until it stalls or has its rows. -/
def State.nodeSteps (s : State) (k : OpKey) (o : Op) (v : VisRun) : Nat → State × VisRun
  | 0 => (s, v)
  | n + 1 =>
    let q := match nodeKind v v.node with
      | some .pyramid => s.pyrStep k o v
      | some .detect => s.detStep k o v
      | _ => none
    match q with
    | some x => State.nodeSteps x.1 k o x.2 n
    | none => (s, v)

/-- Whether the node has taken and written every row that its end needs. -/
def VisRun.rowsDone (v : VisRun) : Bool :=
  match nodeKind v v.node with
  | some .pyramid => (planeAt v.params 4).height ≤ v.rowsOut
  | some .detect => (planeAt v.params 0).height ≤ v.taken.length
  | _ => true

/-- The node goes on as far as its rows allow. -/
def State.nodeGo (s : State) (k : OpKey) (o : Op) (v : VisRun) : State × VisRun :=
  let q := s.nodeSteps k o v ((planeAt v.params 0).height + (planeAt v.params 4).height + 1)
  (q.1, { q.2 with nodeState := if q.2.rowsDone then .busy else .waitRow })

/-- Whether a plane of the node streams. -/
def VisRun.streams (v : VisRun) : Bool :=
  ((nodeKind v v.node).map (fun k => (visOperands k v.params).any (fun x => match x with
    | .plane p _ _ => p.streamed
    | .list _ _ _ => false))).getD false

/-! ## Node start -/

/-- The done flag of a node (16 R629). -/
def State.doneFlagAdd (s : State) (r : Nat) (v : VisRun) : State :=
  let w := wordAt v.params 14
  if bitAt w 8 then s.visAdd r v (bitsOf w 7 0) 1 else s

/-- The group stream of a frame that starts: the streamed source of node 0, with r0 as it stands at the frame's start (16 R608; 17 R661). -/
def State.groupStream (s : State) (r : Nat) (v : VisRun) : Option GroupStream :=
  if nodeGroup v 0 then
    match s.visBlock r (nodeParams v 0) with
    | some b =>
      let p := planeAt b 0
      if p.streamed && !((nodeKind v 0).any (fun k => visEmpty k b)) then
        some { fill := p.fill, release := p.release, r0 := s.flag r p.release, height := p.height, released := 0 }
      else none
    | none => none
  else none

/-- A node starts: its parameter block is read and checked, the output buffer is taken, and its rows begin to move (16 R603, R608,
R627, R628; 17 R632, R645, R649). An empty one completes with OK, and its done flag counts (16 R629). A node starts at a slot boundary
(17 R653). -/
def State.nodeStart (s : State) (die : Nat) (kind : VisKind) : State :=
  let stereo := kind == .stereo
  match s.graphOn die stereo with
  | none => s
  | some (k, sl, v) =>
    s.whenP (s.atBoundary && v.inFrame && v.nodeState = .idle && nodeKind v v.node = some kind) fun s =>
      let o := sl.op
      let r := k.1
      let s := s.onRec k.1 k.2.1 k.2.2 fun c => { c with pendingStatus := 0, pendingFault := 0 }
      let s := if (s.visBlock r (nodeParams v v.node)).isSome then s.badUnits k (s.linAddrs (s.visPhys r (nodeParams v v.node)) 64) else s
      match s.visBlock r (nodeParams v v.node) with
      | none => s.nodeEnd k o v Codes.VIS_BUFFER_INVALID 0
      | some b =>
        if visEmpty kind b then (s.doneFlagAdd r { v with params := b }).nodeEnd k o v Codes.OK 0
        else
          match s.visRefused r die stereo kind b (o.groupId ≠ 0) (nodeGroup v v.node) with
          | some c => s.nodeEnd k o v c 0
          | none =>
            let doms := dedupNat ((visOperands kind b).map (fun x => s.domainOf (s.visPhys r x.base)))
            let s := doms.foldl (fun s n => s.accept k n) s
            if doms.any (fun n => !s.serves (s.acceptedOf k) n) then s.nodeEnd k o v Codes.DEST_CLOSED 0
            else
              let s := s.onShared fun h => { h with visBuf := Tab.set h.visBuf die (r, if stereo then 2 else 1) }
              let src := planeAt b 0
              let r0 := if nodeGroup v v.node then (v.stream.map (·.r0)).getD (s.flag r src.release) else s.flag r src.release
              let v := { v with params := b, r0Src := r0, r0Dst := s.flag r (planeAt b 4).fill, taken := [], rowsOut := 0,
                                rowsReleased := 0, nodeState := .busy }
              let s := s.onVis k fun _ => v
              if v.streams then
                let q := s.nodeGo k o v
                q.1.onVis k fun _ => q.2
              else s

/-! ## Node end -/

/-- The bytes of a list, header first (16 R606). -/
def listBytes (second : Nat) (records : List (List Byte)) : List Byte :=
  leBytes 4 records.length ++ leBytes 4 second ++ leBytes 8 0 ++ records.flatten

/-- Reads a list: its records of n bytes each. -/
def State.takeList (s : State) (k : OpKey) (l : VList) (n : Nat) : State × List (List Byte) :=
  let a := s.visPhys k.1 l.base
  let h := s.unitRead k (s.linAddrs a 16)
  let count := min l.cap (leNat ((h.2.take 4).map (·.getD 0)))
  let q := h.1.unitRead k ((s.linAddrs a (16 + count * n)).drop 16)
  let bs := q.2.map (·.getD 0)
  (q.1, (List.range count).map (fun i => (bs.drop (i * n)).take n))

/-- Writes a list. -/
def State.putList (s : State) (k : OpKey) (l : VList) (bs : List Byte) : State :=
  (s.unitWrite k ((s.linAddrs (s.visPhys k.1 l.base) bs.length).zip bs)).1

/-- Reads every row of a plane that is not streamed. -/
def State.takePlane (s : State) (k : OpKey) (p : VPlane) : State × Img :=
  (List.range p.height).foldl (fun q y => let x := q.1.takeRow k p 0 y; (x.1, q.2 ++ [x.2])) (s, [])

/-- The descriptor list of keypoints: records, and how many lay too close to the edge (16 R622-R624). An orientation byte above 31
names no bin: that descriptor is a free value (log 28). -/
def State.describeAll (s : State) (p : Img) (keys : List (List Byte)) : List (List Byte) × Nat :=
  let one (q : List Byte × Nat) : Option (List Byte) :=
    let c := keypointCentre q.1
    let b := leAt q.1 5 1
    (descriptor p b c.1 c.2).map (fun d => if b ≤ 31 then d else leBytes 32 (s.freeVal q.2 % 2 ^ 256))
  let l := keys.zipIdx.map one
  (l.map (·.getD (List.replicate 32 0xFF)), (l.filter (·.isNone)).length)

/-- What a node writes at its end: the state after its reads and writes, and the bytes of each output operand (18 R682). -/
def State.nodeWork (s : State) (k : OpKey) (v : VisRun) (kind : VisKind) : State × List Byte :=
  let b := v.params
  let w := wordAt b 12
  match kind with
  | .pyramid =>
    let src := planeAt b 0
    let dst := planeAt b 4
    (s, (List.range dst.height).flatMap (fun y => (pyrRow v.taken src.width src.height y).flatMap (leBytes dst.esize)))
  | .detect =>
    let ranked := rankedCorners v.taken (bitsOf w 9 0 : Nat) (bitsOf w 13 10)
    let l := listAt b 4
    let bs := listBytes ranked.length ((ranked.take l.cap).map (keypointRecord v.taken (bitsOf w 17 14) (bitAt w 18) (bitAt w 19)))
    (s.putList k l bs, bs)
  | .describe =>
    let p := s.takePlane k (planeAt b 0)
    let ks := p.1.takeList k (listAt b 4) 16
    let d := ks.1.describeAll p.2 ks.2
    let bs := listBytes d.2 d.1
    (ks.1.bump.putList k (listAt b 8) bs, bs)
  | .matching =>
    let qs := s.takeList k (listAt b 4) 32
    let ts := qs.1.takeList k (listAt b 8) 32
    let bs := listBytes 0 ((List.range qs.2.length).map (matchRecord qs.2 ts.2 (bitsOf w 8 0) (bitAt w 9)))
    (ts.1.putList k (listAt b 0) bs, bs)
  | .stereo =>
    let l := s.takePlane k (planeAt b 0)
    let r := l.1.takePlane k (planeAt b 4)
    let o := stereoOpts b
    let e := if o.sub then 2 else 1
    let rows := stereoRows o l.2 r.2
    (rows.zipIdx.foldl (fun s x => s.putRow k (planeAt b 8) e 0 x.2 x.1) r.1, rows.flatMap (fun row => row.flatMap (leBytes e)))

/-- A node ends: its remaining rows move, its outputs and header are written, remaining rows are released and the done flag follows;
unchanged while a row that it needs is missing. -/
def State.nodeFinish (s : State) (k : OpKey) (o : Op) (v : VisRun) : State :=
  let q := s.nodeGo k o v
  let s := q.1
  let v := q.2
  match v.rowsDone, nodeKind v v.node with
  | true, some kind =>
    let p := s.nodeWork k v kind
    let rel := p.1.releaseRows k.1 v (planeAt v.params 0) (if kind = .pyramid ∨ kind = .detect then (planeAt v.params 0).height else 0)
    let s := rel.1
    let v := rel.2
    let st := s.noted k
    if st.1 = Codes.OK then
      let s := (s.onRec k.1 k.2.1 k.2.2 fun c => c.addTensor v.tensors p.2).doneFlagAdd k.1 v
      s.nodeEnd k o { v with tensors := v.tensors + 1 } Codes.OK 0
    else
      (s.onRec k.1 k.2.1 k.2.2 fun c => { c with pendingStatus := 0, pendingFault := 0 }).nodeEnd k o v st.1 st.2
  | _, _ => s.onVis k fun _ => v

/-! ## The commands -/

/-- PYRAMID (16 R612, R627): the node starts on the feature engine. -/
def execPyramid (d : DieId) (s : State) : Host.Outcome State Fault Refusal :=
  .next (s.effect fun s => s.whenP s.fabricOn fun s => s.nodeStart d.val .pyramid)

/-- DETECT (16 R613-R619, R627). -/
def execDetect (d : DieId) (s : State) : Host.Outcome State Fault Refusal :=
  .next (s.effect fun s => s.whenP s.fabricOn fun s => s.nodeStart d.val .detect)

/-- DESCRIBE (16 R621-R624, R627). -/
def execDescribe (d : DieId) (s : State) : Host.Outcome State Fault Refusal :=
  .next (s.effect fun s => s.whenP s.fabricOn fun s => s.nodeStart d.val .describe)

/-- MATCH (16 R625-R627). -/
def execMatchNode (d : DieId) (s : State) : Host.Outcome State Fault Refusal :=
  .next (s.effect fun s => s.whenP s.fabricOn fun s => s.nodeStart d.val .matching)

/-- STEREO (17 R631-R645). -/
def execStereo (d : DieId) (s : State) : Host.Outcome State Fault Refusal :=
  .next (s.effect fun s => s.whenP s.fabricOn fun s => s.nodeStart d.val .stereo)

/-- STREAM_ROW_WAIT_END (16 R609, R610; 17 R661): a stalled node goes on with the rows that have come. -/
def execStreamRowWaitEnd (d : DieId) (stereoEngine : Bool) (s : State) : Host.Outcome State Fault Refusal :=
  .next (s.effect fun s => s.whenP s.fabricOn fun s =>
    match s.graphOn d.val stereoEngine with
    | some (k, sl, v) =>
      s.whenP (v.inFrame && v.nodeState = .waitRow) fun s =>
        let q := s.nodeGo k sl.op v
        q.1.onVis k fun _ => q.2
    | none => s)

/-- VIS_NODE_COMPLETE (16 R629; 17 R653, R654): the running node completes. -/
def execVisNodeComplete (d : DieId) (stereoEngine : Bool) (s : State) : Host.Outcome State Fault Refusal :=
  .next (s.effect fun s => s.whenP s.fabricOn fun s =>
    match s.graphOn d.val stereoEngine with
    | some (k, sl, v) => s.whenP (v.inFrame && (v.nodeState = .busy || v.nodeState = .waitRow)) fun s => s.nodeFinish k sl.op v
    | none => s)

end Sys2Proof.Machine
end

