-- ==== Sys2Proof/Machine/VisGraph.lean ====
section
/-!
DEFINITION. VISION_GRAPH: its fields and checks (17 R646-R649), frames and marks (17 R650-R652, R655), preemption (17 R657), and lockstep
groups (17 R658-R668).
-/
namespace Sys2Proof.Machine

/-! ## The descriptor (17 R646) -/

def Op.visStereo (o : Op) : Bool := bitAt (o.word 4) 0
def Op.visDie (o : Op) : Nat := o.field 4 1 1
def Op.nodeCount (o : Op) : Nat := o.field 4 7 2
def Op.graphVa (o : Op) : Nat := o.word2 5 % 2 ^ 48
def Op.markSrc (o : Op) : Nat := o.field 7 1 0
def Op.markIndex (o : Op) : Nat := o.field 7 9 2
def Op.dropToMark (o : Op) : Bool := bitAt (o.word 7) 10
def Op.syncOut (o : Op) : Bool := bitAt (o.word 7) 11
def Op.groupSize (o : Op) : Nat := o.field 7 18 16
def Op.stallLimit (o : Op) : Nat := o.field 8 15 0

/-! ## Dispatch (17 R648) -/

/-- Step 1. -/
def State.graphFieldsOk (s : State) (r : Nat) (o : Op) : Bool :=
  o.field 4 15 8 = 0 && o.field 6 31 16 = 0 && o.field 7 31 19 = 0 && o.field 8 31 16 = 0 && (upFrom 9 7).all (fun i => o.word i = 0) &&
  o.nodeCount ≤ 32 && s.image.powerOwners.getD (visDomain o.visDie o.visStereo) 0xFF = r &&
  (match o.markSrc with
    | 2 => o.markIndex ≤ 7
    | 3 => true
    | _ => o.markIndex = 0) &&
  (!o.dropToMark || o.markSrc ≠ 0) &&
  (if o.groupId = 0 then o.groupSize = 0 else 2 ≤ o.groupSize && o.groupSize ≤ 4)

/-- Steps 3 and 4 for the node table. -/
def nodesOk (o : Op) (nodes : List (List Byte)) : Except Code Unit :=
  let l := nodes.zipIdx
  let kinds (n : Nat) : Bool := (visKind? n).any (fun k => (k == .stereo) == o.visStereo)
  if !l.all (fun x =>
      let w := wordAt x.1 0
      w / 2 ^ 10 = 0 && leAt x.1 10 2 = 0 && kinds (bitsOf w 7 0) && wordAt x.1 3 / 2 ^ x.2 = 0) then .error Codes.VIS_GRAPH_INVALID
  else if !l.all (fun x =>
      let w := wordAt x.1 0
      !bitAt w 9 || (x.2 = 0 && o.groupId ≠ 0 && (bitsOf w 7 0 = 1 || bitsOf w 7 0 = 2))) then .error Codes.VIS_GRAPH_INVALID
  else .ok ()

/-- Whether the region owns the mark source and SYNC_OUT with feature 0x02 (step 5). -/
def State.marksOwned (s : State) (r : Nat) (o : Op) : Bool :=
  let mine := BitVec.ofNat 8 (0x20 + r)
  (match o.markSrc with
    | 1 => s.dev.shared.syncInOwner = mine
    | 2 => s.dev.shared.timers.contains (o.markIndex, (r, 2))
    | _ => true) &&
  (!o.syncOut || s.dev.shared.syncOutOwner = mine)

/-- The bytes of the node table (step 2). -/
def State.nodeTable (s : State) (r : Nat) (o : Op) : Option (List (List Byte)) :=
  let n := 16 * o.nodeCount
  match s.segOf r o.graphVa n with
  | none => none
  | some g =>
    let a := g.phys o.graphVa
    if g.read && isScratch a && isScratch (a + n - 1) && scratchDie a = scratchDie (a + n - 1) && scratchSite a = scratchSite (a + n - 1) &&
        s.siteRegion? (scratchDie a) (scratchSite a) = some r then
      let bs := s.mem.gather s.free (s.linAddrs a n)
      some ((List.range o.nodeCount).map (fun i => (bs.drop (16 * i)).take 16))
    else none

/-- The checks in order: the code with which the graph ends, or its nodes. -/
def State.graphChecked (s : State) (r : Nat) (o : Op) : Except Code (List (List Byte)) :=
  if !s.graphFieldsOk r o then .error Codes.VIS_GRAPH_INVALID
  else
    match s.nodeTable r o with
    | none => .error Codes.BOUNDS
    | some nodes =>
      match nodesOk o nodes with
      | .error c => .error c
      | .ok _ =>
        if !s.marksOwned r o then .error Codes.RESOURCE_OWNED
        else if o.groupId ≠ 0 && o.preemptible then .error Codes.VIS_GRAPH_INVALID
        else .ok nodes

/-- The fault of an engine out of service, or its closed domain (23 R856, R857; 04 R109). -/
def State.engineBarred (s : State) (o : Op) : Option (Code × BitVec 16) :=
  let d := s.die o.visDie
  match (if o.visStereo then d.steFault else d.featFault) with
  | some f => some (f.code, f.faultId)
  | none => if s.serves o.accepted (visDomain o.visDie o.visStereo) then none else some (Codes.DEST_CLOSED, 0)

/-- The settings in which members of a group must agree (17 R659). -/
def Op.groupSettings (o : Op) : Nat × Nat × Nat × Nat × Bool × Nat :=
  (o.groupSize, o.frameCount, o.markSrc, o.markIndex, o.dropToMark, o.stallLimit)

/-- A member joins its group: the last one forms it, and a disagreement ends it with the members that wait (17 R658, R659). -/
def State.joinGroup (s : State) (r : Nat) (sl : Slot) : State :=
  let o := sl.op
  let all := s.visMembers r o.groupId
  let waiting := all.filter (fun m => !m.run.group.formed)
  let formed := all.any (fun m => m.run.group.formed)
  if formed || waiting.any (fun m => m.op.groupSettings ≠ o.groupSettings) || o.groupSize < waiting.length then
    (sortBy slotBefore waiting).foldl (fun s m => s.finish r m.op.queue m.op.seq Codes.VIS_GROUP_MISMATCH 0 0) s
  else if waiting.length = o.groupSize then
    waiting.foldl (fun s m => s.onGrp (m.key r) fun g => { g with formed := true, lastFlag := s.flag r o.markIndex }) s
  else s

/-- A VISION_GRAPH dispatches: it ends at once, or holds its engine (17 R648, R649, R658). -/
def State.dispatchVision (s : State) (r : Nat) (sl : Slot) : State :=
  let o := sl.op
  let start (v : VisRun) : State :=
    let s := s.dispatchMark r sl [visDomain o.visDie o.visStereo]
    let s := s.onRun r o.queue o.seq fun u =>
      { u with vis := some v, group := { formed := o.groupId = 0, lastFlag := s.flag r o.markIndex } }
    if o.groupId = 0 then s else s.joinGroup r sl
  match sl.run.vis with
  | some v =>
    match s.engineBarred o with
    | some e => s.finishNow r sl e.1 e.2
    | none =>
      let s := start v
      if o.frameCount ≤ v.frame then s.graphEnd (sl.key r) v else s
  | none =>
    if o.nodeCount = 0 ∨ o.frameCount = 0 then s.finishNow r sl Codes.OK 0
    else
      match s.graphChecked r o with
      | .error c => s.finishNow r sl c 0
      | .ok nodes =>
        match s.engineBarred o with
        | some e => s.finishNow r sl e.1 e.2
        | none =>
          match s.mem.bad (s.linAddrs (s.visPhys r o.graphVa) (16 * o.nodeCount)) with
          | some a => (s.memFault r a).finishNow r sl Codes.MEM_UNCORRECTABLE s.dev.faults.next
          | none => start { die := o.visDie, stereo := o.visStereo, nodes := nodes }

/-! ## Frames and marks -/

/-- Whether a graph is free to start a frame: it can start, and its last frame, and its group's, has ended and is released
(17 R650, R660, R666). -/
def State.betweenFrames (s : State) (r : Nat) (sl : Slot) : Bool :=
  let idle (m : Slot) : Bool := m.op.state = .running && m.run.vis.any (fun v => !v.inFrame && !v.releasing && v.frame < m.op.frameCount)
  sl.run.group.formed && idle sl && (sl.op.groupId = 0 || (s.visMembers r sl.op.groupId).all idle)

def State.onVisGroup (s : State) (r g : Nat) (f : VisGroup → VisGroup) : State :=
  s.onRAux r fun a => { a with visGroups := Tab.modify {} a.visGroups g f }

/-- The running graphs of a region. -/
def State.graphs (s : State) (r : Nat) : List Slot := (s.slots r).filter (fun sl => sl.op.type = 6 && sl.op.state = .running && sl.run.vis.isSome)

/-- A frame mark of a source and index is due at the next slot boundary (17 R651). -/
def State.dueMark (s : State) (r src index : Nat) : State := s.onRAux r fun a => { a with marksDue := (src, index, s.tick) :: a.marksDue }

/-- A frame mark arises for the graphs that a source paces: it waits for their frame, or it is missed in a frame, once for a group
(17 R651, R652). -/
def State.frameMark (s : State) (r : Nat) (paced : Op → Bool) : State :=
  let gs := (s.graphs r).filter (fun sl => paced sl.op)
  let first (sl : Slot) : Bool := sl.op.groupId = 0 || ((gs.find? (fun m => m.op.groupId = sl.op.groupId)).any (fun m => m.is sl.op.queue sl.op.seq))
  gs.foldl (fun s sl =>
    if s.betweenFrames r sl then s.onGrp (sl.key r) fun g => { g with mark := true }
    else if sl.run.group.formed && first sl then s.onVisGroup r sl.op.groupId fun g => { g with marksMissed := satAdd g.marksMissed 1 }
    else s) s

/-- SYNC_OUT is driven high for 64 hub ticks (17 R655; 20 R765). -/
def State.pulseSyncOut (s : State) : State := s.onPins fun p => { p with syncOutHigh := true }

/-- A graph, with the members of its group, starts a frame (17 R650, R655, R660). -/
def State.startFrame (s : State) (r : Nat) (sl : Slot) : State :=
  let ms := if sl.op.groupId = 0 then [sl] else s.visMembers r sl.op.groupId
  ms.foldl (fun s m =>
    let s := s.onVis (m.key r) fun v => { v with inFrame := true, node := 0, nodeState := .idle, dead := [], stream := s.groupStream r v }
    let s := s.onGrp (m.key r) fun g => { g with mark := false, waits := 0, underrun := false }
    if m.op.syncOut then s.pulseSyncOut else s) s

/-- VIS_FRAME_START (17 R650, R653, R655, R660, R666): the graph of an engine starts a frame at a slot boundary, after a mark or
with mark_src 0. -/
def execVisFrameStart (d : DieId) (stereoEngine : Bool) (s : State) : Host.Outcome State Fault Refusal :=
  .next (s.effect fun s => s.whenP s.fabricOn fun s =>
    match s.graphOn d.val stereoEngine with
    | some (k, sl, _) => s.whenP (s.atBoundary && s.betweenFrames k.1 sl && (sl.op.markSrc = 0 || sl.run.group.mark)) fun s => s.startFrame k.1 sl
    | none => s)

/-- Whether a timer stands at a multiple of its period, counted from the write that set it, which is no multiple itself (17 R651, R671; log
119). -/
def State.timerMark (s : State) (r n : Nat) : Bool :=
  let a := (s.region r).aux
  let p := (Tab.get 0 a.timerPeriod n).toNat
  let d := (s.tick - Tab.get 0 a.timerWrite n).toNat
  p ≠ 0 && d ≠ 0 && d % p = 0

/-- FRAME_MARK_TIMER (17 R651, R671): a region tick timer that the region owns for frame marks reaches a multiple of its period. -/
def execFrameMarkTimer (r : RegionId) (n : Fin 8) (s : State) : Host.Outcome State Fault Refusal :=
  .next (s.effect fun s =>
    s.whenP (s.fabricOn && s.dev.shared.timers.contains (n.val, (r.val, 2)) && s.timerMark r.val n.val) fun s => s.dueMark r.val 2 n.val)

/-- SYNC_OUT_PULSE_END (17 R655; 20 R765): SYNC_OUT returns low 64 hub ticks after it was driven high. -/
def execSyncOutPulseEnd (s : State) : Host.Outcome State Fault Refusal :=
  .next (s.devEffect fun s => s.onPins fun p => { p with syncOutHigh := false })

/-- REGION_VIS_TIMER_WRITE (17 R671): sets a timer's period; ignored from a region that does not own the timer for frame marks. -/
def execRegionVisTimerWrite (f : FnId) (r : RegionId) (n : Fin 8) (v : Word) (s : State) : Host.Outcome State Fault Refusal :=
  .next (s.effect fun s => s.whenP (s.reaches f.val r.val && s.dev.shared.timers.contains (n.val, (r.val, 2))) fun s =>
    s.onRAux r.val fun a => { a with timerPeriod := Tab.set a.timerPeriod n.val v, timerWrite := Tab.set a.timerWrite n.val s.tick })

/-! ## Boundaries of a region's graphs -/

/-- The marks that arise at a boundary: of an edge of SYNC_IN before it, of a timer up to it, and of watched flags, whose value after the
boundary's updates differs from the one before. Those of one source and index count as one (17 R651). -/
def State.boundaryMarks (s : State) (r : Nat) : State :=
  let arises (m : Nat × Nat × Word64) : Bool := m.1 ≠ 1 || m.2.2 ≠ s.tick
  let due := (s.region r).aux.marksDue
  let srcs := ((due.filter arises).map (fun m => (m.1, m.2.1))).eraseDups
  let s := s.onRAux r fun a => { a with marksDue := due.filter (fun m => !arises m) }
  let s := srcs.foldl (fun s m => s.frameMark r (fun o => o.markSrc = m.1 && o.markIndex = m.2)) s
  let changed (sl : Slot) : Bool := sl.op.markSrc = 3 && s.flag r sl.op.markIndex ≠ sl.run.group.lastFlag
  let flags := dedupNat (((s.graphs r).filter changed).map (·.op.markIndex))
  let s := flags.foldl (fun s n => s.frameMark r (fun o => o.markSrc = 3 && o.markIndex = n)) s
  (s.graphs r).foldl (fun s sl => s.onGrp (sl.key r) fun g => { g with lastFlag := s.flag r sl.op.markIndex }) s

/-- Rows of a dropped frame's group stream are released as they are filled, up to its height; a last dropped frame then ends the
graph (17 R665, R666). -/
def State.releaseDropped (s : State) (r : Nat) (sl : Slot) : State :=
  match sl.run.vis with
  | some v =>
    if !v.releasing then s
    else
      let k := sl.key r
      match v.stream with
      | none =>
        let v := { v with releasing := false }
        let s := s.onVis k fun _ => v
        if sl.op.frameCount ≤ v.frame then s.graphEnd k v else s
      | some t =>
        let n := min t.height ((s.flag r t.fill - t.r0).toNat)
        let s := s.visAdd r v t.release (n - t.released)
        if t.height ≤ max n t.released then
          let v := { v with releasing := false, stream := none }
          let s := s.onVis k fun _ => v
          if sl.op.frameCount ≤ v.frame then s.graphEnd k v else s
        else s.onVis k fun v => { v with stream := some { t with released := max n t.released } }
  | none => s

/-- Whether the running node reads its next source row now: a PYRAMID that waits to write does not. -/
def VisRun.wantsRow (v : VisRun) : Bool :=
  let src := planeAt v.params 0
  match nodeKind v v.node with
  | some .pyramid => v.rowsOut < (planeAt v.params 4).height && v.taken.length ≤ min (2 * v.rowsOut + 2) (src.height - 1)
  | _ => v.taken.length < src.height

/-- The row for which a member waits under R661. -/
def State.waitedRow (s : State) (r : Nat) (sl : Slot) : Option Nat :=
  match sl.run.vis with
  | some v =>
    if v.inFrame && v.nodeState = .waitRow && nodeGroup v v.node && v.wantsRow &&
        !s.groupFilled r sl.op.groupId v.taken.length then some v.taken.length else none
  | none => none

/-- Members whose group stream has, or lacks, row y. -/
def State.streamsHolding (s : State) (r g y : Nat) (has : Bool) : List Slot :=
  (s.visMembers r g).filter (fun sl => sl.run.vis.any (fun v => v.inFrame &&
    v.stream.any (fun t => (t.height ≤ y || s.filled r t.fill t.r0 y) == has)))

/-- The row at which the present boundary is a waiting boundary of a group (17 R662): the lowest one. -/
def State.waitingRow (s : State) (r g : Nat) : Option Nat :=
  let ys := (s.visMembers r g).filterMap (s.waitedRow r)
  (sortBy (fun (a b : Nat) => a < b) ys).find? (fun y => s.streamsHolding r g y true ≠ [] && s.streamsHolding r g y false ≠ [])

/-- Counts waiting boundaries of a group. -/
def State.countWaits (s : State) (r g : Nat) : State :=
  let w := s.waitingRow r g
  (s.visMembers r g).foldl (fun s sl => s.onGrp (sl.key r) fun x =>
    if w.isSome then { x with waits := x.waits + 1 } else { x with waits := 0, underrun := false }) s

/-- What a slot boundary does to a region's graphs, after its flag updates. -/
def State.visBoundary (s : State) (r : Nat) : State :=
  let s := s.boundaryMarks r
  let s := (s.graphs r).foldl (fun s sl => s.releaseDropped r sl) s
  (upFrom 1 15).foldl (fun s g => if s.visMembers r g = [] then s else s.countWaits r g) s

/-! ## Underruns (17 R662-R666) -/

/-- A member drops its frame: its node stops, and its group stream's rows are released (17 R665). A member that has ended the frame `f` had
released its rows; the frame counts as dropped for it too. -/
def State.dropFrame (s : State) (r f : Nat) (sl : Slot) : State :=
  match sl.run.vis with
  | some v =>
    if !v.inFrame then
      s.whenP (v.frame = f + 1 && !v.releasing) fun s => s.onVis (sl.key r) fun v => { v with completed := v.completed - 1, dropped := v.dropped + 1 }
    else
      let s := s.onVis (sl.key r) fun v =>
        { v with inFrame := false, nodeState := .idle, taken := [], rowsOut := 0, rowsReleased := 0, frame := v.frame + 1
                 dropped := v.dropped + 1, releasing := true }
      match s.slotOf r sl.op.queue sl.op.seq with
      | some m => s.releaseDropped r m
      | none => s
  | none => s

/-- VIS_GROUP_UNDERRUN (17 R662-R666): a run of stall_limit + 1 waiting boundaries of a group ends in an underrun. -/
def execVisGroupUnderrun (r : RegionId) (g : Fin 16) (s : State) : Host.Outcome State Fault Refusal :=
  .next (s.effect fun s => s.whenP s.fabricOn fun s =>
    let ms := s.visMembers r.val g.val
    match ms, s.waitingRow r.val g.val with
    | m :: _, some y =>
      s.whenP (s.atBoundary && g.val ≠ 0 && m.op.stallLimit + 1 = m.run.group.waits && !m.run.group.underrun) fun s =>
        let lack := ((s.streamsHolding r.val g.val y false).filterMap (fun sl => sl.run.vis.map (·.die))).foldl min 1
        let s := ms.foldl (fun s sl => s.onGrp (sl.key r.val) fun x => { x with underrun := true }) s
        let s := s.onVisGroup r.val g.val fun c =>
          { c with underruns := satAdd c.underruns 1, framesDropped := if m.op.dropToMark then satAdd c.framesDropped 1 else c.framesDropped }
        let s := s.regionEvent r.val 3 Codes.VIS_GROUP_UNDERRUN (g.val + lack * 2 ^ 4 + y % 2 ^ 13 * 2 ^ 5)
        let f := ((ms.filterMap (·.run.vis)).find? (·.inFrame)).elim 0 (·.frame)
        if m.op.dropToMark then ms.foldl (fun s sl => s.dropFrame r.val f sl) s else s
    | _, _ => s)

/-! ## Preemption (17 R657) -/

/-- Whether a running graph stands at a preemption point: between frames, waiting for a mark, or stalled. -/
def VisRun.canStop (v : VisRun) : Bool := !v.inFrame || v.nodeState = .waitRow

/-- A graph is preempted: a frame in progress is lost (17 R657). -/
def State.preemptVision (s : State) (k : OpKey) : State :=
  let s := s.onVis k fun v =>
    { v with frame := if v.inFrame then v.frame + 1 else v.frame, inFrame := false, nodeState := .idle, taken := [], rowsOut := 0, rowsReleased := 0, stream := none }
  s.onGrp k fun g => { g with mark := false }

end Sys2Proof.Machine
end

