-- ==== Sys2Proof/Machine/Revoke.lean ====
section
/-!
DEFINITION. Owner epochs and revocation (23 R847-R855, R867): the request, the operations of the old epoch, where each of them
stops, and the resource's reset state.
-/
namespace Sys2Proof.Machine

/-! ## The argument (23 R855, R867) -/

/-- Bits that an argument of a kind may set, of arg shifted to bit 0: bit i of arg is bit i + 8 of the register. -/
def revokeMask (kind : Nat) : Nat :=
  match kind with
  | 0 => 0x3F
  | 1 => 0xFFF
  | 2 => 0xFF
  | 3 => 0x3FFFFFFFFF
  | 4 => 0x7FFFF
  | _ => 0

/-- Whether an argument names a resource of the region, apart from the occupied task slot of kind 3. -/
def State.revokeNames (s : State) (r kind arg : Nat) : Bool :=
  match kind with
  | 0 => decide (arg % 64 < s.queueCount r)
  | 1 =>
    let site := arg % 256
    let die := arg / 256 % 2
    s.siteRegion? die site = some r &&
      s.fab.body.windows.any (fun w => w.die = die && w.site = site && w.num = arg / 512 && w.length ≠ 0)
  | 2 => true
  | 3 => decide (arg % 64 < s.queueCount r)
  | 4 => s.fab.body.edges.any (fun e =>
      e.region = r && e.die = arg % 2 && e.router = arg / 2 % 32 && e.slot = arg / 64 % 4096 && e.dirIn == bitAt arg 18)
  | 5 => true
  | _ => false

/-- A write of REGION_REVOKE_CMD with kind `kind` (23 R848, R854, R855): ignored while busy; a bad argument completes at once. -/
def State.revoke (s : State) (r kind : Nat) (v : Word64) : State :=
  let arg := bitsOf v.toNat 63 8
  if (s.region r).rev.busy then s
  else if bitsOf v.toNat 7 4 = 0 && arg = Nat.land arg (revokeMask kind) && s.revokeNames r kind arg then
    s.onRev r fun x => { x with busy := true, result := Codes.OK, pending := some { kind := kind, arg := arg } }
  else s.onRev r fun x => { x with result := Codes.REVOKE_BAD_ARG }

/-! ## Operations of the old epoch (23 R847) -/

/-- Whether scratchpad pieces of a site meet a window. -/
def windowMeets (w : Window) (k : Nat) (ps : List (Nat × Nat)) : Bool :=
  k = siteKey w.die w.site && ps.any (fun p => p.1 < w.base + w.length && w.base < p.2)

/-- Whether a side of a copy has a byte in a window. -/
def State.sideInWindow (s : State) (r : Nat) (o : Op) (w : Window) (x : Side) : Bool :=
  match s.sideSeg r x o with
  | some g => (s.place x o g).pieces.any (fun p =>
      let lo := scratchAddr w.die w.site w.base
      p.1 < lo + w.length && lo < p.2)
  | none => false

/-- The nodes of a running graph with their parameter blocks. -/
def State.graphBlocks (s : State) (r : Nat) (v : VisRun) : List (VisKind × List Byte) :=
  (List.range v.nodes.length).filterMap (fun i =>
    match nodeKind v i, (if v.inFrame && i = v.node && v.params ≠ [] then some v.params else s.visBlock r (nodeParams v i)) with
    | some k, some b => some (k, b)
    | _, _ => none)

/-- Whether an operation has an area in a window. -/
def State.opInWindow (s : State) (r : Nat) (sl : Slot) (w : Window) : Bool :=
  let o := sl.op
  match o.desc? with
  | some .copy =>
    !o.copyEmpty && ((!o.srcHost && s.sideInWindow r o w o.src) || (!o.dstHost && s.sideInWindow r o w o.dst))
  | some .anneal | some .sample =>
    let ks := s.annealSites r o
    ks.any (fun k =>
      let as := o.areas (some k = ks.head?)
      (as.1 ++ as.2).any (fun a => a.2 ≠ 0 && windowMeets w k (s.areaPieces k a)))
  | some .matrix =>
    let k := o.matSite
    let q : Quant := match sl.run.matrix with
      | some m => m.quant
      | none => if o.readsQuant then s.areaBytes k o.quantOff 64 else []
    let as := o.inAreas ++ o.quantArea ++ o.outArea q ++ o.saveArea ++ (if o.readsQuant then Quant.tables q o else [])
    as.any (fun a => windowMeets w k (s.pieces k a))
  | some .visionGraph =>
    sl.run.vis.any (fun v => (s.graphBlocks r v).any (fun n => (visOperands n.1 n.2).any (fun x =>
      (s.visPieces r x).any (fun p => windowMeets w p.1 [p.2]))))
  | _ => false

/-- The flags that a node's parameter block names. -/
def nodeFlags (k : VisKind) (b : List Byte) : List Nat :=
  (if bitAt (wordAt b 14) 8 then [bitsOf (wordAt b 14) 7 0] else []) ++
  (visOperands k b).flatMap (fun x => match x with
    | .plane p _ _ => if p.streamed then [p.fill, p.release] else []
    | .list _ _ _ => [])

/-- The flags that an operation names. -/
def State.opFlags (s : State) (r : Nat) (sl : Slot) : List Nat :=
  let o := sl.op
  match o.desc? with
  | some .flagSet | some .flagWait => [o.field 4 7 0]
  | some .anneal | some .sample => (if o.doneEn then [o.doneFlag] else []) ++ (if o.abortEn then [o.abortFlag] else [])
  | some .visionGraph =>
    (if o.markSrc = 3 then [o.markIndex] else []) ++
      ((sl.run.vis.map (fun v => (s.graphBlocks r v).flatMap (fun n => nodeFlags n.1 n.2))).getD [])
  | _ => []

/-- The routes of a running operation's packets. -/
def State.opRoutes (s : State) (r : Nat) (sl : Slot) : List Nat :=
  let o := sl.op
  if sl.op.state ≠ .running then []
  else match o.desc? with
  | some .copy =>
    match s.copyPlaced r o with
    | .ok (sp, dp) =>
      let die := o.engineDie
      let x := edgeRouter die o.engine
      let at_ (a : Nat) (isSrc : Bool) : List (Option Nat) :=
        if isScratch a then
          let y := siteRouter (scratchDie a) (scratchSite a)
          s.pathRoute r x y :: (if isSrc then [s.pathRoute r y x] else [])
        else [s.dramRoute r die x a]
      let side (p : Option Placed) (y : Side) (isSrc : Bool) : List (Option Nat) :=
        match p with
        | some p => (p.pages y o).flatMap (fun a => at_ a isSrc)
        | none => [s.findRoute r (fun l => routeFrom l x && l.any (fun t => t.hubOut && t.router = x)),
                   s.findRoute r (fun l => routeTo l x && l.any (fun t => t.hubIn && t.router = x))]
      (side sp o.src true ++ side dp o.dst false).filterMap id
    | .error _ => []
  | some .task =>
    s.dev.noc.queues.filterMap (fun e =>
      if e.1 / 65536 = r && e.2.any (fun p => p.queue = o.queue && p.seq = o.seq) then some (e.1 % 65536) else none)
  | some .anneal | some .sample =>
    let ks := s.annealSites r o
    ks.flatMap (fun k => (s.imports k ++ s.exports k).map (·.route)) ++ ((s.treeOf r ks).map (fun t => t.edges.flatMap (fun e => [e.1, e.2]))).getD []
  | some .matrix =>
    match s.outTable o with
    | some t => if o.outKind = 3 then t.entries.filterMap (fun e =>
        s.pathRoute r (siteRouter t.die t.site) (siteRouter e.die e.site)) else []
    | none => []
  | some .visionGraph =>
    (sl.run.vis.map (fun v => (s.graphBlocks r v).flatMap (fun n => (visOperands n.1 n.2).flatMap (fun x =>
      let a := s.visPhys r x.base
      let eng : Router := (v.die, 3, b2n v.stereo)
      let y := siteRouter (scratchDie a) (scratchSite a)
      (s.pathRoute r eng y).toList ++ (s.pathRoute r y eng).toList)))).getD []
  | _ => []

/-- The route that a stream slot serves. -/
def State.slotRoute (s : State) (r arg : Nat) : Option Nat :=
  (s.fab.body.edges.find? (fun e =>
    e.region = r && e.die = arg % 2 && e.router = arg / 2 % 32 && e.slot = arg / 64 % 4096 && e.dirIn == bitAt arg 18)).map (·.route)

/-- The bytes of the rows of a SOFTMAX that a thread runs, or is stalled on. -/
def State.softmaxBytes (s : State) (r k th : Nat) : List Nat :=
  let x := s.thread k th
  let rows (w : Nat) : List Nat := match s.rowAreas k r (x.row w) with
    | .ok a => a.1 ++ a.2.1 ++ a.2.2
    | .error _ => []
  match x.state, (s.site k).sfu.holder with
  | .softmax, some h => rows (rowWord h)
  | .stallSfu word, _ => if wOp word.toNat = 0xA8 then rows word.toNat else []
  | _, _ => []

/-- Whether a stalled or outstanding access of a thread lies in a window. -/
def State.threadInWindow (s : State) (r : Nat) (w : Window) (k th : Nat) : Bool :=
  let inside (l : List Nat) : Bool := l.any (fun a => isScratch a && windowMeets w (siteKey (scratchDie a) (scratchSite a)) [(scratchOff a, scratchOff a + 1)])
  let queued := s.dev.noc.queues.any (fun e => e.1 / 65536 = r && e.2.any (fun p => p.src = k && p.thread = th && inside p.addrs))
  let stalled := match (s.thread k th).state with
    | .stallSend _ word =>
      let op := wOp word.toNat
      match s.threadAddrs r ((s.thread k th).address (wRa word.toNat) (wImm word.toNat)) (memSize op) (accessKindOf (memKindOf op)) with
      | .ok l => inside l
      | .error _ => false
    | _ => false
  queued || stalled || inside (s.softmaxBytes r k th)

/-- The threads of the old epoch: those with an access in the window, or waiting on the flag. -/
def State.oldThreads (s : State) (r : Nat) (v : Revocation) : List (Nat × Nat) :=
  (s.taskThreads r).filter (fun t =>
    match v.kind with
    | 1 =>
      s.fab.body.windows.any (fun w => w.die = v.arg / 256 % 2 && w.site = v.arg % 256 && w.num = v.arg / 512 && s.threadInWindow r w t.1 t.2)
    | 2 => (match (s.thread t.1 t.2).state with
      | .stallFlag f _ _ => f = v.arg
      | _ => false)
    | _ => false)

/-- The operations of the old epoch in task slots. -/
def State.oldOps (s : State) (r : Nat) (v : Revocation) : List Slot :=
  let held (sl : Slot) : Bool := (s.oldThreads r v).any (fun t =>
    let x := s.thread t.1 t.2
    x.queue = sl.op.queue && x.seq = sl.op.seq)
  (s.slots r).filter (fun sl =>
    match v.kind with
    | 0 => sl.op.queue = v.arg % 64
    | 1 => held sl || s.fab.body.windows.any (fun w =>
        w.die = v.arg / 256 % 2 && w.site = v.arg % 256 && w.num = v.arg / 512 && s.opInWindow r sl w)
    | 2 => held sl || (s.opFlags r sl).contains v.arg
    | 3 => sl.op.queue = v.arg % 64 && sl.op.seq.toNat = v.arg / 64
    | 4 => (match s.slotRoute r v.arg with
      | some id => (s.opRoutes r sl).contains id
      | none => false)
    | _ => true)

/-! ## Stopping the old epoch (23 R850) -/

/-- Notes what cut an operation off, and latches its end. -/
def State.cutEnd (s : State) (k : OpKey) (status : Code) (fault : BitVec 16) : State := (s.note k status fault).latchEnd k Codes.OK 0

/-- A running COPY is cut off: how many of its bytes had reached the destination, in the order of R297, is a free value, and a host source's
bytes are free values too. It ends with the status and fault ID given, or one noted before that comes first. -/
def State.cutCopy (s : State) (r : Nat) (sl : Slot) (status : Code) (fault : BitVec 16) : State :=
  let k := sl.key r
  let o := sl.op
  let free (i : Nat) : Nat := s.freeVal i
  let s := s.bump
  match s.copyPlaced r o with
  | .error _ => s.cutEnd k status fault
  | .ok (sp, dp) =>
    let n := o.planesN * o.rowsN * o.word 8
    let rd : State × List (Option Byte) := match sp with
      | some p => s.unitRead k (p.addrs o.src o)
      | none => (s, (List.range n).map (fun i => some (BitVec.ofNat 8 (free (2 * i + 1)))))
    let s := rd.1
    let moved := (o.copyOrder sp dp).take (free 0 % (n + 1))
    let chosen : List (Option Byte) := rd.2.zipIdx.map (fun b => if moved.contains b.2 then b.1 else none)
    match dp with
    | some p =>
      let w := s.unitWrite k (((p.addrs o.dst o).zip chosen).filterMap (fun q => q.2.map (fun v => (q.1, v))))
      let s := w.1.onRec k.1 k.2.1 k.2.2 fun c => c.addTensor 0 (chosen.map (fun b => b.getD 0))
      s.cutEnd k status fault
    | none =>
      let cells : List (Nat × Byte) :=
        if s.hostAllowed r then ((o.dst.bytes o).zip chosen).filterMap (fun q => q.2.map (fun v => (q.1 % 2 ^ 64, v))) else []
      let s : State := { s with hostMem := cells.foldl (fun (l : List Host.Cell) (c : Nat × Byte) => putCell l c.1 c.2) s.hostMem }
      let s := s.onRec k.1 k.2.1 k.2.2 fun c => c.addTensor 0 (chosen.map (fun b => b.getD 0))
      s.cutEnd k status fault

/-- Every thread of a task takes the trap REVOKED; its task ends by 09 R309 and R310. -/
def State.revokeTask (s : State) (r : Nat) (sl : Slot) (t : TaskRun) : State :=
  match t.threads.head? with
  | some (k, th) => if t.trap.isSome then s else s.trapOf (sl.key r) k th Codes.REVOKED 0
  | none => s.latchEnd (sl.key r) Codes.REVOKED 0

/-- Whether a MATRIX lies in the shadow set, and so drains. -/
def State.drains (s : State) (r : Nat) (sl : Slot) : Bool := (s.site sl.op.matSite).mat.shadow = some (sl.key r)

/-- A running MATRIX stops at its preemption point, or after its drain row in progress; a combine has no such point and runs on to its
end (13 R536; 23 R850). -/
def State.revokeMatrix (s : State) (r : Nat) (sl : Slot) (m : MatRun) : State :=
  let k := sl.key r
  if s.drains r sl then
    (s.onSite sl.op.matSite fun x => { x with mat := { x.mat with shadow := none } }).drainCut k sl.op m Codes.REVOKED
  else if sl.op.matKind = .combine && !m.accDone then s.note k Codes.REVOKED 0
  else s.matStop sl.op.matSite k Codes.REVOKED

/-- A running VISION_GRAPH stops with its node; nothing more is written. -/
def State.revokeVision (s : State) (r : Nat) (sl : Slot) : State :=
  let k := sl.key r
  (s.onVis k fun v => { v with inFrame := false, nodeState := .idle, stream := none, releasing := false }).latchEnd k Codes.REVOKED 0

/-- Stops one operation of the old epoch: at once where it does not run on a unit, otherwise where R850 says. -/
def State.revokeOp (s : State) (r : Nat) (sl : Slot) : State :=
  let o := sl.op
  let now := s.finish r o.queue o.seq Codes.REVOKED 0 0
  match o.state with
  | .waiting | .ready => now
  | .preempted =>
    let p := firstStatus o.onSpins (Codes.REVOKED, 0) (sl.rec_.pendingStatus, sl.rec_.pendingFault)
    s.finish r o.queue o.seq p.1 0 p.2
  | .latched => s
  | .running =>
    match o.desc? with
    | some .copy => s.cutCopy r sl Codes.REVOKED 0
    | some .task => match sl.run.task with
      | some t => s.revokeTask r sl t
      | none => now
    | some .anneal | some .sample => s.annealStop (sl.key r) Codes.REVOKED
    | some .matrix => match sl.run.matrix with
      | some m => s.revokeMatrix r sl m
      | none => now
    | some .visionGraph => s.revokeVision r sl
    | _ => now

/-! ## Applying a revocation (23 R848) and its end (23 R851, R854) -/

/-- Advances an owner epoch modulo 2^16. -/
def bumpEpoch (l : List (Nat × Nat × BitVec 16)) (kind arg : Nat) : List (Nat × Nat × BitVec 16) :=
  let old := ((l.find? (fun e => e.1 = kind && e.2.1 = arg)).map (·.2.2)).getD 0
  (kind, arg, old + 1) :: l.filter (fun e => !(e.1 = kind && e.2.1 = arg))

/-- The count of a resource's own revocations. -/
def State.ownEpoch (s : State) (r kind arg : Nat) : BitVec 16 :=
  (((s.region r).rev.epochs.find? (fun e => e.1 = kind && e.2.1 = arg)).map (·.2.2)).getD 0

/-- The owner epoch of a resource: its own revocations and those of every resource of the region (23 R847, R848). -/
def State.epoch (s : State) (r kind arg : Nat) : BitVec 16 :=
  if kind = 5 then s.ownEpoch r 5 0 else s.ownEpoch r kind arg + s.ownEpoch r 5 0

/-- Applies the region's requested revocation at a slot boundary. -/
def State.applyRevocation (s : State) (r : Nat) : State :=
  match (s.region r).rev.pending with
  | none => s
  | some v =>
    if v.applied then s
    else if v.kind = 3 && (s.oldOps r v).isEmpty then
      s.onRev r fun x => { x with busy := false, result := Codes.REVOKE_BAD_ARG, pending := none }
    else
      let old := sortBy slotBefore (s.oldOps r v)
      let s := s.onRev r fun x =>
        { x with epochs := bumpEpoch x.epochs v.kind v.arg
                 pending := some { v with applied := true, old := old.map (fun sl => (sl.op.queue, sl.op.seq)) } }
      let s := if v.kind = 0 || v.kind = 5 then s.onSched r fun g =>
          { g with fetches := g.fetches.filter (fun f => v.kind = 0 && f.queue ≠ v.arg % 64) }
        else s
      old.foldl (fun s sl => s.revokeOp r sl) s

/-- A queue in its reset state: disabled; its pointers are set when it is next enabled (09 R325). -/
def Queue.revoked (q : Queue) : Queue := { q with enable := false }

/-- The resource's reset state once its old epoch has completed (23 R851). -/
def State.resetResource (s : State) (r : Nat) (v : Revocation) : State :=
  match v.kind with
  | 0 => s.onQueue r (v.arg % 64) Queue.revoked
  | 2 => s.onSched r fun g => { g with flags := Tab.set g.flags v.arg 0, flagUpds := g.flagUpds.filter (fun u => u.flag ≠ v.arg) }
  | 4 => match s.slotRoute r v.arg with
    | some id => s.onNoc fun n => { n with queues := Tab.erase n.queues (r * 65536 + id) }
    | none => s
  | 5 =>
    let s := s.onSched r fun g => { g with flags := [], flagUpds := [], queues := g.queues.map (fun e => (e.1, e.2.revoked)) }
    s.onNoc fun n => { n with queues := n.queues.filter (fun e => e.1 / 65536 ≠ r) }
  | _ => s

/-- Ends an applied revocation whose old operations have all completed: reset state, busy 0, REVOKE_DONE (23 R851, R854). -/
def State.revokeEnd (s : State) (r : Nat) : State :=
  match (s.region r).rev.pending with
  | some v =>
    if v.applied && v.old.all (fun p => (s.slotOf r p.1 p.2).isNone) then
      let s := s.resetResource r v
      let s := s.onRev r fun x => { x with busy := false, pending := none }
      s.regionEvent r 0 Codes.REVOKE_DONE v.kind
    else s
  | none => s

/-- Whether a queue is held by a revocation that has been applied: it fetches and accepts nothing until its reset state. -/
def State.queueHeld (s : State) (r q : Nat) : Bool :=
  (s.region r).rev.pending.any (fun v => v.applied && (v.kind = 5 || (v.kind = 0 && v.arg % 64 = q)))

/-! ## The commands -/

/-- A write of REGION_REVOKE_CMD by a function that reaches the region's window. -/
def State.revokeWrite (s : State) (f r kind : Nat) (v : Word64) : State :=
  s.effect fun s => s.whenP (s.reaches f r && v.toNat % 16 = kind) fun s => s.revoke r kind v

/-- REVOKE_QUEUE_LOCK (23 R847-R855, R867): kind 0. -/
def execRevokeQueueLock (f : FnId) (r : RegionId) (v : Word64) (s : State) : Host.Outcome State Fault Refusal :=
  .next (s.revokeWrite f.val r.val 0 v)

/-- REVOKE_WINDOW (23 R847-R855, R867): kind 1. -/
def execRevokeWindow (f : FnId) (r : RegionId) (v : Word64) (s : State) : Host.Outcome State Fault Refusal :=
  .next (s.revokeWrite f.val r.val 1 v)

/-- REVOKE_FLAG (23 R847-R855, R867): kind 2. -/
def execRevokeFlag (f : FnId) (r : RegionId) (v : Word64) (s : State) : Host.Outcome State Fault Refusal :=
  .next (s.revokeWrite f.val r.val 2 v)

/-- REVOKE_TASK_SLOT (23 R847-R855, R867): kind 3. -/
def execRevokeTaskSlot (f : FnId) (r : RegionId) (v : Word64) (s : State) : Host.Outcome State Fault Refusal :=
  .next (s.revokeWrite f.val r.val 3 v)

/-- REVOKE_STREAM_SLOT (23 R847-R855, R867): kind 4. -/
def execRevokeStreamSlot (f : FnId) (r : RegionId) (v : Word64) (s : State) : Host.Outcome State Fault Refusal :=
  .next (s.revokeWrite f.val r.val 4 v)

/-- REVOKE_REGION (23 R847-R855, R867): kind 5. -/
def execRevokeRegion (f : FnId) (r : RegionId) (v : Word64) (s : State) : Host.Outcome State Fault Refusal :=
  .next (s.revokeWrite f.val r.val 5 v)

/-- REVOKE_DONE (23 R851, R854): the last operation of a revoked epoch has completed. -/
def execRevokeDone (r : RegionId) (s : State) : Host.Outcome State Fault Refusal :=
  .next (s.effect fun s => s.whenP (s.running && !(s.region r.val).aux.resetBusy) fun s => s.revokeEnd r.val)

end Sys2Proof.Machine
end

