-- ==== Sys2Proof/Machine/Queues.lean ====
section
/-!
DEFINITION. Queues and rings: their configuration and base registers (09 R323-R326, R934), doorbells (09 R327-R329, R332),
descriptor fetch (09 R330, R331, R935; 21 R790, R791), acceptance (09 R333-R339) and readiness (09 R350-R352).
-/
namespace Sys2Proof.Machine

/-! ## What a queue holds -/

/-- Operations of a queue in task slots, outstanding fetches included (09 R330). -/
def State.queueOps (s : State) (r q : Nat) : Nat :=
  let g := (s.region r).sched
  (g.slots.filter (fun sl => sl.op.queue = q)).length + (g.fetches.filter (fun f => f.queue = q)).length

/-- Records of a queue that the present boundary still owes. -/
def State.recordsDue (s : State) (r q : Nat) : Nat := ((s.region r).sched.dues.filter (fun d => d.slot.op.queue = q && d.record)).length

/-- Whether a FENCE of the queue is pending (09 R346). -/
def State.fencePending (s : State) (r q : Nat) : Bool := (s.slots r).any (fun sl => sl.op.queue = q && sl.op.desc? = some .fence)

/-- Whether the completion ring has no entry to spare (09 R330, R380). -/
def State.cplFull (s : State) (r q : Nat) : Bool :=
  let c := s.queue r q
  2 ^ c.sizeLog2.toNat ≤ (c.cplTail + BitVec.ofNat 32 (s.recordsDue r q + s.queueOps r q) - c.cplHead).toNat

/-- The conditions of 09 R330 apart from head and tail; a queue under revocation takes nothing (23 R851). -/
def State.queueTakes (s : State) (r q : Nat) : Bool :=
  let g := (s.region r).sched
  (s.queue r q).enable && s.queueOps r q < 64 && g.slots.length + g.fetches.length < s.quota && !s.fencePending r q &&
    !s.cplFull r q && !s.queueHeld r q

/-! ## Configuration (09 R325, R326, R934) -/

/-- A ring's size exponent is legal. -/
def sizeOk (n : Nat) : Bool := 4 ≤ n && n ≤ 16

/-- A queue as it is enabled: its counts are zero, every operation accepted before counts as OK, and it keeps no digest (09 R325, R337;
22 R831). -/
def Queue.start (q : Queue) : Queue :=
  { q with tail := 0, head := 0, cplTail := 0, cplHead := 0, nextSeq := 0, history := [], enable := true, lastDigest := none }

/-- A write of REGION_QUEUE_CFG_n. -/
def State.queueCfg (s : State) (r q : Nat) (v : Word) : State :=
  let en := v.getLsbD 9
  if s.queueCount r ≤ q then s
  else if (s.queue r q).enable then (if en then s else s.onQueue r q fun c => { c with enable := false })
  else if s.queueOps r q ≠ 0 || !sizeOk (bitsOf v.toNat 4 0) then s
  else s.onQueue r q fun c =>
    let c := { c with sizeLog2 := v.extractLsb' 0 5, host := v.getLsbD 5, cplHost := v.getLsbD 6, record64 := v.getLsbD 7, threadFed := v.getLsbD 8 }
    if en then c.start else c

/-- QUEUE_CFG_WRITE (09 R323, R325, R326, R934). -/
def execQueueCfgWrite (f : FnId) (r : RegionId) (q : Fin 64) (v : Word) (s : State) : Host.Outcome State Fault Refusal :=
  .next (s.effect fun s => s.whenP (s.reaches f.val r.val) fun s => (s.queueCfg r.val q.val v).wmPass r.val)

/-- A ring after a write of its configuration: size, host bit and enable (09 R934). -/
def Ring.configure (g : Ring) (size : Nat) (host en : Bool) : Ring :=
  if g.enable then (if en then g else { g with enable := false })
  else if !sizeOk size then g
  else
    let g := { g with sizeLog2 := BitVec.ofNat 5 size, host := host }
    if en then { g with enable := true, tail := 0, head := 0, lost := 0, lostOpen := false } else g

/-- Whether a function writes a ring's registers, apart from the domain that holds them. -/
def State.ringReach (s : State) (f : Nat) : RingSel → Bool
  | .event r => s.reaches f r.val
  | .digest r => s.reaches f r.val
  | .pfEvent => f = 0 && s.pfReach true
  | .sample => f = 0 && s.pfReach false

/-- A write to a register that is held in a domain in Pewter is ignored, with REG_DOMAIN_OFF (25 R903). -/
def State.domainOff (s : State) (n offset : Nat) (run : State → State) : State :=
  if s.domState n = .pewter then s.pfEvent 6 Codes.REG_DOMAIN_OFF offset else run s

/-- The telemetry and debug domain, and the base of its block (25 R898). -/
def telDomain : Nat := 45
def telBase : Nat := 0x3200000

/-- A write of TEL_SAMPLE_CTL: the period is a field other than enable (24 R897). -/
def Tel.configure (t : Tel) (v : Word) : Tel :=
  let free := !t.ring.enable && sizeOk (bitsOf v.toNat 9 5)
  { t with ring := t.ring.configure (bitsOf v.toNat 9 5) true (v.getLsbD 0)
           unread := if t.ring.enable then t.unread else []
           periodLog2 := if free then v.extractLsb' 1 4 else t.periodLog2 }

/-- A write of a ring's configuration register. -/
def State.ringCfg (s : State) (ring : RingSel) (v : Word) : State :=
  let size := bitsOf v.toNat 4 0
  match ring with
  | .event r => (s.onSched r.val fun g => { g with evt := g.evt.configure size (v.getLsbD 5) (v.getLsbD 6) }).wmStep r.val 1
  | .digest r => s.onSched r.val fun g => { g with dig := g.dig.configure size (v.getLsbD 5) (v.getLsbD 6) }
  | .pfEvent => s.onHst fun h => { h with pfEvt := h.pfEvt.configure size true (v.getLsbD 6) }
  | .sample => s.domainOff telDomain telBase fun s => s.onTel fun t => t.configure v

/-- RING_CFG_WRITE (09 R373, R375, R934; 18 R699; 21 R806; 24 R897). -/
def execRingCfgWrite (f : FnId) (ring : RingSel) (v : Word) (s : State) : Host.Outcome State Fault Refusal :=
  .next (s.effect fun s => s.whenP (s.ringReach f.val ring) fun s => s.ringCfg ring v)

/-- A ring base: bits [5:0] read 0 (09 R934). -/
def ringBase (v : Word64) : Word64 := v &&& ~~~ 0x3F#64

/-- A write of a ring's base, ignored while the ring is enabled. -/
def Ring.rebase (g : Ring) (v : Word64) : Ring := if g.enable then g else { g with base := ringBase v }

/-- Whether a queue's base registers take a write (09 R325, R326, R934). -/
def State.baseFree (s : State) (r q : Nat) : Bool := q < s.queueCount r && !(s.queue r q).enable && s.queueOps r q = 0

/-- A write of a base register. -/
def State.baseWrite (s : State) (b : BaseSel) (v : Word64) : State :=
  match b with
  | .ring (.event r) => s.onSched r.val fun g => { g with evt := g.evt.rebase v }
  | .ring (.digest r) => s.onSched r.val fun g => { g with dig := g.dig.rebase v }
  | .ring .pfEvent => s.onHst fun h => { h with pfEvt := h.pfEvt.rebase v }
  | .ring .sample => s.domainOff telDomain (telBase + 8) fun s => s.onTel fun t => { t with ring := t.ring.rebase v }
  | .queueBase r q => s.whenP (s.baseFree r.val q.val) fun s => s.onQueue r.val q.val fun c => { c with base := ringBase v }
  | .queueCplBase r q => s.whenP (s.baseFree r.val q.val) fun s => s.onQueue r.val q.val fun c => { c with cplBase := ringBase v }

/-- Whether a function writes a base register. -/
def State.baseReach (s : State) (f : Nat) : BaseSel → Bool
  | .ring g => s.ringReach f g
  | .queueBase r _ => s.reaches f r.val
  | .queueCplBase r _ => s.reaches f r.val

/-- RING_BASE_WRITE (09 R934). -/
def execRingBaseWrite (f : FnId) (ring : BaseSel) (v : Word64) (s : State) : Host.Outcome State Fault Refusal :=
  .next (s.effect fun s => s.whenP (s.baseReach f.val ring) fun s => s.baseWrite ring v)

/-! ## Doorbells (09 R327-R329, R332) -/

/-- A write of REGION_QUEUE_DOORBELL_n. -/
def State.doorbell (s : State) (r q : Nat) (t : Word) : State :=
  let c := s.queue r q
  if s.queueCount r ≤ q || !c.enable || (s.region r).sched.noDoorbell then s
  else if c.threadFed then s.regionEvent r 1 Codes.QUE_FEEDER q
  else if (t - c.head).toNat ≤ 2 ^ c.sizeLog2.toNat && (t - c.tail).toNat < 2 ^ 31 then s.onQueue r q fun c => { c with tail := t }
  else s.regionEvent r 1 Codes.QUE_DOORBELL_OVERRUN q

/-- DOORBELL (09 R327-R329, R332). -/
def execDoorbell (f : FnId) (r : RegionId) (q : Fin 64) (t : Word) (s : State) : Host.Outcome State Fault Refusal :=
  .next (s.effect fun s => s.whenP (s.reaches f.val r.val) fun s => s.doorbell r.val q.val t)

/-! ## Fetch (09 R330, R331, R935) -/

/-- Whether a queue may fetch its next descriptor from its ring. -/
def State.mayFetch (s : State) (r q : Nat) : Bool :=
  let c := s.queue r q
  q < s.queueCount r && s.queueTakes r q && !c.threadFed && c.head ≠ c.tail && (!c.host || s.hostAllowed r)

/-- The queue that the round robin serves next (09 R331). -/
def State.nextFetch (s : State) (r : Nat) : Option Nat :=
  let n := s.queueCount r
  let from_ := match (s.region r).sched.rrLast with
    | some q => q + 1
    | none => 0
  ((List.range n).map (fun i => (from_ + i) % n)).find? (s.mayFetch r)

/-- A descriptor fetch of a queue failed: the queue stops and the failure is reported (09 R935; 21 R791). -/
def State.fetchFails (s : State) (r q : Nat) : State :=
  (s.onQueue r q fun c => { c with enable := false }).bothEvent r 1 Codes.HST_FETCH_ERROR (q + r * 2 ^ 6)

/-- The 64 bytes of a descriptor in region memory, or how their read fails (09 R935). -/
def State.ringRead (s : State) (r v : Nat) : Except (Option Nat) (List Nat) :=
  match s.segOf r v 64 with
  | none => .error none
  | some g =>
    if !g.read then .error none
    else match s.accessAddrs (g.phys v) 64 with
      | .error _ => .error none
      | .ok l =>
        match s.mem.bad l with
        | some a => .error (some a)
        | none => .ok l

/-- A queue's next descriptor is fetched: from host memory it is awaited, from region memory it is read. -/
def State.fetch (s : State) (r q : Nat) : State :=
  let c := s.queue r q
  let s := s.onSched r fun g => { g with rrLast := some q, fetchedAt := s.slotCount + 1 }
  let take (s : State) (b : Option (List Byte)) : State :=
    (s.onQueue r q fun c => { c with head := c.head + 1 }).onSched r fun g => { g with fetches := g.fetches ++ [{ queue := q, bytes := b, slot := s.slotCount }] }
  if c.host then take s none
  else
    match s.ringRead r (va48 (c.base.toNat + c.head.toNat % 2 ^ c.sizeLog2.toNat * 64)) with
    | .ok l =>
      let s := s.countCorrected l
      if l.all (fun a => s.openByte a) then take s (some (s.mem.gather s.free l)) else s.fetchFails r q
    | .error (some a) => (s.memFault r a).fetchFails r q
    | .error none => s.fetchFails r q

/-- At most one fetch of a region at a boundary. -/
def State.fetchOne (s : State) (r : Nat) : State :=
  if (s.region r).sched.fetchedAt = s.slotCount + 1 then s
  else match s.nextFetch r with
    | some q => s.fetch r q
    | none => s

/-- DESCRIPTOR_FETCH (09 R330, R331): at a slot boundary, a queue of the region that meets every condition has its next descriptor fetched. -/
def execDescriptorFetch (r : RegionId) (s : State) : Host.Outcome State Fault Refusal :=
  .next (s.effect fun s => s.whenP (s.fabricOn && s.atBoundary) fun s => s.fetchOne r.val)

/-! ## Readiness (09 R350-R352) -/

/-- What a dependency field names: none for a met one, with its status and fault ID once completed. -/
inductive Dep where
  | pending
  | done (status : Code) (fault : BitVec 16)
  deriving DecidableEq, Repr

/-- The state of the operation that a dependency names; one that the queue no longer knows completed with OK (09 R336, R337). -/
def State.dep (s : State) (r : Nat) (o : Op) (d : Nat) : Dep :=
  let seq := o.seq - BitVec.ofNat 32 d
  if (s.slotOf r o.queue seq).isSome then .pending
  else match (s.queue r o.queue).history.find? (fun h => h.1 = seq) with
    | some h => .done h.2.1 h.2.2
    | none => .done Codes.OK 0

/-- The dependencies of an operation, in field order. -/
def State.depsOf (s : State) (r : Nat) (o : Op) : List Dep := (o.deps.filter (· ≠ 0)).map (s.dep r o)

/-- Whether every dependency has completed (09 R350). -/
def State.depsMet (s : State) (r : Nat) (o : Op) : Bool := (s.depsOf r o).all (fun d => d ≠ .pending)

/-- Statuses of the dependencies that ended not OK. -/
def failedDeps (l : List Dep) : List (Code × BitVec 16) :=
  l.filterMap (fun d => match d with
    | .done c f => if c = Codes.OK then none else some (c, f)
    | .pending => none)

/-- A waiting operation becomes ready, or completes without dispatch (09 R351; 23 R845). -/
def State.markReady (s : State) (r : Nat) (sl : Slot) : State :=
  let o := sl.op
  let bad := failedDeps (s.depsOf r o)
  if bad ≠ [] && !o.runOnDepFail then
    let status := if bad.any (fun p => isCancelStatus p.1) then Codes.CANCELLED_DEPENDENCY else Codes.DEPENDENCY_FAILED
    s.finish r o.queue o.seq status 0 (((bad.find? (fun p => p.2 ≠ 0)).map (·.2)).getD 0)
  else s.onSlot r o.queue o.seq fun x =>
    { x with op := { x.op with state := .ready, readyTick := s.stamp }, rec_ := { x.rec_ with depNotOk := x.rec_.depNotOk || bad ≠ [] } }

/-- Those of these operations whose dependencies are met. -/
def State.metOf (s : State) (r : Nat) (l : List (Nat × Word)) : List (Nat × Word) :=
  l.filter (fun p => (s.slotOf r p.1 p.2).any (fun sl => s.depsMet r sl.op))

/-- Marks those of these operations that still wait. -/
def State.markAll (s : State) (r : Nat) (l : List (Nat × Word)) : State :=
  l.foldl (fun s p => match s.slotOf r p.1 p.2 with
    | some sl => if sl.op.state = .waiting then s.markReady r sl else s
    | none => s) s

/-- The waiting operations whose dependencies are met, in ascending queue and sequence. -/
def State.metNow (s : State) (r : Nat) : List (Nat × Word) :=
  (sortBy slotBefore ((s.slots r).filter (fun sl => sl.op.state = .waiting && s.depsMet r sl.op))).map (fun sl => (sl.op.queue, sl.op.seq))

/-! ## Acceptance (09 R331, R333-R339) -/

/-- Words of a descriptor. -/
def descWords (b : List Byte) : List Word := (List.range 16).map (fun i => BitVec.ofNat 32 (wordAt b i))

/-- Whether the header is valid (09 R338, R339). -/
def State.headerOk (s : State) (r : Nat) (o : Op) : Bool :=
  o.desc?.isSome && o.field 0 31 15 = 0 && (!o.wantsDigest || (s.queue r o.queue).record64) &&
    (o.timeout = 0 || (s.timeoutTimer r).isSome)

/-- The owner epochs that an operation records: its queue's, its region's, and those of the flags it names (23 R847). -/
def State.epochsOf (s : State) (r : Nat) (sl : Slot) : List (Nat × Nat × BitVec 16) :=
  [(0, sl.op.queue, s.epoch r 0 sl.op.queue), (5, 0, s.epoch r 5 0)] ++
    (s.opFlags r sl).map (fun f => (2, f, s.epoch r 2 f))

/-- A descriptor takes a task slot with the queue's next sequence number; a bad header ends it at once. -/
def State.accept1 (s : State) (r q : Nat) (b : List Byte) : State × (Nat × Word) :=
  let seq := (s.queue r q).nextSeq
  let words := descWords b
  let o : Op := { queue := q, seq := seq, words := words, order := (s.region r).sched.nextOrder, prio := bitsOf (words.headD 0).toNat 10 8 }
  let sl : Slot := { op := o }
  let sl : Slot := { sl with rec_ := { epochs := s.epochsOf r sl } }
  let s := s.onQueue r q fun c => { c with nextSeq := c.nextSeq + 1 }
  let s := s.onSched r fun g => { g with slots := g.slots ++ [sl], nextOrder := g.nextOrder + 1 }
  let s := s.wmStep r 0
  (if s.headerOk r o then s else s.finish r q seq Codes.DESC_INVALID 0 0, (q, seq))

/-- Whether a fetched descriptor has arrived: its bytes are here, and its fetch was made at an earlier boundary. -/
def Fetch.arrived (f : Fetch) (now : Nat) : Bool := f.bytes.isSome && f.slot < now

/-- The ring descriptors that have arrived are accepted, in the order of their fetches. -/
def State.acceptFetched (s : State) (r : Nat) : State × List (Nat × Word) :=
  let fs := (s.region r).sched.fetches.filter (·.arrived s.slotCount)
  let s := s.onSched r fun g => { g with fetches := g.fetches.filter (fun f => !f.arrived s.slotCount) }
  fs.foldl (fun p f => let t := p.1.accept1 r f.queue (f.bytes.getD []); (t.1, p.2 ++ [t.2])) (s, [])

/-- The host's bytes reach the oldest awaited fetch of a region. -/
def landFetch (b : List Byte) : List Fetch → List Fetch
  | [] => []
  | f :: t => if f.bytes.isNone then { f with bytes := some b } :: t else f :: landFetch b t

/-- The host's bytes reach the oldest awaited fetch of a region. What has arrived is accepted, and with its dependencies met ready; where an
issue has been accepted at this boundary already, it waits for the next one (09 R331). -/
def State.arrive (s : State) (r : Nat) (b : List Byte) : State :=
  let s := s.onSched r fun g => { g with fetches := landFetch b g.fetches }
  if (s.region r).sched.issuedAt = s.slotCount + 1 then s
  else
    let t := s.acceptFetched r
    t.1.markAll r (t.1.metOf r t.2)

/-- DESCRIPTOR_ACCEPT (09 R331, R335-R339, R351): the bytes of the oldest fetch from host memory have arrived by a slot boundary. -/
def execDescriptorAccept (r : RegionId) (bytes : List Byte) (s : State) : Host.Outcome State Fault Refusal :=
  if bytes.length ≠ 64 then .refused .illFormed
  else .next (s.effect fun s => s.whenP (s.fabricOn && s.atBoundary && (s.region r.val).sched.fetches.any (fun f => f.bytes.isNone)) fun s =>
    (s.arrive r.val bytes).flushDues r.val)

/-- Threads of a region that stall on an issue, in the order of 09 R334. -/
def State.issuers (s : State) (r : Nat) : List (Nat × Nat) :=
  sortBy (fun (a b : Nat × Nat) => a.1 < b.1 || (a.1 = b.1 && a.2 < b.2))
    ((s.taskThreads r).filter (fun t => match (s.thread t.1 t.2).state with
      | .stallIssue _ _ => s.taskRuns t.1 t.2
      | _ => false))

/-- A stalled issue: it traps where its queue is enabled for a ring, and is accepted once the queue takes it (09 R332, R333). -/
def State.issue1 (s : State) (r : Nat) (t : Nat × Nat) : State × List (Nat × Word) :=
  match (s.thread t.1 t.2).state with
  | .stallIssue q b =>
    let c := s.queue r q
    if c.enable && !c.threadFed then
      ((s.onThread t.1 t.2 fun x => { x with state := .running }).trap t.1 t.2 Codes.QUE_FEEDER 0, [])
    else if s.queueTakes r q then
      let s := s.onThread t.1 t.2 fun x => { x with state := .running, pc := x.pc + 8 }
      let s := s.onSched r fun g => { g with issuedAt := s.slotCount + 1 }
      let p := s.accept1 r q b
      (p.1, [p.2])
    else (s, [])
  | _ => (s, [])

/-- Every stalled issue of a region, in order. -/
def State.acceptIssues (s : State) (r : Nat) : State × List (Nat × Word) :=
  (s.issuers r).foldl (fun p t => let u := p.1.issue1 r t; (u.1, p.2 ++ u.2)) (s, [])

/-- The queue on which a thread's issue stalls. -/
def State.issueQueue (s : State) (t : Nat × Nat) : Option Nat :=
  match (s.thread t.1 t.2).state with
  | .stallIssue q _ => some q
  | _ => none

/-- Whether a thread's issue is the next of its queue, and no ring descriptor that has arrived comes before it (09 R331, R334). -/
def State.issueTurn (s : State) (r : Nat) (t : Nat × Nat) : Bool :=
  !(s.region r).sched.fetches.any (·.arrived s.slotCount) && (s.issuers r).find? (fun u => s.issueQueue u = s.issueQueue t) = some t

/-- ISSUE_ACCEPT (09 R331-R334): at a slot boundary, a thread's issued descriptor is accepted, or traps with QUE_FEEDER. -/
def execIssueAccept (t : Tid) (s : State) : Host.Outcome State Fault Refusal :=
  .next (s.effect fun s =>
    let k := tidKey t
    let r := (s.thread k t.th.val).region
    s.whenP (s.fabricOn && s.atBoundary && s.issueTurn r (k, t.th.val)) fun s =>
      let p := s.issue1 r (k, t.th.val)
      (p.1.markAll r (p.1.metOf r p.2)).flushDues r)

end Sys2Proof.Machine
end

