-- ==== Sys2Proof/Machine/Scheduler.lean ====
section
/-!
DEFINITION. The scheduler (09 R349-R370): the decision of a slot boundary, preemption, cancellation, priority changes, timeouts,
and the descriptors' dispatch.
-/
namespace Sys2Proof.Machine

/-! ## Units (09 R338, R353) -/

/-- What an operation runs on: hardware threads of a site, a copy engine for a region, the array or the spin part of a site, or a
vision engine. -/
inductive UnitId where
  | threads (site : Nat)
  | engine (region die index : Nat)
  | array (site : Nat)
  | vision (die : Nat) (stereo : Bool)
  | spin (site : Nat)
  deriving DecidableEq, Repr

/-- The units that an operation needs; a TASK that ends at its dispatch needs none. -/
def State.unitsOf (s : State) (r : Nat) (sl : Slot) : List UnitId :=
  let o := sl.op
  match o.desc? with
  | some .copy => [.engine r o.engineDie o.engine]
  | some .task => if (s.taskRefused r o).isSome then [] else dedupNat ((s.taskPlaces r sl).map (·.1) ++ s.taskSites r o) |>.map .threads
  | some .anneal | some .sample => (s.annealSites r o).map .spin
  | some .matrix => [.array o.matSite]
  | some .visionGraph => [.vision o.visDie o.visStereo]
  | _ => []

/-- Whether an operation holds its unit. -/
def Slot.holds (sl : Slot) : Bool := sl.op.state = .running || sl.op.state = .latched

/-- Whether a unit is free; threads are looked at for the whole TASK. -/
def State.unitFree (s : State) : UnitId → Bool
  | .threads _ => true
  | .engine r d e => !(s.slots r).any (fun sl => sl.holds && sl.op.desc? = some .copy && sl.op.engineDie = d && sl.op.engine = e)
  | .array k => (s.site k).mat.array.isNone
  | .vision d st => !s.regionIds.any (fun r => (s.slots r).any (fun sl =>
      sl.holds && sl.op.desc? = some .visionGraph && sl.op.visDie = d && sl.op.visStereo == st))
  | .spin k => (s.site k).spin.op.isNone

/-- Whether an operation's unit is free. -/
def State.canTake (s : State) (r : Nat) (sl : Slot) : Bool :=
  (s.unitsOf r sl).all s.unitFree &&
    (sl.op.desc? ≠ some .task || (s.taskRefused r sl.op).isSome || s.taskFits r sl)

/-- The ready order (09 R353): priority descending, ready tick, queue and sequence ascending. -/
def readyBefore (a b : Slot) : Bool :=
  b.op.prio < a.op.prio || (a.op.prio = b.op.prio &&
    (a.op.readyTick.toNat < b.op.readyTick.toNat || (a.op.readyTick = b.op.readyTick && slotBefore a b)))

/-- The operations of the ready order; a pending FENCE blocks every later one of its queue (09 R354). -/
def State.readyOps (s : State) (r : Nat) : List Slot :=
  let fenced (sl : Slot) : Bool := (s.slots r).any (fun f =>
    f.op.desc? = some .fence && f.op.queue = sl.op.queue && slotBefore f sl)
  sortBy readyBefore ((s.slots r).filter (fun sl => (sl.op.state = .ready || sl.op.state = .preempted) && !fenced sl))

/-! ## Stops at preemption points (09 R355-R366) -/

/-- Asks a running operation to stop: a status replaces a preemption, and the first status stands. -/
def State.askStop (s : State) (r : Nat) (sl : Slot) (code : Code) : State :=
  let s := s.onOp r sl.op.queue sl.op.seq fun o => match o.stopCode with
    | none => { o with stopCode := some code }
    | some c => if c = Codes.OK then { o with stopCode := some code } else o
  if sl.op.onSpins then s.annealStop (sl.key r) code else s

/-- A preempted operation re-enters the ready order (09 R355, R363). -/
def State.reenter (s : State) (r : Nat) (sl : Slot) : State :=
  s.onSlot r sl.op.queue sl.op.seq fun x =>
    { x with
      op := { x.op with state := .preempted, readyTick := s.stamp, stopCode := none, prio := x.op.nextPrio.getD x.op.prio, nextPrio := none }
      rec_ := { x.rec_ with wasPreempted := true } }

/-- Stops an operation that stands at its unit's preemption point: preempted, or ended with the status asked for (09 R355, R356,
R360, R366; 12 R486, R487; 13 R536, R537; 17 R657). -/
def State.stopPoint (s : State) (r : Nat) (sl : Slot) : State :=
  let key := sl.key r
  match sl.op.state, sl.op.stopCode with
  | .running, some c =>
    match sl.op.desc? with
    | some .task => match sl.run.task with
      | some t =>
        if t.trap.isSome || !s.taskAtBoundary t then s
        else if c = Codes.OK then (s.preemptTask r sl t).reenter r sl
        else s.latchEnd key c 0
      | none => s
    | some .matrix => match sl.run.matrix with
      | some m =>
        if !m.canStop sl.op then s
        else if c = Codes.OK then (s.preemptMatrix r sl m).reenter r sl
        else s.matStop sl.op.matSite key c
      | none => s
    | some .visionGraph => match sl.run.vis with
      | some v =>
        if !v.canStop then s
        else if c = Codes.OK then (s.preemptVision key).reenter r sl
        else (s.preemptVision key).latchEnd key c 0
      | none => s
    | some .anneal | some .sample => match sl.run.anneal with
      | some a =>
        if c = Codes.OK && a.stopCode = 0 && a.stopWindow.isSome && s.annealQuiet key sl.op a && a.sites.any (fun k => !s.sweepsOver sl.op a k) then
          (s.annealPreempt key sl a).reenter r sl
        else s
      | none => s
    | _ => s
  | _, _ => s

/-- PREEMPTION_POINT_STOP (09 R355-R357, R360, R366): an operation that is asked to stop reaches its unit's preemption point. -/
def execPreemptionPointStop (o : OpRef) (s : State) : Host.Outcome State Fault Refusal :=
  .next (s.effect fun s => s.whenP s.fabricOn fun s =>
    match s.slotAt o with
    | some sl => s.stopPoint o.region.val sl
    | none => s)

/-- Whether a running operation stands in the way of a waiting one on a unit that the latter lacks. -/
def State.inTheWay (s : State) (r : Nat) (want run : Slot) : Bool :=
  run.op.state = .running && run.op.preemptible && run.op.prio < want.op.prio &&
    match want.op.desc?, run.op.desc? with
    | some .task, some .task =>
      (((run.run.task.map (·.threads)).getD []).any (fun p => match want.run.task with
        | some t => t.threads.contains p
        | none => (s.taskSites r want.op).contains p.1 && (s.freeAt p.1).length < want.op.perSite))
    | _, _ => (s.unitsOf r want).any (fun u => (s.unitsOf r run).contains u && !s.unitFree u)

/-- Step 4: a ready operation that lacks its unit asks each lower-priority preemptible holder of it to stop. -/
def State.preempt1 (s : State) (r : Nat) (want : Slot) : State :=
  if s.canTake r want then s
  else ((s.slots r).filter (s.inTheWay r want)).foldl (fun s x => s.askStop r x Codes.OK) s

/-- Every operation of the region that is asked to stop and stands at its point stops. -/
def State.stopAll (s : State) (r : Nat) : State := (sortBy slotBefore (s.slots r)).foldl (fun s sl => s.stopPoint r sl) s

/-- Step 4 (09 R355, R357). -/
def State.preemptions (s : State) (r : Nat) : State :=
  ((s.readyOps r).foldl (fun s sl => s.preempt1 r sl) s).stopAll r

/-! ## Cancellation and priority (09 R358-R363) -/

/-- An operation that waits preempted ends: with the status given, or one noted before that comes first (09 R360, R366; 12 R490; 23 R846). -/
def State.endPreempted (s : State) (r : Nat) (sl : Slot) (c : Code) : State :=
  let p := firstStatus sl.op.onSpins (c, 0) (sl.rec_.pendingStatus, sl.rec_.pendingFault)
  s.finish r sl.op.queue sl.op.seq p.1 0 p.2

/-- Applies a cancellation. -/
def State.cancelOp (s : State) (r : Nat) (sl : Slot) : State :=
  let o := sl.op
  match o.state with
  | .waiting | .ready => s.finish r o.queue o.seq Codes.CANCELLED_UNDISPATCHED 0 0
  | .preempted => s.endPreempted r sl Codes.CANCELLED_RUNNING
  | .latched => s
  | .running =>
    if !o.preemptible then s.onRec r o.queue o.seq fun c => { c with cancelLate := true }
    else if o.desc? = some .flagWait || o.desc? = some .fence then s.finish r o.queue o.seq Codes.CANCELLED_RUNNING 0 0
    else s.askStop r sl Codes.CANCELLED_RUNNING

/-- Applies a priority change. -/
def State.prioOp (s : State) (r : Nat) (sl : Slot) (p : Nat) : State :=
  s.onOp r sl.op.queue sl.op.seq fun o =>
    if o.state = .running || o.state = .latched then { o with nextPrio := some p } else { o with prio := p }

/-- Cancellations and priority changes of the boundary, in the order of their writes. -/
def State.applyCmds (s : State) (r : Nat) : State :=
  let cs := (s.region r).sched.cmds
  cs.foldl (fun s c => match s.slotOf r c.1 c.2.1 with
    | some sl => (match c.2.2 with
      | none => s.cancelOp r sl
      | some p => s.prioOp r sl p)
    | none => s) (s.onSched r fun g => { g with cmds := [] })

/-- A write of REGION_CANCEL_CMD or REGION_PRIO_CMD waits for the boundary; one that names no operation in flight has no effect. -/
def State.schedCmd (s : State) (r : Nat) (v : Word64) (prio : Option Nat) : State :=
  let q := bitsOf v.toNat 37 32
  let seq : Word := v.setWidth 32
  if (s.slotOf r q seq).isSome then s.onSched r fun g => { g with cmds := g.cmds ++ [(q, seq, prio)] } else s

/-- REGION_CANCEL_CMD (09 R358-R361, R380). -/
def execRegionCancelCmd (f : FnId) (r : RegionId) (v : Word64) (s : State) : Host.Outcome State Fault Refusal :=
  .next (s.effect fun s => s.whenP (s.reaches f.val r.val) fun s => s.schedCmd r.val v none)

/-- REGION_PRIO_CMD (09 R362, R363, R380). -/
def execRegionPrioCmd (f : FnId) (r : RegionId) (v : Word64) (s : State) : Host.Outcome State Fault Refusal :=
  .next (s.effect fun s => s.whenP (s.reaches f.val r.val) fun s => s.schedCmd r.val v (some (bitsOf v.toNat 42 40)))

/-! ## Timeouts (09 R364-R366; 23 R842-R844) -/

/-- Whether an operation's timeout has run out and has not been raised. -/
def State.timedOut (s : State) (r : Nat) (sl : Slot) : Bool :=
  let o := sl.op
  o.timeout ≠ 0 && o.dispatched && !o.timeoutRaised && o.retries = 0 && o.state ≠ .latched &&
    (s.timeoutTimer r).isSome && o.timeout * 1024 ≤ s.timeoutCounted o

/-- An operation's timeout expires. -/
def State.expire (s : State) (r : Nat) (sl : Slot) : State :=
  let o := sl.op
  let s := s.onOp r o.queue o.seq fun o => { o with timeoutRaised := true }
  let s := s.regionEvent r 0 Codes.TIMEOUT (o.queue + o.seq.toNat % 2 ^ 26 * 2 ^ 6)
  if o.desc? = some .flagWait || o.desc? = some .fence || o.desc? = some .nop then s.finish r o.queue o.seq Codes.TIMEOUT 0 0
  else if o.preemptible && o.state = .preempted then s.endPreempted r sl Codes.TIMEOUT
  else if o.preemptible then s.askStop r sl Codes.TIMEOUT
  else s.onRec r o.queue o.seq fun c => { c with timedOut := true }

/-- TIMEOUT_EXPIRY (09 R364-R366): the limit of an operation has been counted. -/
def execTimeoutExpiry (o : OpRef) (s : State) : Host.Outcome State Fault Refusal :=
  .next (s.effect fun s => s.whenP s.fabricOn fun s =>
    match s.slotAt o with
    | some sl => s.whenP (s.timedOut o.region.val sl) fun s => (s.expire o.region.val sl).flushDues o.region.val
    | none => s)

/-! ## Completions (09 R353 step 1, R371) -/

/-- Completes every latched operation, then those that such a completion latched (17 R668). -/
def State.completeLatched (s : State) (r : Nat) : Nat → State
  | 0 => s
  | n + 1 =>
    match sortBy slotBefore ((s.slots r).filter (fun sl => sl.op.state = .latched)) with
    | [] => s
    | l => (l.foldl (fun s sl => match s.slotOf r sl.op.queue sl.op.seq with
        | some x => s.finish r x.op.queue x.op.seq x.rec_.status x.rec_.result x.rec_.faultId
        | none => s) s).completeLatched r n

/-- A task that has trapped is settled. -/
def State.settle1 (s : State) (r : Nat) (sl : Slot) : State := if sl.op.state = .running then s.settleTask r sl else s

/-- Trapped tasks are settled and latched completions applied. -/
def State.completions (s : State) (r : Nat) : State :=
  let s := (s.slots r).foldl (fun s sl => s.settle1 r sl) s
  s.completeLatched r ((s.slots r).length + 1)

/-- Completes one operation whose end is latched. -/
def State.completeOne (s : State) (r : Nat) (sl : Slot) : State :=
  if sl.op.state = .latched then (s.finish r sl.op.queue sl.op.seq sl.rec_.status sl.rec_.result sl.rec_.faultId).flushDues r else s

/-- OPERATION_COMPLETE (09 R353, R371; 18 R687): one latched operation, or a task that has trapped, completes at the boundary. -/
def execOperationComplete (o : OpRef) (s : State) : Host.Outcome State Fault Refusal :=
  .next (s.effect fun s => s.whenP (s.fabricOn && s.atBoundary) fun s =>
    let t := ((s.slotAt o).map (s.settle1 o.region.val)).getD s
    ((t.slotAt o).map (t.completeOne o.region.val)).getD t)

/-! ## Dispatch (09 R345-R348, R353, R930) -/

/-- Whether the reserved bits of a descriptor without a unit are 0 (09 R344, R348, R930). -/
def Op.bodyOk (o : Op) : Bool :=
  match o.desc? with
  | some .nop | some .fence => (upFrom 4 12).all (fun i => o.word i = 0)
  | some .flagSet | some .flagWait => o.field 4 31 10 = 0 && (upFrom 6 10).all (fun i => o.word i = 0)
  | some .digestMark => (upFrom 6 10).all (fun i => o.word i = 0)
  | _ => true

/-- A NOP completes (09 R347, R930). -/
def State.dispatchNop (s : State) (r : Nat) (sl : Slot) : State :=
  s.finishNow r sl (if sl.op.bodyOk then Codes.OK else Codes.DESC_INVALID) 0

/-- A FLAG_SET latches its update and completes (09 R345, R930). -/
def State.dispatchFlagSet (s : State) (r : Nat) (sl : Slot) : State :=
  let o := sl.op
  if !o.bodyOk then s.finishNow r sl Codes.DESC_INVALID 0
  else
    (s.latchFlag r { source := 1, sub := o.queue * 2 ^ 32 + o.seq.toNat, flag := o.field 4 7 0, op := o.field 4 9 8, value := BitVec.ofNat 32 (o.word 5) }).finishNow r sl Codes.OK 0

/-- A FLAG_WAIT or a FENCE starts to wait (09 R345, R346, R930). -/
def State.dispatchWait (s : State) (r : Nat) (sl : Slot) : State :=
  if sl.op.bodyOk then s.dispatchMark r sl [] else s.finishNow r sl Codes.DESC_INVALID 0

/-- A DIGEST_MARK writes its entry and completes (09 R348, R930; 18 R687). -/
def State.dispatchDigestMark (s : State) (r : Nat) (sl : Slot) : State :=
  let o := sl.op
  let ok := o.bodyOk
  (s.dispatchMark r sl []).finishMark r o.queue o.seq (if ok then Codes.OK else Codes.DESC_INVALID) 0 0
    (some (true, if ok then o.word2 4 else 0, 0))

/-- Dispatches an operation whose unit is free. -/
def State.dispatch (s : State) (r : Nat) (sl : Slot) : State :=
  match sl.op.desc? with
  | some .nop => s.dispatchNop r sl
  | some .copy => s.dispatchCopy r sl
  | some .task => s.dispatchTask r sl
  | some .anneal => s.dispatchAnneal r sl
  | some .sample => s.dispatchAnneal r sl
  | some .matrix => s.dispatchMatrix r sl
  | some .visionGraph => s.dispatchVision r sl
  | some .flagSet => s.dispatchFlagSet r sl
  | some .flagWait => s.dispatchWait r sl
  | some .fence => s.dispatchWait r sl
  | some .digestMark => s.dispatchDigestMark r sl
  | none => s

/-- One turn of the dispatch procedure, with the units reserved so far. -/
def State.dispatchTurn (s : State) (r : Nat) (res : List UnitId) (sl : Slot) : State × List UnitId :=
  match s.slotOf r sl.op.queue sl.op.seq with
  | none => (s, res)
  | some x =>
    let us := s.unitsOf r x
    if s.canTake r x && us.all (fun u => !res.contains u) then (s.dispatch r x, res) else (s, res ++ us)

/-- Step 5: the dispatch procedure (09 R353). -/
def State.dispatchAll (s : State) (r : Nat) : State :=
  ((s.readyOps r).foldl (fun p sl => p.1.dispatchTurn r p.2 sl) (s, [])).1

/-- Whether the procedure would dispatch an operation first of all that need its units. -/
def State.mayDispatch (s : State) (r : Nat) (sl : Slot) : Bool :=
  let before := (s.readyOps r).takeWhile (fun x => !x.is sl.op.queue sl.op.seq)
  let us := s.unitsOf r sl
  (s.readyOps r).any (fun x => x.is sl.op.queue sl.op.seq) && s.canTake r sl &&
    before.all (fun x => (s.unitsOf r x).all (fun u => !us.contains u))

/-- A command that dispatches one ready operation of a type. -/
def State.dispatchCmd (s : State) (o : OpRef) (t : DescType) (f : State → Nat → Slot → State) : State :=
  s.effect fun s => s.whenP s.fabricOn fun s =>
    match s.slotAt o with
    | some sl => s.whenP (sl.op.desc? = some t && s.mayDispatch o.region.val sl) fun s => (f s o.region.val sl).flushDues o.region.val
    | none => s

/-- NOP (09 R347, R930). -/
def execNop (o : OpRef) (s : State) : Host.Outcome State Fault Refusal := .next (s.dispatchCmd o .nop State.dispatchNop)
/-- COPY (08 R285-R299): the descriptor is validated at its engine, and runs or completes. -/
def execCopy (o : OpRef) (s : State) : Host.Outcome State Fault Refusal := .next (s.dispatchCmd o .copy State.dispatchCopy)
/-- TASK (09 R340-R343). -/
def execTask (o : OpRef) (s : State) : Host.Outcome State Fault Refusal := .next (s.dispatchCmd o .task State.dispatchTask)
/-- ANNEAL (12 R462, R464, R465, R488; 10 R412). -/
def execAnneal (o : OpRef) (s : State) : Host.Outcome State Fault Refusal := .next (s.dispatchCmd o .anneal State.dispatchAnneal)
/-- SAMPLE (12 R463-R465, R488; 10 R412). -/
def execSample (o : OpRef) (s : State) : Host.Outcome State Fault Refusal := .next (s.dispatchCmd o .sample State.dispatchAnneal)
/-- MATRIX (13 R495-R497, R538; 14 R547-R549). -/
def execMatrix (o : OpRef) (s : State) : Host.Outcome State Fault Refusal := .next (s.dispatchCmd o .matrix State.dispatchMatrix)
/-- VISION_GRAPH (17 R646-R659). -/
def execVisionGraph (o : OpRef) (s : State) : Host.Outcome State Fault Refusal :=
  .next (s.dispatchCmd o .visionGraph State.dispatchVision)
/-- FLAG_SET (09 R344, R345, R930). -/
def execFlagSet (o : OpRef) (s : State) : Host.Outcome State Fault Refusal := .next (s.dispatchCmd o .flagSet State.dispatchFlagSet)
/-- FLAG_WAIT (09 R344, R345, R930): it dispatches and waits. -/
def execFlagWait (o : OpRef) (s : State) : Host.Outcome State Fault Refusal := .next (s.dispatchCmd o .flagWait State.dispatchWait)
/-- FENCE (09 R346, R930): it dispatches and waits. -/
def execFence (o : OpRef) (s : State) : Host.Outcome State Fault Refusal := .next (s.dispatchCmd o .fence State.dispatchWait)
/-- DIGEST_MARK (09 R348, R930; 18 R687). -/
def execDigestMark (o : OpRef) (s : State) : Host.Outcome State Fault Refusal :=
  .next (s.dispatchCmd o .digestMark State.dispatchDigestMark)

/-! ## Waits (09 R345, R346, R368; 12 R484) -/

/-- Completes a dispatched FLAG_WAIT whose condition holds. -/
def State.waitDone (s : State) (r : Nat) (sl : Slot) : State :=
  let o := sl.op
  if o.desc? = some .flagWait && o.state = .running && condHolds (o.field 4 9 8) (s.flag r (o.field 4 7 0)) (BitVec.ofNat 32 (o.word 5)) then
    s.finish r o.queue o.seq Codes.OK 0 0
  else s

/-- Completes a dispatched FENCE once every earlier operation of its queue has completed. -/
def State.fenceDone (s : State) (r : Nat) (sl : Slot) : State :=
  let o := sl.op
  if o.desc? = some .fence && o.state = .running && !(s.slots r).any (fun x => x.op.queue = o.queue && slotBefore x sl) then
    s.finish r o.queue o.seq Codes.OK 0 0
  else s

/-- A running ANNEAL or SAMPLE whose abort flag reads non-zero is asked to stop (12 R484). -/
def State.abortCheck (s : State) (r : Nat) (sl : Slot) : State :=
  if sl.op.onSpins && sl.op.state = .running && sl.op.abortEn && s.flag r sl.op.abortFlag ≠ 0 then
    s.annealStop (sl.key r) Codes.ANL_ABORTED
  else s

/-- FLAG_WAIT_SATISFIED (09 R345). -/
def execFlagWaitSatisfied (o : OpRef) (s : State) : Host.Outcome State Fault Refusal :=
  .next (s.effect fun s => s.whenP s.fabricOn fun s =>
    match s.slotAt o with
    | some sl => (s.waitDone o.region.val sl).flushDues o.region.val
    | none => s)

/-- FENCE_RELEASE (09 R346). -/
def execFenceRelease (o : OpRef) (s : State) : Host.Outcome State Fault Refusal :=
  .next (s.effect fun s => s.whenP s.fabricOn fun s =>
    match s.slotAt o with
    | some sl => (s.fenceDone o.region.val sl).flushDues o.region.val
    | none => s)

/-! ## The boundary (09 R353) -/

/-- Digest registers written since the last boundary take effect (18 R691). -/
def RegionAux.detNext (a : RegionAux) : RegionAux :=
  { a with weights := a.weightsNext.getD a.weights, weightsNext := none, input := a.inputNext.getD a.input, inputNext := none }

/-- A capture of the region that waits starts, and one whose consent was cleared ends (24 R879, R896). -/
def State.startTrace (s : State) (r : Nat) : State :=
  s.onDbg fun d =>
    if bitsOf d.ctl.toNat 5 1 ≠ r then d
    else if d.ending then { d with armed := false, running := false, ending := false, collect := [] }
    else if d.armed then { d with armed := false, running := true }
    else d

/-- Puts one entry in the trace buffer (24 R883). -/
def Dbg.putTrace (d : Dbg) (e : List Word) : Dbg :=
  if d.full then d
  else
    let d := { d with buf := Tab.set d.buf (d.written % 4096) e, written := d.written + 1 }
    if !d.ctl.getLsbD 6 && d.written = 4096 then { d with full := true, running := false } else d

/-- The trace entries of a boundary, in the order of 24 R881. -/
def State.flushTrace (s : State) (r : Nat) : State :=
  s.onDbg fun d =>
    if bitsOf d.ctl.toNat 5 1 = r then
      (sortBy (fun (a b : Nat × List Word) => a.1 < b.1) d.collect).foldl (fun d e => d.putTrace e.2) { d with collect := [] }
    else d

/-- Step 6 and what follows it: flag updates, waits, fences, threads, abort flags and graphs (09 R353, R368-R370; 12 R484; 17). -/
def State.flagStep (s : State) (r : Nat) : State :=
  let s := s.applyFlags r
  let s := (sortBy slotBefore (s.slots r)).foldl (fun s sl => s.waitDone r sl) s
  let s := (sortBy slotBefore (s.slots r)).foldl (fun s sl => s.fenceDone r sl) s
  let s := s.releaseFlags r
  let s := (s.slots r).foldl (fun s sl => s.abortCheck r sl) s
  s.visBoundary r

/-- The decision of one slot boundary for one region. -/
def State.boundary (s : State) (r : Nat) : State :=
  let met := s.metNow r
  let s := (s.startTrace r).onRAux r RegionAux.detNext
  let s := (((s.completions r).applyRevocation r).revokeEnd r).applyCmds r
  let a := (s.fetchOne r).acceptFetched r
  let b := a.1.acceptIssues r
  let s := b.1.markAll r (met ++ b.1.metOf r (a.2 ++ b.2))
  let s := (s.preemptions r).dispatchAll r
  ((s.flagStep r).flushDues r).flushTrace r

/-- Whether a site runs work of some operation: a thread, a spin operation or a MATRIX holds it. -/
def Site.atWork (x : Site) : Bool :=
  x.threads.any (fun t => t.2.state ≠ .free && t.2.state ≠ .exited) || x.spin.op.isSome || x.mat.array.isSome || x.mat.shadow.isSome

/-- The slot that ends counts for the region's sites at work (24 R872). -/
def State.countSlots (s : State) (r : Nat) : State :=
  let keys := s.siteKeys r
  s.onFab fun b => { b with sites := b.sites.map (fun e =>
    if keys.contains e.1 && e.2.atWork then (e.1, { e.2 with telSlots := e.2.telSlots + 1 }) else e) }

/-- SCHEDULER_BOUNDARY (09 R353, R368; 23 R848; 24 R872, R880). -/
def execSchedulerBoundary (r : RegionId) (s : State) : Host.Outcome State Fault Refusal :=
  .next (s.effect fun s => s.whenP (s.fabricOn && s.atBoundary && s.defined r.val) fun s => (s.countSlots r.val).boundary r.val)

/-! ## Losses, watermarks, flags, stop requests -/

/-- A ring whose drops wait and that has a free entry again. -/
def Ring.owes (g : Ring) : Bool := g.enable && g.lostOpen && !g.full

/-- EVENTS_LOST (09 R374): the first boundary with a free event-ring entry after drops. -/
def execEventsLost (ring : RingSel) (s : State) : Host.Outcome State Fault Refusal :=
  .next (s.effect fun s =>
    match ring with
    | .event r => s.whenP (s.region r.val).sched.evt.owes fun s =>
        let n := (s.region r.val).sched.evt.lost.toNat
        (s.onSched r.val fun g => { g with evt := { g.evt with lost := 0, lostOpen := false } }).regionEvent r.val 0 Codes.EVENTS_LOST n
    | .pfEvent => s.whenP s.dev.hst.pfEvt.owes fun s =>
        let n := s.dev.hst.pfEvt.lost.toNat
        (s.onHst fun h => { h with pfEvt := { h.pfEvt with lost := 0, lostOpen := false } }).pfEvent 0 Codes.EVENTS_LOST n
    | _ => s)

/-- DIGEST_LOST (18 R688): the first boundary with a free digest-ring entry after drops. -/
def execDigestLost (r : RegionId) (s : State) : Host.Outcome State Fault Refusal :=
  .next (s.effect fun s => s.whenP (s.region r.val).sched.dig.owes fun s =>
    let n := (s.region r.val).sched.dig.lost.toNat
    (s.onSched r.val fun g => { g with dig := { g.dig with lostOpen := false } }).regionEvent r.val 0 Codes.DIGEST_LOST n)

/-- WM_CROSSED_CLEAR (09 R377): writing 1 to crossed clears it and the count. -/
def execWmCrossedClear (f : FnId) (r : RegionId) (n : Fin 3) (s : State) : Host.Outcome State Fault Refusal :=
  .next (s.effect fun s => s.whenP (s.reaches f.val r.val) fun s =>
    s.onSched r.val fun g => { g with wms := Tab.modify {} g.wms n.val (fun w => { w with crossed := false, count := 0 }) })

/-- The order of arrival of a software write among the flag updates of a boundary (09 R368). -/
def State.softFlag (s : State) (r n : Nat) (v : Word) : State :=
  let k := ((s.region r).sched.flagUpds.filter (fun u => u.source = 5)).length
  s.latchFlag r { source := 5, sub := k, flag := n, op := 0, value := v }

/-- FLAG_REGISTER_WRITE (09 R368, R380): a write of REGION_FLAG_n sets the flag at the next boundary, after every other source. -/
def execFlagRegisterWrite (f : FnId) (r : RegionId) (n : Byte) (v : Word) (s : State) : Host.Outcome State Fault Refusal :=
  .next (s.effect fun s => s.whenP (s.reaches f.val r.val) fun s => s.softFlag r.val n.toNat v)

/-- The window after which an operation stops for want of a decision: that of a site whose next window may start, and needs it (12 R476). -/
def State.lateSite (s : State) (key : OpKey) (o : Op) (a : AnnealRun) : Option Nat :=
  if !s.dev.aux.slateInForce then none
  else (a.sites.find? (fun k => let w := (s.site k).spin.work
    w.active && s.windowMayStart key o a k && (s.decisionFor o a k (w.window + 1)).2)).map (fun k => (s.site k).spin.work.window)

/-- Whether a cause for a stop holds of a running operation, and the status that it gives (12 R484, R490; 11 R432, R455; 20 R756). -/
def State.stopStatus (s : State) (r : Nat) (sl : Slot) (a : AnnealRun) (cause : StopCause) : Option Code :=
  let noted (c : Code) : Option Code := if sl.rec_.pendingStatus = c then some c else none
  let asked (c : Code) : Option Code := if sl.op.stopCode = some c then some c else none
  match cause with
  | .cancel => asked Codes.CANCELLED_RUNNING
  | .timeout => asked Codes.TIMEOUT
  | .preempt => asked Codes.OK
  | .abortFlag => if sl.op.abortEn && s.flag r sl.op.abortFlag ≠ 0 then some Codes.ANL_ABORTED else none
  | .partner => if a.upMarks.any (fun m => m.2.2.1) then some Codes.ANL_ABORTED else none
  | .partnerLost => noted Codes.PARTNER_LOST
  | .lateExchange => if (s.lateSite (sl.key r) sl.op a).isSome then some Codes.ANL_EXCHANGE_LATE else none
  | .linkError => (noted Codes.NOC_LINK_ERROR).or (noted Codes.LNK_RETRY_EXHAUSTED)
  | .noiseFault => if a.sites.any (fun k => (s.site k).noise.isSome) then some Codes.ANL_NOISE_FAULT else none
  | .revoked => if (s.region r).rev.pending.any (fun v => v.applied && v.old.contains (sl.op.queue, sl.op.seq)) then some Codes.REVOKED else none

/-- STOP_REQUEST (12 R484, R485): a cause sets the stop window of a running ANNEAL or SAMPLE. -/
def execStopRequest (o : OpRef) (cause : StopCause) (s : State) : Host.Outcome State Fault Refusal :=
  .next (s.effect fun s => s.whenP s.fabricOn fun s =>
    match s.slotAt o with
    | some sl =>
      match sl.run.anneal with
      | some a =>
        match s.stopStatus o.region.val sl a cause with
        | some c => s.whenP (sl.op.state = .running) fun s =>
            if cause = .lateExchange then s.lateStop (opKey o) ((s.lateSite (opKey o) sl.op a).getD 0) else s.annealStop (opKey o) c
        | none => s
      | none => s
    | none => s)

end Sys2Proof.Machine
end

