-- ==== Sys2Proof/Machine/Network.lean ====
section
/-!
DEFINITION. The network's checks and background work (07 R226, R238, R248-R256; 23 R859), and the memory dies' refresh and scrub
(08 R266-R269).
-/
namespace Sys2Proof.Machine

/-! ## Packets on a route -/

/-- The access whose value is on its way on a route: site, thread and register of the one that comes in first (09 R303, R304). -/
def State.inbound (s : State) (r route : Nat) : Option (Nat × Nat × Pending) :=
  (sortBy (fun (a b : Nat × Nat × Pending) => a.2.2.due < b.2.2.due)
    ((s.taskThreads r).flatMap (fun t => ((s.thread t.1 t.2).outstanding.filter
      (fun p => p.value.isSome && p.route = some route && s.runSlots < p.due)).map (fun p => (t.1, t.2, p))))).head?

/-- The operation whose packet is on a route: the thread access whose value comes in, else the sender of a packet that waits for a bundle or
of the oldest one in the route's send queue, else the first running operation that moves data on it. -/
def State.routeOp (s : State) (r route : Nat) : Option OpKey :=
  match s.inbound r route, s.dev.noc.deferred.find? (fun d => d.key = routeKey r route), Tab.get [] s.dev.noc.queues (routeKey r route) with
  | some (k, th, _), _, _ => some (s.thread k th).key
  | none, some d, _ => some (r, d.packet.queue, d.packet.seq)
  | none, none, p :: _ => some (r, p.queue, p.seq)
  | none, none, [] => ((sortBy slotBefore (s.slots r)).find? (fun sl => (s.opRoutes r sl).contains route)).map (fun sl => sl.key r)

/-- The packet of a route that `State.routeOp` names is gone: a value never returns. -/
def State.dropPacket (s : State) (r route : Nat) : State :=
  match s.inbound r route, s.dev.noc.deferred.find? (fun d => d.key = routeKey r route) with
  | some (k, th, p), _ => s.onThread k th fun x => { x with outstanding := x.outstanding.map (fun q => if q = p then { q with value := none, route := none } else q) }
  | none, some d => s.onNoc fun n => { n with deferred := n.deferred.erase d }
  | none, none => s.onNoc fun n => { n with queues := n.queues.map (fun e => if e.1 = routeKey r route then (e.1, e.2.tail) else e) }

/-- The key of a logical link: the receiving router and port. -/
def linkKey (x : Router) (port : Nat) : Nat := (((x.1 * 4 + x.2.1) * 256) + x.2.2) * 8 + port

/-- The detail word of NOC_LINK_ERROR and NOC_LINK_SUSPECT (09 R929). -/
def linkDetail (x : Router) (port : Nat) : Nat := x.2.2 % 256 + x.2.1 * 2 ^ 8 + x.1 * 2 ^ 10 + port * 2 ^ 11

/-- The source kind of NOC_LINK_ERROR: site, edge or engine router (09 R929). -/
def linkKind (x : Router) : Nat := if x.2.1 = 0 then 2 else if x.2.1 = 3 then 3 else 4

/-- The regions with a route on a logical link. -/
def State.linkRegions (s : State) (x : Router) (port : Nat) : List Nat :=
  s.regionIds.filter (fun r => s.fab.body.slots.any (fun e => !e.background && e.region = r && e.router = x && e.inPort = port))

/-- Counts an error of a link in the present window; the fourth makes the link suspect (23 R859). -/
def State.countLink (s : State) (x : Router) (port : Nat) : State :=
  let n := Tab.get 0 s.dev.noc.linkErr (linkKey x port) + 1
  let s := s.onNoc fun c => { c with linkErr := Tab.set c.linkErr (linkKey x port) n }
  if n = 4 then
    (s.assignFault Codes.NOC_LINK_SUSPECT none x.1 (if x.2.1 = 0 then some x.2.2 else none)).eventAll (s.linkRegions x port) 6
      Codes.NOC_LINK_SUSPECT (linkDetail x port)
  else s

/-- A link error enters the register of an edge router at either end of the link (07 R257). -/
def State.countEdge (s : State) (x : Router) : State :=
  if x.2.1 = 1 || x.2.1 = 2 then
    s.onEdge x.1 (if x.2.1 = 1 then x.2.2 else 16 + x.2.2) fun e => { e with linkErrors := satAdd e.linkErrors 1 }
  else s

/-- The router at the sending end of a link: none where it is no router. -/
def State.farEnd (s : State) (x : Router) (port : Nat) : Option Router :=
  match portEnd s.partRows ((s.fab.body.slots.filter (fun e => e.kind = 3 && e.die = x.1)).map (fun e => (e.index, e.attach))) x port with
  | .mesh y _ => some y
  | .across y => some y
  | _ => none

/-- A link's check has failed: the fault, the counts at both ends, and the link's window (07 R238, R257; 23 R859). -/
def State.linkFails (s : State) (x : Router) (port : Nat) (region : Option Nat) : State :=
  let s := s.assignFault Codes.NOC_LINK_ERROR region x.1 (if x.2.1 = 0 then some x.2.2 else none)
  let s := s.eventAll region.toList (linkKind x) Codes.NOC_LINK_ERROR (linkDetail x port)
  let s := s.countEdge x
  let s := match s.farEnd x port with
    | some y => s.countEdge y
    | none => s
  s.countLink x port

/-- A packet's check fails at a router: it is discarded, and its operation ends (07 R238; 11 R455). -/
def State.linkError (s : State) (x : Router) (port r route : Nat) : State :=
  let k := s.routeOp r route
  let s := s.dropPacket r route
  let id := (s.assignFault Codes.NOC_LINK_ERROR (some r) x.1 (if x.2.1 = 0 then some x.2.2 else none)).lastFault
  let s := s.linkFails x port (some r)
  match k with
  | some k => s.latch k.1 k.2.1 k.2.2 Codes.NOC_LINK_ERROR 0 id
  | none => s

/-- NOC_PACKET_ARRIVE (07 R236, R238; 23 R859): a packet of a route reaches a router of it; one that fails its check is discarded. A packet of
a background route (region 0 in the tables) has no operation, and the physical function alone sees its error. -/
def execNocPacketArrive (d : DieId) (kind : Fin 4) (index : Byte) (port : Fin 6) (r : RegionId) (route : BitVec 16) (checkOk : Bool) (s : State) : Host.Outcome State Fault Refusal :=
  .next (s.effect fun s =>
    let x : Router := (d.val, kind.val, index.toNat)
    let here (e : SlotEntry) : Bool := e.router = x && e.inPort = port.val && e.route = route.toNat
    if !checkOk && s.fabricOn && (s.routeEntries r.val route.toNat).any here then s.linkError x port.val r.val route.toNat
    else s.whenP (!checkOk && s.running && !s.dev.noc.held && r = 0 && s.fab.body.slots.any (fun e => e.background && here e && e.slot = s.slot)) fun s =>
      s.linkFails x port.val none)

/-! ## Refresh (07 R226; 08 R266) -/

/-- The edge router of memory die `m` through which a route passes. -/
def State.routeChannel (s : State) (r route m : Nat) : Option Nat :=
  ((s.routeEntries r route).find? (fun e => e.outPort = 5 && e.kind = 1 && e.die = m / 3 && e.index / 4 = m % 3)).map (·.index)

/-- The frame of the route's occurrence whose response would come in one frame after the one held (07 R226): its request passes the memory
edge router `x` 40 slots before, and left its origin some slots before that. -/
def State.voidFrame (s : State) (r route : Nat) (x : Router) : Nat :=
  let o := (s.routeOrigin r route).getD 0
  let at_ := (((s.routeEntries r route).find? (fun e => e.router = x && e.outPort = 5)).map (·.slot)).getD o
  (s.nextSlot ((at_ + 40) % 4096) + 4096 - ((at_ + 4096 - o) % 4096 + 40)) / 4096

/-- A held response: the edge router counts it, the next request occurrence carries void, and the operation is disturbed (07 R226). -/
def State.holdResponse (s : State) (r route m e : Nat) (k : OpKey) : State :=
  let f := s.voidFrame r route (edgeRouter (m / 3) e)
  ((s.onNoc fun n => { n with voids := n.voids ++ [(routeKey r route, f)] }).onEdge (m / 3) e fun t => { t with heldOver := satAdd t.heldOver 1 }).disturb
    k.1 k.2.1 k.2.2

/-- DRAM_REFRESH (07 R226; 08 R266): a memory die refreshes by itself; where it holds a due response of a route, the response comes
one frame later and its operation is disturbed. -/
def execDramRefresh (m : Fin 6) (held : Bool) (r : RegionId) (route : BitVec 16) (s : State) : Host.Outcome State Fault Refusal :=
  .next (s.effect fun s => s.whenP (s.fabricOn && held && (s.memDie m.val).present) fun s =>
    match s.routeChannel r.val route.toNat m.val, s.inbound r.val route.toNat, s.routeOp r.val route.toNat with
    | some e, some (k, th, p), _ =>
      let s := s.onThread k th fun x => { x with outstanding := x.outstanding.map (fun q => if q = p then { q with due := q.due + 4096 } else q) }
      s.holdResponse r.val route.toNat m.val e (s.thread k th).key
    | some e, none, some k => s.holdResponse r.val route.toNat m.val e k
    | _, _, _ => s)

/-! ## Deferred packets (19 R715-R720) -/

/-- Whether a bundle blocked a packet of an operation in this slot of the frame before, and does not block it now. -/
def State.crossesNow (s : State) (k : OpKey) (b : Nat) : Bool :=
  0 < s.frame &&
  match s.slotOf k.1 k.2.1 k.2.2 with
  | some sl => sl.run.task.isNone && (s.opRoutes k.1 sl).any (fun id => (s.crossings k.1 id).any (fun c => c.1 = b && c.2.2.1 = s.slot &&
      s.blocked b c.2.1 c.2.2.1 (s.frame - 1) c.2.2.2 && !s.blocked b c.2.1 c.2.2.1 s.frame c.2.2.2))
  | none => false

/-- YDI_DEFERRED_CROSS (19 R715-R720): a packet of an operation that a bundle blocked crosses it in the same slot of a later frame. A
thread's packet takes effect with it; of the packets of other operations, the deferral alone is seen. That of a resent packet was counted
where its CRC failed (log 92). -/
def execYdiDeferredCross (b : BundleId) (o : OpRef) (s : State) : Host.Outcome State Fault Refusal :=
  .next (s.effect fun s => s.whenP (s.fabricOn && s.atBoundary && s.bundlePresent b.val && s.bundleLocked b.val && attemptsOf (s.bundle b.val).retrying (opKey o) = 0) fun s =>
    match s.dev.noc.deferred.find? (fun d => d.bundle = b.val && (d.key / 65536, d.packet.queue, d.packet.seq) = opKey o && d.slot = s.slot &&
        d.since < s.frame && !s.blocked b.val d.die d.slot s.frame true) with
    | some d => s.crossDeferred d
    | none => s.whenP (s.crossesNow (opKey o) b.val) fun s => s.deferrals (opKey o) b.val 1)

/-! ## Background tasks (07 R248-R256) -/

/-- Whether a background task belongs to an edge router (07 R217, R232, R249). -/
def State.bgTaskAt (s : State) (d router : Nat) (t : BgTask) : Bool :=
  hasBundle s.partRows router &&
  match t with
  | .scrub => router < 12 && (s.memDie (d * 3 + router / 4)).present
  | .calibration | .wearLevelling => d = 0 && router = 12
  | .noiseTest | .siteSampling =>
    s.fab.body.slots.any (fun e => e.background && e.router = edgeRouter d router && 12 ≤ router && (e.inPort = 5 || e.outPort = 5))
  | .edgeSampling => true

/-- BG_TASK_STARVED (07 R251): a background task has had no background slot of its router for 16 frames. -/
def execBgTaskStarved (d : DieId) (router : Byte) (task : BgTask) (s : State) : Host.Outcome State Fault Refusal :=
  .next (s.devEffect fun s =>
    let k := (d.val * 256 + router.toNat) * 8 + bgCode task
    s.whenP (s.running && s.bgTaskAt d.val router.toNat task && !s.dev.noc.starved.contains k && Tab.get 0 s.dev.noc.bgLast k + 16 ≤ s.frame) fun s =>
      s.onNoc fun n => { n with starved := n.starved ++ [k] })

/-- The period of a router's escalation windows, and their slots: those of its BACKGROUND record, or its 16 lowest-numbered background slots
in every 64th frame (07 R252-R255; log 65). -/
def State.bgWindow (s : State) (d router : Nat) : Nat × List Nat :=
  match s.fab.body.background.find? (fun b => b.die = d && b.router = router) with
  | some b => (2 ^ b.periodLog2, (upFrom b.first b.length).map (· % 4096))
  | none => (64, ((List.range 4096).filter (s.bgFree d router)).take 16)

/-- Whether the present slot lies in a router's escalation window: in a frame whose number is a multiple of the period, or in the first
frame not held after one that was held (07 R254, R255). -/
def State.inBgWindow (s : State) (d router : Nat) : Bool :=
  let w := s.bgWindow d router
  !s.dev.noc.held && w.2.contains s.slot && (upFrom (s.frame - s.frame % w.1) (s.frame % w.1)).all s.dev.noc.heldLog.contains

/-- A starved task is served (07 R256). -/
def State.serveStarved (s : State) (d router k : Nat) : State :=
  let s := s.onNoc fun n =>
    { n with starved := n.starved.filter (· ≠ k), bgLast := Tab.set n.bgLast k s.frame,
             bgWindowLast := Tab.set n.bgWindowLast (d * 256 + router) (s.slotCount + 1) }
  let s := s.onEdge d router fun e => { e with escalations := satAdd e.escalations 1 }
  s.pfEvent 4 Codes.BG_ESCALATED (router + d * 2 ^ 8 + k % 8 * 2 ^ 9)

/-- BG_ESCALATION_WINDOW (07 R251, R254-R256): a slot of a router's escalation window serves the task that starved first. -/
def execBgEscalationWindow (d : DieId) (router : Byte) (s : State) : Host.Outcome State Fault Refusal :=
  .next (s.effect fun s =>
    let x := d.val * 256 + router.toNat
    s.whenP (s.running && !s.dev.aux.fabricStopped && s.inBgWindow d.val router.toNat && Tab.get 0 s.dev.noc.bgWindowLast x ≠ s.slotCount + 1) fun s =>
      match s.dev.noc.starved.find? (fun k => k / 8 = x) with
      | some k => s.serveStarved d.val router.toNat k
      | none => s)

/-! ## Scrub (08 R267-R269) -/

/-- Words in a channel: 2^20 granules of 64. -/
def channelWords : Nat := 2 ^ 26

/-- The device address of a channel's word: granule 4i + channel of the die at a position (08 R259, R260). -/
def scrubAddr (position ch word : Nat) : Nat :=
  position * 2 ^ 34 + (word % channelWords / 64 * 4 + ch) * 4096 + word % 64 * 64

/-- Completed passes of a die: those of its slowest channel. -/
def MemDie.passesDone (d : MemDie) : Nat :=
  (List.range 4).foldl (fun n c => min n (Tab.get 0 d.scrubPos c / channelWords)) (Tab.get 0 d.scrubPos 0 / channelWords)

/-- The edge router that serves a channel of a memory die (07 R216, R261). -/
def dieEdge (m ch : Nat) : Nat := m % 3 * 4 + ch

/-- Whether a memory die works: present, in Ivory, its island and that of its edge domain in lock (03 R86). -/
def State.dieServes (s : State) (m : Nat) : Bool :=
  (s.memDie m).present && s.ivory (46 + m) && s.islandUp (46 + m) && s.islandUp (if m < 3 then 19 else 39)

/-- Scrub finds a word (08 R267, R269). -/
def State.scrubWord (s : State) (m ch a : Nat) : State :=
  let here := s.mem.marks.filter (fun p => p.1 / 64 = a / 64 && !isScratch p.1)
  if here = [] then s
  else if here.any (fun p => p.2 != .corrected) then
    let owner := (s.fab.body.segments.find? (fun g => g.target ≤ a && a ≤ g.target + (g.limit - g.base))).map (·.region)
    let s := s.assignFault Codes.MEM_UNCORRECTABLE owner (m / 3) none
    let s := s.onMemDie m fun d =>
      { d with uncorrectable := satAdd d.uncorrectable 1, crcFail := if here.any (fun p => p.2 == .crc) then satAdd d.crcFail 1 else d.crcFail }
    s.eventAll owner.toList 4 Codes.MEM_UNCORRECTABLE (memDetail a)
  else s.onMemDie m fun d => { d with corrected := satAdd d.corrected here.length, writeback := d.writeback ++ [(ch, a)] }

/-- SCRUB_READ (08 R262-R264, R267, R269): in a background slot of a channel's edge router, scrub reads the channel's next five words;
`found` says which of their 40 groups turn out to be damaged since they were written. -/
def execScrubRead (m : Fin 6) (ch : Fin 4) (found : List (Fin 40 × Mark)) (s : State) : Host.Outcome State Fault Refusal :=
  .next (s.effect fun s =>
    s.whenP (!s.dev.aux.fabricStopped && !s.dev.noc.held && s.dieServes m.val && s.bgFree (m.val / 3) (dieEdge m.val ch.val) s.slot) fun s =>
      let s := s.bgServed (m.val / 3) (dieEdge m.val ch.val) .scrub
      let at_ := Tab.get 0 (s.memDie m.val).scrubPos ch.val
      let q := (s.memDie m.val).position.toNat
      let s := s.onMem fun t => found.foldl (fun t g => t.mark (scrubAddr q ch.val (at_ + g.1.val / 8) + g.1.val % 8 * 8) g.2) t
      let s := (upFrom at_ 5).foldl (fun s w => s.scrubWord m.val ch.val (scrubAddr q ch.val w)) s
      s.onMemDie m.val fun d =>
        let d := { d with scrubPos := Tab.set d.scrubPos ch.val (at_ + 5) }
        { d with passes := BitVec.ofNat 32 d.passesDone })

/-- SCRUB_WRITEBACK (08 R267, R268): in a background slot in the out direction, the oldest corrected word is written back; where a
foreground write has reached it since, nothing is left to do. -/
def execScrubWriteback (m : Fin 6) (ch : Fin 4) (s : State) : Host.Outcome State Fault Refusal :=
  .next (s.effect fun s =>
    s.whenP (!s.dev.aux.fabricStopped && !s.dev.noc.held && s.dieServes m.val &&
        !s.streamSlot (m.val / 3) (dieEdge m.val ch.val) s.slot false) fun s =>
      let s := s.bgServed (m.val / 3) (dieEdge m.val ch.val) .scrub
      match (s.memDie m.val).writeback.find? (fun p => p.1 = ch.val) with
      | some p =>
        let s := s.onMem fun t => { t with marks := t.marks.filter (fun e => !(e.1 / 64 = p.2 / 64 && e.2 == .corrected && !isScratch e.1)) }
        s.onMemDie m.val fun d => { d with writeback := d.writeback.erase p }
      | none => s)

end Sys2Proof.Machine
end

