-- ==== Sys2Proof/Machine/LinkPorts.lean ====
section
/-!
DEFINITION. Rincen ports: cables and training (02 R37-R40; 20 R729-R732), frame headers (20 R735, R738, R768, R769), misses, losses,
notices and switched routes (20 R750-R759).
-/
namespace Sys2Proof.Machine

/-! ## Events (20 R772) -/

/-- The detail word: port, the partner's ordinal, the link route. -/
def State.linkDetailWord (s : State) (p linkRoute : Nat) : Nat :=
  p + (s.port p).neighbour.toNat * 2 ^ 3 + linkRoute % 4096 * 2 ^ 20

/-- The regions with link entries on a port. -/
def State.portRegions (s : State) (p : Nat) : List Nat :=
  s.regionIds.filter (fun r => s.links.any (fun e => e.port = p && !e.forwarded && e.region = r))

/-- The regions with an on-die route tied to a link route here. -/
def State.routeRegions (s : State) (l : Nat) : List Nat :=
  s.regionIds.filter (fun r => s.links.any (fun e => e.linkRoute = l && !e.forwarded && e.region = r))

/-! ## Where ports work (05 R156; 20 R729, R732) -/

/-- Stages in which ports train and send heartbeats. -/
def Stage.linksUp : Stage → Bool
  | .dieLink => true | .memInit => true | .awaitImage => true | .imageLoad => true | .running => true | _ => false

/-- Whether a port works: its stage and its domain let it, and its island keeps its lock (03 R86). -/
def State.portOn (s : State) (p : Nat) : Bool := s.dev.boot.stage.linksUp && s.ivory (41 + p / 4) && s.islandUp (41 + p / 4)

/-- Whether LNK_PORTn_CBLPRES_N is high: no cable is mated. -/
def State.uncabled (s : State) (p : Nat) : Bool := s.dev.pins.cblpres.getLsbD p

/-- Whether a port receives valid headers, or did until now. -/
def Port.heard (p : Port) : Bool := p.state = .up || p.state = .live || p.state = .mismatch || p.state = .returned

/-! ## Broken link routes (20 R754-R758) -/

/-- Whether this package still reaches the root of its package tree by the routes that it knows (20 R757). -/
def State.reachesRoot (s : State) (r : Nat) : Bool :=
  (s.treeEdges r).all (fun e => !e.1 || !(s.dev.lnk.broken.contains e.2.1 || s.dev.lnk.broken.contains e.2.2))

/-- Whether an operation of a region goes on across a broken route (20 R756-R758; 18 R674). -/
def State.tolerates (s : State) (r : Nat) : Bool :=
  !s.dev.aux.slateInForce && (s.regionDef? r).any (·.tolerant) && s.reachesRoot r

/-- Stops the operations of a region that have one of these broken link routes (20 R756-R758). -/
def State.stopBroken (s : State) (ls : List Nat) (fault : BitVec 16) (r : Nat) : State :=
  if s.tolerates r then s
  else
    ((s.slots r).filter (fun sl => sl.run.anneal.any (fun a => (s.opLinkRoutes r a.sites).any ls.contains))).foldl
      (fun s sl => s.latch r sl.op.queue sl.op.seq Codes.PARTNER_LOST 0 fault) s

/-- Link routes break here: their operations stop under the loss's fault ID. -/
def State.breakRoutes (s : State) (ls : List Nat) (fault : BitVec 16) : State :=
  let s := s.onLnk fun l => { l with broken := dedupNat (l.broken ++ ls) }
  s.regionIds.foldl (fun s r => s.stopBroken ls fault r) s

/-- A notice goes out on every live port but one (20 R752). -/
def State.sendNotice (s : State) (ordinal lostPort : Nat) (but : Option Nat) : State :=
  let out := ((List.range 8).filter (fun q => (s.port q).state = .live && but ≠ some q)).map (fun q => (q, ordinal, lostPort))
  s.onLnk fun l => { l with notices := l.notices ++ [(ordinal, lostPort)], noticesOut := l.noticesOut ++ out }

/-- The resends of a port are abandoned: no retry is in progress for their operations any more (20 R748, R749). -/
def State.abandonResends (s : State) (p : Nat) : State :=
  let s := ((s.port p).sent.filter (fun c => c.fails ≠ 0)).foldl (fun s c =>
    match c.cell.op with
    | some k => s.retryEnd k
    | none => s) s
  s.onPort p fun t => { t with sent := [] }

/-- Partner loss is declared on a port (20 R749, R751-R756; 23 R839). -/
def State.declareLoss (s : State) (p : Nat) : State :=
  let s := s.assignFault Codes.PARTNER_LOST none 0 none
  let id := s.lastFault
  let s := s.eventAll (s.portRegions p) 6 Codes.PARTNER_LOST (s.linkDetailWord p 0)
  let hit := dedupNat ((s.links.filter (fun e => e.port = p && s.entryActive e)).map (·.linkRoute))
  let s := s.abandonResends p
  let s := s.onPort p fun t => { t with state := .lost, partnerReady := false, partnerHeld := false }
  let s := s.onLnk fun l => { l with lossFault := Tab.set l.lossFault p id }
  (s.sendNotice s.package p none).breakRoutes hit id

/-! ## Cables and training (02 R37-R40; 20 R731, R732) -/

/-- The cable of a port is gone: the loss of a port that was up, the end of training (20 R751, R771). -/
def State.cableOut (s : State) (p : Nat) : State :=
  let s := if (s.port p).heard then s.declareLoss p else s
  s.onPort p fun t => { t with trained := false, state := if t.state = .lost then .lost else .down, trainFailRaised := false }

/-- CBLPRES_CHANGE (02 R40; 20 R749, R751): LNK_PORTn_CBLPRES_N changes level. In stage RESET the level is stored and no event is raised
(DESIGN CHOICE, log 121). -/
def execCblpresChange (p : PortId) (high : Bool) (s : State) : Host.Outcome State Fault Refusal :=
  .next (s.effect fun s => s.whenP (s.uncabled p.val != high) fun s =>
    let bit : BitVec 8 := 1 <<< p.val
    let s := s.onPins fun n => { n with cblpres := if high then n.cblpres ||| bit else n.cblpres &&& ~~~bit }
    s.whenP (s.dev.boot.stage ≠ .reset) fun s =>
      let s := s.pfEvent 6 Codes.CABLE_CHANGE (p.val + b2n high * 2 ^ 3)
      if high then s.cableOut p.val else s)

/-- PORT_TRAIN_ATTEMPT (20 R731, R732, R753; 02 R39, R40): a port that receives no valid headers trains on all lanes, or LNK_TRAIN_FAIL is
raised once in a sequence of attempts. -/
def execPortTrainAttempt (p : PortId) (trained : Bool) (s : State) : Host.Outcome State Fault Refusal :=
  .next (s.effect fun s => s.whenP (s.portOn p.val && !s.uncabled p.val && !((s.port p.val).trained && (s.port p.val).heard)) fun s =>
    let state (t : Port) : PortState := if t.state = .lost then .lost else .training
    if trained then
      s.onPort p.val fun t => { t with trained := true, state := state t, misses := 0, trainFailRaised := false, rxBits := [], ackBits := [] }
    else
      let raised := (s.port p.val).trainFailRaised
      let s := s.onPort p.val fun t => { t with trained := false, state := state t, trainFailRaised := true }
      if raised then s else s.eventAll (s.portRegions p.val) 6 Codes.LNK_TRAIN_FAIL (s.linkDetailWord p.val 0))

/-! ## The frame header (20 R735, R738, R769) -/

/-- A link entry's bytes, with the dir bit inverted for the sender's digest. -/
def LinkEntry.digestBytes (e : LinkEntry) (invert : Bool) : List Byte :=
  if invert then e.raw.zipIdx.map (fun b => if b.2 = 2 then b.1 ^^^ 0x08 else b.1) else e.raw

/-- The cable digest of a port's entries: as the sender gives it, or as the receiver compares it (20 R769). -/
def State.cableDigest (s : State) (p : Nat) (sender : Bool) : Word64 :=
  let l := s.links.filter (fun e => e.port = p)
  let key (e : LinkEntry) : Nat := b2n (e.dirIn != sender) * 2048 + e.slot
  let sorted := sortBy (fun a b => key a < key b) l
  OpRec.fold (OpRec.addTensor {} 0 (sorted.flatMap (fun e => e.digestBytes sender)))

/-- The system's identifier; 0 without a TOPOLOGY section. -/
def State.systemId (s : State) : Word64 := (s.topo?.map (fun t => t.systemId)).getD 0

/-- The header that a port sends now. -/
def State.frameHeader (s : State) (p : Nat) : List Byte :=
  let t := s.port p
  let body := leBytes 4 (0x4C46 + b2n s.running * 2 ^ 16 + b2n s.dev.noc.held * 2 ^ 17) ++ leBytes 4 t.frame.toNat ++
    leBytes 4 t.ackFrame.toNat ++ leBytes 4 (s.package + p * 2 ^ 17) ++
    leBytes 8 s.systemId.toNat ++ leBytes 8 (s.cableDigest p true).toNat ++
    leBytes 172 ((dedupNat t.ackBits).map (fun b => 2 ^ b)).sum ++ List.replicate 304 0
  body ++ leBytes 4 (crc32c body).toNat

/-- LINK_FRAME_START (20 R733, R735, R738; 04 R122): a trained port begins its next frame and sends the frame's header. -/
def execLinkFrameStart (p : PortId) (s : State) : Host.Outcome State Fault Refusal :=
  .next (s.devEffect fun s => s.whenP (s.portOn p.val && (s.port p.val).trained) fun s =>
    let s := s.onPort p.val fun t => { t with frame := t.frame + 1 }
    s.onPort p.val fun t => { t with header := s.frameHeader p.val })

/-! ## Headers received (20 R738, R744-R748, R768) -/

/-- Whether the partner is the one that the image names, with the same cable (20 R768). -/
def State.partnerMatches (s : State) (p : Nat) : Bool :=
  match (s.port p).partner, s.topoPort? p with
  | some h, some t =>
    h.systemId = s.systemId && h.ordinal = t.neighbour && h.port = t.farPort && h.digest = s.cableDigest p false
  | _, _ => false

/-- LNK_RETRY_EXHAUSTED: a cell is dropped, and its operation ends under the fault's ID (20 R747). -/
def State.cellExhausted (s : State) (p : Nat) (c : LinkCell) : State :=
  let s := s.assignFault Codes.LNK_RETRY_EXHAUSTED (c.op.map (·.1)) 0 none
  let id := s.lastFault
  let s := s.eventAll (s.routeRegions c.route) 6 Codes.LNK_RETRY_EXHAUSTED (s.linkDetailWord p c.route)
  match c.op with
  | some k => s.latch k.1 k.2.1 k.2.2 Codes.LNK_RETRY_EXHAUSTED 0 id
  | none => s

/-- One cell that a header's bitmap speaks of: acknowledged, due for a resend, or dropped (20 R745, R747, R748). -/
def State.ackCell (s : State) (p : Nat) (bits : Nat) (c : SentCell) : State :=
  let retry (f : State → OpKey → State) (s : State) : State :=
    match c.cell.op with
    | some k => f s k
    | none => s
  let budget := max 1 s.dev.lnk.retryBudget.toNat
  let put (s : State) (c : Option SentCell) : State := s.onPort p fun t => { t with sent := t.sent ++ c.toList }
  if bitAt bits c.slot then if c.fails = 0 then s else retry State.retryEnd s
  else if budget ≤ c.fails + 1 then (if c.fails = 0 then s else retry State.retryEnd s).cellExhausted p c.cell
  else (put s (some { c with fails := c.fails + 1, due := true })) |> (fun s => if c.fails = 0 then retry State.retryBegin s else s)

/-- The acknowledgement in a header. -/
def State.takeAck (s : State) (p : Nat) (frame : Word) (bits : Nat) : State :=
  let here (c : SentCell) : Bool := c.frame = frame && !c.due
  let l := (s.port p).sent.filter here
  let s := s.onPort p fun t => { t with sent := t.sent.filter (fun c => !here c) }
  l.foldl (fun s c => s.ackCell p bits c) s

/-- A header is missed: the third consecutive miss declares the loss of a port that was heard (20 R750, R751). -/
def State.headerMissed (s : State) (p : Nat) : State :=
  if !(s.port p).heard then s
  else if (s.port p).misses.toNat < 2 then s.onPort p fun t => { t with misses := t.misses + 1 }
  else (s.onPort p fun t => { t with misses := 3 }).declareLoss p

/-- Whether a header is valid: its CRC and its magic (20 R735, R750). -/
def headerValid (h : List Byte) : Bool := leAt h 508 4 = (crc32c (h.take 508)).toNat && leAt h 0 2 = 0x4C46

/-- Takes a valid header: the partner's identity and state, and the start of its frame. -/
def State.takeHeader (s : State) (p : Nat) (h : List Byte) : State :=
  let w3 := wordAt h 3
  s.onPort p fun t =>
    { t with
      misses := 0, neighbour := BitVec.ofNat 17 (w3 % 2 ^ 17)
      partner := some { systemId := BitVec.ofNat 64 (leAt h 16 8), ordinal := w3 % 2 ^ 17, port := bitsOf w3 19 17,
                        digest := BitVec.ofNat 64 (leAt h 24 8) }
      partnerReady := bitAt (wordAt h 0) 16, partnerHeld := bitAt (wordAt h 0) 17
      rxFrame := BitVec.ofNat 32 (wordAt h 1), rxBits := []
      state := if t.state = .training ∨ t.state = .down then .up else if t.state = .lost then .returned else t.state }

/-- LNK_NEIGHBOUR_MISMATCH: a used port whose partner disagrees once both ends run (20 R768). -/
def State.checkPartner (s : State) (p : Nat) : State :=
  if s.running && s.portUsed p && (s.port p).state = .up && (s.port p).partnerReady && !s.partnerMatches p then
    (s.onPort p fun t => { t with state := .mismatch }).eventAll (s.portRegions p) 6 Codes.LNK_NEIGHBOUR_MISMATCH (s.linkDetailWord p 0)
  else s

/-- LINK_HEADER_RECEIVE (20 R735, R738, R744-R750, R753, R768). -/
def execLinkHeaderReceive (p : PortId) (header : List Byte) (s : State) : Host.Outcome State Fault Refusal :=
  if header.length = 512 then
    .next (s.effect fun s => s.whenP (s.portOn p.val && (s.port p.val).trained) fun s =>
      if headerValid header then
        let s := (s.takeHeader p.val header).takeAck p.val (BitVec.ofNat 32 (wordAt header 2)) (leAt header 32 172)
        s.checkPartner p.val
      else
        let bad := leAt header 508 4 ≠ (crc32c (header.take 508)).toNat
        (s.onPort p.val fun t => { t with crcFail := if bad then satAdd t.crcFail 1 else t.crcFail }).headerMissed p.val)
  else .refused .illFormed

/-- PORT_LIVE (20 R768): at a link frame boundary, a used port whose partner agrees while both ends run becomes live. -/
def execPortLive (p : PortId) (s : State) : Host.Outcome State Fault Refusal :=
  .next (s.effect fun s =>
    let t := s.port p.val
    s.whenP (s.running && s.portOn p.val && s.portUsed p.val && t.trained && (t.state = .up || t.state = .mismatch) && t.partnerReady && s.partnerMatches p.val) fun s =>
      s.onPort p.val fun t => { t with state := .live })

/-- HEARTBEAT_MISS (20 R750, R751): an expected header does not begin in time. -/
def execHeartbeatMiss (p : PortId) (s : State) : Host.Outcome State Fault Refusal :=
  .next (s.effect fun s => s.whenP (s.portOn p.val) fun s => s.headerMissed p.val)

/-! ## Notices and switched routes (20 R752-R755) -/

/-- Link routes here whose path uses a link that a notice names: those of the port at its other end, and those with alternates keyed
on it (20 R754). -/
def State.noticeRoutes (s : State) (ordinal lostPort : Nat) : List Nat :=
  let far (e : LinkEntry) : Bool := (s.topoPort? e.port).any (fun t => t.neighbour = ordinal && t.farPort = lostPort)
  let keyed (e : LinkEntry) : Bool := e.alternate && (s.topo?.bind (fun t => t.alts[e.altKey]?)) = some (ordinal, lostPort)
  dedupNat ((s.links.filter (fun e => (s.entryActive e && far e) || (keyed e && !s.dev.lnk.switched.contains e.altKey))).map (·.linkRoute))

/-- LINK_DOWN_NOTICE (20 R752, R754, R756-R758): the first notice of a link is forwarded and breaks the routes that use it. -/
def execLinkDownNotice (p : PortId) (ordinal : BitVec 17) (lostPort : PortId) (s : State) : Host.Outcome State Fault Refusal :=
  .next (s.effect fun s =>
    s.whenP (s.running && (s.port p.val).state = .live && !s.dev.lnk.notices.contains (ordinal.toNat, lostPort.val)) fun s =>
      let hit := s.noticeRoutes ordinal.toNat lostPort.val
      let s := s.sendNotice ordinal.toNat lostPort.val (some p.val)
      if hit = [] then s
      else
        let s := s.assignFault Codes.PARTNER_LOST none 0 none
        s.breakRoutes hit s.lastFault)

/-- ROUTE_SWITCH (20 R755): after a notice, the alternate entries of its key take effect at a link frame boundary. -/
def execRouteSwitch (key : BitVec 16) (s : State) : Host.Outcome State Fault Refusal :=
  .next (s.effect fun s =>
    let k := key.toNat
    let mine := s.links.filter (fun e => e.alternate && e.altKey = k)
    let known := ((s.topo?.bind (fun t => t.alts[k]?)).map (fun a => s.dev.lnk.notices.contains a)).getD false
    s.whenP (s.running && known && !mine.isEmpty && !s.dev.lnk.switched.contains k) fun s =>
      let back := (dedupNat (mine.map (·.linkRoute))).filter (fun l => mine.all (fun e => e.linkRoute ≠ l || !(s.port e.port).isLost))
      let s := s.onLnk fun l => { l with switched := l.switched ++ [k], broken := l.broken.filter (fun x => !back.contains x) }
      let s := s.assignFault Codes.LNK_ROUTE_SWITCHED none 0 none
      s.eventAll (dedupNat (mine.flatMap (fun e => s.routeRegions e.linkRoute))) 6 Codes.LNK_ROUTE_SWITCHED
        (s.linkDetailWord ((mine.map (·.port)).headD 0) ((mine.map (·.linkRoute)).headD 0)))

end Sys2Proof.Machine
end

