-- ==== Sys2Proof/Machine/LinkCells.lean ====
section
/-!
DEFINITION. Cells of Rincen links (20 R733-R748): sending, receiving, forwarding and resending.
-/
namespace Sys2Proof.Machine

/-! ## Cells as bytes (20 R736) -/

/-- The 384 bytes of a cell: header, packet, CRC, zeros. -/
def cellBytes (kind : Nat) (retried : Bool) (route : Nat) (seq : Word) (mark : Option EpochMark) (packet : List Byte) : List Byte :=
  let m := match mark with
    | some k => (1 + b2n k.up * 2 + b2n k.stop * 4 + b2n k.disturbed * 8 + k.tag.toNat * 2 ^ 16, k.window.toNat)
    | none => (0, 0)
  let body := leBytes 4 (kind + b2n retried * 4 + route % 2 ^ 16 * 2 ^ 16) ++ leBytes 4 seq.toNat ++ leBytes 4 m.1 ++ leBytes 4 m.2 ++
    sliceBytes packet 0 320
  body ++ leBytes 4 (crc32c body).toNat ++ List.replicate 44 0

/-- The bytes of a cell of a link route. -/
def LinkCell.bytes (c : LinkCell) (kind : Nat) : List Byte := cellBytes kind c.retried c.route c.seq c.mark c.packet

/-- An idle cell. -/
def idleCell : List Byte := cellBytes 0 false 0 0 none []

/-- The mark in a cell's header. -/
def cellMark (b : List Byte) : Option EpochMark :=
  let w := wordAt b 2
  if bitAt w 0 then
    some { up := bitAt w 1, stop := bitAt w 2, disturbed := bitAt w 3, tag := BitVec.ofNat 16 (w / 2 ^ 16), window := BitVec.ofNat 32 (wordAt b 3) }
  else none

/-! ## Sending (20 R737, R739, R740, R744) -/

/-- A cell goes out on a port. -/
def State.putCell (s : State) (p : Nat) (b : List Byte) : State := s.onPort p fun t => { t with cellOut := b }

/-- The out entry in force of a port's slot. -/
def State.outEntry (s : State) (p slot : Nat) (forwarded : Bool) : Option LinkEntry :=
  s.links.find? (fun e => !e.dirIn && e.port = p && e.slot = slot && e.forwarded = forwarded && s.entryActive e)

/-- The oldest cell of a link route leaves in a schedulable slot; a partner in a held frame defers it, which disturbs its operation. -/
def State.sendFront (s : State) (p slot l : Nat) : State :=
  match Tab.get [] s.dev.lnk.queues l with
  | [] => s.putCell p idleCell
  | c :: rest =>
    if (s.port p).partnerHeld then
      let s := s.putCell p idleCell
      match c.op with
      | some k => s.disturb k.1 k.2.1 k.2.2
      | none => s
    else
      let s := s.onLnk fun x => { x with queues := Tab.set x.queues l rest }
      s.onPort p fun t =>
        { t with cellOut := c.bytes 1
                 sent := t.sent ++ [{ frame := t.frame, slot := slot, origFrame := t.frame, origSlot := slot, cell := c, fails := 0, due := false }] }

/-- Sends a slot's cell: that of its entry on a live port, else an idle cell. -/
def State.sendSlot (s : State) (p slot : Nat) (forwarded : Bool) : State :=
  match s.outEntry p slot forwarded with
  | some e => if (s.port p).state = .live then s.sendFront p slot e.linkRoute else s.putCell p idleCell
  | none => s.putCell p idleCell

/-- A retry-slack slot without a resend: a control cell with the oldest notice of the port, whose layout in the cell the spec does not
give, else an idle cell (20 R737, R752). -/
def State.sendControl (s : State) (p : Nat) : State :=
  match s.dev.lnk.noticesOut.find? (fun n => n.1 = p) with
  | some n =>
    let s1 := s.putCell p (cellBytes 3 false 0 0 none ((List.range 320).map (fun i => BitVec.ofNat 8 (s.freeVal i))))
    (s1.onLnk fun l => { l with noticesOut := l.noticesOut.erase n }).bump
  | none => s.putCell p idleCell

/-- Whether a port sends cells. -/
def State.sends (s : State) (p : Nat) : Bool := s.portOn p && (s.port p).trained

/-- LINK_CELL_SEND (20 R733, R734, R737, R739, R744): a port sends the cell of a link slot that traffic from the fabric may use. -/
def execLinkCellSend (p : PortId) (slot : Nat) (s : State) : Host.Outcome State Fault Refusal :=
  if slot < 1364 then
    .next (s.effect fun s => s.whenP (s.sends p.val) fun s =>
      if slot % 16 = 15 then s.sendControl p.val else s.sendSlot p.val slot false)
  else .refused .illFormed

/-- CELL_FORWARD (20 R740, R744): a forwarded cell leaves on its out entry. -/
def execCellForward (p : PortId) (slot : Nat) (s : State) : Host.Outcome State Fault Refusal :=
  if slot < 1364 then
    .next (s.effect fun s => s.whenP (s.sends p.val && slot % 16 ≠ 15) fun s => s.sendSlot p.val slot true)
  else .refused .illFormed

/-! ## Resends (20 R745, R746) -/

/-- The order of resends: original frame, then slot. -/
def sentBefore (a b : SentCell) : Bool :=
  if a.origFrame = b.origFrame then a.origSlot < b.origSlot
  else decide ((b.origFrame - a.origFrame).toNat < 2 ^ 31)

/-- The next cell of a port that is due for a resend. -/
def Port.nextResend (t : Port) : Option SentCell := (sortBy sentBefore (t.sent.filter (·.due))).head?

/-- A cell is resent in a slack slot. -/
def State.resend (s : State) (p slot : Nat) (c : SentCell) : State :=
  let cell := { c.cell with retried := true }
  let s := s.onPort p fun t =>
    { t with cellOut := cell.bytes 2, resends := satAdd t.resends 1
             sent := t.sent.erase c ++ [{ c with cell := cell, frame := t.frame, slot := slot, due := false }] }
  match c.cell.op with
  | some k => s.disturb k.1 k.2.1 k.2.2
  | none => s

/-- CELL_RESEND (20 R745, R746): a retry-slack slot carries the first cell that is due. -/
def execCellResend (p : PortId) (slot : Nat) (s : State) : Host.Outcome State Fault Refusal :=
  if slot < 1364 then
    .next (s.effect fun s =>
      s.whenP (s.sends p.val && slot % 16 = 15 && (s.port p.val).state = .live && !(s.port p.val).partnerHeld) fun s =>
        match (s.port p.val).nextResend with
        | some c => s.resend p.val slot c
        | none => s)
  else .refused .illFormed

/-! ## Receiving (20 R738, R741-R743, R746) -/

/-- The in entry in force of a port for a link route. -/
def State.inEntry (s : State) (p l : Nat) : Option LinkEntry :=
  s.links.find? (fun e => e.dirIn && e.port = p && e.linkRoute = l && s.entryActive e)

/-- A cell reaches its on-die route, or its mark the package tree; a resent one disturbs the operation that receives it. -/
def State.deliver (s : State) (p : Nat) (e : LinkEntry) (c : LinkCell) : State :=
  let s := s.onLnk fun x => { x with seqIn := Tab.set x.seqIn c.route (c.seq + 1) }
  let s := match c.mark with
    | some m => s.onLnk fun x => { x with marksIn := x.marksIn ++ [(p, c.route, m)] }
    | none => s.onLnk fun x => { x with fromHub := Tab.modify [] x.fromHub (e.region * 65536 + e.route) (· ++ [c.packet]) }
  if c.retried then
    match s.linkOp e.region c.route with
    | some k => s.disturb k.1 k.2.1 k.2.2
    | none => s
  else s

/-- Delivers the held cells of a link route that now follow in sequence. -/
def State.deliverHeld (s : State) (p : Nat) (e : LinkEntry) : Nat → State
  | 0 => s
  | fuel + 1 =>
    let held := Tab.get [] s.dev.lnk.heldCells e.linkRoute
    match held.find? (fun c => c.seq = Tab.get 0 s.dev.lnk.seqIn e.linkRoute) with
    | some c =>
      ((s.onLnk fun x => { x with heldCells := Tab.set x.heldCells e.linkRoute (held.erase c) }).deliver p e c).deliverHeld p e fuel
    | none => s

/-- Takes a cell for the fabric: in sequence, held for a missing one, or a repeat of one that was delivered. -/
def State.takeToFabric (s : State) (p : Nat) (e : LinkEntry) (c : LinkCell) : State :=
  let next := Tab.get 0 s.dev.lnk.seqIn e.linkRoute
  let held := Tab.get [] s.dev.lnk.heldCells e.linkRoute
  if c.seq = next then (s.deliver p e c).deliverHeld p e held.length
  else if (c.seq - next).toNat < 2 ^ 31 && !held.any (fun h => h.seq = c.seq) then
    s.onLnk fun x => { x with heldCells := Tab.set x.heldCells e.linkRoute (held ++ [c]) }
  else s

/-- Takes a data or resend cell; none where it is not accepted. -/
def State.takeCell (s : State) (p : Nat) (b : List Byte) : Option State :=
  let l := bitsOf (wordAt b 0) 31 16
  let c : LinkCell := { route := l, seq := BitVec.ofNat 32 (wordAt b 1), retried := bitAt (wordAt b 0) 2,
                        packet := (b.drop 16).take 320, mark := cellMark b, op := none }
  match s.inEntry p l with
  | some e =>
    if (s.port p).state ≠ .live then none
    else if e.forwarded then
      if 8 ≤ (Tab.get [] s.dev.lnk.queues l).length then none
      else some (s.onLnk fun x => { x with queues := Tab.set x.queues l (Tab.get [] x.queues l ++ [c]) })
    else some (s.takeToFabric p e c)
  | none => none

/-- Notes whether the cell of a slot was accepted; the last slot ends the partner's frame (20 R738). -/
def State.noteCell (s : State) (p slot : Nat) (accepted : Bool) : State :=
  s.onPort p fun t =>
    let t := { t with rxBits := if accepted then t.rxBits ++ [slot] else t.rxBits }
    if slot = 1363 then { t with ackFrame := t.rxFrame, ackBits := t.rxBits } else t

/-- LINK_CELL_RECEIVE (20 R736, R738, R741-R743, R746): the cell of a link slot arrives. -/
def execLinkCellReceive (p : PortId) (slot : Nat) (cell : List Byte) (s : State) : Host.Outcome State Fault Refusal :=
  if cell.length = 384 && slot < 1364 then
    .next (s.effect fun s => s.whenP (s.sends p.val) fun s =>
      if leAt cell 336 4 ≠ (crc32c (cell.take 336)).toNat then
        (s.onPort p.val fun t => { t with crcFail := satAdd t.crcFail 1 }).noteCell p.val slot false
      else
        let kind := bitsOf (wordAt cell 0) 1 0
        if kind = 1 || kind = 2 then
          match s.takeCell p.val cell with
          | some s => s.noteCell p.val slot true
          | none => s.noteCell p.val slot false
        else s.noteCell p.val slot true)
  else .refused .illFormed

end Sys2Proof.Machine
end

