-- ==== Sys2Proof/Machine/LinkMarks.lean ====
section
/-!
DEFINITION. Package trees: start barriers and epoch marks (11 R456-R458; 12 R485, R486; 18 R695, R696; 20 R763-R767), and SYNC_IN
(17 R651; 20 R765).
-/
namespace Sys2Proof.Machine

/-- The window number of the start barrier's mark (20 R765). -/
def startMark : Nat := 0xFFFFFFFF

/-- The edges of a package tree on which this package holds the left operand, and the one on which it holds the right. -/
def State.childEdges (s : State) (r : Nat) : List (Nat × Nat) := ((s.treeEdges r).filter (fun e => !e.1)).map (·.2)
def State.parentEdge (s : State) (r : Nat) : Option (Nat × Nat) := ((s.treeEdges r).find? (·.1)).map (·.2)

def State.onAnneal (s : State) (k : OpKey) (f : AnnealRun → AnnealRun) : State :=
  s.onRun k.1 k.2.1 k.2.2 fun u => { u with anneal := u.anneal.map f }

/-- Windows that every site of an operation has committed. -/
def State.committedWindows (s : State) (a : AnnealRun) : Nat :=
  match a.sites.map (fun k => (s.site k).spin.tally.windows) with
  | [] => 0
  | n :: t => t.foldl min n

/-- The mark that an operation sends next: the start barrier's, the next epoch's in Slate mode, or in Ochre mode a stop, at once (20 R764, R765,
R767; 11 R456-R458). -/
def State.nextMark (s : State) (a : AnnealRun) : Option Nat :=
  if !a.epochSent.contains startMark then
    if a.sites.all (fun k => (s.imports k).zipIdx.all (fun e => !e.1.remote || (s.site k).spin.work.valuesIn.contains (fillWindow, e.2))) then some startMark
    else none
  else if s.dev.aux.slateInForce then
    let k := a.epochSent.length * s.epochK - 1
    if s.epochK ≠ 0 && k < s.committedWindows a then some k else none
  else if a.stopAsked && a.epochSent.length = 1 then some (s.stopAt a) else none

/-- Whether the up marks of a window are held from every right operand whose route is not broken (20 R757, R764). -/
def State.upHeld (s : State) (r : Nat) (a : AnnealRun) (w : Nat) : Bool :=
  (s.childEdges r).all (fun e => s.dev.lnk.broken.contains e.1 || a.upMarks.any (fun m => m.1 = e.1 && m.2.1 = w))

/-- A mark goes down to every right operand (20 R764). -/
def State.markDown (s : State) (k : OpKey) (m : EpochMark) : State :=
  (s.childEdges k.1).foldl (fun s e => s.queueCell (some k) e.2 [] (some { m with up := false })) s

/-- The stop window that a mark's stop request gives: its own window in Slate mode, the window in progress in Ochre mode
(12 R485; 20 R767). -/
def State.markStop (s : State) (a : AnnealRun) (w : Nat) : Nat :=
  if s.dev.aux.slateInForce then w
  else
    let works := (a.sites.map (fun k => (s.site k).spin.work)).filter (·.active)
    let top := (works.map (·.window)).foldl max 0
    if works.isEmpty then 0
    else if works.any (fun g => g.window = top && !g.committed) then top else top + 1

/-- A stop request that a mark carries becomes this package's own (12 R485, R486). -/
def State.takeStop (s : State) (k : OpKey) (a : AnnealRun) (w : Nat) : State :=
  let x := s.markStop a w
  s.onAnneal k fun a =>
    match a.stopWindow with
    | none => { a with stopWindow := some x, stopCode := if a.stopAsked then a.stopCode else Codes.ANL_ABORTED }
    | some y => { a with stopWindow := some (min x y) }

/-- The down mark of a window has reached this package, or its root has made it (20 R764, R765). With that of the start barrier comes the
magnitude bound over all packages (10 R414; 20 R763): what the others add is a free value (log 3). -/
def State.downMark (s : State) (k : OpKey) (a : AnnealRun) (m : EpochMark) : State :=
  let s := s.markDown k m
  if m.window.toNat = startMark then
    let total := a.bound + s.freeVal 0
    let s := s.bump
    if 2 ^ 47 ≤ total then s.latchEnd k Codes.ANL_ENERGY_RANGE 0
    else
      let synced := s.dev.shared.syncInOwner = 1
      s.onAnneal k fun a => { a with downStart := true, started := !synced }
  else
    let s := s.onAnneal k fun a => { a with epochDone := a.epochDone ++ [m.window.toNat] }
    if m.stop then s.takeStop k a m.window.toNat else s

/-- Sends an operation's mark: up to the holder of its left operand, with SYNC_OUT, or down from the root (20 R764, R765; 18 R696). -/
def State.sendMark (s : State) (k : OpKey) (sl : Slot) (a : AnnealRun) (w : Nat) : State :=
  let heard := a.upMarks.filter (fun m => m.2.1 = w)
  let m : EpochMark :=
    { up := true, stop := a.stopWindow = some w || (a.stopAsked && w ≠ startMark) || heard.any (·.2.2.1)
      disturbed := sl.rec_.disturbance ≠ a.markDisturb || heard.any (·.2.2.2)
      tag := BitVec.ofNat 16 (sl.op.field 1 15 0), window := BitVec.ofNat 32 w }
  let s := s.onAnneal k fun a => { a with epochSent := a.epochSent ++ [w], markDisturb := sl.rec_.disturbance }
  match s.parentEdge k.1 with
  | some e =>
    let s := s.queueCell (some k) e.1 [] (some m)
    if s.dev.shared.syncOutOwner = 1 then s.pulseSyncOut else s
  | none => s.downMark k a m

/-- EPOCH_MARK_SEND (11 R457; 12 R485; 18 R696; 20 R764, R765). -/
def execEpochMarkSend (o : OpRef) (s : State) : Host.Outcome State Fault Refusal :=
  .next (s.effect fun s => s.whenP s.fabricOn fun s =>
    match s.slotAt o with
    | some sl =>
      match sl.run.anneal with
      | some a =>
        match s.nextMark a with
        | some w => s.whenP (sl.op.state = .running && a.multi &&
            (s.upHeld o.region.val a w || (!s.dev.aux.slateInForce && w ≠ startMark))) fun s => s.sendMark (opKey o) sl a w
        | none => s
      | none => s
    | none => s)

/-! ## Marks received (20 R764-R767; 18 R695) -/

/-- The running multi-package operation that a link route of its package tree serves: region, slot, run. -/
def State.markOp (s : State) (l : Nat) : Option (Nat × Slot × AnnealRun) :=
  s.regionIds.findSome? (fun r =>
    if (s.treeEdges r).any (fun e => e.2.1 = l || e.2.2 = l) then
      (sortBy slotBefore (s.slots r)).findSome? (fun sl =>
        match sl.run.anneal with
        | some a => if sl.op.state = .running && a.multi then some (r, sl, a) else none
        | none => none)
    else none)

/-- A mark of another operation ends this one, and travels down as a stop (20 R766). -/
def State.markMismatch (s : State) (k : OpKey) (m : EpochMark) : State :=
  (s.markDown k { m with stop := true }).latch k.1 k.2.1 k.2.2 Codes.LNK_OP_MISMATCH 0 0

/-- An up mark is noted; its stop request is this package's own in Slate mode, and goes on at once in Ochre mode (12 R485; 20 R767). -/
def State.takeUpMark (s : State) (k : OpKey) (a : AnnealRun) (l : Nat) (m : EpochMark) : State :=
  let s := s.onAnneal k fun a => { a with upMarks := a.upMarks ++ [(l, m.window.toNat, m.stop, m.disturbed)] }
  if !m.stop then s
  else if s.dev.aux.slateInForce then s.takeStop k a m.window.toNat
  else match s.parentEdge k.1 with
    | some e => s.queueCell (some k) e.1 [] (some m)
    | none => s.downMark k a m

/-- A mark reaches its operation. -/
def State.takeMark (s : State) (l : Nat) (m : EpochMark) (r : Nat) (sl : Slot) (a : AnnealRun) : State :=
  let k := sl.key r
  if m.tag.toNat ≠ sl.op.field 1 15 0 then s.markMismatch k m
  else
    let s := if m.disturbed then s.disturb k.1 k.2.1 k.2.2 else s
    if m.up then s.takeUpMark k a l m else s.downMark k a m

/-- EPOCH_MARK_ARRIVE (12 R485, R486; 18 R695; 20 R763-R767): the oldest mark that a port brought is combined up, or passed down; it
waits while no operation of its tree runs here. -/
def execEpochMarkArrive (p : PortId) (s : State) : Host.Outcome State Fault Refusal :=
  .next (s.effect fun s => s.whenP s.fabricOn fun s =>
    match s.dev.lnk.marksIn.find? (fun m => m.1 = p.val) with
    | some x =>
      match s.markOp x.2.1 with
      | some (r, sl, a) => (s.onLnk fun l => { l with marksIn := l.marksIn.erase x }).takeMark x.2.1 x.2.2 r sl a
      | none => s
    | none => s)

/-! ## SYNC_IN (02 R48, R53; 17 R651, R652; 20 R765) -/

/-- SYNC_IN_EDGE: a frame mark for the region that owns SYNC_IN, or window 0 of the operations whose start barrier has ended. -/
def execSyncInEdge (s : State) : Host.Outcome State Fault Refusal :=
  .next (s.effect fun s => s.whenP s.fabricOn fun s =>
    let o := s.dev.shared.syncInOwner.toNat
    if o = 1 then
      s.regionIds.foldl (fun s r => (s.slots r).foldl (fun s sl => s.onAnneal (sl.key r) fun a =>
        if a.multi && a.downStart then { a with started := true } else a) s) s
    else if 0x20 ≤ o then s.dueMark (o - 0x20) 1 0
    else s)

end Sys2Proof.Machine
end

