-- ==== Sys2Proof/Machine/Cipher.lean ====
section
/-!
DEFINITION. The stored form of DRAM (08 R263; 22 R827-R829): AES-256 in XTS mode under a region's key, and the CRC-32C check over a
word's address and its stored bytes. Mem holds the plain bytes that a router's decryption gives (log 108).
-/
namespace Sys2Proof.Machine

/-! ## AES-256 (FIPS 197) -/

/-- Multiplication by x modulo x^8 + x^4 + x^3 + x + 1. -/
def gfDouble (b : Nat) : Nat := if b < 128 then 2 * b else Nat.xor (2 * b - 256) 0x1B

/-- The product of two field elements: the sum of the doublings of `a` that the low `n` bits of `b` select. -/
def gfMul (n a b : Nat) : Nat :=
  match n with
  | 0 => 0
  | n + 1 => Nat.xor (if b % 2 = 1 then a else 0) (gfMul n (gfDouble a) (b / 2))

/-- The inverse of a field element, 0 for 0: its 254th power. -/
def gfInv (a : Nat) : Nat :=
  let m (x y : Nat) : Nat := gfMul 8 x y
  let a2 := m a a
  let a4 := m a2 a2
  let a8 := m a4 a4
  let a16 := m a8 a8
  let a32 := m a16 a16
  let a64 := m a32 a32
  m (m (m a2 a4) (m a8 a16)) (m (m a32 a64) (m a64 a64))

/-- A byte rotated left. -/
def rotByte (b n : Nat) : Nat := b * 2 ^ n % 256 + b / 2 ^ (8 - n)

/-- The substitution of a byte. -/
def subByte (b : Nat) : Nat :=
  let x := gfInv b
  Nat.xor (Nat.xor (Nat.xor x (rotByte x 1)) (Nat.xor (rotByte x 2) (rotByte x 3))) (Nat.xor (rotByte x 4) 0x63)

/-- Bytes added pairwise. -/
def xorBytes (a b : List Nat) : List Nat := a.zipWith Nat.xor b

/-- The next word of the key schedule from the last eight, oldest first: its number and the round constant in force. -/
def nextKeyWord (i rcon : Nat) (l : List (List Nat)) : List Nat :=
  let prev := l.getD 7 []
  let t := if i % 8 = 0 then
      match (prev.tail ++ prev.take 1).map subByte with
      | b :: r => Nat.xor b rcon :: r
      | [] => []
    else if i % 8 = 4 then prev.map subByte
    else prev
  xorBytes (l.headD []) t

/-- The words of the key schedule from number `i` on, `n` of them, after the last eight. -/
def keyWords : Nat → Nat → Nat → List (List Nat) → List (List Nat)
  | 0, _, _, _ => []
  | n + 1, i, rcon, l =>
    let w := nextKeyWord i rcon l
    w :: keyWords n (i + 1) (if i % 8 = 0 then gfDouble rcon else rcon) (l.tail ++ [w])

/-- Splits a list into words of four bytes. -/
def fours (n : Nat) (l : List Nat) : List (List Nat) := (List.range n).map (fun i => (l.drop (4 * i)).take 4)

/-- The 60 words of the key schedule of a 32-byte key. -/
def keySchedule (key : List Nat) : List (List Nat) :=
  let k := fours 8 key
  k ++ keyWords 52 8 1 k

/-- The bytes of round key `r`. -/
def roundKey (ws : List (List Nat)) (r : Nat) : List Nat := ((ws.drop (4 * r)).take 4).flatMap id

/-- Row `r` of the state moves left by `r` columns. -/
def shiftRows (s : List Nat) : List Nat := (List.range 16).map (fun i => s.getD ((i + 4 * (i % 4)) % 16) 0)

/-- One column mixed. -/
def mixColumn (c : List Nat) : List Nat :=
  (List.range 4).map (fun i =>
    let b (j : Nat) : Nat := c.getD ((i + j) % 4) 0
    Nat.xor (Nat.xor (gfDouble (b 0)) (Nat.xor (gfDouble (b 1)) (b 1))) (Nat.xor (b 2) (b 3)))

/-- The columns of the state mixed. -/
def mixColumns (s : List Nat) : List Nat := (fours 4 s).flatMap mixColumn

/-- One 16-byte block encrypted under a key schedule: 14 rounds, the last without the mixing of columns. -/
def aesBlock (ws : List (List Nat)) (b : List Nat) : List Nat :=
  let s := (List.range 13).foldl (fun s r => xorBytes (mixColumns (shiftRows (s.map subByte))) (roundKey ws (r + 1))) (xorBytes b (roundKey ws 0))
  xorBytes (shiftRows (s.map subByte)) (roundKey ws 14)

/-! ## XTS (IEEE Std 1619) -/

/-- The little-endian number of bytes, and its bytes. -/
def bytesNat (l : List Nat) : Nat := l.foldr (fun b n => b + 256 * n) 0
def natBytes (n v : Nat) : List Nat := (List.range n).map (fun i => v / 256 ^ i % 256)

/-- A tweak multiplied by the primitive element of GF(2^128). -/
def tweakNext (t : List Nat) : List Nat :=
  let v := 2 * bytesNat t
  natBytes 16 (if 2 ^ 128 ≤ v then Nat.xor (v - 2 ^ 128) 0x87 else v)

/-- The blocks of a data unit, each under its own tweak. -/
def xtsBlocks (k1 : List (List Nat)) : Nat → List Nat → List Nat → List Nat
  | 0, _, _ => []
  | n + 1, t, p => xorBytes (aesBlock k1 (xorBytes (p.take 16) t)) t ++ xtsBlocks k1 n (tweakNext t) (p.drop 16)

/-- AES-256-XTS of a data unit of `n` blocks under a 64-byte key, whose halves encrypt the data and the tweak (22 R827). -/
def xts (key : List Nat) (n unit : Nat) (p : List Nat) : List Nat :=
  xtsBlocks (keySchedule (key.take 32)) n (aesBlock (keySchedule (key.drop 32)) (natBytes 16 unit)) p

/-! ## A stored DRAM word -/

/-- The memory key of a region (22 R829). -/
def State.regionKey (s : State) (r : Nat) : BitVec 512 := Tab.get 0 s.fab.keys r

/-- The region through whose segments a DRAM word is written. -/
def State.wordRegion (s : State) (a : Nat) : Option Nat :=
  (s.fab.body.segments.find? (fun g => g.target ≤ a && a ≤ g.target + (g.limit - g.base))).map (·.region)

/-- The 64 stored bytes of the DRAM word at `a`: encrypted under the key of the region that writes it (22 R827, R828). -/
def State.storedWord (s : State) (a : Nat) : List Byte :=
  let w := a / 64 * 64
  let plain := s.mem.readBytes s.free w 64
  match s.wordRegion w with
  | some r => (xts (natBytes 64 (s.regionKey r).toNat) 4 (w / 64) (plain.map BitVec.toNat)).map (BitVec.ofNat 8)
  | none => plain

/-- The CRC-32C check stored with the word: over its 8-byte address and its stored bytes (08 R263). -/
def State.storedCheck (s : State) (a : Nat) : BitVec 32 := crc32c (leBytes 8 (a / 64 * 64) ++ s.storedWord a)

end Sys2Proof.Machine
end

