-- ==== Sys2Proof/Machine/RegionReset.lean ====
section
/-!
DEFINITION. Region reset (05 R162-R166; 22 R825, R829; 23 R853, R856, R858) and the unloading of an image (05 R155).
-/
namespace Sys2Proof.Machine

/-! ## The steps of a region reset (05 R162) -/

/-- Zero-fills a region's DRAM segments (05 R162 step 5); a memory die in Charcoal keeps no contents (04 R90). -/
def State.zeroDram (s : State) (r : Nat) : State :=
  let s := (s.segments r).foldl (fun s g => if g.target < dramTop then s.onMem fun m => m.zeroFill g.target g.devEnd else s) s
  (List.range 6).foldl (fun s q =>
    match s.dieAt q with
    | some m => if s.domState (46 + m) = .charcoal then s.onMem fun x => x.forget (q * 2 ^ 34) ((q + 1) * 2 ^ 34) else s
    | none => s) s

/-- Step 1: a revocation of kind 5, applied at once (05 R162; 23 R853). From here the region takes no new work. -/
def State.resetBegin (s : State) (r : Nat) : State :=
  let s := s.onRAux r fun a => { a with resetAsked := false, resetBusy := true }
  (s.onRev r fun x => { x with busy := true, pending := some { kind := 5, arg := 0 } }).applyRevocation r

/-- Step 2: the region's domains return to Ivory, those of a die whose edge domain is not in Ivory excepted (04 R97; DESIGN CHOICE, log
109); after a thermal trip none does (04 R126). -/
def State.resetDomains (s : State) (r : Nat) : State :=
  if s.dev.aux.tripHold then s
  else s.toIvory ((s.ownedDomains r).filter (fun n => (edgeOf n).all s.ivory))

/-- Steps 2 to 6: domains, scratchpads, sites and registers, tables, the key and the DRAM, and shared resources. The owner epochs
stay. -/
def State.regionReset (s : State) (r : Nat) : State :=
  let s := (s.flushDues r).resetDomains r
  let keys := s.siteKeys r
  let s := s.onFab fun b => { b with sites := b.sites.map (fun e => if keys.contains e.1 then (e.1, resetSite e.2) else e) }
  let s := s.onMem fun m => keys.foldl (fun m k => m.clearRange (scratchAddr (k / 256) (k % 256) 0) (scratchAddr (k / 256) (k % 256) 0 + 2 ^ 20)) m
  let epochs := (s.region r).rev.epochs
  let s := s.onRegion r fun _ => { aux := { resetBusy := true }, rev := { epochs := epochs } }
  let s := s.onNoc fun n => { n with queues := n.queues.filter (fun e => e.1 / 65536 ≠ r) }
  let s := s.onSec fun c => { c with attests := c.attests.filter (fun x => x.1 ≠ r) }
  let s := s.writeTables (fun t => t.region = r)
  ((((s.newKey r).zeroDram r).releaseShared r)).endTrace r

/-- The engines that a region owns return to service (23 R856). -/
def State.restoreEngines (s : State) (r : Nat) : State :=
  (List.range 2).foldl (fun s d =>
    let s := if s.image.powerOwners.getD (d * 20 + 17) 0xFF = r then s.onDie d fun x => { x with featFault := none } else s
    if s.image.powerOwners.getD (d * 20 + 18) 0xFF = r then s.onDie d fun x => { x with steFault := none } else s) s

/-- An island out of lock that a region's reset relocks: one of its sites', of a block that holds one, or of a block or
engine that it owns. -/
def State.islandOf (s : State) (r : Nat) (e : Nat × Option Nat) : Bool :=
  match e.2 with
  | some k => (s.siteKeys r).contains k
  | none => (s.ownedDomains r).contains e.1 || (s.siteKeys r).any (fun k => s.siteDomain (k / 256) (k % 256) = e.1)

/-- The health tests of the random generator failed at a region reset (22 R825). -/
def State.rngFault (s : State) (r : Nat) : State :=
  let s := s.assignFault Codes.SEC_RNG_FAULT (some r) 0 none
  (s.bothEvent r 6 Codes.SEC_RNG_FAULT r).onSched r fun g => { g with noDoorbell := true }

/-- The stopped islands of a region have locked again: its sites and engines return to service (23 R856, R858). -/
def State.relock (s : State) (r : Nat) : State :=
  let s := s.onClk fun c => { c with unlocked := c.unlocked.filter (fun x => !s.islandOf r x) }
  let s := (s.siteKeys r).foldl (fun s k => if (s.site k).island.isSome then s.onSite k fun x => { x with island := none } else s) s
  s.restoreEngines r

/-- A region reset ends (05 R163; 11 R431; 15 R582; 22 R825; 23 R858): its islands relock, or one does not; the sites' self-tests and table
checks run again. -/
def State.regionResetEnd (s : State) (r : Nat) (relocked rngOk : Bool) (tests : SiteTests) : State :=
  let s := s.onRAux r fun a => { a with resetBusy := false }
  match s.dev.clk.unlocked.find? (s.islandOf r), relocked with
  | some e, false =>
    let s := s.assignFault Codes.ISLAND_LOCK_LOST (some r) (e.1 / 20 % 2) (e.2.map (· % 256))
    (s.bothEvent r (islandKind e.2) Codes.ISLAND_LOCK_LOST (islandDetail e.1 e.2 true)).onSched r fun g => { g with noDoorbell := true }
  | _, _ =>
    let s := ((s.relock r).checkTables r tests.sums).checkNoise r tests.badNoise
    if rngOk then s.bothEvent r 6 Codes.REGION_RESET_DONE r else s.rngFault r

/-- Every operation still in flight ends with REVOKED, one that had ended with its own status (23 R849). -/
def State.endRevoked (s : State) (r : Nat) : State :=
  ((sortBy slotBefore (s.slots r)).foldl (fun s sl =>
    if sl.op.state = .latched then s.finish r sl.op.queue sl.op.seq sl.rec_.status sl.rec_.result sl.rec_.faultId
    else s.finish r sl.op.queue sl.op.seq Codes.REVOKED 0 0) s).flushDues r

/-- The unload command: every region is reset, and the image leaves (05 R155). DESIGN CHOICE (log 110): the resets run within the
command, and what would still run to a stop point ends at it. -/
def State.unloadImage (s : State) : State :=
  let s := s.regionIds.foldl (fun s r => ((((s.resetBegin r).endRevoked r).regionReset r).regionResetEnd r true true ⟨[], []⟩)) s
  s.dropImage

/-! ## Meanings -/

/-- IMAGE_UNLOAD (05 R155): HUB_IMAGE_CMD.cmd 2. -/
def execImageUnload (s : State) : Host.Outcome State Fault Refusal :=
  .next (s.effect fun s => s.whenP (s.pfReach true) fun s =>
    if s.running then s.unloadImage.imageEnd Codes.OK else s.imageState)

/-- REGION_RESET_REQ (05 R162, R163, R166; 21 R788): the physical function sets REGION_RESET.req. -/
def execRegionResetReq (f : FnId) (r : RegionId) (s : State) : Host.Outcome State Fault Refusal :=
  .next (s.effect fun s => s.whenP (f = 0 && s.reaches f.val r.val && !(s.region r.val).aux.resetBusy) fun s =>
    s.onRAux r.val fun a => { a with resetAsked := true })

/-- REGION_RESET_START (05 R162; 23 R850, R853): at the first frame boundary after the request, the region's operations are revoked. -/
def execRegionResetStart (r : RegionId) (s : State) : Host.Outcome State Fault Refusal :=
  .next (s.effect fun s => s.whenP (s.running && s.atFrame && s.defined r.val && (s.region r.val).aux.resetAsked) fun s => s.resetBegin r.val)

/-- REGION_RESET_END (05 R162, R163; 11 R431; 15 R582; 22 R825; 23 R858): every revoked operation has completed; the other steps of the
reset follow, and it ends. -/
def execRegionResetEnd (r : RegionId) (relocked rngOk : Bool) (tests : SiteTests) (s : State) : Host.Outcome State Fault Refusal :=
  .next (s.effect fun s => s.whenP ((s.region r.val).aux.resetBusy && (s.slots r.val).isEmpty) fun s =>
    (s.regionReset r.val).regionResetEnd r.val relocked rngOk tests)


end Sys2Proof.Machine
end

