-- ==== Sys2Proof/Machine/HostLink.lean ====
section
/-!
DEFINITION. The host link and the functions' configuration (21 R773-R805), host reads that fail (21 R791, R792), MSI-X messages (21
R794-R799), bad accesses (21 R786), and the registers of reproducibility with rows of their own (18 R672, R673, R691-R693).
-/
namespace Sys2Proof.Machine

/-! ## What a function reports and supports (21 R776-R778) -/

/-- The identity registers of a function (21 R778). -/
structure FuncId where
  vendor : BitVec 16
  device : BitVec 16
  classCode : BitVec 24
  revision : BitVec 8
  deriving DecidableEq, Repr

/-- The identity of the physical function, 0, or of a virtual function, at stepping B1. -/
def Part.funcId (p : Part) (f : Nat) : FuncId :=
  { vendor := 0x1F3C, device := if f ≠ 0 then 0xAE7F else if p.grade = .ae7_960 then 0xAE70 else 0xAE64, classCode := 0x120000, revision := 0x11 }

/-- What a request from the host can need of the link, by R776 and R777. -/
inductive HostNeed where
  | memory | configuration | msix | aer | sriov | ari | functionReset | tag10
  | ats | pri | pasid | atomicOp | tph | ecrc | ltr | aspm | l1Substates | pme | resizableBar | ide | doe | multicast | tag14 | expansionRom
  deriving DecidableEq, Repr

/-- Whether the AE7 supports it (21 R776, R777). -/
def HostNeed.supported : HostNeed → Bool
  | .memory | .configuration | .msix | .aer | .sriov | .ari | .functionReset | .tag10 => true
  | .ats | .pri | .pasid | .atomicOp | .tph | .ecrc | .ltr | .aspm | .l1Substates | .pme | .resizableBar | .ide | .doe | .multicast
  | .tag14 | .expansionRom => false

/-- Whether a request is answered with Unsupported Request: it needs a feature that the AE7 does not support (21 R777). -/
def unsupportedRequest (needs : List HostNeed) : Bool := needs.any (fun n => !n.supported)

/-! ## The link (21 R801, R802) -/

/-- A function whose configuration is reset; its MSI-X table and pending bits stay. -/
def Func.configReset (f : Func) : Func := { msix := f.msix, pba := f.pba, sentMsgs := f.sentMsgs }

/-- The host link is lost and the package keeps running: its configuration is reset and the loss waits to be raised (21 R802). -/
def State.loseHost (s : State) : State :=
  let s := s.onHst fun h =>
    { h with linkUp := false, rate := 0, width := 0, flit := false, linkDowns := satAdd h.linkDowns 1, vfEnable := false, numVFs := 0
             funcs := h.funcs.map (fun e => (e.1, e.2.configReset)) }
  (s.assignFault Codes.HST_LINK_DOWN none 0 none).onAux fun a => { a with linkDownPending := true }

/-- HOST_LINK_DOWN (05 R131, R134, R151; 21 R801, R802): the Data Link Layer goes down or a Hot Reset is received; an image fetch ends. -/
def execHostLinkDown (s : State) : Host.Outcome State Fault Refusal :=
  .next (s.effect fun s => s.whenP s.dev.hst.linkUp fun s =>
    if s.dev.hst.linkDownReset then
      (s.onHst fun h => { h with linkDowns := satAdd h.linkDowns 1 }).hostPulse
    else s.loseHost.fetchEnds Codes.HST_LINK_DOWN)

/-- Raises what waits for the host link (05 R142; 21 R802). -/
def State.raiseWaiting (s : State) : State :=
  let s := if s.dev.aux.watchdogPending then
      ((s.assignFault Codes.WATCHDOG_RESET none 0 none).pfEvent 6 Codes.WATCHDOG_RESET 0).onAux fun a => { a with watchdogPending := false }
    else s
  if s.dev.aux.linkDownPending then
    (s.pfEvent 6 Codes.HST_LINK_DOWN s.dev.hst.linkDowns.toNat).onAux fun a => { a with linkDownPending := false }
  else s

/-- Stages in which the host link trains (05 R156). -/
def Stage.hostTrains (g : Stage) : Bool := g ≠ .reset && g ≠ .rom

/-- HOST_LINK_UP (05 R142, R156; 21 R773, R774, R802): the host link trains at a rate and width. -/
def execHostLinkUp (rate : BitVec 3) (width : BitVec 5) (flit : Bool) (s : State) : Host.Outcome State Fault Refusal :=
  .next (s.effect fun s => s.whenP s.dev.boot.stage.hostTrains fun s =>
    (s.onHst fun h => { h with linkUp := true, rate := rate, width := width, flit := flit }).raiseWaiting)

/-! ## Virtual functions and function resets (21 R779-R782, R803-R805) -/

/-- Whether configuration requests reach the device: the link is up and the stage answers (05 R156). -/
def State.configReach (s : State) : Bool := s.dev.hst.linkUp && s.dev.boot.stage.hostUp

/-- Sets which virtual functions are enabled. -/
def State.enableVfs (s : State) (on : Bool) (n : Nat) : State :=
  (upFrom 1 32).foldl (fun s k =>
    let want := on && k ≤ n
    if (s.func k).enabled == want then s else s.onFunc k fun f => { f with enabled := want })
    (s.onHst fun h => { h with vfEnable := on, numVFs := n })

/-- VF_ENABLE_WRITE (21 R781, R782): VF Enable and NumVFs are written; setting VF Enable outside RUNNING is ignored. -/
def execVfEnableWrite (enable : Bool) (numVFs : Fin 33) (s : State) : Host.Outcome State Fault Refusal :=
  .next (s.devEffect fun s => s.whenP (s.configReach && (!enable || s.running)) fun s => s.enableVfs enable numVFs.val)

/-- A function's configuration, MSI-X state and tick latch are reset (03 R80; 21 R803, R804). -/
def State.resetFunc (s : State) (k : Nat) : State :=
  let s := s.onFunc k fun f => { enabled := f.enabled, sentMsgs := f.sentMsgs }
  s.onClk fun c => { c with latches := Tab.erase c.latches k }

/-- VF_FLR (21 R803; 05 R162, R163): virtual function k + 1 is reset, and a region reset of region k is requested. -/
def execVfFlr (k : RegionId) (s : State) : Host.Outcome State Fault Refusal :=
  .next (s.effect fun s => s.whenP (s.configReach && (s.func (k.val + 1)).enabled) fun s =>
    let r := k.val
    let busy := (s.region r).aux.resetBusy
    let s := s.resetFunc (r + 1)
    let s := if s.running && s.defined r && !busy then s.onRAux r fun a => { a with resetAsked := true } else s
    s.pfEvent 6 Codes.HST_VF_FLR (r + b2n busy * 2 ^ 5))

/-- PF_FLR (21 R804): the physical function is reset, VF Enable is cleared, and in RUNNING the image is unloaded. -/
def execPfFlr (s : State) : Host.Outcome State Fault Refusal :=
  .next (s.effect fun s => s.whenP s.configReach fun s =>
    let s := (s.resetFunc 0).enableVfs false 0
    if s.running then s.unloadImage.imageEnd Codes.OK else s)

/-! ## MSI-X (21 R794-R799) -/

/-- Vectors of a function. -/
def vectorCount (f : Nat) : Nat := if f = 0 then 32 else 63

/-- A vector's four table words; the vector is masked until software unmasks it. -/
def Func.entry (f : Func) (v : Nat) : List Word :=
  let e := Tab.get [0, 0, 0, 1] f.msix v
  [e.getD 0 0, e.getD 1 0, e.getD 2 0, e.getD 3 1]
def Func.masked (f : Func) (v : Nat) : Bool := ((f.entry v).getD 3 1).getLsbD 0

/-- Whether a function sends messages now (21 R798). -/
def Func.sends (f : Func) : Bool := f.busMaster && !f.d3hot

/-- One message of a vector goes out. -/
def Func.send (f : Func) (v : Nat) : Func :=
  { f with sentMsgs := Tab.modify 0 f.sentMsgs v (· + 1), pba := f.pba &&& ~~~((1 : BitVec 64) <<< v) }

/-- A message that is due: it goes out, or its pending bit is set (21 R797, R798). -/
def Func.message (f : Func) (v : Nat) : Func :=
  if f.sends && !f.masked v then f.send v else { f with pba := f.pba ||| ((1 : BitVec 64) <<< v) }

/-- Sends the messages that pending bits hold, where nothing keeps them back any more. -/
def Func.release (f : Func) : Func :=
  if f.sends then (List.range 64).foldl (fun f v => if f.pba.getLsbD v && !f.masked v then f.send v else f) f else f

/-- Whether a source's message is due (21 R796). -/
def Irq.due (i : Irq) (t : Word64) : Bool :=
  i.live && (max i.count.toNat 1 ≤ i.pending || (i.hold ≠ 0 && i.pending ≠ 0 && i.first.toNat + 1024 * i.hold.toNat ≤ t.toNat))

/-- A source's register, and its function. -/
def State.irqOf (s : State) : IrqSource → Irq × Nat
  | .queue r q => (Tab.get {} (s.region r.val).sched.irqs q.val, r.val + 1)
  | .event r => (Tab.get {} (s.region r.val).sched.irqs irqEvt, r.val + 1)
  | .digest r => (Tab.get {} (s.region r.val).sched.irqs irqDig, r.val + 1)
  | .pfEvent => (s.dev.hst.pfIrq, 0)

/-- Changes a source's register. -/
def State.onIrq (s : State) (src : IrqSource) (f : Irq → Irq) : State :=
  match src with
  | .queue r q => s.onSched r.val fun g => { g with irqs := Tab.modify {} g.irqs q.val f }
  | .event r => s.onSched r.val fun g => { g with irqs := Tab.modify {} g.irqs irqEvt f }
  | .digest r => s.onSched r.val fun g => { g with irqs := Tab.modify {} g.irqs irqDig f }
  | .pfEvent => s.onHst fun h => { h with pfIrq := f h.pfIrq }

/-- MSIX_MESSAGE (21 R796-R799): a source's count or hold time is reached. -/
def execMsixMessage (src : IrqSource) (s : State) : Host.Outcome State Fault Refusal :=
  .next (s.effect fun s =>
    let i := (s.irqOf src).1
    let f := (s.irqOf src).2
    s.whenP (i.due s.tick && i.vector.toNat < vectorCount f && (f = 0 || (s.func f).enabled)) fun s =>
      (s.onIrq src fun i => { i with pending := 0 }).onFunc f fun x => x.message i.vector.toNat)

/-- MSIX_UNMASK (21 R797, R798): software unmasks a vector; a message that its pending bit holds is sent. -/
def execMsixUnmask (f : FnId) (vec : Fin 64) (s : State) : Host.Outcome State Fault Refusal :=
  .next (s.devEffect fun s => s.whenP (s.hubReach f.val && vec.val < vectorCount f.val) fun s =>
    s.onFunc f.val fun x => { x with msix := Tab.set x.msix vec.val ((x.entry vec.val).set 3 ((x.entry vec.val).getD 3 1 &&& ~~~1#32)) }.release)

/-- Whether a function exists for configuration requests. -/
def State.funcConfig (s : State) (f : Nat) : Bool := s.configReach && (f = 0 || (s.func f).enabled)

/-- FUNCTION_D3HOT (21 R798, R805). -/
def execFunctionD3hot (f : FnId) (s : State) : Host.Outcome State Fault Refusal :=
  .next (s.devEffect fun s => s.whenP (s.funcConfig f.val) fun s => s.onFunc f.val fun x => { x with d3hot := true })

/-- POWER_STATE_D0 (21 R798, R805): a function returns to D0; messages held in its pending bits are sent. -/
def execPowerStateD0 (f : FnId) (s : State) : Host.Outcome State Fault Refusal :=
  .next (s.devEffect fun s => s.whenP (s.funcConfig f.val) fun s => s.onFunc f.val fun x => { x with d3hot := false }.release)

/-- BUS_MASTER_ENABLE_WRITE (21 R790, R798). -/
def execBusMasterEnableWrite (f : FnId) (v : Bool) (s : State) : Host.Outcome State Fault Refusal :=
  .next (s.devEffect fun s => s.whenP (s.funcConfig f.val) fun s => s.onFunc f.val fun x => { x with busMaster := v }.release)

/-! ## Host reads that fail (21 R791, R792) -/

/-- What remains of the fetches when a queue's oldest awaited fetch fails: that one and the queue's later ones go (09 R330, log 58). -/
def cutFetches (q : Nat) : List Fetch → List Fetch
  | [] => []
  | f :: t => if f.queue = q ∧ f.bytes.isNone then t.filter (fun f => f.queue ≠ q) else f :: cutFetches q t

/-- A descriptor fetch from a host ring fails: its queue stops, with head at that descriptor (09 R330, 21 R791). -/
def State.hostFetchError (s : State) (r q : Nat) : State :=
  match (s.region r).sched.fetches.find? (fun f => f.queue = q && f.bytes.isNone) with
  | some _ =>
    let s := s.assignFault Codes.HST_HOST_ERROR (some r) 0 none
    let all := (s.region r).sched.fetches
    let left := cutFetches q all
    let s := s.onQueue r q fun c => { c with head := c.head - BitVec.ofNat 32 (all.length - left.length) }
    (s.onSched r fun g => { g with fetches := left }).fetchFails r q
  | none => s

/-- HOST_READ_ERROR (21 R791, R792): a host read ends in Unsupported Request, Completer Abort, poison or a timeout. -/
def execHostReadError (o : OpRef) (fetch : Bool) (s : State) : Host.Outcome State Fault Refusal :=
  .next (s.effect fun s => s.whenP s.running fun s =>
    if fetch then s.hostFetchError o.region.val o.queue.val
    else match s.slotAt o with
      | some sl =>
        s.whenP (sl.op.desc? = some .copy && sl.op.srcHost && sl.op.state = .running) fun s =>
          let s := s.retryEnd (opKey o)
          let s := s.assignFault Codes.HST_HOST_ERROR (some o.region.val) 0 none
          s.cutCopy o.region.val sl Codes.HST_HOST_ERROR s.lastFault
      | none => s)

/-! ## Bad accesses (21 R786) -/

/-- HST_BAD_ACCESS of a function at an offset. -/
def State.badAccess (s : State) (f offset : Nat) : State := s.pfEvent 6 Codes.HST_BAD_ACCESS (offset + f * 2 ^ 26)

/-- BAD_REGISTER_ACCESS (21 R786): an access of another width, or not aligned, reads 0 and writes nothing. -/
def execBadRegisterAccess (f : FnId) (offset : BitVec 26) (s : State) : Host.Outcome State Fault Refusal :=
  .next (s.effect fun s => s.whenP (s.hubReach f.val) fun s =>
    (s.onDbg fun d => { d with readAnswer := 0 }).badAccess f.val offset.toNat)

/-! ## Reproducibility (18 R672, R673, R691-R693) -/

/-- HUB_DET_CTL_WRITE (18 R672, R673). -/
def execHubDetCtlWrite (v : Word) (s : State) : Host.Outcome State Fault Refusal :=
  .next (s.effect fun s => s.whenP (s.pfReach true) fun s =>
    if s.dev.boot.stage = .imageLoad || s.running then s.pfEvent 6 Codes.DET_MODE_LOCKED v.toNat
    else s.onAux fun a => { a with slateCtl := v.getLsbD 0 })

/-- A 256-bit register with 32-bit word `n` replaced. -/
def putWord256 (x : BitVec 256) (n : Nat) (v : Word) : BitVec 256 :=
  (x &&& ~~~((0xFFFFFFFF : BitVec 256) <<< (32 * n))) ||| (v.setWidth 256 <<< (32 * n))

/-- DET_WEIGHTS_WRITE (18 R691, R693): it takes effect at the next slot boundary. -/
def execDetWeightsWrite (f : FnId) (r : RegionId) (n : Fin 8) (v : Word) (s : State) : Host.Outcome State Fault Refusal :=
  .next (s.effect fun s => s.whenP (s.reaches f.val r.val && (f = 0 || !(s.region r.val).aux.weightsLock)) fun s =>
    s.onRAux r.val fun a => { a with weightsNext := some (putWord256 (a.weightsNext.getD a.weights) n.val v) })

/-- DET_INPUT_WRITE (18 R691): it takes effect at the next slot boundary. -/
def execDetInputWrite (f : FnId) (r : RegionId) (n : Fin 8) (v : Word) (s : State) : Host.Outcome State Fault Refusal :=
  .next (s.effect fun s => s.whenP (s.reaches f.val r.val) fun s =>
    s.onRAux r.val fun a => { a with inputNext := some (putWord256 (a.inputNext.getD a.input) n.val v) })

/-- WEIGHTS_LOCK_SET (18 R693; 21 R788): only the physical function sets weights_lock. -/
def execWeightsLockSet (f : FnId) (r : RegionId) (s : State) : Host.Outcome State Fault Refusal :=
  .next (s.effect fun s => s.whenP (f = 0 && s.reaches f.val r.val) fun s => s.onRAux r.val fun a => { a with weightsLock := true })

end Sys2Proof.Machine
end

