-- ==== Sys2Proof/Machine/Security.lean ====
section
/-!
DEFINITION. Security: fuse commands (22 R807-R810, R815-R822) and attestation (22 R831-R834).
-/
namespace Sys2Proof.Machine

/-! ## Fuse states -/

/-- Image key slots that are provisioned, and those that are spoiled (22 R809). -/
def Fuses.provisioned (f : Fuses) (k : Nat) : Bool := f.imgValid.getLsbD k
def Fuses.spoiled (f : Fuses) (k : Nat) : Bool := Tab.get 0 f.imgHash k ≠ 0 && !f.provisioned k
/-- Whether no fuse of an image key slot is blown. -/
def Fuses.slotFresh (f : Fuses) (k : Nat) : Bool := Tab.get 0 f.imgHash k = 0 && !f.provisioned k && !f.imgRevoked.getLsbD k
/-- Image key slots that are provisioned and not revoked. -/
def Fuses.liveSlots (f : Fuses) : List Nat := (List.range 8).filter f.slotUsable

/-- The fuses of a number that are blown: its bits, ascending. -/
def onesOf (w : Nat) (x : BitVec w) : List Nat := (List.range w).filter (fun i => x.getLsbD i)

/-- Blows the first `n` fuses of a list of bits. -/
def blowBits {w : Nat} (x : BitVec w) (bits : List Nat) (n : Nat) : BitVec w :=
  (bits.take n).foldl (fun x i => x ||| ((1 : BitVec w) <<< i)) x

/-! ## Commands -/

def State.secResult (s : State) (c : Code) : State := s.onSec fun k => { k with result := c }

/-- SEC_CMD is acted on: the write reaches the SEC block, and no fuse command is busy (22 R819). -/
def State.secTaken (s : State) : Bool := s.pfReach false && !s.dev.sec.busy

/-- Programs the fuses of a command, `total` of them, where `apply n` blows the first `n`: the command ends with OK or SEC_FUSE_FAIL, or
a package reset cuts it off (22 R816, R821, R822). -/
def State.program (s : State) (cmd slot total : Nat) (res : FuseResult) (apply : State → Nat → State) : State :=
  match res with
  | .blown => ((apply s total).secResult Codes.OK).onSec fun k => { k with busy := true }
  | .failed at_ =>
    if total ≤ at_ then ((apply s total).secResult Codes.OK).onSec fun k => { k with busy := true }
    else (((apply s at_).secResult Codes.SEC_FUSE_FAIL).onSec fun k => { k with busy := true }).pfEvent 6 Codes.SEC_FUSE_FAIL (cmd + slot * 2 ^ 4)
  | .cut at_ => (apply s (min at_ total)).onSec fun k => { k with busy := true, cut := true }

/-- A command that fails its condition ends at once, and changes no fuse (22 R815). -/
def State.secRun (s : State) (refused : Option Code) (run : State → State) : State :=
  if !s.secTaken then s
  else if s.dev.boot.stage ≠ .awaitImage && !s.running then s.secResult Codes.SEC_CMD_DENIED
  else match refused with
    | some c => s.secResult c
    | none => run s

/-- The staged public key, first byte in bits [7:0] of SEC_KEY_DATA_0. -/
def State.stagedKey (s : State) : List Byte := (List.range 24).flatMap (fun n => leBytes 4 (Tab.get 0 s.dev.sec.keyData n).toNat)

def State.onFuses (s : State) (f : Fuses → Fuses) : State := { s with fuses := f s.fuses }

/-- PROVISION_IMAGE_KEY (22 R815, R816, R819, R821, R822): the staged key goes to the key store, the slot's hash fuses are blown, and its
valid bit last. -/
def execProvisionImageKey (slot : Fin 8) (fuses : FuseResult) (s : State) : Host.Outcome State Fault Refusal :=
  .next (s.fuseEffect fun s =>
    let k := slot.val
    let refused := if s.fuses.lock then some Codes.SEC_LOCKED else if s.fuses.slotFresh k then none else some Codes.SEC_SLOT_USED
    s.secRun refused fun s =>
      let key := s.stagedKey
      let hash : BitVec 384 := BitVec.ofNat 384 (beNat (sha384 key))
      let bits := onesOf 384 hash
      let s := { s with flash := { s.flash with keyStore := Tab.set s.flash.keyStore k key } }
      s.program 1 k (bits.length + 1) fuses fun s n => s.onFuses fun f =>
        { f with imgHash := Tab.set f.imgHash k (blowBits (Tab.get 0 f.imgHash k) bits n)
                 imgValid := if bits.length < n then f.imgValid ||| ((1 : BitVec 8) <<< k) else f.imgValid })

/-- REVOKE_IMAGE_KEY (22 R815, R818, R819, R821, R822). -/
def execRevokeImageKey (slot : Fin 8) (fuses : FuseResult) (s : State) : Host.Outcome State Fault Refusal :=
  .next (s.fuseEffect fun s =>
    let k := slot.val
    let refused := if s.fuses.lock && s.fuses.liveSlots = [k] then some Codes.SEC_REVOKE_LAST else none
    s.secRun refused fun s => s.program 2 k 1 fuses fun s n => s.onFuses fun f => { f with imgRevoked := blowBits f.imgRevoked [k] n })

/-- REVOKE_FIRMWARE_KEY (22 R815, R818, R819, R821, R822). -/
def execRevokeFirmwareKey (slot : Fin 4) (fuses : FuseResult) (s : State) : Host.Outcome State Fault Refusal :=
  .next (s.fuseEffect fun s =>
    let k := slot.val
    let after := s.onFuses fun f => { f with fwRevoked := blowBits f.fwRevoked [k] 1 }
    let refused := if after.copyVerifies s.flash.copyA || after.copyVerifies s.flash.copyB then none else some Codes.SEC_REVOKE_LAST
    s.secRun refused fun s => s.program 3 k 1 fuses fun s n => s.onFuses fun f => { f with fwRevoked := blowBits f.fwRevoked [k] n })

/-- ADVANCE_IMAGE_ROLLBACK (22 R815, R817, R819, R821, R822). -/
def execAdvanceImageRollback (fuses : FuseResult) (s : State) : Host.Outcome State Fault Refusal :=
  .next (s.fuseEffect fun s =>
    let v := min 64 s.image.securityVersion.toNat
    s.secRun (if s.running then none else some Codes.SEC_CMD_DENIED) fun s =>
      if v ≤ s.fuses.imgRollback then s.secResult Codes.OK
      else s.program 4 0 (v - s.fuses.imgRollback) fuses fun s n => s.onFuses fun f => { f with imgRollback := f.imgRollback + n })

/-- The lower security version of the two firmware copies. -/
def State.lowerVersion (s : State) : Nat :=
  min ((s.flash.copyA.map (·.version.toNat)).getD 0) ((s.flash.copyB.map (·.version.toNat)).getD 0)

/-- ADVANCE_FIRMWARE_ROLLBACK (22 R815, R817, R819, R821, R822). -/
def execAdvanceFirmwareRollback (fuses : FuseResult) (s : State) : Host.Outcome State Fault Refusal :=
  .next (s.fuseEffect fun s =>
    let v := min 64 s.lowerVersion
    let refused := if s.copyVerifies s.flash.copyA && s.copyVerifies s.flash.copyB then none else some Codes.SEC_ROLLBACK_DENIED
    s.secRun refused fun s =>
      if v ≤ s.fuses.fwRollback then s.secResult Codes.OK
      else s.program 5 0 (v - s.fuses.fwRollback) fuses fun s n => s.onFuses fun f => { f with fwRollback := f.fwRollback + n })

/-- BLOW_PROVISIONING_LOCK (22 R810, R815, R819, R821, R822). -/
def execBlowProvisioningLock (fuses : FuseResult) (s : State) : Host.Outcome State Fault Refusal :=
  .next (s.fuseEffect fun s =>
    s.secRun (if s.fuses.liveSlots = [] then some Codes.SEC_REVOKE_LAST else none) fun s =>
      s.program 6 0 1 fuses fun s n => s.onFuses fun f => { f with lock := f.lock || n ≠ 0 })

/-! ## Attestation (22 R831-R834) -/

/-- ATTEST_GO (22 R831, R833): a write of REGION_ATTEST_CMD; with go 1 an attestation of the named queue waits its turn. -/
def execAttestGo (f : FnId) (r : RegionId) (v : Word) (s : State) : Host.Outcome State Fault Refusal :=
  .next (s.effect fun s => s.whenP (s.reaches f.val r.val && !(s.region r.val).aux.attestBusy) fun s =>
    let go := v.getLsbD 0
    let s := s.onRAux r.val fun a => { a with attestQueue := v.extractLsb' 1 6, attestBusy := go }
    if go then
      s.onSec fun c => { c with attests := insertBy (fun (a b : Nat × Word64) => a.2 = b.2 && a.1 < b.1) (r.val, s.tick) c.attests }
    else s)

/-- The message that an attestation signs (22 R831). -/
def State.attestMessage (s : State) (r q : Nat) (digest : BitVec 256) (seq : Word) : List Byte :=
  leBytes 4 0x54413741 ++ leBytes 4 (r + q * 2 ^ 8 + b2n s.dev.aux.slateInForce * 2 ^ 14) ++ leBytes 4 seq.toNat ++ leBytes 4 0 ++
    leBytes 8 s.part.deviceId.toNat ++ leBytes 32 digest.toNat ++ leBytes 32 (s.region r).aux.nonce.toNat ++
    leBytes 4 ((s.activeCopy.map (·.version.toNat)).getD 0) ++ leBytes 1 s.fuses.imgRollback ++ leBytes 1 s.fuses.fwRollback ++ leBytes 2 0

/-- An ECDSA signature on P-384 of a hash under private key `d` with the secret number `k`, which the random generator gives. -/
def ecdsaSign (d k : Nat) (hash : List Byte) : Nat × Nat :=
  let r := match ecMul (some (gx384, gy384)) k 384 with
    | some p => p.1 % n384
    | none => 0
  (r, invMod n384 k * (beNat hash + r * d) % n384)

/-- The registers of a signature: r, then s, big-endian. -/
def sigWords (r t : Nat) : List Word :=
  let b := beBytes 48 r ++ beBytes 48 t
  (List.range 24).map (fun n => BitVec.ofNat 32 (leAt b (4 * n) 4))

/-- An attestation ends (22 R831, R832); the secret number of the signature is a free value (log 3). -/
def State.attest (s : State) (r : Nat) : State :=
  let a := (s.region r).aux
  let q := a.attestQueue.toNat
  match (s.queue r q).lastDigest with
  | none => s.onRAux r fun a => { a with attestBusy := false, attestResult := Codes.SEC_NO_DIGEST }
  | some d =>
    let k := 1 + s.freeVal 0 % (n384 - 1)
    let g := ecdsaSign s.part.attestKey.toNat k (sha384 (s.attestMessage r q d.1 d.2))
    (s.onRAux r fun a => { a with attestBusy := false, attestResult := Codes.OK, attestSig := sigWords g.1 g.2 }).bump

/-- ATTEST_COMPLETE (22 R831-R834): the security block, while its island runs (03 R86), ends the oldest attestation. -/
def execAttestComplete (s : State) : Host.Outcome State Fault Refusal :=
  .next (s.effect fun s => s.whenP (s.islandUp 44) fun s =>
    match s.dev.sec.attests with
    | [] => s
    | x :: rest => (s.onSec fun c => { c with attests := rest }).attest x.1)

end Sys2Proof.Machine
end

