-- ==== Sys2Proof/Machine/RegRead.lean ====
section
/-!
DEFINITION. What a register read answers: the 32-bit words of the physical function's BAR0 (25 R898-R905, with each register's
fields in its own chapter) and of a virtual function's (21 R785), and reads of 64 bits (21 R786; 25 R902). No read but that of
CLK_TICK_LO changes any state (03 R80).
-/
namespace Sys2Proof.Machine

/-! ## Fields -/

/-- A register's value from its fields, each at its lowest bit. -/
def fields : List (Nat × Nat) → Nat
  | [] => 0
  | (lo, v) :: t => v * 2 ^ lo + fields t

/-- One 32-bit half of a 64-bit register: the half that holds byte offset `o`. -/
def half (o v : Nat) : Nat := v / 2 ^ (32 * (o % 8 / 4)) % 2 ^ 32

/-- Four bytes of a list as a word, the first byte in bits [7:0]. -/
def bytesWord (l : List Byte) (n : Nat) : Nat := leAt l (4 * n) 4

/-! ## HUB, HST and MSI-X -/

/-- HUB_SHARED_OWN (02 R54). -/
def Shared.own (h : Shared) : Nat := fields [(0, h.alertOwner.toNat), (8, h.syncInOwner.toNat), (16, h.syncOutOwner.toNat)]

/-- HUB_BOOT_STATUS (05 R165). -/
def State.bootStatus (s : State) : Nat :=
  let b := s.dev.boot
  fields [(0, b.stage.code), (4, b.failCount.toNat), (6, b2n s.flash.activeB), (7, b2n b.autoloadBit), (16, b.lastError.toNat)]

/-- HUB_RESET_CAUSE (05 R165). -/
def Boot.resetCause (b : Boot) : Nat := fields [(0, b2n b.rcPowerOn), (1, b2n b.rcBoard), (2, b2n b.rcHost), (3, b2n b.rcWatchdog)]

/-- HUB_IMAGE_DETAIL (06 R210). -/
def BootAux.detail (a : BootAux) : Nat := fields [(0, a.detailStep.toNat), (8, a.detailSection.toNat), (16, a.detailEntry.toNat)]

/-- HUB_DET_CTL (18 R673, R698). -/
def State.detCtl (s : State) : Nat := fields [(0, b2n s.dev.aux.slateCtl), (1, b2n (s.dev.boot.stage = .imageLoad || s.running))]

/-- Word `w` of a fault-log entry (23 R865). -/
def FaultEntry.word (e : FaultEntry) (w : Nat) : Nat :=
  match w with
  | 0 => fields [(0, e.id.toNat), (16, e.code.toNat)]
  | 1 => fields [(0, e.cls.toNat), (4, e.region.toNat), (10, b2n e.die), (11, e.site.toNat), (19, e.ended.toNat)]
  | 2 => e.tick.toNat % 2 ^ 32
  | _ => e.tick.toNat / 2 ^ 32

/-- An interrupt source's register (21 R795). -/
def Irq.word (i : Irq) : Nat := fields [(0, i.vector.toNat), (6, b2n i.enable), (8, i.count.toNat), (16, i.hold.toNat)]

/-- HST_LINK_STATUS (21 R806). -/
def Hst.linkStatus (h : Hst) : Nat :=
  fields [(0, h.rate.toNat), (3, h.width.toNat), (8, b2n h.flit), (9, b2n h.linkUp), (16, h.linkDowns.toNat)]

/-- HST_VF_STATUS_k (21 R806). -/
def State.vfStatus (s : State) (k : Nat) : Nat :=
  let f := s.func k
  fields [(0, b2n f.enabled), (1, b2n f.busMaster), (2, b2n f.d3hot), (3, b2n (s.defined (fnRegion k))),
    (4, b2n (s.region (fnRegion k)).aux.resetBusy)]

/-- A word of a function's MSI-X table, at a byte offset in it (21 R785, R794). -/
def State.msixWord (s : State) (f o : Nat) : Nat :=
  if o / 16 < vectorCount f then (((s.func f).entry (o / 16)).getD (o % 16 / 4) 0).toNat else 0

/-- Words of the HUB block (25 R905). -/
def State.hubWord (s : State) (o : Nat) : Nat :=
  if 0xC0 ≤ o ∧ o < 0xF0 then (if s.running then bytesWord s.image.digest ((o - 0xC0) / 4) else 0)
  else if 0x200 ≤ o ∧ o < 0x600 then (Tab.get {} s.dev.faults.log ((o - 0x200) / 16)).word (o % 16 / 4)
  else if 0x10104 ≤ o ∧ o < 0x10184 then s.vfStatus ((o - 0x10100) / 4)
  else if 0x20000 ≤ o ∧ o < 0x20200 then s.msixWord 0 (o - 0x20000)
  else match o with
    | 0x40 => s.dev.shared.own
    | 0x4C => (s.dev.shared.hubResult.read s.tick).toNat
    | 0x80 => s.bootStatus
    | 0x84 => s.dev.boot.resetCause
    | 0x88 => b2n s.dev.boot.recoveryNext
    | 0x90 | 0x94 => half o s.dev.boot.imageSrc.toNat
    | 0x98 => s.dev.boot.imageLen.toNat
    | 0xA0 => fields [(0, b2n s.dev.boot.imageBusy), (16, s.dev.boot.imageResult.toNat)]
    | 0xA8 | 0xAC => half o s.dev.aux.detail
    | 0xB0 | 0xB4 => half o (if s.running then s.image.buildId.toNat else 0)
    | 0x100 => s.detCtl
    | 0x108 | 0x10C => half o s.dev.aux.detProfile.toNat
    | 0x600 | 0x604 => half o (fields [(0, s.dev.faults.next.toNat), (16, s.dev.faults.count.toNat)])
    | 0x10000 => b2n s.dev.hst.linkDownReset
    | 0x10008 => s.dev.hst.linkStatus
    | 0x10020 | 0x10024 => half o s.dev.hst.pfEvt.base.toNat
    | 0x10028 => fields [(0, s.dev.hst.pfEvt.sizeLog2.toNat), (6, b2n s.dev.hst.pfEvt.enable)]
    | 0x1002C => s.dev.hst.pfEvt.tail.toNat
    | 0x10030 => s.dev.hst.pfEvt.head.toNat
    | 0x10034 => s.dev.hst.pfEvt.lost.toNat
    | 0x10038 => s.dev.hst.pfIrq.word
    | 0x21000 | 0x21004 => half o (s.func 0).pba.toNat
    | _ => 0

/-! ## PWR, CLK, SEC and QUE -/

/-- Whether any narrowing is in force: the level asks for it, or a site still runs what an earlier level narrowed (04 R123). -/
def State.narrowed (s : State) : Bool :=
  s.narrows || (!s.dev.aux.slateInForce && s.regionIds.any (fun r => (s.slots r).any (fun sl =>
    sl.run.anneal.any (fun a => a.sites.any (fun k => (s.site k).spin.op = some (sl.key r) && (s.site k).spin.work.lanes < a.lanes)) ||
    sl.run.matrix.any (fun m => m.rows < planRows s.dev.pwr.planCode.toNat))))

/-- PWR_THERM_STATUS (04 R129). -/
def Pwr.thermStatus (p : Pwr) (narrowed : Bool) : Nat :=
  fields [(0, p.hottest.toNat), (10, p.hottestId.toNat), (16, p.level.toNat), (19, b2n narrowed), (20, b2n p.tripped)]

/-- PWR_DOMAIN_n (04 R100, R129). -/
def State.domainWord (s : State) (n : Nat) : Nat :=
  fields [(0, if n = 63 then 0 else (s.domain n).target.toNat), (4, (s.domState n).code), (8, b2n (s.domPresent n)), (9, b2n (switchable n)),
    (16, s.domOwner n)]

/-- Words of the PWR block (25 R905). -/
def State.pwrWord (s : State) (o : Nat) : Nat :=
  let p := s.dev.pwr
  let n := (o - 0x100) / 8
  let m := (o - 0x400) / 4
  if 0x100 ≤ o ∧ o < 0x300 then (if o % 8 = 0 ∧ (n ≤ 51 ∨ n = 63) then s.domainWord n else 0)
  else if 0x400 ≤ o ∧ o < 0x494 then (if isBlock m then (s.domain m).retain.toNat else 0)
  else match o with
    | 0x0 => fields [(0, p.planCode.toNat), (8, planLanes p.planCode.toNat), (16, planRows p.planCode.toNat)]
    | 0x10 => fields [(0, p.throttle.toNat), (8, p.release.toNat), (16, p.trip.toNat)]
    | 0x18 => p.thermStatus s.narrowed
    | _ => 0

/-- Every powered island is locked, once reset has been released (03 R87). -/
def State.allLocked (s : State) : Bool :=
  s.dev.boot.stage ≠ .reset && s.dev.clk.unlocked.all (fun u => s.domState u.1 = .ash || s.domState u.1 = .charcoal)

/-- Words of the CLK block, as a function reads them (03 R80, R87). -/
def State.clkWord (s : State) (f o : Nat) : Nat :=
  let c := s.dev.clk
  match o with
  | 0x0 => fields [(0, c.planCode.toNat), (8, c.window.toNat)]
  | 0x8 => c.tick.toNat % 2 ^ 32
  | 0xC => (Tab.get 0 c.latches f).toNat
  | 0x10 => fields [(0, c.trim.toNat), (16, b2n c.trimPending.isSome), (17, b2n c.resFault)]
  | 0x18 => fields [(0, b2n s.allLocked), (1, b2n c.lockLost), (16, c.lostCount.toNat)]
  | _ => 0

/-- SEC_FW_COPY_n (22 R836). -/
def State.copyWord (s : State) (c : Option FwCopy) : Nat :=
  match c with
  | some x => fields [(0, x.version.toNat), (32, x.keySlot.val), (34, b2n (s.copyVerifies c))]
  | none => 0

/-- A mask of the numbers below `n` that satisfy a condition. -/
def maskOf (n : Nat) (p : Nat → Bool) : Nat := fields ((List.range n).map (fun i => (i, b2n (p i))))

/-- The attestation public key: x then y, big-endian (22 R836). -/
def Part.keyBytes (p : Part) : List Byte := beBytes 48 p.attestX.toNat ++ beBytes 48 p.attestY.toNat

/-- Words of the SEC block (22 R836). -/
def State.secWord (s : State) (o : Nat) : Nat :=
  if 0x100 ≤ o ∧ o < 0x160 then bytesWord s.part.keyBytes ((o - 0x100) / 4)
  else if 0x1000 ≤ o ∧ o < 0x2000 then bytesWord s.part.cert ((o - 0x1000) / 4)
  else match o with
    | 0x0 => fields [(0, if s.fuses.lock then 2 else 1), (2, b2n s.dev.sec.rngOk), (16, s.fuses.imgRollback), (24, s.fuses.fwRollback)]
    | 0x8 => fields [(0, s.fuses.imgValid.toNat), (8, s.fuses.imgRevoked.toNat), (16, maskOf 8 s.fuses.spoiled)]
    | 0xC => s.fuses.fwRevoked.toNat
    | 0x10 | 0x14 => half o (s.copyWord s.flash.copyA)
    | 0x18 | 0x1C => half o (s.copyWord s.flash.copyB)
    | 0x20 | 0x24 => half o s.part.deviceId.toNat
    | 0x284 => fields [(0, b2n s.dev.sec.busy), (16, s.dev.sec.result.toNat)]
    | 0xFFC => s.part.cert.length
    | _ => 0

/-- QUE_MAP_q (09 R381). -/
def State.queMap (s : State) (q : Nat) : Nat :=
  match s.image.regions.find? (fun d => d.queueFirst ≤ q && q < d.queueFirst + d.queueCount) with
  | some d => fields [(0, d.id), (5, 1), (6, q - d.queueFirst)]
  | none => 0

/-! ## Region control windows -/

/-- Word `w` of a watermark's register (09 R377, R380). -/
def State.wmWord (s : State) (r n w : Nat) : Nat :=
  let m := Tab.get {} (s.region r).sched.wms n
  if w = 0 then fields [(0, m.threshold.toNat), (16, if n = 2 then m.select.toNat else 0)]
  else fields [(0, b2n m.crossed), (1, b2n (m.threshold ≠ 0 && m.threshold.toNat ≤ s.wmLevel r n)), (16, m.count.toNat)]

/-- Graphs of a lockstep group that have been dispatched, and whether the group is formed (17 R658, R670). -/
def State.groupFormed (s : State) (r g : Nat) : Nat × Bool :=
  let l := (s.visMembers r g).filter (fun sl => sl.run.vis.isSome)
  (l.length, l.any (fun sl => sl.run.group.formed))

/-- REGION_VIS_GROUP_n (17 R670). -/
def State.visGroupWord (s : State) (r g : Nat) : Nat :=
  let v := Tab.get {} (s.region r).aux.visGroups g
  let m := s.groupFormed r g
  fields [(0, v.underruns.toNat), (16, v.marksMissed.toNat), (32, v.framesDropped.toNat), (48, m.1), (51, b2n (m.2 && g ≠ 0))]

/-- Registers of one local queue, by the offset from their base (09 R380). -/
def State.queueWord (s : State) (r q o : Nat) : Nat :=
  let c := s.queue r q
  if s.queueCount r ≤ q then 0
  else match o with
    | 0x0 | 0x4 => half o c.base.toNat
    | 0x8 => fields [(0, c.sizeLog2.toNat), (5, b2n c.host), (6, b2n c.cplHost), (7, b2n c.record64), (8, b2n c.threadFed), (9, b2n c.enable)]
    | 0x10 | 0x14 => half o c.cplBase.toNat
    | 0x1C => c.head.toNat
    | 0x20 => c.cplTail.toNat
    | 0x24 => c.cplHead.toNat
    | 0x28 => fields [(0, s.queueOps r q), (7, b2n (s.fencePending r q)), (8, b2n (s.cplFull r q)), (16, c.lastBad.toNat)]
    | _ => 0

/-- REGION_MEM_FAULT (08 R300). -/
def RegionAux.memFault (a : RegionAux) : Nat :=
  fields [(0, a.memFaultAddr.toNat), (48, b2n a.memFaultValid), (49, a.memFaultCount.toNat), (56, a.memFaultCode.toNat)]

/-- A ring's configuration register of a region (09 R380, 18 R699). -/
def Ring.cfgWord (g : Ring) : Nat := fields [(0, g.sizeLog2.toNat), (5, b2n g.host), (6, b2n g.enable)]

/-- A region's registers, with the values that they hold (25 R905). -/
def State.regionWord (s : State) (r o : Nat) : Nat :=
  let g := (s.region r).sched
  let a := (s.region r).aux
  let v := (s.region r).rev
  if 0x440 ≤ o ∧ o < 0x458 then s.wmWord r ((o - 0x440) / 8) (o % 8 / 4)
  else if 0x500 ≤ o ∧ o < 0x580 then half o (s.visGroupWord r ((o - 0x500) / 8))
  else if 0x580 ≤ o ∧ o < 0x5A0 then (Tab.get 0 a.timerPeriod ((o - 0x580) / 4)).toNat
  else if 0x600 ≤ o ∧ o < 0x620 then a.weights.toNat / 2 ^ (8 * (o - 0x600)) % 2 ^ 32
  else if 0x620 ≤ o ∧ o < 0x640 then a.input.toNat / 2 ^ (8 * (o - 0x620)) % 2 ^ 32
  else if 0x700 ≤ o ∧ o < 0x720 then a.nonce.toNat / 2 ^ (8 * (o - 0x700)) % 2 ^ 32
  else if 0x780 ≤ o ∧ o < 0x7E0 then (a.attestSig.getD ((o - 0x780) / 4) 0).toNat
  else if 0x800 ≤ o ∧ o < 0xC00 then (Tab.get 0 g.flags ((o - 0x800) / 4)).toNat
  else if 0x1000 ≤ o ∧ o < 0x2000 then s.queueWord r ((o - 0x1000) / 64) (o % 64)
  else if 0x2000 ≤ o ∧ o < 0x2100 then
    (if (o - 0x2000) / 4 < s.queueCount r then (Tab.get {} g.irqs ((o - 0x2000) / 4)).word else 0)
  else match o with
    | 0x210 => fields [(1, b2n a.resetBusy)]
    | 0x248 => fields [(0, b2n v.busy), (16, v.result.toNat)]
    | 0x250 | 0x254 => half o (fields [(0, v.lastFaultId.toNat), (16, v.lastFaultCode.toNat), (32, v.lastFaultTick.toNat)])
    | 0x270 => b2n a.dbgConsent
    | 0x284 => (a.sharedResult.read s.tick).toNat
    | 0x300 | 0x304 => half o a.memFault
    | 0x400 => fields [(0, g.slots.length), (16, s.quota)]
    | 0x420 | 0x424 => half o g.evt.base.toNat
    | 0x428 => g.evt.cfgWord
    | 0x42C => g.evt.tail.toNat
    | 0x430 => g.evt.head.toNat
    | 0x434 => g.evt.lost.toNat
    | 0x640 => b2n a.weightsLock
    | 0x648 | 0x64C => half o g.dig.base.toNat
    | 0x650 => g.dig.cfgWord
    | 0x654 => g.dig.tail.toNat
    | 0x658 => g.dig.head.toNat
    | 0x65C => g.dig.lost.toNat
    | 0x740 => fields [(1, a.attestQueue.toNat)]
    | 0x744 => fields [(0, b2n a.attestBusy), (16, a.attestResult.toNat)]
    | 0x2100 => (Tab.get {} g.irqs irqEvt).word
    | 0x2104 => (Tab.get {} g.irqs irqDig).word
    | _ => 0

/-- A region control window as the physical function reads it (25 R900): reset values outside RUNNING, or of a region that the image does
not define. -/
def State.windowWord (s : State) (r o : Nat) : Nat :=
  if s.running && s.defined r then s.regionWord r o else State.reset.regionWord r o

/-- A region control window as the region's own virtual function reads it (21 R782, R789). -/
def State.vfWindowWord (s : State) (r o : Nat) : Nat :=
  if !s.defined r then 0
  else if (s.region r).aux.resetBusy && o ≠ 0x210 then State.reset.regionWord r o
  else s.regionWord r o

/-! ## Fabric blocks -/

/-- Whether the part has a logical site, and an edge router (25 R901). -/
def State.hasSite (s : State) (k : Nat) : Bool := k < 16 * s.partRows
def State.hasEdge (s : State) (e : Nat) : Bool := s.part.grade = .ae7_960 || !(8 ≤ e && e ≤ 11)

/-- NOC_FRAME (07 R222, R257): it never counts boot frames. -/
def State.nocFrame (s : State) : Nat := if s.dev.noc.counting then s.slot + s.dev.noc.frame.toNat * 2 ^ 12 else 0

/-- NOC_SITE_MAP_k (07 R257). -/
def State.siteMapWord (s : State) (die k : Nat) : Nat :=
  match s.fab.siteMap.find? (fun e => e.1 = siteKey die k) with
  | some (_, p) =>
    let r := s.siteRegion? die k
    fields [(0, p), (9, typeCode k), (12, b2n (typeCode k = 2 && s.isSpin die k)), (13, r.getD 0), (18, b2n r.isSome)]
  | none => 0

/-- NOC_PHYS_p (07 R257). -/
def State.physWord (s : State) (die p : Nat) : Nat :=
  let off := s.part.disabled.contains (die * 512 + p)
  let m := s.fab.siteMap.find? (fun e => e.1 / 256 = die && e.2 = p)
  if s.fab.image.isNone then 0
  else fields [(0, physType p), (3, b2n off), (4, b2n (!off && m.isNone)), (5, (m.map (fun e => e.1 % 256)).getD 0), (13, b2n m.isSome)]

/-- NOC_EDGE_STAT_j (07 R257). -/
def State.edgeWord (s : State) (die j : Nat) : Nat :=
  let e := Tab.get {} s.dev.noc.edges (die * 24 + j)
  if s.hasEdge j then fields [(0, e.heldOver.toNat), (16, e.linkErrors.toNat), (32, e.escalations.toNat)] else 0

/-- MEM_DIE_m, MEM_ERR_m and MEM_SCRUB_m of a memory die, by the offset from their base (08 R298). -/
def State.memWord (s : State) (m o : Nat) : Nat :=
  let d := s.memDie m
  if !s.fitted m then 0
  else match o with
    | 0x0 => fields [(0, b2n d.present), (1, d.position.toNat), (4, d.online.toNat)]
    | 0x8 | 0xC => half o (fields [(0, d.corrected.toNat), (16, d.uncorrectable.toNat), (32, d.crcFail.toNat)])
    | 0x10 | 0x14 => half o (fields [(0, d.passes.toNat), (32, 4 * (Tab.get 0 d.scrubPos 0 / 64 % 2 ^ 20))])
    | _ => 0

/-- CPY_ENGINE_j (08 R299). -/
def State.engineWord (s : State) (die j : Nat) : Nat :=
  let e := Tab.get {} s.fab.engines (die * 24 + j)
  if s.hasEdge j then fields [(0, e.completed.toNat), (32, e.rejected.toNat), (48, e.lastReject.toNat)] else 0

/-- MAT_SITE_k (13 R539). -/
def State.matWord (s : State) (die k : Nat) : Nat :=
  let m := (s.site (siteKey die k)).mat
  if s.hasSite k && s.isMatrix die k then
    fields [(0, m.completed.toNat), (32, m.rows.toNat), (48, m.repeated.toNat), (56, m.overflowed.toNat)]
  else 0

/-- SFU_SITE_k (15 R600). -/
def State.sfuWord (s : State) (die k : Nat) : Nat :=
  let u := (s.site (siteKey die k)).sfu
  if s.hasSite k && siteType k = .vector then
    fields [(0, u.rangeEvents.toNat), (16, u.rows.toNat), (32, b2n u.tableFault),
      (33, b2n (((s.siteRegion? die k).bind s.regionDef?).any (·.sfuMinimal))), (34, b2n (s.fab.image.isSome && s.image.sepia))]
  else 0

/-- VIS_FEAT_STATUS and VIS_STEREO_STATUS (16 R630, 17 R669). -/
def State.visStatus (s : State) (die : Nat) (stereo : Bool) : Nat :=
  let d := s.die die
  let busy := s.regionIds.any (fun r => (s.slots r).any (fun sl =>
    sl.op.state = .running && sl.run.vis.any (fun v => v.die = die && v.stereo == stereo && v.nodeState ≠ .idle && v.nodeState ≠ .ended)))
  let owned := s.dev.shared.visBuf.any (fun e => e.1 = die && e.2.2 = if stereo then 2 else 1)
  fields [(0, if stereo then d.steNodes.toNat else d.featNodes.toNat), (32, if stereo then d.steStatus.toNat else d.featStatus.toNat),
    (48, b2n owned), (49, b2n busy)]

/-- ANL_NOISE_STATUS (11 R460). -/
def DieRegs.noise (d : DieRegs) : Nat :=
  fields [(0, d.testsRun.toNat), (16, d.failures.toNat), (32, d.lastSite.toNat), (40, b2n d.noiseFailed)]

/-- NUM_DRIFT (14 R569). -/
def DieRegs.drift (d : DieRegs) : Nat := fields [(0, d.driftEvents.toNat), (16, d.driftSite.toNat), (24, b2n d.driftCounter)]

/-- Words of a fabric block (25 R905). -/
def State.fabWord (s : State) (die o : Nat) : Nat :=
  if o < 8 then half o s.nocFrame
  else if 0x1000 ≤ o ∧ o < 0x1400 then s.siteMapWord die ((o - 0x1000) / 4)
  else if 0x2000 ≤ o ∧ o < 0x2440 then s.physWord die ((o - 0x2000) / 4)
  else if 0x3000 ≤ o ∧ o < 0x30C0 then half o (s.edgeWord die ((o - 0x3000) / 8))
  else if 0x8000 ≤ o ∧ o < 0x80C0 then s.memWord (die * 3 + (o - 0x8000) / 0x40) (o % 0x40)
  else if 0x9000 ≤ o ∧ o < 0x90C0 then half o (s.engineWord die ((o - 0x9000) / 8))
  else if 0xA000 ≤ o ∧ o < 0xA008 then half o (s.die die).noise
  else if 0xB000 ≤ o ∧ o < 0xB800 then half o (s.matWord die ((o - 0xB000) / 8))
  else if 0xC000 ≤ o ∧ o < 0xC008 then half o (s.die die).drift
  else if 0xD000 ≤ o ∧ o < 0xD800 then half o (s.sfuWord die ((o - 0xD000) / 8))
  else if 0xE000 ≤ o ∧ o < 0xE008 then half o (s.visStatus die false)
  else if 0xE008 ≤ o ∧ o < 0xE010 then half o (s.visStatus die true)
  else 0

/-! ## LNK, YDI, TEL and DBG -/

/-- The numeric code of a port state (20 R771). -/
def PortState.code : PortState → Nat
  | .down => 0 | .training => 1 | .up => 2 | .live => 3 | .mismatch => 4 | .lost => 5 | .returned => 6

/-- The record of a port in the image's topology. -/
def State.topoPort (s : State) (p : Nat) : Option TopoPort := s.fab.body.topo.bind (fun t => t.ports[p]?)

/-- LNK_SYS_STATUS (20 R771): self is written at acceptance; every used port is live. -/
def State.sysStatus (s : State) : Nat :=
  match s.fab.body.topo with
  | some t =>
    let used := (List.range 8).filter (fun p => (s.topoPort p).any (·.used))
    fields [(0, t.self), (17, b2n (used.all (fun p => (s.port p).state = .live)))]
  | none => 0

/-- LNK_PORT_n (20 R771): a port whose domain is not in Ivory is down. -/
def State.portWord (s : State) (p : Nat) : Nat :=
  let x := s.port p
  fields [(0, if s.ivory (if p < 4 then 41 else 42) || x.state = .lost then x.state.code else 0), (3, b2n ((s.topoPort p).any (·.rate16))),
    (4, x.misses.toNat), (6, x.neighbour.toNat), (32, x.resends.toNat), (48, x.crcFail.toNat)]

/-- Words of the LNK block (25 R905). -/
def State.lnkWord (s : State) (o : Nat) : Nat :=
  if 0x100 ≤ o ∧ o < 0x200 then (if o % 0x20 < 8 then half o (s.portWord ((o - 0x100) / 0x20)) else 0)
  else match o with
    | 0x0 => s.dev.lnk.retryBudget.toNat
    | 0x8 => s.sysStatus
    | _ => 0

/-- Stages before the end of DIE_LINK, which writes YDI_BUNDLE_b (25 R906). -/
def Stage.beforeLinks (g : Stage) : Bool := g = .reset || g = .rom || g = .fwVerify || g = .dieLink

/-- YDI_BUNDLE_b (19 R727): an absent bundle holds no state (19 R702). -/
def State.bundleWord (s : State) (b : Nat) : Nat :=
  let u := s.bundle b
  if s.dev.boot.stage.beforeLinks then 0
  else if s.bundlePresent b then
    fields [(0, u.width.toNat), (2, 1), (3, s.carriedOn b), (9, min 7 u.spares), (28, u.retired.toNat)]
  else fields [(3, b)]

/-- YDI_ERR_b (19 R727). -/
def State.bundleErr (s : State) (b : Nat) : Nat :=
  let u := s.bundle b
  if s.bundlePresent b then fields [(0, u.crcFail.toNat), (16, u.deferrals.toNat), (32, u.retiredRun.toNat)] else 0

/-- Words of the YDI block (25 R905). -/
def State.ydiWord (s : State) (o : Nat) : Nat :=
  let y := s.dev.ydi
  if o < 0x500 then
    (if o % 0x20 < 8 then half o (s.bundleWord (o / 0x20)) else if o % 0x20 < 16 then half o (s.bundleErr (o / 0x20)) else 0)
  else if o = 0x1000 then
    (match y.cfgNext with
    | some v => v.toNat % 2 ^ 16
    | none => fields [(0, y.errThreshold.toNat), (8, y.windowLog2.toNat), (12, y.retryBudget.toNat)])
  else 0

/-- Word of the trace buffer (24 R882, R897). -/
def Dbg.bufWord (d : Dbg) (o : Nat) : Nat := ((Tab.get [] d.buf (o / 16)).getD (o % 16 / 4) 0).toNat

/-- Words of the TEL and DBG block (24 R870-R872, R897). -/
def State.telWord (s : State) (o : Nat) : Nat :=
  let t := s.dev.tel
  let d := s.dev.dbg
  if 0x100 ≤ o ∧ o < 0x200 then (Tab.get 0 t.sources ((o - 0x100) / 4)).toNat
  else if 0x300 ≤ o ∧ o < 0x3B8 then (Tab.get 0 s.dev.pwr.sensors ((o - 0x300) / 4)).toNat
  else if 0x1000 ≤ o ∧ o < 0x2000 then
    (let k := (o - 0x1000) % 0x800 / 8
     if s.hasSite k then half o (s.site (siteKey ((o - 0x1000) / 0x800) k)).telSlots.toNat else 0)
  else if 0x10000 ≤ o ∧ o < 0x20000 then d.bufWord (o - 0x10000)
  else match o with
    | 0x0 => fields [(0, b2n t.ring.enable), (1, t.periodLog2.toNat), (5, t.ring.sizeLog2.toNat)]
    | 0x8 | 0xC => half o t.ring.base.toNat
    | 0x10 => t.ring.tail.toNat
    | 0x14 => t.ring.head.toNat
    | 0x18 => t.ring.lost.toNat
    | 0x1C => t.late.toNat
    | 0x200 => fields [(0, s.dev.pwr.inputPower.toNat), (16, s.dev.pwr.avgRail.toNat)]
    | 0x8000 => d.ctl.toNat
    | 0x8008 => fields [(0, min 4096 d.written), (13, b2n d.full), (14, b2n d.running)]
    | _ => 0

/-! ## The two maps -/

/-- A 32-bit word of the physical function's BAR0 (25 R898, R899). -/
def State.pfWord (s : State) (o : Nat) : Nat :=
  if o < 0x100000 then s.hubWord o
  else if s.dev.boot.stage = .recovery then 0
  else if o < 0x180000 then s.pwrWord (o - 0x100000)
  else if o < 0x200000 then s.clkWord 0 (o - 0x180000)
  else if o < 0x400000 then s.secWord (o - 0x200000)
  else if o < 0x800000 then (if o < 0x401000 then s.queMap ((o - 0x400000) / 4) else 0)
  else if o < 0xA00000 then s.windowWord ((o - 0x800000) / 0x10000) (o % 0x10000)
  else if o < 0x1000000 then 0
  else if o < 0x2000000 then s.fabWord 0 (o - 0x1000000)
  else if o < 0x3000000 then s.fabWord 1 (o - 0x2000000)
  else if o < 0x3100000 then s.lnkWord (o - 0x3000000)
  else if o < 0x3200000 then s.ydiWord (o - 0x3100000)
  else s.telWord (o - 0x3200000)

/-- A 32-bit word of virtual function `f`'s BAR0 (21 R785). -/
def State.vfWord (s : State) (f o : Nat) : Nat :=
  if o < 0x10000 then s.vfWindowWord (fnRegion f) o
  else if 0x10020 ≤ o ∧ o < 0x10050 then (if s.running then bytesWord s.image.digest ((o - 0x10020) / 4) else 0)
  else if 0x20000 ≤ o ∧ o < 0x203F0 then s.msixWord f (o - 0x20000)
  else match o with
    | 0x10000 => s.clkWord f 0x8
    | 0x10004 => s.clkWord f 0xC
    | 0x10008 | 0x1000C => half o s.dev.aux.detProfile.toNat
    | 0x10050 => s.vfStatus f
    | 0x21000 | 0x21004 => half o (s.func f).pba.toNat
    | _ => 0

/-- A 32-bit read of a function at an aligned offset. -/
def State.regRead (s : State) (f o : Nat) : Word := BitVec.ofNat 32 (if f = 0 then s.pfWord o else s.vfWord f o)

/-- Where CLK_TICK lies in a function's BAR0 (03 R79; 21 R785). -/
def tickOffset (f : Nat) : Nat := if f = 0 then 0x180008 else 0x10000

/-- A 64-bit read of a function at an aligned offset: CLK_TICK is one value (03 R79; 21 R786; 25 R902). -/
def State.regRead64 (s : State) (f o : Nat) : Word64 :=
  if o = tickOffset f && !(f = 0 && s.dev.boot.stage = .recovery) then s.tick
  else (s.regRead f (o + 4)) ++ (s.regRead f o)

end Sys2Proof.Machine
end

