-- ==== Sys2Proof/Machine/Telemetry.lean ====
section
/-!
DEFINITION. Telemetry sampling (24 R873-R878) and the registers of trace capture (24 R879-R883, R894-R896).
-/
namespace Sys2Proof.Machine

/-! ## Sampling -/

/-- A sample record (24 R875). -/
def sampleBytes (n : Nat) (valid skipped : Bool) (frame value : Nat) : List Byte :=
  leBytes 4 (fields [(0, n), (6, b2n valid), (7, b2n skipped)]) ++ leBytes 4 (frame % 2 ^ 32) ++ leBytes 8 value

/-- Drops since the previous TEL_SAMPLE_LOST are reported when an entry is free again (24 R878). -/
def State.sampleLost (s : State) : State :=
  let n := s.dev.tel.lostSince
  if n = 0 then s else (s.onTel fun t => { t with lostSince := 0 }).pfEvent 6 Codes.TEL_SAMPLE_LOST (n % 2 ^ 32)

/-- Puts a record in the sample ring, or drops it (24 R878). -/
def State.samplePut (s : State) (bs : List Byte) : State :=
  let g := s.dev.tel.ring
  if g.full then s.onTel fun t => { t with ring := t.ring.drop1 false, lostSince := t.lostSince + 1 }
  else
    let s := s.sampleLost
    let s := s.hostStore s.pfHostAllowed (g.base.toNat + g.offset 16) bs
    s.onTel fun t => { t with ring := { t.ring with tail := t.ring.tail + 1 } }

/-- Whether the sampler runs: it is enabled, and its domain is on. -/
def State.sampling (s : State) : Bool := s.dev.tel.ring.enable && s.ivory telDomain && s.islandUp telDomain

/-- The enabled sources, ascending. -/
def Tel.enabled (t : Tel) : List Nat := (List.range 64).filter (fun n => (Tab.get 0 t.sources n).getLsbD 31)

/-- TEL_SAMPLE_PERIOD (24 R873, R877; 07 R222): a period begins; sources of the previous one that were not read give late records. -/
def execTelSamplePeriod (s : State) : Host.Outcome State Fault Refusal :=
  .next (s.effect fun s => s.whenP (s.sampling && s.atFrame && s.frame % 2 ^ s.dev.tel.periodLog2.toNat = 0) fun s =>
    let late := s.dev.tel.unread
    let s := late.foldl (fun s n => s.samplePut (sampleBytes n false false s.frame 0)) s
    let s := s.onTel fun t => { t with late := satAdd t.late late.length, unread := t.enabled }
    if late = [] then s else s.pfEvent 6 Codes.TEL_SAMPLE_LATE late.length)

/-- Whether a source's offset is permitted (24 R876). -/
def samplePermitted (o : Nat) : Bool := o % 8 = 0 && !(0x200000 ≤ o && o < 0x400000) && !(0x800000 ≤ o && o < 0xA00000)

/-- The logical site whose register lies at an offset of a fabric block: MAT_SITE_k and SFU_SITE_k (25 R905). -/
def sampleSite (o : Nat) : Option Nat :=
  if 0xB000 ≤ o ∧ o < 0xB800 then some ((o - 0xB000) / 8) else if 0xD000 ≤ o ∧ o < 0xD800 then some ((o - 0xD000) / 8) else none

/-- The domain that holds the register at an offset (25 R898). -/
def holdDomain (o : Nat) : Nat :=
  if 0x10000 ≤ o ∧ o < 0x100000 then 40 else if o < 0x100000 then 43 else if o < 0x200000 then 63 else if o < 0x400000 then 44
  else if o < 0x1000000 then 43 else if o < 0x2000000 then 19 else if o < 0x3000000 then 39 else if o < 0x3200000 then 43 else telDomain

/-- Whether an offset lies in a fabric block, and of which die. -/
def inFabric (o : Nat) : Bool := 0x1000000 ≤ o && o < 0x3000000
def sampleDie (o : Nat) : Nat := if o < 0x2000000 then 0 else 1

/-- Whether a permitted source's target is on and reached (24 R874, R875; 07 R250; 23 R863). -/
def State.sampleReached (s : State) (o : Nat) : Bool :=
  s.ivory (holdDomain o) && s.islandUp (holdDomain o) &&
    match sampleSite (o % 0x1000000) with
    | some k => !inFabric o || (s.ivory (s.siteDomain (sampleDie o) k) && s.bgReaches (sampleDie o) k)
    | none => true

/-- The edge router whose registers a source of a fabric block names: die and router (07 R257). -/
def sampleEdge (o : Nat) : Option (Nat × Nat) :=
  let x := o % 0x1000000
  let die := sampleDie o
  if !inFabric o then none
  else if 0x3000 ≤ x ∧ x < 0x30C0 then some (die, (x - 0x3000) / 8)
  else if 0x9000 ≤ x ∧ x < 0x90C0 then some (die, (x - 0x9000) / 8) else none

/-- Whether a source is read now: at the frame boundary by the control cores, or in a background slot of its target; one of a fabric block
that no background route reaches is skipped at any time (24 R874, R875; 07 R249). -/
def State.sampleNow (s : State) (o : Nat) : Bool :=
  if !inFabric o then s.atFrame
  else match sampleSite (o % 0x1000000), sampleEdge o with
    | some k, _ => !s.sampleReached o || s.bgHere (sampleDie o) k
    | _, some e => s.bgFree e.1 e.2 s.slot
    | _, _ => true

/-- A sample's background task has its slot (07 R251). -/
def State.sampleServed (s : State) (o : Nat) : State :=
  match (if inFabric o then sampleSite (o % 0x1000000) else none), sampleEdge o with
  | some k, _ => s.bgSite (sampleDie o) k .siteSampling
  | _, some e => s.bgServed e.1 e.2 .edgeSampling
  | _, _ => s

/-- The offset of a telemetry source. -/
def State.sourceOffset (s : State) (n : Nat) : Nat := (Tab.get 0 s.dev.tel.sources n).toNat % 2 ^ 26

/-- TEL_SAMPLE_READ (24 R873-R876, R878): a source that the present period has not yet read, the lowest of those that the control cores, or
the background slots, still have to read. -/
def execTelSampleRead (n : Fin 64) (s : State) : Host.Outcome State Fault Refusal :=
  .next (s.effect fun s =>
    let o := s.sourceOffset n.val
    s.whenP (s.sampling && s.dev.tel.unread.contains n.val && s.sampleNow o &&
        !s.dev.tel.unread.any (fun m => m < n.val && inFabric (s.sourceOffset m) == inFabric o)) fun s =>
    let s := s.sampleServed o
    let ok := samplePermitted o && s.sampleReached o
    let bs := sampleBytes n.val ok (!ok) s.frame (if ok then (s.regRead64 0 o).toNat else 0)
    (s.onTel fun t => { t with unread := t.unread.erase n.val }).samplePut bs)

/-! ## Trace -/

/-- The offset of DBG_TRACE_CTL in the physical function's BAR0 (25 R905). -/
def traceCtlOffset : Nat := telBase + 0x8000

/-- Whether a region may be traced (24 R894). -/
def State.traceOpen (s : State) (r : Nat) : Bool := !s.fuses.lock || (s.region r).aux.dbgConsent

/-- DBG_TRACE_CTL after a write: setting enable arms a capture, clearing it ends one. -/
def Dbg.control (d : Dbg) (v : Word) : Dbg :=
  let d' := { d with ctl := v.setWidth 11 }
  if !v.getLsbD 0 then { d' with armed := false, running := false, ending := false, collect := [] }
  else if d.ctl.getLsbD 0 then d'
  else { d' with armed := true, running := false, ending := false, full := false, written := 0, buf := [], collect := [] }

/-- DBG_TRACE_CTL_WRITE (24 R879, R883, R894, R897; 25 R903). -/
def execDbgTraceCtlWrite (v : Word) (s : State) : Host.Outcome State Fault Refusal :=
  .next (s.effect fun s => s.whenP (s.pfReach false) fun s => s.domainOff telDomain traceCtlOffset fun s =>
    if v.getLsbD 0 && !s.traceOpen (bitsOf v.toNat 5 1) then s.pfEvent 6 Codes.DBG_DENIED (traceCtlOffset + 2 ^ 26 + 2 ^ 27)
    else s.onDbg fun d => d.control v)

/-- REGION_DBG_CONSENT_WRITE (24 R895, R896): only the region's virtual function writes it; a capture without consent ends at the next
boundary. -/
def execRegionDbgConsentWrite (f : FnId) (r : RegionId) (v : Word) (s : State) : Host.Outcome State Fault Refusal :=
  .next (s.effect fun s => s.whenP (f.val = r.val + 1 && s.reaches f.val r.val) fun s =>
    let cleared := (s.region r.val).aux.dbgConsent && !v.getLsbD 0
    let s := s.onRAux r.val fun a => { a with dbgConsent := v.getLsbD 0 }
    s.onDbg fun d =>
      { d with ending := d.ending || (cleared && bitsOf d.ctl.toNat 5 1 = r.val && (d.armed || d.running)) })

end Sys2Proof.Machine
end

