-- ==== Sys2Proof/Machine/RegWrite.lean ====
section
/-!
DEFINITION. A write to a register of a function's BAR0 (21 R785-R789; 25 R898-R903): registers without a row of their own change here,
and the others take the meaning of their own row.
-/
namespace Sys2Proof.Machine

/-- The state after another command's meaning. -/
def State.after (s : State) (o : Host.Outcome State Fault Refusal) : State :=
  match o with
  | .next t => t
  | _ => s

/-- A 64-bit register after a 32-bit write to the half that holds byte offset `o` (21 R787). -/
def putHalf (old : Word64) (o : Nat) (v : Word) : Word64 :=
  if o % 8 = 0 then old.extractLsb' 32 32 ++ v else v ++ old.setWidth 32

/-- An interrupt source's register after a write (21 R795). -/
def Irq.write (i : Irq) (v : Word) : Irq :=
  { i with vector := v.extractLsb' 0 6, enable := v.getLsbD 6, count := v.extractLsb' 8 8, hold := v.extractLsb' 16 16 }

/-- A write to a function's MSI-X table; a message that waits only for its mask goes out (21 R797). -/
def State.msixWrite (s : State) (f o : Nat) (v : Word) : State :=
  if o / 16 < vectorCount f then
    let w : Word := match o % 16 / 4 with
      | 0 => v &&& 0xFFFFFFFC
      | 3 => v &&& 1
      | _ => v
    s.onFunc f fun x => { x with msix := Tab.set x.msix (o / 16) ((x.entry (o / 16)).set (o % 16 / 4) w) }.release
  else s

/-! ## HUB, PWR, CLK, SEC -/

/-- HUB_IMAGE_CMD (05 R165): commands that bring no operand but the registers; a firmware copy comes with its own command (log 1). -/
def State.imageCmdWrite (s : State) (cmd : Nat) : State :=
  match cmd with
  | 1 => s.after (execImageLoad s)
  | 2 => s.after (execImageUnload s)
  | 4 => s.after (execStoreAutoload s)
  | 5 => s.after (execEraseAutoload s)
  | _ => s

/-- Writing 1 to a bit of HUB_RESET_CAUSE clears it (05 R165). -/
def Boot.clearCause (b : Boot) (v : Word) : Boot :=
  { b with rcPowerOn := b.rcPowerOn && !v.getLsbD 0, rcBoard := b.rcBoard && !v.getLsbD 1, rcHost := b.rcHost && !v.getLsbD 2,
           rcWatchdog := b.rcWatchdog && !v.getLsbD 3 }

/-- A write in the HUB block. -/
def State.hubWrite (s : State) (o : Nat) (v : Word) : State :=
  if 0x20000 ≤ o ∧ o < 0x20200 then s.msixWrite 0 (o - 0x20000) v
  else match o with
    | 0x48 => s.after (execHubSharedReq v s)
    | 0x84 => s.onBoot fun b => b.clearCause v
    | 0x88 => s.onBoot fun b => { b with recoveryNext := v.getLsbD 0 }
    | 0x90 | 0x94 => s.onBoot fun b => { b with imageSrc := putHalf b.imageSrc o v }
    | 0x98 => s.onBoot fun b => { b with imageLen := v }
    | 0x9C => s.imageCmdWrite (bitsOf v.toNat 2 0)
    | 0x100 => s.after (execHubDetCtlWrite v s)
    | 0x10000 => s.onHst fun h => { h with linkDownReset := v.getLsbD 0 }
    | 0x10020 | 0x10024 => s.baseWrite (.ring .pfEvent) (putHalf s.dev.hst.pfEvt.base o v)
    | 0x10028 => s.ringCfg .pfEvent v
    | 0x10030 => s.onHst fun h => { h with pfEvt := { h.pfEvt with head := v } }
    | 0x10038 => s.onHst fun h => { h with pfIrq := h.pfIrq.write v }
    | _ => s

/-- A write in the PWR block. -/
def State.pwrWrite (s : State) (o : Nat) (v : Word) : State :=
  let n := (o - 0x100) / 8
  let m := (o - 0x400) / 4
  if 0x100 ≤ o ∧ o < 0x300 then (if o % 8 = 0 then s.after (execPwrDomainTargetWrite (Fin.ofNat 64 n) v s) else s)
  else if 0x400 ≤ o ∧ o < 0x494 then (if isBlock m then s.onDomain m fun d => { d with retain := v.setWidth 16 } else s)
  else match o with
    | 0x10 => s.after (execPwrThermCtlWrite v s)
    | 0x18 => s.onPwr fun p => { p with tripped := p.tripped && !v.getLsbD 20 }
    | _ => s

/-- A write in the CLK block. -/
def State.clkWrite (s : State) (o : Nat) (v : Word) : State :=
  if o = 0x18 then s.onClk fun c => { c with lockLost := c.lockLost && !v.getLsbD 1 } else s

/-- A write in the SEC block: a fuse command comes with its own command, which says how its programming goes (log 1). -/
def State.secWrite (s : State) (o : Nat) (v : Word) : State :=
  if 0x200 ≤ o ∧ o < 0x260 then s.onSec fun c => { c with keyData := Tab.set c.keyData ((o - 0x200) / 4) v } else s

/-! ## Region control windows -/

/-- The command registers whose upper half acts (21 R787): cancel, priority, revocation. -/
inductive HalfCmd where
  | cancel | prio | revoke
  deriving DecidableEq, Repr

def HalfCmd.code : HalfCmd → Nat
  | .cancel => 0 | .prio => 1 | .revoke => 2

/-- A 32-bit write to a command register: the lower half waits for the same function's write of the upper half. -/
def State.halfCmd (s : State) (f : FnId) (r : RegionId) (c : HalfCmd) (o : Nat) (v : Word) : State :=
  let key := c.code * 64 + f.val
  if o % 8 = 0 then s.onRev r.val fun x => { x with lows := Tab.set x.lows key v }
  else
    let w : Word64 := v ++ Tab.get 0 (s.region r.val).rev.lows key
    match c with
    | .cancel => s.after (execRegionCancelCmd f r w s)
    | .prio => s.after (execRegionPrioCmd f r w s)
    | .revoke => s.revokeWrite f.val r.val (w.toNat % 16) w

/-- A write to a register of a local queue (09 R380). -/
def State.queueRegWrite (s : State) (f : FnId) (r : RegionId) (q : Fin 64) (o : Nat) (v : Word) : State :=
  let c := s.queue r.val q.val
  match o with
  | 0x0 | 0x4 => s.baseWrite (.queueBase r q) (putHalf c.base o v)
  | 0x8 => s.after (execQueueCfgWrite f r q v s)
  | 0x10 | 0x14 => s.baseWrite (.queueCplBase r q) (putHalf c.cplBase o v)
  | 0x18 => s.after (execDoorbell f r q v s)
  | 0x24 => if q.val < s.queueCount r.val then (s.onQueue r.val q.val fun c => { c with cplHead := v }).wmStep r.val 2 else s
  | _ => s

/-- A write to the lower half of REGION_WM_n: it changes what the watermark measures, and is no crossing (09 R377). -/
def State.wmWrite (s : State) (r n : Nat) (v : Word) : State :=
  let s := s.onSched r fun g =>
    { g with wms := Tab.modify {} g.wms n (fun w => { w with threshold := v.setWidth 13, select := if n = 2 then v.extractLsb' 16 6 else 0 }) }
  let w := Tab.get {} (s.region r).sched.wms n
  s.onSched r fun g =>
    { g with wms := Tab.set g.wms n { w with above := w.threshold ≠ 0 && w.threshold.toNat ≤ s.wmLevel r n } }

/-- Writing 1 to valid clears the record of REGION_MEM_FAULT (08 R300). -/
def RegionAux.clearFault (a : RegionAux) : RegionAux :=
  { a with memFaultValid := false, memFaultAddr := 0, memFaultCount := 0, memFaultCode := 0 }

/-- A write in a region's control window, by a function that reaches it. -/
def State.windowWrite (s : State) (f : FnId) (r : RegionId) (o : Nat) (v : Word) : State :=
  let k := r.val
  if 0x440 ≤ o ∧ o < 0x458 then
    (if o % 8 = 0 then s.wmWrite k ((o - 0x440) / 8) v
     else if v.getLsbD 0 then s.after (execWmCrossedClear f r (Fin.ofNat 3 ((o - 0x440) / 8)) s) else s)
  else if 0x580 ≤ o ∧ o < 0x5A0 then s.after (execRegionVisTimerWrite f r (Fin.ofNat 8 ((o - 0x580) / 4)) v s)
  else if 0x600 ≤ o ∧ o < 0x620 then s.after (execDetWeightsWrite f r (Fin.ofNat 8 ((o - 0x600) / 4)) v s)
  else if 0x620 ≤ o ∧ o < 0x640 then s.after (execDetInputWrite f r (Fin.ofNat 8 ((o - 0x620) / 4)) v s)
  else if 0x700 ≤ o ∧ o < 0x720 then
    s.onRAux k fun a => if a.attestBusy then a else { a with nonce := putWord256 a.nonce ((o - 0x700) / 4) v }
  else if 0x800 ≤ o ∧ o < 0xC00 then s.after (execFlagRegisterWrite f r (BitVec.ofNat 8 ((o - 0x800) / 4)) v s)
  else if 0x1000 ≤ o ∧ o < 0x2000 then s.queueRegWrite f r (Fin.ofNat 64 ((o - 0x1000) / 64)) (o % 64) v
  else if 0x2000 ≤ o ∧ o < 0x2100 then
    (if (o - 0x2000) / 4 < s.queueCount k then s.onIrq (.queue r (Fin.ofNat 64 ((o - 0x2000) / 4))) fun i => i.write v else s)
  else match o with
    | 0x200 => s.after (execRegionPwrReq f r v s)
    | 0x210 => if v.getLsbD 0 then s.after (execRegionResetReq f r s) else s
    | 0x240 | 0x244 => s.halfCmd f r .revoke o v
    | 0x270 => s.after (execRegionDbgConsentWrite f r v s)
    | 0x280 => s.after (execRegionSharedReq f r v s)
    | 0x304 => if v.getLsbD 16 then s.onRAux k RegionAux.clearFault else s
    | 0x408 | 0x40C => s.halfCmd f r .cancel o v
    | 0x410 | 0x414 => s.halfCmd f r .prio o v
    | 0x420 | 0x424 => s.baseWrite (.ring (.event r)) (putHalf (s.region k).sched.evt.base o v)
    | 0x428 => s.ringCfg (.event r) v
    | 0x430 => (s.onSched k fun g => { g with evt := { g.evt with head := v } }).wmStep k 1
    | 0x640 => if v.getLsbD 0 then s.after (execWeightsLockSet f r s) else s
    | 0x648 | 0x64C => s.baseWrite (.ring (.digest r)) (putHalf (s.region k).sched.dig.base o v)
    | 0x650 => s.ringCfg (.digest r) v
    | 0x658 => s.onSched k fun g => { g with dig := { g.dig with head := v } }
    | 0x740 => s.after (execAttestGo f r v s)
    | 0x2100 => s.onIrq (.event r) fun i => i.write v
    | 0x2104 => s.onIrq (.digest r) fun i => i.write v
    | _ => s

/-! ## Fabric, LNK, YDI, TEL and DBG -/

/-- A write in a fabric block: the sticky bits of ANL_NOISE_STATUS and SFU_SITE_k (11 R460; 15 R600). -/
def State.fabWrite (s : State) (die o : Nat) (v : Word) : State :=
  let k := (o - 0xD000) / 8
  if o = 0xA004 then s.onDie die fun d => { d with noiseFailed := d.noiseFailed && !v.getLsbD 8 }
  else if 0xD000 ≤ o ∧ o < 0xD800 ∧ o % 8 = 4 ∧ s.hasSite k ∧ siteType k = .vector then
    s.onSite (siteKey die k) fun x => { x with sfu := { x.sfu with tableFault := x.sfu.tableFault && !v.getLsbD 0 } }
  else s

/-- A write in the TEL and DBG block (24 R897). -/
def State.telWrite (s : State) (o : Nat) (v : Word) : State :=
  if 0x100 ≤ o ∧ o < 0x200 then s.onTel fun t => { t with sources := Tab.set t.sources ((o - 0x100) / 4) (v &&& 0x83FFFFFF#32) }
  else match o with
    | 0x0 => s.ringCfg .sample v
    | 0x8 | 0xC => s.baseWrite (.ring .sample) (putHalf s.dev.tel.ring.base o v)
    | 0x14 => s.onTel fun t => { t with ring := { t.ring with head := v } }
    | 0x8000 => s.after (execDbgTraceCtlWrite v s)
    | _ => s

/-! ## The whole map -/

/-- Whether a register at an offset of domain 19, 39 or 45 has a field that is not read-only (25 R903). -/
def State.writableHeld (s : State) (o : Nat) : Bool :=
  let p := o % 0x1000000
  if o < 0x1000000 then false
  else if o < 0x3000000 then
    (0xA000 ≤ p && p < 0xA008) || (0xD000 ≤ p && p < 0xD800 && s.hasSite ((p - 0xD000) / 8) && siteType ((p - 0xD000) / 8) = .vector)
  else if o < telBase then false
  else
    let t := o - telBase
    t = 0 || t = 8 || t = 0xC || t = 0x14 || (0x100 ≤ t && t < 0x200) || t = 0x8000

/-- Whether an offset below the domains that can be off begins a 64-bit register there: a 64-bit write is then one write. -/
def wideHeld (o : Nat) : Bool :=
  let p := o % 0x1000000
  (0x1000000 ≤ o && o < 0x3000000 && (p = 0xA000 || (0xD000 ≤ p && p < 0xD800))) || o = telBase + 8

/-- Whether a write is ignored because the register's holding domain is in Pewter (25 R903). -/
def State.heldOff (s : State) (o : Nat) : Bool := s.writableHeld o && s.domState (holdDomain o) = .pewter

/-- A 32-bit write to the physical function's BAR0, at an aligned offset. -/
def State.pfWrite (s : State) (o : Nat) (v : Word) : State :=
  let r : RegionId := Fin.ofNat 32 ((o - 0x800000) / 0x10000)
  if s.heldOff o then s.pfEvent 6 Codes.REG_DOMAIN_OFF o
  else if o < 0x100000 then s.hubWrite o v
  else if s.dev.boot.stage = .recovery then s
  else if o < 0x180000 then s.pwrWrite (o - 0x100000) v
  else if o < 0x200000 then s.clkWrite (o - 0x180000) v
  else if o < 0x400000 then s.secWrite (o - 0x200000) v
  else if o < 0x800000 then s
  else if o < 0xA00000 then (if s.reaches 0 r.val then s.windowWrite 0 r (o % 0x10000) v else s)
  else if o < 0x1000000 then s
  else if o < 0x2000000 then s.fabWrite 0 (o - 0x1000000) v
  else if o < 0x3000000 then s.fabWrite 1 (o - 0x2000000) v
  else if o = 0x3000000 then s.onLnk fun l => { l with retryBudget := v.setWidth 4 }
  else if o = 0x3101000 then s.after (execYdiCfgWrite v s)
  else if telBase ≤ o then s.telWrite (o - telBase) v
  else s

/-- A 32-bit write to a virtual function's BAR0, at an aligned offset (21 R785, R788, R789). -/
def State.vfWrite (s : State) (f : FnId) (o : Nat) (v : Word) : State :=
  let r : RegionId := Fin.ofNat 32 (fnRegion f.val)
  if o < 0x10000 then (if s.reaches f.val r.val then s.windowWrite f r o v else s)
  else if 0x20000 ≤ o ∧ o < 0x203F0 then s.msixWrite f.val (o - 0x20000) v
  else s

/-- A 32-bit write of a function, at an aligned offset. -/
def State.regWrite (s : State) (f : FnId) (o : Nat) (v : Word) : State := if f = 0 then s.pfWrite o v else s.vfWrite f o v

/-- A 64-bit write: the lower half and then the upper half (21 R786); a register that is held off is one register (25 R903). -/
def State.regWrite64 (s : State) (f : FnId) (o : Nat) (v : Word64) : State :=
  if f = 0 && s.heldOff o && wideHeld o then s.pfEvent 6 Codes.REG_DOMAIN_OFF o
  else (s.regWrite f o (v.setWidth 32)).regWrite f (o + 4) (v.extractLsb' 32 32)

/-- REGISTER_WRITE (21 R785-R789; 25 R898-R903): a 32-bit or 64-bit write of a function; one that is not aligned is a bad access. -/
def execRegisterWrite (f : FnId) (offset : BitVec 26) (wide : Bool) (v : Word64) (s : State) : Host.Outcome State Fault Refusal :=
  .next (s.flashEffect fun s => s.whenP (s.hubReach f.val) fun s =>
    let o := offset.toNat
    if o % (if wide then 8 else 4) ≠ 0 then s.badAccess f.val o
    else if wide then s.regWrite64 f o v
    else s.regWrite f o (v.setWidth 32))

end Sys2Proof.Machine
end

