-- ==== Sys2Proof/Machine/Debug.lean ====
section
/-!
DEFINITION. Boundary scan (24 R888-R892; 05 R158) and debug access (24 R893, R894; 25 R904).
-/
namespace Sys2Proof.Machine

/-! ## Test logic -/

/-- The boundary-scan port works while 12 V and MGT_VIO are present, in every stage (05 R158). -/
def State.scanUp (s : State) : Bool := s.dev.pins.mgtVio && !s.dev.boot.causeRail

/-- Loads an instruction; a boot that only the previous one held back begins (24 R892). -/
def State.loadIr (s : State) (op : Byte) : State :=
  if s.scanUp then
    let s := s.onDbg fun d => { d with ir := op }
    if s.dev.boot.stage = .reset then s.tryBoot else s
  else s

/-- The IDCODE of the part (24 R889): version, part number, manufacturer, 1. -/
def Part.idcode (p : Part) : Nat := fields [(0, 1), (1, 0x2B5), (12, if p.grade = .ae7_960 then 0xAE70 else 0xAE64), (28, 1)]

/-- The data register that the loaded instruction selects between TDI and TDO (24 R888-R893; IEEE 1149.1). -/
inductive ScanReg where
  | id | boundary | debug | bypass
  deriving DecidableEq, Repr

/-- EXTEST selects the boundary register in stage RESET; CLAMP and HIGHZ, and every other opcode, select the bypass register. -/
def State.scanReg (s : State) : ScanReg :=
  let ir := s.dev.dbg.ir
  if ir = 0x01 then .id
  else if ir = 0x02 || (ir = 0x03 && s.dev.boot.stage = .reset) then .boundary
  else if ir = 0x10 then .debug
  else .bypass

/-- What an output ball carries: driven high, driven low, or not driven by the AE7. -/
inductive Ball where
  | high | low | floats
  deriving DecidableEq, Repr

/-- An output ball that boundary cells drive: the output cell, while the enable cell is 1. -/
def cellBall (b : BitVec 19) (out en : Nat) : Ball := if b.getLsbD en then (if b.getLsbD out then .high else .low) else .floats

/-- A ball of the MGT group under the loaded instruction: without MGT_VIO or power it floats (02 R31); EXTEST and CLAMP drive it from the
boundary register, HIGHZ lets it float, and each only in stage RESET (24 R890, R891). -/
def State.scanBall (s : State) (out en : Nat) (own : Ball) : Ball :=
  let ir := s.dev.dbg.ir
  if !s.scanUp then .floats
  else if s.dev.boot.stage ≠ .reset then own
  else if ir = 0x03 || ir = 0x04 then cellBall s.dev.dbg.boundary out en
  else if ir = 0x05 then .floats
  else own

/-- SYNC_OUT (02 R43, R48; 24 R890). -/
def State.syncOutBall (s : State) : Ball := s.scanBall 9 10 (if s.dev.pins.syncOutHigh then .high else .low)
/-- ALERT_N: open drain, driven low while asserted (02 R46; 24 R890). -/
def State.alertBall (s : State) : Ball := s.scanBall 13 14 (if s.alertLow then .low else .floats)

/-- The boundary cells as the balls stand: inputs and outputs whose level the model holds, the others free values. -/
def State.sampledCells (s : State) : Nat :=
  fields ((List.range 19).map (fun i =>
    (i, if i < 8 then b2n (s.dev.pins.cblpres.getLsbD (7 - i))
        else if i = 8 then b2n (!s.dev.boot.causeHost)
        else if i = 9 then b2n s.dev.pins.syncOutHigh
        else if i = 12 then b2n (!s.dev.boot.causeBoard)
        else if i = 13 then b2n (!s.alertLow)
        else s.freeVal i % 2)))

/-! ## Instructions -/

/-- TEST_LOGIC_RESET (05 R158; 24 R888): TRST_N low loads IDCODE. -/
def execTestLogicReset (s : State) : Host.Outcome State Fault Refusal := .next (s.effect fun s => s.loadIr 0x01)

/-- IDCODE (24 R888, R889): the identification register shifts out. -/
def execIdcode (s : State) : Host.Outcome State Fault Refusal :=
  .next (s.effect fun s => s.whenP s.scanUp fun s =>
    (s.loadIr 0x01).onDbg fun d => { d with readAnswer := BitVec.ofNat 64 s.part.idcode })

/-- SAMPLE_PRELOAD (24 R888, R890): the cells are sampled, and the bits shifted in are held by the boundary register. -/
def execSamplePreload (bits : BitVec 19) (s : State) : Host.Outcome State Fault Refusal :=
  .next (s.effect fun s => s.whenP s.scanUp fun s =>
    let cells := s.sampledCells
    ((s.loadIr 0x02).onDbg fun d => { d with boundary := bits, readAnswer := BitVec.ofNat 64 cells }).bump)

/-- EXTEST (24 R888, R891, R892). -/
def execExtest (s : State) : Host.Outcome State Fault Refusal := .next (s.effect fun s => s.loadIr 0x03)
/-- CLAMP (24 R888, R891, R892). -/
def execClamp (s : State) : Host.Outcome State Fault Refusal := .next (s.effect fun s => s.loadIr 0x04)
/-- HIGHZ (24 R888, R891, R892). -/
def execHighz (s : State) : Host.Outcome State Fault Refusal := .next (s.effect fun s => s.loadIr 0x05)
/-- DBG_ACCESS (24 R888, R893): the debug access register is selected. -/
def execDbgAccess (s : State) : Host.Outcome State Fault Refusal := .next (s.effect fun s => s.loadIr 0x10)

/-- Opcodes that name another instruction than BYPASS (24 R888). -/
def namedOpcode (op : Byte) : Bool := op = 0x01 || op = 0x02 || op = 0x03 || op = 0x04 || op = 0x05 || op = 0x10

/-- BYPASS (24 R888): 0xFF, or any opcode without an instruction of its own. -/
def execBypass (opcode : Byte) (s : State) : Host.Outcome State Fault Refusal :=
  .next (s.effect fun s => s.whenP (!namedOpcode opcode) fun s => s.loadIr opcode)

/-! ## Debug access -/

/-- Whether an offset lies in the SEC block or a region control window. -/
def debugClosed (o : Nat) : Bool := (0x200000 ≤ o && o < 0x400000) || (0x800000 ≤ o && o < 0xA00000)

/-- Whether a debug access is open (24 R894). -/
def State.debugOpen (s : State) (o : Nat) (write : Bool) : Bool :=
  if s.fuses.lock then !write && !debugClosed o
  else !write || !s.dev.aux.slateInForce || !(s.dev.boot.stage = .imageLoad || s.running)

/-- The DBG_ACCESS register after an access: its low bits stay, data in [59:28], status in [63:60] (24 R893). -/
def debugResult (v : Word64) (data status : Nat) : Word64 :=
  BitVec.ofNat 64 (fields [(0, v.toNat % 2 ^ 28), (28, data), (60, status)])

/-- A 32-bit read by the physical function with its effect: reading CLK_TICK_LO latches the upper half (03 R80). -/
def State.debugRead (s : State) (o : Nat) : State :=
  if o = tickOffset 0 then s.onClk fun c => { c with latches := Tab.set c.latches 0 (c.tick.extractLsb' 32 32) } else s

/-- DBG_ACCESS_UPDATE (24 R893, R894; 21 R786; 25 R904): one 32-bit access of the physical function's BAR0, or DBG_DENIED. What the
register's data field holds after a write is a free value. -/
def execDbgAccessUpdate (v : Word64) (s : State) : Host.Outcome State Fault Refusal :=
  .next (s.flashEffect fun s => s.whenP (s.scanUp && s.dev.dbg.ir = 0x10) fun s =>
    let o := v.toNat % 2 ^ 26
    let write := v.getLsbD 26
    if !s.debugOpen o write then
      (s.onDbg fun d => { d with access := debugResult v 0 1 }).pfEvent 6 Codes.DBG_DENIED (o + b2n write * 2 ^ 26)
    else if o % 4 ≠ 0 then (s.onDbg fun d => { d with access := debugResult v 0 0 }).badAccess 0 o
    else if write then
      let data := s.freeVal 0 % 2 ^ 32
      (s.bump.onDbg fun d => { d with access := debugResult v data 0 }).whenP (s.pfReach (o < 0x100000)) fun s =>
        s.regWrite 0 o (v.extractLsb' 28 32)
    else
      let data := (s.regRead 0 o).toNat
      (s.debugRead o).onDbg fun d => { d with access := debugResult v data 0 })

end Sys2Proof.Machine
end

