-- ==== Sys2Proof/Machine/ThreadIsa.lean ====
section
/-!
DEFINITION. The thread instruction set: one meaning per instruction (09 R316-R321), and the returns of loads, the drain of
send queues and the release of flag waits (09 R304, R305, R370).
-/
namespace Sys2Proof.Machine

/-- NOP does nothing (09 R316). -/
def execThreadNop (t : Tid) (s : State) : Host.Outcome State Fault Refusal :=
  .next (s.effect (·.issueAs t (enc 0 0 0 0 0 0) true [] (·.advance (tidKey t) t.th.val)))

/-- ADD: ra + rb (09 R317). -/
def execAdd (t : Tid) (rd ra rb : Reg) (s : State) : Host.Outcome State Fault Refusal :=
  .next (s.effect (·.aluReg t 0x01 rd ra rb (fun a b => a + b)))

/-- SUB: ra − rb (09 R317). -/
def execSub (t : Tid) (rd ra rb : Reg) (s : State) : Host.Outcome State Fault Refusal :=
  .next (s.effect (·.aluReg t 0x02 rd ra rb (fun a b => a - b)))

/-- MUL: the low 32 bits of ra × rb (09 R317). -/
def execMul (t : Tid) (rd ra rb : Reg) (s : State) : Host.Outcome State Fault Refusal :=
  .next (s.effect (·.aluReg t 0x03 rd ra rb (fun a b => a * b)))

/-- MULHS: the high 32 bits of the signed product (09 R317). -/
def execMulhs (t : Tid) (rd ra rb : Reg) (s : State) : Host.Outcome State Fault Refusal :=
  .next (s.effect (·.aluReg t 0x04 rd ra rb (mulHighS)))

/-- MULHU: the high 32 bits of the unsigned product (09 R317). -/
def execMulhu (t : Tid) (rd ra rb : Reg) (s : State) : Host.Outcome State Fault Refusal :=
  .next (s.effect (·.aluReg t 0x05 rd ra rb (mulHighU)))

/-- AND (09 R317). -/
def execAnd (t : Tid) (rd ra rb : Reg) (s : State) : Host.Outcome State Fault Refusal :=
  .next (s.effect (·.aluReg t 0x06 rd ra rb (fun a b => a &&& b)))

/-- OR (09 R317). -/
def execOr (t : Tid) (rd ra rb : Reg) (s : State) : Host.Outcome State Fault Refusal :=
  .next (s.effect (·.aluReg t 0x07 rd ra rb (fun a b => a ||| b)))

/-- XOR (09 R317). -/
def execXor (t : Tid) (rd ra rb : Reg) (s : State) : Host.Outcome State Fault Refusal :=
  .next (s.effect (·.aluReg t 0x08 rd ra rb (fun a b => a ^^^ b)))

/-- SHL: ra shifted left by rb[4:0] (09 R317). -/
def execShl (t : Tid) (rd ra rb : Reg) (s : State) : Host.Outcome State Fault Refusal :=
  .next (s.effect (·.aluReg t 0x09 rd ra rb (fun a b => a <<< shiftAmount b)))

/-- SHR: ra shifted right by rb[4:0], zero fill (09 R317). -/
def execShr (t : Tid) (rd ra rb : Reg) (s : State) : Host.Outcome State Fault Refusal :=
  .next (s.effect (·.aluReg t 0x0A rd ra rb (fun a b => a >>> shiftAmount b)))

/-- SAR: ra shifted right by rb[4:0], sign fill (09 R317). -/
def execSar (t : Tid) (rd ra rb : Reg) (s : State) : Host.Outcome State Fault Refusal :=
  .next (s.effect (·.aluReg t 0x0B rd ra rb (fun a b => a.sshiftRight (shiftAmount b))))

/-- MINS: the smaller, signed (09 R317). -/
def execMins (t : Tid) (rd ra rb : Reg) (s : State) : Host.Outcome State Fault Refusal :=
  .next (s.effect (·.aluReg t 0x0C rd ra rb (minS)))

/-- MAXS: the larger, signed (09 R317). -/
def execMaxs (t : Tid) (rd ra rb : Reg) (s : State) : Host.Outcome State Fault Refusal :=
  .next (s.effect (·.aluReg t 0x0D rd ra rb (maxS)))

/-- MINU: the smaller, unsigned (09 R317). -/
def execMinu (t : Tid) (rd ra rb : Reg) (s : State) : Host.Outcome State Fault Refusal :=
  .next (s.effect (·.aluReg t 0x0E rd ra rb (minU)))

/-- MAXU: the larger, unsigned (09 R317). -/
def execMaxu (t : Tid) (rd ra rb : Reg) (s : State) : Host.Outcome State Fault Refusal :=
  .next (s.effect (·.aluReg t 0x0F rd ra rb (maxU)))

/-- SEQ: 1 when equal (09 R317). -/
def execSeq (t : Tid) (rd ra rb : Reg) (s : State) : Host.Outcome State Fault Refusal :=
  .next (s.effect (·.aluReg t 0x10 rd ra rb (fun a b => boolWord (a == b))))

/-- SNE: 1 when unequal (09 R317). -/
def execSne (t : Tid) (rd ra rb : Reg) (s : State) : Host.Outcome State Fault Refusal :=
  .next (s.effect (·.aluReg t 0x11 rd ra rb (fun a b => boolWord (a != b))))

/-- SLT: 1 when less, signed (09 R317). -/
def execSlt (t : Tid) (rd ra rb : Reg) (s : State) : Host.Outcome State Fault Refusal :=
  .next (s.effect (·.aluReg t 0x12 rd ra rb (fun a b => boolWord (a.toInt < b.toInt))))

/-- SLTU: 1 when less, unsigned (09 R317). -/
def execSltu (t : Tid) (rd ra rb : Reg) (s : State) : Host.Outcome State Fault Refusal :=
  .next (s.effect (·.aluReg t 0x13 rd ra rb (fun a b => boolWord (a.toNat < b.toNat))))

/-- ADD: ra + rb, with the immediate in place of rb (09 R316, R317). -/
def execAddImm (t : Tid) (rd ra : Reg) (imm : Word) (s : State) : Host.Outcome State Fault Refusal :=
  .next (s.effect (·.aluImm t 0x41 rd ra imm (fun a b => a + b)))

/-- SUB: ra − rb, with the immediate in place of rb (09 R316, R317). -/
def execSubImm (t : Tid) (rd ra : Reg) (imm : Word) (s : State) : Host.Outcome State Fault Refusal :=
  .next (s.effect (·.aluImm t 0x42 rd ra imm (fun a b => a - b)))

/-- MUL: the low 32 bits of ra × rb, with the immediate in place of rb (09 R316, R317). -/
def execMulImm (t : Tid) (rd ra : Reg) (imm : Word) (s : State) : Host.Outcome State Fault Refusal :=
  .next (s.effect (·.aluImm t 0x43 rd ra imm (fun a b => a * b)))

/-- MULHS: the high 32 bits of the signed product, with the immediate in place of rb (09 R316, R317). -/
def execMulhsImm (t : Tid) (rd ra : Reg) (imm : Word) (s : State) : Host.Outcome State Fault Refusal :=
  .next (s.effect (·.aluImm t 0x44 rd ra imm (mulHighS)))

/-- MULHU: the high 32 bits of the unsigned product, with the immediate in place of rb (09 R316, R317). -/
def execMulhuImm (t : Tid) (rd ra : Reg) (imm : Word) (s : State) : Host.Outcome State Fault Refusal :=
  .next (s.effect (·.aluImm t 0x45 rd ra imm (mulHighU)))

/-- AND, with the immediate in place of rb (09 R316, R317). -/
def execAndImm (t : Tid) (rd ra : Reg) (imm : Word) (s : State) : Host.Outcome State Fault Refusal :=
  .next (s.effect (·.aluImm t 0x46 rd ra imm (fun a b => a &&& b)))

/-- OR, with the immediate in place of rb (09 R316, R317). -/
def execOrImm (t : Tid) (rd ra : Reg) (imm : Word) (s : State) : Host.Outcome State Fault Refusal :=
  .next (s.effect (·.aluImm t 0x47 rd ra imm (fun a b => a ||| b)))

/-- XOR, with the immediate in place of rb (09 R316, R317). -/
def execXorImm (t : Tid) (rd ra : Reg) (imm : Word) (s : State) : Host.Outcome State Fault Refusal :=
  .next (s.effect (·.aluImm t 0x48 rd ra imm (fun a b => a ^^^ b)))

/-- SHL: ra shifted left by rb[4:0], with the immediate in place of rb (09 R316, R317). -/
def execShlImm (t : Tid) (rd ra : Reg) (imm : Word) (s : State) : Host.Outcome State Fault Refusal :=
  .next (s.effect (·.aluImm t 0x49 rd ra imm (fun a b => a <<< shiftAmount b)))

/-- SHR: ra shifted right by rb[4:0], zero fill, with the immediate in place of rb (09 R316, R317). -/
def execShrImm (t : Tid) (rd ra : Reg) (imm : Word) (s : State) : Host.Outcome State Fault Refusal :=
  .next (s.effect (·.aluImm t 0x4A rd ra imm (fun a b => a >>> shiftAmount b)))

/-- SAR: ra shifted right by rb[4:0], sign fill, with the immediate in place of rb (09 R316, R317). -/
def execSarImm (t : Tid) (rd ra : Reg) (imm : Word) (s : State) : Host.Outcome State Fault Refusal :=
  .next (s.effect (·.aluImm t 0x4B rd ra imm (fun a b => a.sshiftRight (shiftAmount b))))

/-- MINS: the smaller, signed, with the immediate in place of rb (09 R316, R317). -/
def execMinsImm (t : Tid) (rd ra : Reg) (imm : Word) (s : State) : Host.Outcome State Fault Refusal :=
  .next (s.effect (·.aluImm t 0x4C rd ra imm (minS)))

/-- MAXS: the larger, signed, with the immediate in place of rb (09 R316, R317). -/
def execMaxsImm (t : Tid) (rd ra : Reg) (imm : Word) (s : State) : Host.Outcome State Fault Refusal :=
  .next (s.effect (·.aluImm t 0x4D rd ra imm (maxS)))

/-- MINU: the smaller, unsigned, with the immediate in place of rb (09 R316, R317). -/
def execMinuImm (t : Tid) (rd ra : Reg) (imm : Word) (s : State) : Host.Outcome State Fault Refusal :=
  .next (s.effect (·.aluImm t 0x4E rd ra imm (minU)))

/-- MAXU: the larger, unsigned, with the immediate in place of rb (09 R316, R317). -/
def execMaxuImm (t : Tid) (rd ra : Reg) (imm : Word) (s : State) : Host.Outcome State Fault Refusal :=
  .next (s.effect (·.aluImm t 0x4F rd ra imm (maxU)))

/-- SEQ: 1 when equal, with the immediate in place of rb (09 R316, R317). -/
def execSeqImm (t : Tid) (rd ra : Reg) (imm : Word) (s : State) : Host.Outcome State Fault Refusal :=
  .next (s.effect (·.aluImm t 0x50 rd ra imm (fun a b => boolWord (a == b))))

/-- SNE: 1 when unequal, with the immediate in place of rb (09 R316, R317). -/
def execSneImm (t : Tid) (rd ra : Reg) (imm : Word) (s : State) : Host.Outcome State Fault Refusal :=
  .next (s.effect (·.aluImm t 0x51 rd ra imm (fun a b => boolWord (a != b))))

/-- SLT: 1 when less, signed, with the immediate in place of rb (09 R316, R317). -/
def execSltImm (t : Tid) (rd ra : Reg) (imm : Word) (s : State) : Host.Outcome State Fault Refusal :=
  .next (s.effect (·.aluImm t 0x52 rd ra imm (fun a b => boolWord (a.toInt < b.toInt))))

/-- SLTU: 1 when less, unsigned, with the immediate in place of rb (09 R316, R317). -/
def execSltuImm (t : Tid) (rd ra : Reg) (imm : Word) (s : State) : Host.Outcome State Fault Refusal :=
  .next (s.effect (·.aluImm t 0x53 rd ra imm (fun a b => boolWord (a.toNat < b.toNat))))

/-- MOVI: rd = imm (09 R316). -/
def execMovi (t : Tid) (rd : Reg) (imm : Word) (s : State) : Host.Outcome State Fault Refusal :=
  .next (s.effect (·.issueAs t (enc 0x20 rd.toNat 0 0 0 imm.toNat) true [rd.toNat] (·.result t rd imm)))

/-- MOV: rd = ra (09 R316). -/
def execMov (t : Tid) (rd ra : Reg) (s : State) : Host.Outcome State Fault Refusal :=
  .next (s.effect (·.aluOne t 0x21 rd ra (fun a => a)))

/-- SEL: rd = ra when rc ≠ 0, otherwise rb (09 R316). -/
def execSel (t : Tid) (rd ra rb rc : Reg) (s : State) : Host.Outcome State Fault Refusal :=
  .next (s.effect (·.issueAs t (enc 0x22 rd.toNat ra.toNat rb.toNat rc.toNat 0) true [rd.toNat, ra.toNat, rb.toNat, rc.toNat] fun s =>
    s.result t rd (if s.reg t rc ≠ 0 then s.reg t ra else s.reg t rb)))

/-- FADD: ra + rb, rounded to nearest even (09 R317; 15 R588). -/
def execFadd (t : Tid) (rd ra rb : Reg) (s : State) : Host.Outcome State Fault Refusal :=
  .next (s.effect (·.aluReg t 0x28 rd ra rb (f32Op f32Add)))

/-- FSUB: ra − rb, rounded to nearest even (09 R317; 15 R588). -/
def execFsub (t : Tid) (rd ra rb : Reg) (s : State) : Host.Outcome State Fault Refusal :=
  .next (s.effect (·.aluReg t 0x29 rd ra rb (f32Op f32Sub)))

/-- FMUL: ra × rb, rounded to nearest even (09 R317; 15 R588). -/
def execFmul (t : Tid) (rd ra rb : Reg) (s : State) : Host.Outcome State Fault Refusal :=
  .next (s.effect (·.aluReg t 0x2A rd ra rb (f32Op f32Mul)))

/-- FMIN: the smaller value, −0 below +0 (09 R317; 15 R588). -/
def execFmin (t : Tid) (rd ra rb : Reg) (s : State) : Host.Outcome State Fault Refusal :=
  .next (s.effect (·.aluReg t 0x2B rd ra rb (f32Op (f32Pick false))))

/-- FMAX: the larger value (09 R317; 15 R588). -/
def execFmax (t : Tid) (rd ra rb : Reg) (s : State) : Host.Outcome State Fault Refusal :=
  .next (s.effect (·.aluReg t 0x2C rd ra rb (f32Op (f32Pick true))))

/-- FEQ: 1 when equal as values (09 R317; 15 R588). -/
def execFeq (t : Tid) (rd ra rb : Reg) (s : State) : Host.Outcome State Fault Refusal :=
  .next (s.effect (·.aluReg t 0x2D rd ra rb (fun a b => boolWord (f32Eq a.toNat b.toNat))))

/-- FLT: 1 when ra < rb (09 R317; 15 R588). -/
def execFlt (t : Tid) (rd ra rb : Reg) (s : State) : Host.Outcome State Fault Refusal :=
  .next (s.effect (·.aluReg t 0x2E rd ra rb (fun a b => boolWord (f32Lt a.toNat b.toNat))))

/-- FABS: ra with bit 31 cleared (09 R317). -/
def execFabs (t : Tid) (rd ra : Reg) (s : State) : Host.Outcome State Fault Refusal :=
  .next (s.effect (·.aluOne t 0x2F rd ra (fun a => a &&& 0x7FFFFFFF)))

/-- FNEG: ra with bit 31 inverted (09 R317). -/
def execFneg (t : Tid) (rd ra : Reg) (s : State) : Host.Outcome State Fault Refusal :=
  .next (s.effect (·.aluOne t 0x30 rd ra (fun a => a ^^^ 0x80000000)))

/-- The effect of CVTN once it issues: an encoding that is not legal traps, then y, then the mode (09 R318; 14 R555, R561). -/
def State.cvtn (s : State) (t : Tid) (rd ra rb rc : Reg) (imm : Nat) : State :=
  let k := tidKey t
  let th := t.th.val
  let r := (s.thread k th).region
  let sr := bitAt imm 5
  let y := (s.reg t rb).toInt
  match cvtFmt? (imm % 16) with
  | none => s.trap k th Codes.THREAD_ILLEGAL 0
  | some f =>
    if y < -64 ∨ 63 < y then s.trap k th Codes.NUM_QUANT_INVALID 0
    else if sr ∧ s.narrowMode r ≠ 2 then s.trap k th Codes.NUM_MODE_DENIED 0
    else
      let x := s.thread k th
      let c := rc.toNat
      let u := s.roundDraw r ((x.reg c).toNat + (x.reg (c + 1)).toNat % 64 * 2 ^ 32) (x.reg (c + 2)).toNat (x.reg (c + 3)).toNat
      let v := (s.reg t ra).toNat
      let src := if bitAt imm 4 then f32F.decode v else Num.ofInt (signedOf 32 v)
      s.result t rd (BitVec.ofNat 32 (cvtnBits f src y (if sr then .stochastic u else .nearest) (bitsOf imm 15 8)))

/-- CVTN: the narrowing of ra by 14 R561 (09 R313, R318). -/
def execCvtn (t : Tid) (rd ra rb rc : Reg) (imm : Word) (s : State) : Host.Outcome State Fault Refusal :=
  let w := enc 0x34 rd.toNat ra.toNat rb.toNat rc.toNat imm.toNat
  let sr := bitAt imm.toNat 5
  let rs := [rd.toNat, ra.toNat, rb.toNat] ++ (if sr then upFrom rc.toNat 4 else [])
  .next (s.effect (·.issueAs t w (decodes w && (cvtFmt? (imm.toNat % 16)).isSome && (!sr || rc.toNat % 4 = 0)) rs
    (·.cvtn t rd ra rb rc imm.toNat)))

/-- CVTW: the exact value of ra in I32 or F32 (09 R313, R318). -/
def execCvtw (t : Tid) (rd ra : Reg) (imm : Word) (s : State) : Host.Outcome State Fault Refusal :=
  let w := enc 0x35 rd.toNat ra.toNat 0 0 imm.toNat
  .next (s.effect (·.issueAs t w (decodes w && (cvtFmt? (imm.toNat % 16)).isSome) [rd.toNat, ra.toNat] fun s =>
    s.result t rd (BitVec.ofNat 32
      (cvtwBits ((cvtFmt? (imm.toNat % 16)).getD .i32) (s.reg t ra).toNat (bitsOf imm.toNat 15 8) (bitAt imm.toNat 4)))))

/-- LD8U: a byte, zero-extended (09 R303, R304, R319). -/
def execLd8u (t : Tid) (rd ra : Reg) (imm : Word) (s : State) : Host.Outcome State Fault Refusal :=
  .next (s.effect (·.mem1 t (enc 0x60 rd.toNat ra.toNat 0 0 imm.toNat)))

/-- LD8S: a byte, sign-extended (09 R303, R304, R319). -/
def execLd8s (t : Tid) (rd ra : Reg) (imm : Word) (s : State) : Host.Outcome State Fault Refusal :=
  .next (s.effect (·.mem1 t (enc 0x61 rd.toNat ra.toNat 0 0 imm.toNat)))

/-- LD16U: 2 bytes, zero-extended (09 R303, R304, R319). -/
def execLd16u (t : Tid) (rd ra : Reg) (imm : Word) (s : State) : Host.Outcome State Fault Refusal :=
  .next (s.effect (·.mem1 t (enc 0x62 rd.toNat ra.toNat 0 0 imm.toNat)))

/-- LD16S: 2 bytes, sign-extended (09 R303, R304, R319). -/
def execLd16s (t : Tid) (rd ra : Reg) (imm : Word) (s : State) : Host.Outcome State Fault Refusal :=
  .next (s.effect (·.mem1 t (enc 0x63 rd.toNat ra.toNat 0 0 imm.toNat)))

/-- LD32: 4 bytes (09 R303, R304, R319). -/
def execLd32 (t : Tid) (rd ra : Reg) (imm : Word) (s : State) : Host.Outcome State Fault Refusal :=
  .next (s.effect (·.mem1 t (enc 0x64 rd.toNat ra.toNat 0 0 imm.toNat)))

/-- LD64: 8 bytes into the pair rd (09 R303, R304, R319). -/
def execLd64 (t : Tid) (rd ra : Reg) (imm : Word) (s : State) : Host.Outcome State Fault Refusal :=
  .next (s.effect (·.mem1 t (enc 0x65 rd.toNat ra.toNat 0 0 imm.toNat)))

/-- ST8: rb[7:0] (09 R304, R319). -/
def execSt8 (t : Tid) (ra rb : Reg) (imm : Word) (s : State) : Host.Outcome State Fault Refusal :=
  .next (s.effect (·.mem1 t (enc 0x68 0 ra.toNat rb.toNat 0 imm.toNat)))

/-- ST16: rb[15:0] (09 R304, R319). -/
def execSt16 (t : Tid) (ra rb : Reg) (imm : Word) (s : State) : Host.Outcome State Fault Refusal :=
  .next (s.effect (·.mem1 t (enc 0x69 0 ra.toNat rb.toNat 0 imm.toNat)))

/-- ST32: rb (09 R304, R319). -/
def execSt32 (t : Tid) (ra rb : Reg) (imm : Word) (s : State) : Host.Outcome State Fault Refusal :=
  .next (s.effect (·.mem1 t (enc 0x6A 0 ra.toNat rb.toNat 0 imm.toNat)))

/-- ST64: the pair rb (09 R304, R319). -/
def execSt64 (t : Tid) (ra rb : Reg) (imm : Word) (s : State) : Host.Outcome State Fault Refusal :=
  .next (s.effect (·.mem1 t (enc 0x6B 0 ra.toNat rb.toNat 0 imm.toNat)))

/-- ATOM32: the operation that rc names on 4 bytes (09 R306-R308, R319). -/
def execAtom32 (t : Tid) (rd ra rb : Reg) (op : BitVec 6) (imm : Word) (s : State) : Host.Outcome State Fault Refusal :=
  .next (s.effect (·.mem1 t (enc 0x70 rd.toNat ra.toNat rb.toNat op.toNat imm.toNat)))

/-- ATOM64: the operation that rc names on 8 bytes (09 R306-R308, R319). -/
def execAtom64 (t : Tid) (rd ra rb : Reg) (op : BitVec 6) (imm : Word) (s : State) : Host.Outcome State Fault Refusal :=
  .next (s.effect (·.mem1 t (enc 0x71 rd.toNat ra.toNat rb.toNat op.toNat imm.toNat)))

/-- The pc moves by 8 times the immediate, modulo 2^48 (09 R314, R320). -/
def State.branch (s : State) (t : Tid) (imm : Word) : State :=
  s.onThread (tidKey t) t.th.val fun x => { x with pc := x.pc + 8 * imm.signExtend 48 }

/-- BR (09 R320). -/
def execBr (t : Tid) (imm : Word) (s : State) : Host.Outcome State Fault Refusal :=
  .next (s.effect (·.issueAs t (enc 0x80 0 0 0 0 imm.toNat) true [] (·.branch t imm)))

/-- BRZ: branches when ra = 0 (09 R320). -/
def execBrz (t : Tid) (ra : Reg) (imm : Word) (s : State) : Host.Outcome State Fault Refusal :=
  .next (s.effect (·.issueAs t (enc 0x81 0 ra.toNat 0 0 imm.toNat) true [ra.toNat] fun s =>
    if s.reg t ra = 0 then s.branch t imm else s.advance (tidKey t) t.th.val))

/-- BRNZ: branches when ra ≠ 0 (09 R320). -/
def execBrnz (t : Tid) (ra : Reg) (imm : Word) (s : State) : Host.Outcome State Fault Refusal :=
  .next (s.effect (·.issueAs t (enc 0x82 0 ra.toNat 0 0 imm.toNat) true [ra.toNat] fun s =>
    if s.reg t ra ≠ 0 then s.branch t imm else s.advance (tidKey t) t.th.val))

/-- JAL: rd takes the offset of the next instruction from the entry (09 R320). -/
def execJal (t : Tid) (rd : Reg) (imm : Word) (s : State) : Host.Outcome State Fault Refusal :=
  .next (s.effect (·.issueAs t (enc 0x83 rd.toNat 0 0 0 imm.toNat) true [rd.toNat] fun s =>
    (s.onThread (tidKey t) t.th.val fun x => x.setReg rd.toNat ((x.pc + 8 - x.entry).setWidth 32)).branch t imm))

/-- JR: pc = entry + ra; a ra that is not a multiple of 8 traps (09 R320). -/
def execJr (t : Tid) (ra : Reg) (s : State) : Host.Outcome State Fault Refusal :=
  .next (s.effect (·.issueAs t (enc 0x84 0 ra.toNat 0 0 0) true [ra.toNat] fun s =>
    if (s.reg t ra).toNat % 8 ≠ 0 then s.trap (tidKey t) t.th.val Codes.THREAD_ILLEGAL 0
    else s.onThread (tidKey t) t.th.val fun x => { x with pc := x.entry + (s.reg t ra).setWidth 48 }))

/-- A thread exits; a task without a trap whose last thread has exited ends with OK (09 R312). -/
def State.exitThread (s : State) (k th : Nat) : State :=
  let s := s.onThread k th fun x => { x with state := .exited }
  match s.threadSlot k th with
  | some sl =>
    match sl.run.task with
    | some t =>
      if t.trap.isNone && t.threads.all (fun q => (s.thread q.1 q.2).state = .exited) then
        s.latchEnd (s.thread k th).key Codes.OK 0
      else s
    | none => s
  | none => s

/-- EXIT (09 R312, R320). -/
def execExit (t : Tid) (s : State) : Host.Outcome State Fault Refusal :=
  .next (s.effect (·.issueAs t (enc 0x8F 0 0 0 0 0) true [] (·.exitThread (tidKey t) t.th.val)))

/-- FWAIT: the thread stalls until a boundary at which the condition holds (09 R321, R370). -/
def execFwait (t : Tid) (ra : Reg) (flag : Byte) (cond : BitVec 2) (s : State) : Host.Outcome State Fault Refusal :=
  .next (s.effect (·.issueAs t (enc 0x90 0 ra.toNat 0 0 (flag.toNat + cond.toNat * 256)) true [ra.toNat] fun s =>
    s.onThread (tidKey t) t.th.val fun x => { x with state := .stallFlag flag.toNat cond.toNat (x.reg ra.toNat) }))

/-- THREAD_FLAG_RELEASE: a waiting thread whose condition holds goes on (09 R370). -/
def execThreadFlagRelease (t : Tid) (s : State) : Host.Outcome State Fault Refusal :=
  .next (s.effect fun s => s.whenP (s.fabricOn && s.taskRuns (tidKey t) t.th.val) fun s =>
    s.releaseFlag (s.thread (tidKey t) t.th.val).region (tidKey t) t.th.val)

/-- FSET: a flag update in order 4, after the writes that the thread has sent (09 R321, R368, R369). -/
def execFset (t : Tid) (ra : Reg) (flag : Byte) (op : BitVec 2) (s : State) : Host.Outcome State Fault Refusal :=
  .next (s.effect (·.issueAs t (enc 0x91 0 ra.toNat 0 0 (flag.toNat + op.toNat * 256)) true [ra.toNat] fun s =>
    let k := tidKey t
    let x := s.thread k t.th.val
    (s.latchFlag x.region { source := 4, sub := k * 64 + t.th.val, flag := flag.toNat, op := op.toNat, value := x.reg ra.toNat,
                            after := s.dev.noc.serial }).advance k t.th.val))

/-- The effect of ISSUE: its 64 bytes are read and the thread stalls until its descriptor is accepted (09 R321, R327, R332, R333;
log 22). -/
def State.issueOp (s : State) (k th q va : Nat) : State :=
  let x := s.thread k th
  let r := x.region
  match s.segOf r va 64 with
  | none => s.trap k th Codes.BOUNDS 0
  | some g =>
    let a := g.phys va
    if !(isScratch a && siteKey (scratchDie a) (scratchSite a) = k && a % 64 = 0) then s.trap k th Codes.BOUNDS 0
    else if !g.read then s.trapAt k th va Codes.SEG_PERM 0
    else
      match s.accessAddrs a 64 with
      | .error c => s.trapAt k th va c 0
      | .ok l =>
        match s.mem.bad l with
        | some b => s.trapBad k th va b
        | none =>
          let c := s.queue r q
          if s.queueCount r ≤ q ∨ !c.threadFed then s.trap k th Codes.QUE_FEEDER 0
          else
            s.onThread k th fun y => { y with state := .stallIssue q (s.mem.gather s.free l) }

/-- ISSUE: issues the descriptor at the address to the local queue of the rd field (09 R321, R333). -/
def execIssue (t : Tid) (queue : Reg) (ra : Reg) (imm : Word) (s : State) : Host.Outcome State Fault Refusal :=
  .next (s.effect (·.issueAs t (enc 0x92 queue.toNat ra.toNat 0 0 imm.toNat) (ra.toNat % 2 = 0) (pairRegs ra.toNat) fun s =>
    s.issueOp (tidKey t) t.th.val queue.toNat ((s.thread (tidKey t) t.th.val).address ra.toNat imm.toNat)))

/-- UNDECODABLE_INSTRUCTION: a word that the site cannot decode traps with THREAD_ILLEGAL (09 R311, R313). -/
def execUndecodableInstruction (t : Tid) (s : State) : Host.Outcome State Fault Refusal :=
  .next (s.effect fun s =>
    let k := tidKey t
    let w := match s.fetchAddr k t.th.val with
      | .ok a => s.fetchWord a
      | .error _ => 0
    s.whenP (!decodes w || (s.fetchAddr k t.th.val).toOption.isNone) (·.issueAs t w false [] id))

/-- LOAD_RETURN: the data of a load or an atomic operation reaches its register (09 R303, R304). -/
def execLoadReturn (t : Tid) (rd : Reg) (s : State) : Host.Outcome State Fault Refusal :=
  .next (s.effect fun s => s.whenP s.fabricOn (·.returnTo t rd false))

/-- SEND_QUEUE_RELEASE: an occurrence of a route sends its oldest packet (03 R65; 07 R226, R228, R229; 09 R305; 19 R719). -/
def execSendQueueRelease (r : RegionId) (route : BitVec 16) (s : State) : Host.Outcome State Fault Refusal :=
  .next (s.effect fun s => s.whenP (s.fabricOn && s.occurs r.val route.toNat) (·.drainRoute r.val route.toNat))

end Sys2Proof.Machine
end

