-- ==== Sys2Proof/Machine/Dispatch.lean ====
section
/-!
DEFINITION. One arm per command: each calls that command's own meaning.
-/
namespace Sys2Proof.Machine

/-- A command's effect on everything but the queue of waiting commands. -/
def exec (i : Instr) (s : State) : Host.Outcome State Fault Refusal :=
  match i with
  | .railPowerGood mv => Sys2Proof.Machine.execRailPowerGood mv s
  | .railUndervoltage mv => Sys2Proof.Machine.execRailUndervoltage mv s
  | .railOvervoltage mv => Sys2Proof.Machine.execRailOvervoltage mv s
  | .boardResetAssert lowTicks => Sys2Proof.Machine.execBoardResetAssert lowTicks s
  | .hostResetAssert lowTicks => Sys2Proof.Machine.execHostResetAssert lowTicks s
  | .resetRelease cause => Sys2Proof.Machine.execResetRelease cause s
  | .mgtVioChange present => Sys2Proof.Machine.execMgtVioChange present s
  | .watchdogExpiry => Sys2Proof.Machine.execWatchdogExpiry s
  | .bootRomDone => Sys2Proof.Machine.execBootRomDone s
  | .fwVerifyDone => Sys2Proof.Machine.execFwVerifyDone s
  | .dieLinkDone trained => Sys2Proof.Machine.execDieLinkDone trained s
  | .memInitDone rngOk => Sys2Proof.Machine.execMemInitDone rngOk s
  | .bootStageTimeout why => Sys2Proof.Machine.execBootStageTimeout why s
  | .bootRestart => Sys2Proof.Machine.execBootRestart s
  | .imageAutoload => Sys2Proof.Machine.execImageAutoload s
  | .imageLoad => Sys2Proof.Machine.execImageLoad s
  | .imageUnload => Sys2Proof.Machine.execImageUnload s
  | .flashFirmware copy => Sys2Proof.Machine.execFlashFirmware copy s
  | .storeAutoload => Sys2Proof.Machine.execStoreAutoload s
  | .eraseAutoload => Sys2Proof.Machine.execEraseAutoload s
  | .imageLoadDeferredStart => Sys2Proof.Machine.execImageLoadDeferredStart s
  | .imageFetchDone bytes => Sys2Proof.Machine.execImageFetchDone bytes s
  | .imageFetchError why => Sys2Proof.Machine.execImageFetchError why s
  | .regionsStart tests => Sys2Proof.Machine.execRegionsStart tests s
  | .imageApplyFault step => Sys2Proof.Machine.execImageApplyFault step s
  | .regionResetReq f r => Sys2Proof.Machine.execRegionResetReq f r s
  | .regionResetStart r => Sys2Proof.Machine.execRegionResetStart r s
  | .regionResetEnd r relocked rngOk tests => Sys2Proof.Machine.execRegionResetEnd r relocked rngOk tests s
  | .cblpresChange p high => Sys2Proof.Machine.execCblpresChange p high s
  | .mgmtStatus => Sys2Proof.Machine.execMgmtStatus s
  | .temp => Sys2Proof.Machine.execTemp s
  | .power => Sys2Proof.Machine.execPower s
  | .rail => Sys2Proof.Machine.execRail s
  | .stage => Sys2Proof.Machine.execStage s
  | .lastFault => Sys2Proof.Machine.execLastFault s
  | .deviceId => Sys2Proof.Machine.execDeviceId s
  | .alertResponse => Sys2Proof.Machine.execAlertResponse s
  | .regionSharedReq f r v => Sys2Proof.Machine.execRegionSharedReq f r v s
  | .hubSharedReq v => Sys2Proof.Machine.execHubSharedReq v s
  | .clkTickLoRead f => Sys2Proof.Machine.execClkTickLoRead f s
  | .resonatorCheck disagree => Sys2Proof.Machine.execResonatorCheck disagree s
  | .resonatorCalibration step => Sys2Proof.Machine.execResonatorCalibration step s
  | .islandLockLost domain inSite at_ => Sys2Proof.Machine.execIslandLockLost domain inSite at_ s
  | .frameBoundary temps inputPower reads => Sys2Proof.Machine.execFrameBoundary temps inputPower reads s
  | .regionPwrReq f r v => Sys2Proof.Machine.execRegionPwrReq f r v s
  | .pwrDomainTargetWrite n v => Sys2Proof.Machine.execPwrDomainTargetWrite n v s
  | .pwrRequestAct n => Sys2Proof.Machine.execPwrRequestAct n s
  | .closingDrained n => Sys2Proof.Machine.execClosingDrained n s
  | .pwrTransitionComplete n => Sys2Proof.Machine.execPwrTransitionComplete n s
  | .pwrDrainLong n => Sys2Proof.Machine.execPwrDrainLong n s
  | .throttleRecompute => Sys2Proof.Machine.execThrottleRecompute s
  | .thermTrip => Sys2Proof.Machine.execThermTrip s
  | .thermTripApply => Sys2Proof.Machine.execThermTripApply s
  | .supplyDroopBegin => Sys2Proof.Machine.execSupplyDroopBegin s
  | .supplyDroopEnd => Sys2Proof.Machine.execSupplyDroopEnd s
  | .pwrThermCtlWrite v => Sys2Proof.Machine.execPwrThermCtlWrite v s
  | .schedulerBoundary r => Sys2Proof.Machine.execSchedulerBoundary r s
  | .doorbell f r q t => Sys2Proof.Machine.execDoorbell f r q t s
  | .queueCfgWrite f r q v => Sys2Proof.Machine.execQueueCfgWrite f r q v s
  | .ringCfgWrite f ring v => Sys2Proof.Machine.execRingCfgWrite f ring v s
  | .ringBaseWrite f ring v => Sys2Proof.Machine.execRingBaseWrite f ring v s
  | .descriptorFetch r => Sys2Proof.Machine.execDescriptorFetch r s
  | .descriptorAccept r bytes => Sys2Proof.Machine.execDescriptorAccept r bytes s
  | .issueAccept t => Sys2Proof.Machine.execIssueAccept t s
  | .operationComplete o => Sys2Proof.Machine.execOperationComplete o s
  | .eventsLost ring => Sys2Proof.Machine.execEventsLost ring s
  | .digestLost r => Sys2Proof.Machine.execDigestLost r s
  | .regionCancelCmd f r v => Sys2Proof.Machine.execRegionCancelCmd f r v s
  | .regionPrioCmd f r v => Sys2Proof.Machine.execRegionPrioCmd f r v s
  | .preemptionPointStop o => Sys2Proof.Machine.execPreemptionPointStop o s
  | .timeoutExpiry o => Sys2Proof.Machine.execTimeoutExpiry o s
  | .wmCrossedClear f r n => Sys2Proof.Machine.execWmCrossedClear f r n s
  | .flagRegisterWrite f r n v => Sys2Proof.Machine.execFlagRegisterWrite f r n v s
  | .nop o => Sys2Proof.Machine.execNop o s
  | .copy o => Sys2Proof.Machine.execCopy o s
  | .copyComplete o hostBytes => Sys2Proof.Machine.execCopyComplete o hostBytes s
  | .task o => Sys2Proof.Machine.execTask o s
  | .anneal o => Sys2Proof.Machine.execAnneal o s
  | .sample o => Sys2Proof.Machine.execSample o s
  | .matrix o => Sys2Proof.Machine.execMatrix o s
  | .visionGraph o => Sys2Proof.Machine.execVisionGraph o s
  | .flagSet o => Sys2Proof.Machine.execFlagSet o s
  | .flagWait o => Sys2Proof.Machine.execFlagWait o s
  | .flagWaitSatisfied o => Sys2Proof.Machine.execFlagWaitSatisfied o s
  | .fence o => Sys2Proof.Machine.execFence o s
  | .fenceRelease o => Sys2Proof.Machine.execFenceRelease o s
  | .digestMark o => Sys2Proof.Machine.execDigestMark o s
  | .threadNop t => Sys2Proof.Machine.execThreadNop t s
  | .add t rd ra rb => Sys2Proof.Machine.execAdd t rd ra rb s
  | .sub t rd ra rb => Sys2Proof.Machine.execSub t rd ra rb s
  | .mul t rd ra rb => Sys2Proof.Machine.execMul t rd ra rb s
  | .mulhs t rd ra rb => Sys2Proof.Machine.execMulhs t rd ra rb s
  | .mulhu t rd ra rb => Sys2Proof.Machine.execMulhu t rd ra rb s
  | .and t rd ra rb => Sys2Proof.Machine.execAnd t rd ra rb s
  | .or t rd ra rb => Sys2Proof.Machine.execOr t rd ra rb s
  | .xor t rd ra rb => Sys2Proof.Machine.execXor t rd ra rb s
  | .shl t rd ra rb => Sys2Proof.Machine.execShl t rd ra rb s
  | .shr t rd ra rb => Sys2Proof.Machine.execShr t rd ra rb s
  | .sar t rd ra rb => Sys2Proof.Machine.execSar t rd ra rb s
  | .mins t rd ra rb => Sys2Proof.Machine.execMins t rd ra rb s
  | .maxs t rd ra rb => Sys2Proof.Machine.execMaxs t rd ra rb s
  | .minu t rd ra rb => Sys2Proof.Machine.execMinu t rd ra rb s
  | .maxu t rd ra rb => Sys2Proof.Machine.execMaxu t rd ra rb s
  | .seq t rd ra rb => Sys2Proof.Machine.execSeq t rd ra rb s
  | .sne t rd ra rb => Sys2Proof.Machine.execSne t rd ra rb s
  | .slt t rd ra rb => Sys2Proof.Machine.execSlt t rd ra rb s
  | .sltu t rd ra rb => Sys2Proof.Machine.execSltu t rd ra rb s
  | .addImm t rd ra imm => Sys2Proof.Machine.execAddImm t rd ra imm s
  | .subImm t rd ra imm => Sys2Proof.Machine.execSubImm t rd ra imm s
  | .mulImm t rd ra imm => Sys2Proof.Machine.execMulImm t rd ra imm s
  | .mulhsImm t rd ra imm => Sys2Proof.Machine.execMulhsImm t rd ra imm s
  | .mulhuImm t rd ra imm => Sys2Proof.Machine.execMulhuImm t rd ra imm s
  | .andImm t rd ra imm => Sys2Proof.Machine.execAndImm t rd ra imm s
  | .orImm t rd ra imm => Sys2Proof.Machine.execOrImm t rd ra imm s
  | .xorImm t rd ra imm => Sys2Proof.Machine.execXorImm t rd ra imm s
  | .shlImm t rd ra imm => Sys2Proof.Machine.execShlImm t rd ra imm s
  | .shrImm t rd ra imm => Sys2Proof.Machine.execShrImm t rd ra imm s
  | .sarImm t rd ra imm => Sys2Proof.Machine.execSarImm t rd ra imm s
  | .minsImm t rd ra imm => Sys2Proof.Machine.execMinsImm t rd ra imm s
  | .maxsImm t rd ra imm => Sys2Proof.Machine.execMaxsImm t rd ra imm s
  | .minuImm t rd ra imm => Sys2Proof.Machine.execMinuImm t rd ra imm s
  | .maxuImm t rd ra imm => Sys2Proof.Machine.execMaxuImm t rd ra imm s
  | .seqImm t rd ra imm => Sys2Proof.Machine.execSeqImm t rd ra imm s
  | .sneImm t rd ra imm => Sys2Proof.Machine.execSneImm t rd ra imm s
  | .sltImm t rd ra imm => Sys2Proof.Machine.execSltImm t rd ra imm s
  | .sltuImm t rd ra imm => Sys2Proof.Machine.execSltuImm t rd ra imm s
  | .movi t rd imm => Sys2Proof.Machine.execMovi t rd imm s
  | .mov t rd ra => Sys2Proof.Machine.execMov t rd ra s
  | .sel t rd ra rb rc => Sys2Proof.Machine.execSel t rd ra rb rc s
  | .fadd t rd ra rb => Sys2Proof.Machine.execFadd t rd ra rb s
  | .fsub t rd ra rb => Sys2Proof.Machine.execFsub t rd ra rb s
  | .fmul t rd ra rb => Sys2Proof.Machine.execFmul t rd ra rb s
  | .fmin t rd ra rb => Sys2Proof.Machine.execFmin t rd ra rb s
  | .fmax t rd ra rb => Sys2Proof.Machine.execFmax t rd ra rb s
  | .feq t rd ra rb => Sys2Proof.Machine.execFeq t rd ra rb s
  | .flt t rd ra rb => Sys2Proof.Machine.execFlt t rd ra rb s
  | .fabs t rd ra => Sys2Proof.Machine.execFabs t rd ra s
  | .fneg t rd ra => Sys2Proof.Machine.execFneg t rd ra s
  | .cvtn t rd ra rb rc imm => Sys2Proof.Machine.execCvtn t rd ra rb rc imm s
  | .cvtw t rd ra imm => Sys2Proof.Machine.execCvtw t rd ra imm s
  | .ld8u t rd ra imm => Sys2Proof.Machine.execLd8u t rd ra imm s
  | .ld8s t rd ra imm => Sys2Proof.Machine.execLd8s t rd ra imm s
  | .ld16u t rd ra imm => Sys2Proof.Machine.execLd16u t rd ra imm s
  | .ld16s t rd ra imm => Sys2Proof.Machine.execLd16s t rd ra imm s
  | .ld32 t rd ra imm => Sys2Proof.Machine.execLd32 t rd ra imm s
  | .ld64 t rd ra imm => Sys2Proof.Machine.execLd64 t rd ra imm s
  | .st8 t ra rb imm => Sys2Proof.Machine.execSt8 t ra rb imm s
  | .st16 t ra rb imm => Sys2Proof.Machine.execSt16 t ra rb imm s
  | .st32 t ra rb imm => Sys2Proof.Machine.execSt32 t ra rb imm s
  | .st64 t ra rb imm => Sys2Proof.Machine.execSt64 t ra rb imm s
  | .atom32 t rd ra rb op imm => Sys2Proof.Machine.execAtom32 t rd ra rb op imm s
  | .atom64 t rd ra rb op imm => Sys2Proof.Machine.execAtom64 t rd ra rb op imm s
  | .br t imm => Sys2Proof.Machine.execBr t imm s
  | .brz t ra imm => Sys2Proof.Machine.execBrz t ra imm s
  | .brnz t ra imm => Sys2Proof.Machine.execBrnz t ra imm s
  | .jal t rd imm => Sys2Proof.Machine.execJal t rd imm s
  | .jr t ra => Sys2Proof.Machine.execJr t ra s
  | .exit t => Sys2Proof.Machine.execExit t s
  | .fwait t ra flag cond => Sys2Proof.Machine.execFwait t ra flag cond s
  | .threadFlagRelease t => Sys2Proof.Machine.execThreadFlagRelease t s
  | .fset t ra flag op => Sys2Proof.Machine.execFset t ra flag op s
  | .issue t queue ra imm => Sys2Proof.Machine.execIssue t queue ra imm s
  | .undecodableInstruction t => Sys2Proof.Machine.execUndecodableInstruction t s
  | .loadReturn t rd => Sys2Proof.Machine.execLoadReturn t rd s
  | .sendQueueRelease r route => Sys2Proof.Machine.execSendQueueRelease r route s
  | .exp2 t rd ra f32 => Sys2Proof.Machine.execExp2 t rd ra f32 s
  | .log2 t rd ra f32 => Sys2Proof.Machine.execLog2 t rd ra f32 s
  | .recip t rd ra f32 => Sys2Proof.Machine.execRecip t rd ra f32 s
  | .rsqrt t rd ra f32 => Sys2Proof.Machine.execRsqrt t rd ra f32 s
  | .sigmoid t rd ra f32 => Sys2Proof.Machine.execSigmoid t rd ra f32 s
  | .tanh t rd ra f32 => Sys2Proof.Machine.execTanh t rd ra f32 s
  | .geluErf t rd ra f32 => Sys2Proof.Machine.execGeluErf t rd ra f32 s
  | .geluTanh t rd ra f32 => Sys2Proof.Machine.execGeluTanh t rd ra f32 s
  | .sfuResult t rd => Sys2Proof.Machine.execSfuResult t rd s
  | .softmax t ra rb rc n inF32 outF32 maxEn => Sys2Proof.Machine.execSoftmax t ra rb rc n inF32 outF32 maxEn s
  | .softmaxComplete t => Sys2Proof.Machine.execSoftmaxComplete t s
  | .sfuUnitFree x => Sys2Proof.Machine.execSfuUnitFree x s
  | .updateSlot x => Sys2Proof.Machine.execUpdateSlot x s
  | .claimsSend x => Sys2Proof.Machine.execClaimsSend x s
  | .claimsArrive x stream => Sys2Proof.Machine.execClaimsArrive x stream s
  | .windowCommit x => Sys2Proof.Machine.execWindowCommit x s
  | .ghostValuesArrive x stream => Sys2Proof.Machine.execGhostValuesArrive x stream s
  | .windowStart x => Sys2Proof.Machine.execWindowStart x s
  | .exchangeDecisionArrive x => Sys2Proof.Machine.execExchangeDecisionArrive x s
  | .epochMarkSend o => Sys2Proof.Machine.execEpochMarkSend o s
  | .epochMarkArrive p => Sys2Proof.Machine.execEpochMarkArrive p s
  | .syncInEdge => Sys2Proof.Machine.execSyncInEdge s
  | .stopRequest o cause => Sys2Proof.Machine.execStopRequest o cause s
  | .annealComplete o => Sys2Proof.Machine.execAnnealComplete o s
  | .noiseSelfTest x z0 z1 z2 => Sys2Proof.Machine.execNoiseSelfTest x z0 z1 z2 s
  | .matrixPromotion x => Sys2Proof.Machine.execMatrixPromotion x s
  | .matrixAccumulationEnd x => Sys2Proof.Machine.execMatrixAccumulationEnd x s
  | .shadowSetFree x => Sys2Proof.Machine.execShadowSetFree x s
  | .matrixDrainEnd x => Sys2Proof.Machine.execMatrixDrainEnd x s
  | .pyramid d => Sys2Proof.Machine.execPyramid d s
  | .detect d => Sys2Proof.Machine.execDetect d s
  | .describe d => Sys2Proof.Machine.execDescribe d s
  | .matchNode d => Sys2Proof.Machine.execMatchNode d s
  | .stereo d => Sys2Proof.Machine.execStereo d s
  | .visNodeComplete d stereoEngine => Sys2Proof.Machine.execVisNodeComplete d stereoEngine s
  | .streamRowWaitEnd d stereoEngine => Sys2Proof.Machine.execStreamRowWaitEnd d stereoEngine s
  | .frameMarkTimer r n => Sys2Proof.Machine.execFrameMarkTimer r n s
  | .visFrameStart d stereoEngine => Sys2Proof.Machine.execVisFrameStart d stereoEngine s
  | .syncOutPulseEnd => Sys2Proof.Machine.execSyncOutPulseEnd s
  | .visGroupUnderrun r g => Sys2Proof.Machine.execVisGroupUnderrun r g s
  | .regionVisTimerWrite f r n v => Sys2Proof.Machine.execRegionVisTimerWrite f r n v s
  | .nocPacketArrive d kind index port r route checkOk => Sys2Proof.Machine.execNocPacketArrive d kind index port r route checkOk s
  | .dramRefresh m held r route => Sys2Proof.Machine.execDramRefresh m held r route s
  | .bgTaskStarved d router task => Sys2Proof.Machine.execBgTaskStarved d router task s
  | .bgEscalationWindow d router => Sys2Proof.Machine.execBgEscalationWindow d router s
  | .scrubRead m ch found => Sys2Proof.Machine.execScrubRead m ch found s
  | .scrubWriteback m ch => Sys2Proof.Machine.execScrubWriteback m ch s
  | .ydiPacketReceive b crcOk laneFails o => Sys2Proof.Machine.execYdiPacketReceive b crcOk laneFails o s
  | .ydiDeferredCross b o => Sys2Proof.Machine.execYdiDeferredCross b o s
  | .ydiErrorWindow => Sys2Proof.Machine.execYdiErrorWindow s
  | .bundleWidthChange b => Sys2Proof.Machine.execBundleWidthChange b s
  | .bundleSidebandFail b => Sys2Proof.Machine.execBundleSidebandFail b s
  | .laneRecordWrite => Sys2Proof.Machine.execLaneRecordWrite s
  | .ydiCfgWrite v => Sys2Proof.Machine.execYdiCfgWrite v s
  | .portTrainAttempt p trained => Sys2Proof.Machine.execPortTrainAttempt p trained s
  | .linkFrameStart p => Sys2Proof.Machine.execLinkFrameStart p s
  | .linkHeaderReceive p header => Sys2Proof.Machine.execLinkHeaderReceive p header s
  | .portLive p => Sys2Proof.Machine.execPortLive p s
  | .linkCellSend p slot => Sys2Proof.Machine.execLinkCellSend p slot s
  | .linkCellReceive p slot cell => Sys2Proof.Machine.execLinkCellReceive p slot cell s
  | .cellForward p slot => Sys2Proof.Machine.execCellForward p slot s
  | .cellResend p slot => Sys2Proof.Machine.execCellResend p slot s
  | .heartbeatMiss p => Sys2Proof.Machine.execHeartbeatMiss p s
  | .linkDownNotice p ordinal lostPort => Sys2Proof.Machine.execLinkDownNotice p ordinal lostPort s
  | .routeSwitch key => Sys2Proof.Machine.execRouteSwitch key s
  | .hostLinkDown => Sys2Proof.Machine.execHostLinkDown s
  | .hostLinkUp rate width flit => Sys2Proof.Machine.execHostLinkUp rate width flit s
  | .vfEnableWrite enable numVFs => Sys2Proof.Machine.execVfEnableWrite enable numVFs s
  | .vfFlr k => Sys2Proof.Machine.execVfFlr k s
  | .pfFlr => Sys2Proof.Machine.execPfFlr s
  | .functionD3hot f => Sys2Proof.Machine.execFunctionD3hot f s
  | .busMasterEnableWrite f v => Sys2Proof.Machine.execBusMasterEnableWrite f v s
  | .hostReadError o fetch => Sys2Proof.Machine.execHostReadError o fetch s
  | .msixMessage src => Sys2Proof.Machine.execMsixMessage src s
  | .msixUnmask f vec => Sys2Proof.Machine.execMsixUnmask f vec s
  | .badRegisterAccess f offset => Sys2Proof.Machine.execBadRegisterAccess f offset s
  | .registerWrite f offset wide v => Sys2Proof.Machine.execRegisterWrite f offset wide v s
  | .hubDetCtlWrite v => Sys2Proof.Machine.execHubDetCtlWrite v s
  | .detWeightsWrite f r n v => Sys2Proof.Machine.execDetWeightsWrite f r n v s
  | .detInputWrite f r n v => Sys2Proof.Machine.execDetInputWrite f r n v s
  | .weightsLockSet f r => Sys2Proof.Machine.execWeightsLockSet f r s
  | .provisionImageKey slot fuses => Sys2Proof.Machine.execProvisionImageKey slot fuses s
  | .revokeImageKey slot fuses => Sys2Proof.Machine.execRevokeImageKey slot fuses s
  | .revokeFirmwareKey slot fuses => Sys2Proof.Machine.execRevokeFirmwareKey slot fuses s
  | .advanceImageRollback fuses => Sys2Proof.Machine.execAdvanceImageRollback fuses s
  | .advanceFirmwareRollback fuses => Sys2Proof.Machine.execAdvanceFirmwareRollback fuses s
  | .blowProvisioningLock fuses => Sys2Proof.Machine.execBlowProvisioningLock fuses s
  | .attestGo f r v => Sys2Proof.Machine.execAttestGo f r v s
  | .attestComplete => Sys2Proof.Machine.execAttestComplete s
  | .revokeQueueLock f r v => Sys2Proof.Machine.execRevokeQueueLock f r v s
  | .revokeWindow f r v => Sys2Proof.Machine.execRevokeWindow f r v s
  | .revokeFlag f r v => Sys2Proof.Machine.execRevokeFlag f r v s
  | .revokeTaskSlot f r v => Sys2Proof.Machine.execRevokeTaskSlot f r v s
  | .revokeStreamSlot f r v => Sys2Proof.Machine.execRevokeStreamSlot f r v s
  | .revokeRegion f r v => Sys2Proof.Machine.execRevokeRegion f r v s
  | .revokeDone r => Sys2Proof.Machine.execRevokeDone r s
  | .telSamplePeriod => Sys2Proof.Machine.execTelSamplePeriod s
  | .telSampleRead n => Sys2Proof.Machine.execTelSampleRead n s
  | .dbgTraceCtlWrite v => Sys2Proof.Machine.execDbgTraceCtlWrite v s
  | .regionDbgConsentWrite f r v => Sys2Proof.Machine.execRegionDbgConsentWrite f r v s
  | .testLogicReset => Sys2Proof.Machine.execTestLogicReset s
  | .idcode => Sys2Proof.Machine.execIdcode s
  | .samplePreload bits => Sys2Proof.Machine.execSamplePreload bits s
  | .extest => Sys2Proof.Machine.execExtest s
  | .clamp => Sys2Proof.Machine.execClamp s
  | .highz => Sys2Proof.Machine.execHighz s
  | .dbgAccess => Sys2Proof.Machine.execDbgAccess s
  | .bypass opcode => Sys2Proof.Machine.execBypass opcode s
  | .dbgAccessUpdate v => Sys2Proof.Machine.execDbgAccessUpdate v s
  | .railDroop mv => Sys2Proof.Machine.execRailDroop mv s
  | .powerStateD0 f => Sys2Proof.Machine.execPowerStateD0 f s

end Sys2Proof.Machine
end

