-- ==== Sys2Proof/Safety.lean ====
section
/-!
DEFINITION. What statements about the block are made in terms of: a command that completes, the order of fuses, and the parts of the
state that a command leaves alone.
-/
namespace Sys2Proof.Machine

/-- The command answers a next state, of which `p` holds. -/
def Completes (c : Instr) (s : State) (p : State → Prop) : Prop := ∃ t, exec c s = .next t ∧ p t

/-- Every fuse that is blown in `a` is blown in `b` (22 R807). -/
structure Fuses.Le (a b : Fuses) : Prop where
  fwHash : ∀ k, Tab.get 0 a.fwHash k &&& Tab.get 0 b.fwHash k = Tab.get 0 a.fwHash k
  fwRevoked : a.fwRevoked &&& b.fwRevoked = a.fwRevoked
  imgHash : ∀ k, Tab.get 0 a.imgHash k &&& Tab.get 0 b.imgHash k = Tab.get 0 a.imgHash k
  imgValid : a.imgValid &&& b.imgValid = a.imgValid
  imgRevoked : a.imgRevoked &&& b.imgRevoked = a.imgRevoked
  fwRollback : a.fwRollback ≤ b.fwRollback
  imgRollback : a.imgRollback ≤ b.imgRollback
  lock : a.lock = true → b.lock = true

/-- Each rollback thermometer has 64 fuses (22 R807, R817). -/
def Fuses.Legal (f : Fuses) : Prop := f.fwRollback ≤ 64 ∧ f.imgRollback ≤ 64

/-- Nothing that outlives an image or a reset of the fabric is changed: fuses, boot flash, the part. -/
def State.KeepsStore (s t : State) : Prop := t.part = s.part ∧ t.fuses = s.fuses ∧ t.flash = s.flash

/-- Memory, host memory and the fabric are unchanged. -/
def State.KeepsFabric (s t : State) : Prop := t.mem = s.mem ∧ t.hostMem = s.hostMem ∧ t.fab = s.fab

/-- Every byte of device memory reads as before, for every value of the free-value counter. -/
def State.KeepsBytes (s t : State) : Prop := ∀ n a, t.mem.read n a = s.mem.read n a

/-- What every package reset leaves (05 R134-R136): stage RESET, no image, no region, no site at work, empty memory, domains in Charcoal, the
link, security and telemetry blocks and the frame count at their reset values; fuses, flash, host memory and the waiting commands stay. -/
structure State.AfterReset (s t : State) : Prop where
  stage : t.dev.boot.stage = .reset
  image : t.fab = { memDies := t.fab.memDies }
  memory : t.mem = {}
  domains : ∀ n, t.domain n = {}
  blocks : t.dev.noc = {} ∧ t.dev.lnk = {} ∧ t.dev.sec = {} ∧ t.dev.tel = {} ∧ t.dev.shared = {}
  host : t.dev.hst = { linkDowns := t.dev.hst.linkDowns }
  ids : t.dev.faults.next = 1
  stay : t.hostMem = s.hostMem ∧ t.free = s.free ∧ t.pending = s.pending

/-- A boot that starts at ROM (05 R133, R156; 04 R100, R126; 07 R222): the hub domains are in Ivory, but for the ports and the edges while a
thermal trip stands (log 101), the host link is in Detect, boot frame 0 begins, and the boot stage's tick is recorded. -/
structure State.AtRom (s t : State) : Prop where
  stage : t.dev.boot.stage = .rom
  release : t.dev.boot.releaseTick = s.dev.clk.tick
  hubs : t.dev.aux.tripHold = false → ∀ n, 40 ≤ n → n ≤ 45 → (t.domain n).state = .ivory
  others : t.dev.aux.tripHold = false → ∀ n, n < 40 ∨ 45 < n → t.domain n = s.domain n
  hubsTripped : t.dev.aux.tripHold = true → ∀ n, n = 40 ∨ n = 43 ∨ n = 44 → (t.domain n).state = .ivory
  edgesTripped : t.dev.aux.tripHold = true → ∀ n, n = 19 ∨ n = 39 ∨ n = 45 → (t.domain n).state = .pewter
  othersTripped : t.dev.aux.tripHold = true → ∀ n, n ≠ 19 → n ≠ 39 → n ≠ 40 → n ≠ 43 → n ≠ 44 → n ≠ 45 → t.domain n = s.domain n
  link : t.dev.hst.linkUp = false
  frames : t.dev.noc.counting = false ∧ t.dev.noc.bootFrame = 0 ∧ t.dev.noc.frameTick = s.dev.clk.tick

/-- No package-reset cause but those that a command is about to release holds, and no boundary-scan instruction holds the reset. -/
def State.NoOtherCause (s : State) (rail overV board host : Bool) : Prop :=
  (rail = false → s.dev.boot.causeRail = false) ∧ (overV = false → s.dev.boot.causeOver = false) ∧
    (board = false → s.dev.boot.causeBoard = false) ∧ (host = false → s.dev.boot.causeHost = false) ∧ jtagHolds s.dev.dbg.ir = false

end Sys2Proof.Machine
end

