-- ==== Sys2Proof/WellFormed.lean ====
section
/-!
DEFINITION. Which terms of Instr a sender can produce: the lengths that the operand lists must have. Every other bound of
an operand is in its type.
-/
namespace Sys2Proof

/-- The lengths of a command's operand lists: one lane mask for each of the 40 bundles (19 R701), one reading for each of
the 46 sensors (24 R870), 64 descriptor bytes (09 R335), a 512-byte frame header (20 R735), a 384-byte cell (20 R736). -/
def Instr.wellFormed : Instr → Bool
  | .dieLinkDone trained => trained.length == 40
  | .frameBoundary temps _ _ => temps.length == 46
  | .descriptorAccept _ bytes => bytes.length == 64
  | .linkHeaderReceive _ header => header.length == 512
  | .linkCellReceive _ slot cell => cell.length == 384 && slot < 1364
  | .linkCellSend _ slot => slot < 1364
  | .cellForward _ slot => slot < 1364
  | .cellResend _ slot => slot < 1364
  | _ => true

end Sys2Proof
end

