-- ==== Sys2Proof/Certificates/Slice0/Obligations.lean ====
section
/-!
DEFINITION. What is to be proved of the block: one definition per statement. A clause says of one command where it completes, with which
result, and what it leaves alone. A part of the state that a frame `t = { s with … }` does not name is unchanged.
-/
open Sys2Proof Sys2Proof.Machine

/-! ## The queue of commands -/

/-- A step with command c at the front of the queue is c's meaning on the state with the queue's rest. -/
def Obligations.StepRunsFrontCommand : Prop :=
  ∀ (c : Instr) (rest : List Instr) (s : State), step { s with pending := c :: rest } = exec c { s with pending := rest }

/-- A step on an empty queue lets one hub tick pass: CLK_TICK counts while the always-on domain is powered (03 R78). That an idle step is
a tick is the model's choice (log 7). -/
def Obligations.EmptyQueueStepIsOneTick : Prop :=
  ∀ s : State, s.pending = [] → ∃ t, step s = .next t ∧
    t.dev.clk.tick = (if s.powered then s.dev.clk.tick + 1 else s.dev.clk.tick) ∧
    t = { s with dev := { s.dev with clk := { s.dev.clk with tick := t.dev.clk.tick }, sec := { s.dev.sec with busy := t.dev.sec.busy } } }

/-- Every command whose operand lists have their lengths answers a next state; the others are refused as ill-formed. -/
def Obligations.WellFormedCommandsComplete : Prop :=
  ∀ (c : Instr) (s : State), (c.wellFormed = true → ∃ t, exec c s = .next t) ∧ (c.wellFormed = false → exec c s = .refused .illFormed)

/-- Whatever a step does, no blown fuse is cleared, the thermometers keep to their 64 fuses, the part stays, and the queue loses its
front alone (22 R807). -/
def Obligations.EveryStepKeepsFuses : Prop :=
  ∀ s t : State, s.fuses.Legal → step s = .next t →
    t.fuses.Legal ∧ s.fuses.Le t.fuses ∧ t.part = s.part ∧ t.pending = s.pending.tail

/-- At reset no fuse is blown beyond the thermometers' length. -/
def Obligations.ResetFusesAreLegal : Prop := State.reset.fuses.Legal

/-! ## Resets and boot (02, 05, 26) -/

/-- An over-voltage, a rail below 10.8 V, and a low level of RESET_IN_N or HST_PERST_N of 100 hub ticks or more each enter RESET with everything
cleared that 05 R134-R136 clear; the two power-on resets clear CLK_TICK, the failure count and the fault log and leave their own cause alone,
the other two keep them and add theirs. A low level of fewer than 100 hub ticks is ignored. A fall of the rail loses the retirements that boot
flash does not hold. A rail of up to 13.6 V is only measured. The watchdog's reset, where nothing else holds RESET, goes on to ROM with memory and
image gone, CLK_TICK kept, and WATCHDOG_RESET waiting to be raised. -/
def Obligations.PackageResetsClearAndKeep : Prop :=
  ∀ (s : State) (mv : BitVec 16) (n : Nat),
    (13600 < mv.toNat → Completes (.railOvervoltage mv) s fun t =>
      s.AfterReset t ∧ s.KeepsStore t ∧ t.dev.boot.causeOver = true ∧ t.dev.boot.failCount = 0 ∧ t.dev.clk = {} ∧ t.dev.faults = {} ∧
      t.dev.boot.rcPowerOn = true ∧ t.dev.boot.rcBoard = false ∧ t.dev.boot.rcHost = false ∧ t.dev.boot.rcWatchdog = false ∧
      t.dev.aux.tripHold = false) ∧
    (mv.toNat ≤ 13600 → Completes (.railOvervoltage mv) s fun t => t = { s with dev := { s.dev with pins := { s.dev.pins with railMv := mv } } }) ∧
    (mv.toNat < 10800 → Completes (.railUndervoltage mv) s fun t =>
      s.AfterReset t ∧ t.part = s.part ∧ t.fuses = s.fuses ∧ t.flash = { s.flash with unwritten := [] } ∧ t.dev.boot.causeRail = true ∧
      t.dev.boot.causeOver = false ∧ t.dev.boot.failCount = 0 ∧ t.dev.clk = {} ∧ t.dev.faults = {} ∧ t.dev.boot.rcPowerOn = true ∧
      t.dev.boot.rcBoard = false ∧ t.dev.boot.rcHost = false ∧ t.dev.boot.rcWatchdog = false) ∧
    (100 ≤ n → Completes (.boardResetAssert n) s fun t =>
      s.AfterReset t ∧ s.KeepsStore t ∧ t.dev.boot.causeBoard = true ∧ t.dev.boot.rcBoard = true ∧ t.dev.boot.failCount = s.dev.boot.failCount ∧
      t.dev.clk.tick = s.dev.clk.tick ∧ t.dev.clk.resFault = s.dev.clk.resFault ∧ t.dev.clk.lostCount = s.dev.clk.lostCount ∧
      t.dev.pwr.tripped = s.dev.pwr.tripped ∧ t.dev.faults.log = s.dev.faults.log ∧ t.dev.boot.rcPowerOn = s.dev.boot.rcPowerOn ∧
      t.dev.boot.rcHost = s.dev.boot.rcHost) ∧
    (100 ≤ n → Completes (.hostResetAssert n) s fun t =>
      s.AfterReset t ∧ s.KeepsStore t ∧ t.dev.boot.causeHost = true ∧ t.dev.boot.rcHost = true ∧ t.dev.boot.failCount = s.dev.boot.failCount ∧
      t.dev.clk.tick = s.dev.clk.tick ∧ t.dev.clk.resFault = s.dev.clk.resFault ∧ t.dev.clk.lostCount = s.dev.clk.lostCount ∧
      t.dev.pwr.tripped = s.dev.pwr.tripped ∧ t.dev.faults.log = s.dev.faults.log ∧ t.dev.boot.rcPowerOn = s.dev.boot.rcPowerOn ∧
      t.dev.boot.rcBoard = s.dev.boot.rcBoard) ∧
    (n < 100 → exec (.boardResetAssert n) s = .next s ∧ exec (.hostResetAssert n) s = .next s) ∧
    (s.dev.boot.watchdogOn = true → s.NoOtherCause false false false false → Completes .watchdogExpiry s fun t =>
      t.dev.boot.stage = .rom ∧ t.dev.boot.rcWatchdog = true ∧ t.dev.aux.watchdogPending = true ∧ t.dev.clk.tick = s.dev.clk.tick ∧
      t.mem = {} ∧ t.fab.image = none ∧ s.KeepsStore t)

/-- The release of the last cause (the rail above 11.0 V, or the release of the board's, the host's or the over-voltage reset) starts the boot at
ROM, with the hub domains in Ivory; the release of one cause while another holds only ends it. BOOT_RESTART in BOOT_FAILED starts the boot again.
At the release of a host reset a thermal trip goes on holding unless the last reading is below the release threshold (log 103). -/
def Obligations.LastReleaseStartsBoot : Prop :=
  ∀ (s : State) (mv : BitVec 16),
    (11000 < mv.toNat → s.dev.boot.causeRail = true → s.NoOtherCause true false false false → Completes (.railPowerGood mv) s fun t =>
      s.AtRom t ∧ t.dev.boot.causeRail = false ∧ t.dev.pins.railMv = mv ∧ s.KeepsStore t ∧ s.KeepsFabric t) ∧
    (s.dev.boot.causeBoard = true → s.NoOtherCause false false true false → Completes (.resetRelease .board) s fun t =>
      s.AtRom t ∧ t.dev.boot.causeBoard = false ∧ s.KeepsStore t ∧ s.KeepsFabric t) ∧
    (s.dev.boot.causeHost = true → s.NoOtherCause false false false true → Completes (.resetRelease .host) s fun t =>
      s.AtRom t ∧ t.dev.boot.causeHost = false ∧ s.KeepsStore t ∧ s.KeepsFabric t ∧
      t.dev.aux.tripHold = (s.dev.aux.tripHold && !decide (s.dev.pwr.hottest.toNat < 4 * s.dev.pwr.release.toNat))) ∧
    (s.dev.boot.causeOver = true → s.NoOtherCause false true false false → Completes (.resetRelease .overVoltage) s fun t =>
      s.AtRom t ∧ t.dev.boot.causeOver = false ∧ s.KeepsStore t ∧ s.KeepsFabric t) ∧
    (s.dev.boot.causeBoard = true → s.dev.boot.causeHost = true → Completes (.resetRelease .board) s fun t =>
      t = { s with dev := { s.dev with boot := { s.dev.boot with causeBoard := false } } }) ∧
    (s.dev.boot.stage = .bootFailed → Completes .bootRestart s fun t => s.AtRom t ∧ s.KeepsStore t ∧ s.KeepsFabric t)

/-- ROM leads to FW_VERIFY with the watchdog on, or to RECOVERY after three failures or when recovery was asked for before the reset. In FW_VERIFY
the active copy, or else the other one, which then becomes active, leads to DIE_LINK; where neither verifies it leads to RECOVERY, and a
resonator fault with a good active copy leads to CLOCK_FAULT (logs 104, 105). FW_VERIFY's end puts the edge and memory domains in Ivory, or leaves them while a
thermal trip stands (log 101). In MEM_INIT, working memory with a healthy random generator leads to AWAIT_IMAGE with all DRAM zero-filled and the
failure count cleared, and a failed generator to BOOT_FAILED with SEC_RNG_FAULT. -/
def BootStagesFollowInOrder : Prop :=
  ∀ s : State,
    (s.dev.boot.stage = .rom → s.dev.boot.failCount ≠ 3 → s.dev.boot.recoveryDue = false → Completes .bootRomDone s fun t =>
      t.dev.boot.stage = .fwVerify ∧ t.dev.boot.watchdogOn = true ∧ t.dev.boot.autoloadBit = s.flash.autoload.isSome ∧
      t = { s with dev := { s.dev with boot := t.dev.boot } }) ∧
    (s.dev.boot.stage = .rom → (s.dev.boot.failCount = 3 ∨ s.dev.boot.recoveryDue = true) → Completes .bootRomDone s fun t =>
      t.dev.boot.stage = .recovery ∧ t.dev.boot.recoveryNext = false ∧ t.dev.boot.recoveryDue = false ∧ t.mem = s.mem ∧ t.fab = s.fab ∧ s.KeepsStore t) ∧
    (s.dev.boot.stage = .fwVerify → s.copyVerifies s.activeCopy = true → s.dev.clk.resFault = false → Completes .fwVerifyDone s fun t =>
      t.dev.boot.stage = .dieLink ∧ t.flash = s.flash ∧
      (s.dev.aux.tripHold = false → (t.domain 19).state = .ivory ∧ (t.domain 39).state = .ivory ∧
        ∀ m, m < 6 → s.domPresent (46 + m) = true → (t.domain (46 + m)).state = .ivory) ∧
      (s.dev.aux.tripHold = true → ∀ n, t.domain n = s.domain n) ∧
      t = { s with dev := { s.dev with boot := t.dev.boot, pwr := t.dev.pwr } }) ∧
    (s.dev.boot.stage = .fwVerify → s.copyVerifies s.activeCopy = false → s.copyVerifies s.otherCopy = true → s.dev.clk.resFault = false →
      Completes .fwVerifyDone s fun t => t.dev.boot.stage = .dieLink ∧ t.flash = { s.flash with activeB := !s.flash.activeB }) ∧
    (s.dev.boot.stage = .fwVerify → s.copyVerifies s.activeCopy = false → s.copyVerifies s.otherCopy = false → Completes .fwVerifyDone s fun t =>
      t.dev.boot.stage = .recovery ∧ t.flash = s.flash) ∧
    (s.dev.boot.stage = .fwVerify → s.copyVerifies s.activeCopy = true → s.dev.clk.resFault = true → Completes .fwVerifyDone s fun t =>
      t.dev.boot.stage = .clockFault ∧ t.flash = s.flash) ∧
    (s.dev.boot.stage = .memInit → Completes (.memInitDone true) s fun t =>
      t.dev.boot.stage = .awaitImage ∧ t.dev.boot.failCount = 0 ∧ t.dev.sec.rngOk = true ∧ (∀ n a, a < dramTop → t.mem.read n a = 0) ∧
      t = { s with
        mem := t.mem
        fab := { s.fab with keys := t.fab.keys }
        free := t.free
        dev := { s.dev with boot := t.dev.boot, sec := t.dev.sec } }) ∧
    (s.dev.boot.stage = .memInit → Completes (.memInitDone false) s fun t =>
      t.dev.boot.stage = .bootFailed ∧ t.dev.boot.lastError = Codes.SEC_RNG_FAULT ∧ t.mem = s.mem) 

/-- DIE_LINK on an AE7-960: unless a thermal trip stands, each bundle retires the lanes of its record and those that did not train and takes its
width from the working lanes; the boot goes on to MEM_INIT when each of the three groups of bundles has one online, or to THERMAL_HOLD where a
trip stands, and to BOOT_FAILED when a group has none. -/
def DieLinkSelectsLanes : Prop :=
  ∀ (s : State) (trained : List (BitVec 36)), s.dev.boot.stage = .dieLink → trained.length = 40 → s.part.grade = .ae7_960 →
    Completes (.dieLinkDone trained) s fun t =>
      (s.dev.aux.tripHold = false → ∀ b, b < 40 → (t.bundle b).retired = Tab.get 0 s.flash.retired b ||| ~~~(trained.getD b 0) ∧
        (t.bundle b).width.toNat = widthCode (36 - popLanes (Tab.get 0 s.flash.retired b ||| ~~~(trained.getD b 0)))) ∧
      ((∀ g, g = 12 ∨ g = 28 → ∃ b, g ≤ b ∧ b < g + 4 ∧ (t.bundle b).width ≠ 0) → (∃ b, 32 ≤ b ∧ b < 40 ∧ (t.bundle b).width ≠ 0) →
        t.dev.boot.stage = if s.dev.aux.tripHold then .thermalHold else .memInit) ∧
      (((∃ g, (g = 12 ∨ g = 28) ∧ ∀ b, g ≤ b → b < g + 4 → (t.bundle b).width = 0) ∨ (∀ b, 32 ≤ b → b < 40 → (t.bundle b).width = 0)) →
        t.dev.boot.stage = .bootFailed) ∧
      t.part = s.part ∧ t.fuses = s.fuses ∧ t.mem = s.mem

/-- A boot stage with a bound that fails enters BOOT_FAILED with the failure count one higher, up to 3, and the tick recorded. -/
def BootFailureIsCounted : Prop :=
  ∀ (s : State) (why : BootFailure), s.dev.boot.stage.bounded = true → Completes (.bootStageTimeout why) s fun t =>
    t.dev.boot.stage = .bootFailed ∧ t.dev.boot.failCount.toNat = min 3 (s.dev.boot.failCount.toNat + 1) ∧ t.dev.boot.failTick = s.dev.clk.tick ∧
    t.mem = s.mem ∧ t.fab = s.fab ∧ s.KeepsStore t

/-- The boot stages: their order, the lanes that DIE_LINK selects, and the count of failures. -/
def Obligations.BootRunsItsStages : Prop := BootStagesFollowInOrder ∧ DieLinkSelectsLanes ∧ BootFailureIsCounted

/-! ## The configuration image and region reset (05, 06) -/

/-- The commands of HUB_IMAGE_CMD complete, written while none is busy and the function is in D0. In AWAIT_IMAGE: a load with a valid length and
host memory that it may read begins its fetch and the stage IMAGE_LOAD (waiting while a fuse command is busy, after which
IMAGE_LOAD_DEFERRED_START begins it), a store begins its fetch in AWAIT_IMAGE, and an erase empties the autoload area and ends with OK. A load
outside AWAIT_IMAGE, in a stage that the host reaches, changes only the result, to IMAGE_STATE. The autoload of a stored image begins once, by itself. In
RECOVERY a firmware copy that verifies is stored as the active one. In RUNNING an unload drops image, regions and virtual functions
and ends with OK in AWAIT_IMAGE. -/
def Obligations.ImageCommandsBeginOrEnd : Prop :=
  ∀ (s : State) (copy : FwCopy),
    (s.dev.boot.stage = .awaitImage → s.flash.autoload.isSome = true → s.dev.aux.autoloadTried = false → s.dev.boot.imageBusy = false →
      s.dev.sec.busy = false → Completes .imageAutoload s fun t =>
        t.dev.boot.stage = .imageLoad ∧ t.dev.aux.loading = some .autoload ∧
        t = { s with dev := { s.dev with boot := t.dev.boot, aux := t.dev.aux, pwr := s.saveLoad.dev.pwr } }) ∧
    ((s.func 0).d3hot = false → s.dev.boot.imageBusy = false → s.dev.boot.stage = .awaitImage → s.dev.sec.busy = false →
      s.dev.boot.imageLen ≠ 0 → checkLength s.dev.boot.imageLen.toNat = none → s.pfHostAllowed = true → Completes .imageLoad s fun t =>
        t.dev.boot.stage = .imageLoad ∧ t.dev.boot.imageBusy = true ∧ t.dev.aux.loading = some .load ∧
        t = { s with dev := { s.dev with boot := t.dev.boot, aux := t.dev.aux, pwr := s.saveLoad.dev.pwr } }) ∧
    ((s.func 0).d3hot = false → s.dev.boot.imageBusy = false → s.dev.boot.stage = .awaitImage → s.dev.sec.busy = true → Completes .imageLoad s fun t =>
        t.dev.boot.stage = .awaitImage ∧ t.dev.boot.imageBusy = true ∧ t.dev.aux.loadDeferred = true) ∧
    ((s.func 0).d3hot = false → s.dev.boot.imageBusy = false → s.dev.boot.stage.hostUp = true → s.dev.boot.stage ≠ .awaitImage →
      Completes .imageLoad s fun t => t = { s with dev := { s.dev with boot := { s.dev.boot with imageResult := Codes.IMAGE_STATE } } }) ∧
    ((s.func 0).d3hot = false → s.dev.boot.imageBusy = false → s.dev.boot.stage = .awaitImage → s.dev.boot.imageLen ≠ 0 →
      s.dev.boot.imageLen.toNat ≤ 0x2000000 → checkLength s.dev.boot.imageLen.toNat = none → s.pfHostAllowed = true →
      Completes .storeAutoload s fun t =>
        t.dev.boot.stage = .awaitImage ∧ t.dev.boot.imageBusy = true ∧ t.dev.aux.loading = some .store ∧
        t = { s with dev := { s.dev with boot := t.dev.boot, aux := t.dev.aux, pwr := s.saveLoad.dev.pwr } }) ∧
    ((s.func 0).d3hot = false → s.dev.boot.imageBusy = false → s.dev.boot.stage = .awaitImage → Completes .eraseAutoload s fun t =>
        t.flash = { s.flash with autoload := none } ∧ t.dev.boot.autoloadBit = false ∧ t.dev.boot.imageResult = Codes.OK ∧
        t = { s with flash := t.flash, dev := { s.dev with boot := t.dev.boot, aux := t.dev.aux } }) ∧
    ((s.func 0).d3hot = false → s.dev.boot.imageBusy = false → s.dev.boot.stage = .recovery → s.pfHostAllowed = true →
      s.copyVerifies (some copy) = true → Completes (.flashFirmware copy) s fun t =>
        t.activeCopy = some copy ∧ t.otherCopy = s.activeCopy ∧ t.dev.boot.imageResult = Codes.OK ∧ t.dev.boot.imageBusy = false ∧
        t = { s with flash := t.flash, dev := { s.dev with boot := t.dev.boot, aux := t.dev.aux } }) ∧
    (s.dev.aux.loadDeferred = true → s.dev.sec.busy = false → s.dev.boot.stage = .awaitImage → s.dev.boot.imageLen ≠ 0 →
      checkLength s.dev.boot.imageLen.toNat = none → s.pfHostAllowed = true → Completes .imageLoadDeferredStart s fun t =>
        t.dev.boot.stage = .imageLoad ∧ t.dev.boot.imageBusy = true ∧ t.dev.aux.loading = some .load ∧ t.dev.aux.loadDeferred = false ∧
        t = { s with dev := { s.dev with boot := t.dev.boot, aux := t.dev.aux, pwr := s.saveLoad.dev.pwr } }) ∧
    ((s.func 0).d3hot = false → s.dev.boot.imageBusy = false → s.dev.boot.stage = .running → Completes .imageUnload s fun t =>
        t.dev.boot.stage = .awaitImage ∧ t.fab.image = none ∧ t.fab.regions = [] ∧ t.dev.boot.imageResult = Codes.OK ∧
        t.dev.hst.vfEnable = false ∧ t.dev.noc.counting = false ∧ s.KeepsStore t)

/-- IMAGE_FETCH_DONE with the host link up: a loaded image that passes every check of 06 R202-R205 is taken hold of and waits to start, a stored
one is kept; a loaded one that fails leaves its code and the place of the first failure, and the stage goes back to AWAIT_IMAGE.
IMAGE_FETCH_ERROR ends the load with its code, and a host error is a fault. REGIONS_START, with no function table or noise generator at fault, starts
all regions at frame 0 and ends the load with OK. IMAGE_APPLY_FAULT before that drops the image, ends with IMAGE_APPLY_FAULT and gives the
domains' targets and the clock, power and determinism settings back the values that they had before the load. -/
def Obligations.ImageFetchEnds : Prop :=
  ∀ (s : State) (bytes : List Byte) (e : Reject) (why : FetchFailure) (step : Fin 7),
    (s.dev.aux.loading = some .load → s.dev.hst.linkUp = true → bytes.length = s.dev.boot.imageLen.toNat → validateImage s bytes = none →
      Completes (.imageFetchDone bytes) s fun t =>
        t.fab.image = some (parseImage bytes (parseDir bytes)) ∧ t.dev.aux.starting = true ∧ t.dev.aux.loading = none ∧ t.fab.regions = [] ∧
        t.dev.boot.stage = s.dev.boot.stage ∧ s.KeepsStore t) ∧
    (s.dev.aux.loading = some .load → s.dev.hst.linkUp = true → bytes.length = s.dev.boot.imageLen.toNat → validateImage s bytes = some e →
      Completes (.imageFetchDone bytes) s fun t =>
        t.dev.boot.stage = .awaitImage ∧ t.dev.boot.imageResult = e.code ∧ t.dev.boot.imageBusy = false ∧
        t.dev.aux.detailStep = BitVec.ofNat 8 e.step ∧ t.dev.aux.detailSection = BitVec.ofNat 8 e.sec ∧
        t.dev.aux.detailEntry = BitVec.ofNat 32 e.entry ∧ s.KeepsStore t ∧ s.KeepsFabric t) ∧
    (s.dev.aux.loading = some .store → s.dev.hst.linkUp = true → bytes.length = s.dev.boot.imageLen.toNat → validateImage s bytes = none →
      Completes (.imageFetchDone bytes) s fun t =>
        t.flash = { s.flash with autoload := some bytes } ∧ t.dev.boot.autoloadBit = true ∧ t.dev.boot.imageResult = Codes.OK ∧
        t = { s with flash := t.flash, dev := { s.dev with boot := t.dev.boot, aux := t.dev.aux } }) ∧
    (s.dev.aux.loading = some .load → why ≠ .hostError → Completes (.imageFetchError why) s fun t =>
        t.dev.boot.stage = .awaitImage ∧ t.dev.boot.imageResult = fetchCode why ∧ t.dev.boot.imageBusy = false ∧ t.dev.aux.loading = none ∧
        t = { s with dev := { s.dev with boot := t.dev.boot, aux := t.dev.aux, noc := t.dev.noc } }) ∧
    (s.dev.aux.loading = some .load → Completes (.imageFetchError .hostError) s fun t =>
        t.dev.boot.stage = .awaitImage ∧ t.dev.boot.imageResult = Codes.HST_HOST_ERROR ∧
        t.dev.faults.count = satAdd s.dev.faults.count 1 ∧ t.dev.faults.next = nextFaultId s.dev.faults.next) ∧
    (s.dev.aux.starting = true → Completes (.regionsStart ⟨[], []⟩) s fun t =>
        t.dev.boot.stage = .running ∧ t.dev.boot.imageResult = Codes.OK ∧ t.dev.boot.imageBusy = false ∧ t.dev.aux.starting = false ∧
        t.dev.noc.counting = true ∧ t.dev.noc.frame = 0 ∧ t.dev.noc.frameTick = s.dev.clk.tick ∧
        (∀ d, t.die d = { s.die d with testsRun := (t.die d).testsRun }) ∧
        t = { s with
          fab := { s.fab with dies := t.fab.dies }
          dev := { s.dev with boot := t.dev.boot, aux := t.dev.aux, pwr := t.dev.pwr, noc := t.dev.noc, ydi := t.dev.ydi } }) ∧
    (s.dev.aux.starting = true → step ≠ 0 → Completes (.imageApplyFault step) s fun t =>
        t.dev.boot.stage = .awaitImage ∧ t.dev.boot.imageResult = Codes.IMAGE_APPLY_FAULT ∧ t.fab.image = none ∧
        (∀ n, n < 52 → (t.domain n).target = (Tab.get {} s.dev.pwr.saved n).target ∧ (t.domain n).retain = (Tab.get {} s.dev.pwr.saved n).retain) ∧
        (∀ c w p m, s.dev.pwr.savedPlans = some (c, w, p, m) →
          t.dev.clk.planCode = c ∧ t.dev.clk.window = w ∧ t.dev.pwr.planCode = p ∧ t.dev.aux.slateInForce = m) ∧
        s.KeepsStore t)

/-- A region reset, asked for by the physical function, begins at its frame boundary with the revocation of the whole region: its owner epoch
advances and, where nothing is in flight, its fetches alone are dropped. Once its operations have completed, its end gives the region's
registers and its sites' scratchpads their reset contents, zero-fills its DRAM and raises REGION_RESET_DONE, or SEC_RNG_FAULT with the region
closed to doorbells when the random generator failed; a vector site whose function table then sums to other than the published value has its
special-function unit out of service, and a spin site whose self-test differs has its noise generator out of service, each with a fault. The
published values come with the command's sums (log 118). -/
def Obligations.RegionResetRestoresOneRegion : Prop :=
  ∀ (s : State) (r : RegionId),
    (s.reaches 0 r.val = true → (s.region r.val).aux.resetBusy = false → Completes (.regionResetReq 0 r) s fun t =>
      (t.region r.val).aux = { (s.region r.val).aux with resetAsked := true } ∧ (t.region r.val).sched = (s.region r.val).sched ∧
      (t.region r.val).rev = (s.region r.val).rev ∧ (∀ q, q ≠ r.val → t.region q = s.region q) ∧
      t = { s with fab := { s.fab with regions := t.fab.regions } }) ∧
    (s.dev.boot.stage = .running → s.atFrame = true → s.defined r.val = true → (s.region r.val).aux.resetAsked = true →
      s.slots r.val = [] → Completes (.regionResetStart r) s fun t =>
        (t.region r.val).aux = { (s.region r.val).aux with resetAsked := false, resetBusy := true } ∧
        (t.region r.val).sched = { (s.region r.val).sched with fetches := [] } ∧ t.epoch r.val 5 0 = s.epoch r.val 5 0 + 1 ∧
        (∀ q, q ≠ r.val → t.region q = s.region q) ∧ t = { s with fab := { s.fab with regions := t.fab.regions } }) ∧
    ((s.region r.val).aux.resetBusy = true → s.slots r.val = [] → s.dev.clk.unlocked = [] → Completes (.regionResetEnd r true true ⟨[], []⟩) s fun t =>
      (t.region r.val).aux = {} ∧ t.slots r.val = [] ∧ (t.region r.val).sched.queues = [] ∧ (t.region r.val).sched.flags = [] ∧
      (t.region r.val).rev.epochs = (s.region r.val).rev.epochs ∧ t.fab.image = s.fab.image ∧
      t.dev.shared.syncInOwner ≠ BitVec.ofNat 8 (0x20 + r.val) ∧ t.timeoutTimer r.val = none ∧ s.KeepsStore t ∧
      ((s.region r.val).sched.dues = [] → t.dev.faults = s.dev.faults) ∧
      ((∀ x ∈ s.fab.body.indexTables, x.region ≠ r.val) →
        (∀ d k off n, d < 2 → k ∈ s.regionSites r.val d → off < 2 ^ 20 → t.mem.read n (scratchAddr d k off) = 0) ∧
        ((∀ m, m < 6 → s.domState (46 + m) ≠ .charcoal) → ∀ g ∈ s.segments r.val, ∀ n a, g.target < dramTop → g.target ≤ a → a < g.devEnd → t.mem.read n a = 0))) ∧
    ((s.region r.val).aux.resetBusy = true → s.slots r.val = [] → (s.region r.val).sched.dues = [] → s.dev.clk.unlocked = [] →
      Completes (.regionResetEnd r true false ⟨[], []⟩) s fun t =>
        (t.region r.val).aux.resetBusy = false ∧ (t.region r.val).sched.noDoorbell = true ∧
        t.dev.faults.count = satAdd s.dev.faults.count 1 ∧ s.KeepsStore t) ∧
    (∀ x : TableSum, (s.region r.val).aux.resetBusy = true → s.slots r.val = [] → (s.region r.val).sched.dues = [] → s.dev.clk.unlocked = [] →
      s.siteRegion? x.site.die.val x.site.site.val = some r.val → siteType x.site.site.val = .vector →
      x.sum ≠ publishedSum (!s.image.sepia) (tableOf x.table.val) → Completes (.regionResetEnd r true true ⟨[x], []⟩) s fun t =>
        (t.region r.val).aux.resetBusy = false ∧ (t.site (siteRefKey x.site)).sfu.tableFault = true ∧
        (∃ f, (t.site (siteRefKey x.site)).sfuFault = some f ∧ f.code = Codes.SFU_TABLE_FAULT ∧ f.faultId = s.dev.faults.next) ∧
        t.dev.faults.count = satAdd s.dev.faults.count 1 ∧ s.KeepsStore t) ∧
    (∀ x : SiteRef, (s.region r.val).aux.resetBusy = true → s.slots r.val = [] → (s.region r.val).sched.dues = [] → s.dev.clk.unlocked = [] →
      siteRefKey x ∈ s.siteKeys r.val → s.isSpin x.die.val x.site.val = true → s.ivory (s.siteDomain x.die.val x.site.val) = true →
      Completes (.regionResetEnd r true true ⟨[], [x]⟩) s fun t =>
        (t.region r.val).aux.resetBusy = false ∧ (t.die x.die.val).noiseFailed = true ∧
        (∃ f, (t.site (siteRefKey x)).noise = some f ∧ f.code = Codes.ANL_NOISE_FAULT ∧ f.faultId = s.dev.faults.next) ∧
        t.dev.faults.count = satAdd s.dev.faults.count 1 ∧ s.KeepsStore t)

/-! ## Pins, SMBus and shared resources (02, 03, 24) -/

/-- An SMBus command that answered the given bytes, with the PEC byte over its message, and changed nothing else; `count` is the length byte
of a Block Read. -/
def SmbusAnswered (s : State) (cmd : Byte) (count answer : List Byte) (t : State) : Prop :=
  t = { s with dev := { s.dev with dbg := { s.dev.dbg with smbus := some answer, smbusPec := pec ([0x98, cmd, 0x99] ++ count ++ answer) } } }

/-- The answer that an SMBus command of `n` bytes gives for the value v: all zero in RESET and ROM (24 R886). -/
def smbusReply (s : State) (n v : Nat) : List Byte := leBytes n (if s.dev.boot.stage = .reset ∨ s.dev.boot.stage = .rom then 0 else v)

/-- While MGT_VIO is present and the rail is up, each SMBus command answers with the bytes of its register and changes nothing else; the alert
response answers 0x4C and releases ALERT_N where it is owned for SMBus alert. Without MGT_VIO no command is answered. -/
def SmbusCommandsAnswer : Prop :=
  ∀ s : State,
    (s.dev.pins.mgtVio = true → s.dev.boot.causeRail = false →
      ((s.dev.boot.stage = .reset ∨ s.dev.boot.stage = .rom) → Completes .mgmtStatus s (SmbusAnswered s 0 [] [2])) ∧
      ((s.dev.boot.stage = .awaitImage ∨ s.dev.boot.stage = .imageLoad ∨ s.dev.boot.stage = .running) →
        Completes .mgmtStatus s (SmbusAnswered s 0 [] [1])) ∧
      ((s.dev.boot.stage = .fwVerify ∨ s.dev.boot.stage = .dieLink ∨ s.dev.boot.stage = .memInit) →
        Completes .mgmtStatus s (SmbusAnswered s 0 [] [0])) ∧
      ((s.dev.boot.stage = .recovery ∨ s.dev.boot.stage = .bootFailed ∨ s.dev.boot.stage = .thermalHold ∨ s.dev.boot.stage = .clockFault) →
        Completes .mgmtStatus s (SmbusAnswered s 0 [] [4])) ∧
      Completes .temp s (SmbusAnswered s 1 [] (smbusReply s 2 s.dev.pwr.hottest.toNat)) ∧
      Completes .power s (SmbusAnswered s 2 [] (smbusReply s 2 s.dev.pwr.inputPower.toNat)) ∧
      Completes .rail s (SmbusAnswered s 3 [] (smbusReply s 2 s.dev.pwr.avgRail.toNat)) ∧
      Completes .stage s (SmbusAnswered s 4 [] (smbusReply s 1 (s.dev.boot.stage.code + 16 * s.dev.pwr.level.toNat))) ∧
      (∀ i, s.dev.faults.newest = some i → Completes .lastFault s (SmbusAnswered s 5 [4]
        (smbusReply s 4 ((Tab.get {} s.dev.faults.log i).id.toNat + 65536 * (Tab.get {} s.dev.faults.log i).code.toNat)))) ∧
      (s.dev.faults.newest = none → Completes .lastFault s (SmbusAnswered s 5 [4] [0, 0, 0, 0])) ∧
      Completes .deviceId s (SmbusAnswered s 6 [8] (leBytes 8 s.part.deviceId.toNat)) ∧
      (s.dev.shared.alertOwner = 1 → Completes .alertResponse s fun t => t = { s with dev := { s.dev with
        aux := { s.dev.aux with alertLow := false }, dbg := { s.dev.dbg with smbus := some [0x4C], smbusPec := pec [0x19, 0x4C] } } }) ∧
      (s.dev.shared.alertOwner ≠ 1 → Completes .alertResponse s fun t => t = { s with dev := { s.dev with
        dbg := { s.dev.dbg with smbus := none, smbusPec := 0 } } })) ∧
    (s.dev.pins.mgtVio = false →
      ∀ c ∈ [Instr.mgmtStatus, .temp, .power, .rail, .stage, .lastFault, .deviceId, .alertResponse],
        Completes c s fun t => t = { s with dev := { s.dev with dbg := { s.dev.dbg with smbus := none, smbusPec := 0 } } })

/-- A request for an unowned resource that its requester may make gives it; a request for one that another owns is answered RESOURCE_OWNED and
changes no owner, unless a higher-numbered requester took it at the same tick, which then gives way; a request that no requester may make is
answered SHARED_REQ_INVALID. Each outcome is given at the request's tick. -/
def SharedRequestsGiveOrRefuse : Prop :=
  ∀ (s : State) (f : FnId) (r : RegionId) (v : Word),
    (s.reaches f.val r.val = true → requestOk v false = true → s.dev.shared.ownerOf (bitsOf v.toNat 7 0) (bitsOf v.toNat 15 8) = none →
      Completes (.regionSharedReq f r v) s fun t =>
        t.dev.shared.ownerOf (bitsOf v.toNat 7 0) (bitsOf v.toNat 15 8) = some (r.val, bitsOf v.toNat 23 16) ∧
        (t.region r.val).aux.sharedResult = (s.region r.val).aux.sharedResult.give s.dev.clk.tick Codes.OK ∧
        t = { s with dev := { s.dev with shared := t.dev.shared }, fab := { s.fab with regions := t.fab.regions } }) ∧
    (s.reaches f.val r.val = true → requestOk v false = false → Completes (.regionSharedReq f r v) s fun t =>
        (t.region r.val).aux.sharedResult = (s.region r.val).aux.sharedResult.give s.dev.clk.tick Codes.SHARED_REQ_INVALID ∧
        t = { s with fab := { s.fab with regions := t.fab.regions } }) ∧
    (s.reaches f.val r.val = true → requestOk v false = true → s.dev.shared.takes = [] →
      (∃ p, s.dev.shared.ownerOf (bitsOf v.toNat 7 0) (bitsOf v.toNat 15 8) = some p ∧ p ≠ (r.val, bitsOf v.toNat 23 16)) →
      Completes (.regionSharedReq f r v) s fun t =>
        (t.region r.val).aux.sharedResult = (s.region r.val).aux.sharedResult.give s.dev.clk.tick Codes.RESOURCE_OWNED ∧
        t = { s with fab := { s.fab with regions := t.fab.regions } }) ∧
    (∀ k w, s.reaches f.val r.val = true → requestOk v false = true →
      s.dev.shared.takes.find? (fun e => e.1 = bitsOf v.toNat 7 0 * 16 + bitsOf v.toNat 15 8) = some (k, s.dev.clk.tick, w) → r.val + 1 < w →
      (∃ p, s.dev.shared.ownerOf (bitsOf v.toNat 7 0) (bitsOf v.toNat 15 8) = some p ∧ p ≠ (r.val, bitsOf v.toNat 23 16)) →
      Completes (.regionSharedReq f r v) s fun t =>
        t.dev.shared.ownerOf (bitsOf v.toNat 7 0) (bitsOf v.toNat 15 8) = some (r.val, bitsOf v.toNat 23 16) ∧
        (t.region r.val).aux.sharedResult = (s.region r.val).aux.sharedResult.give s.dev.clk.tick Codes.OK ∧
        (t.region (w - 1)).aux.sharedResult = (s.region (w - 1)).aux.sharedResult.give s.dev.clk.tick Codes.RESOURCE_OWNED) ∧
    (s.pfReach true = true → requestOk v true = true → s.dev.shared.ownerOf (bitsOf v.toNat 7 0) (bitsOf v.toNat 15 8) = none →
      Completes (.hubSharedReq v) s fun t =>
        t.dev.shared.ownerOf (bitsOf v.toNat 7 0) (bitsOf v.toNat 15 8) = some (0x40, 1) ∧
        t.dev.shared.hubResult = s.dev.shared.hubResult.give s.dev.clk.tick Codes.OK ∧
        t = { s with dev := { s.dev with shared := t.dev.shared } })

/-- An outcome of a request reads from the hub tick after the one at which it was given; until then what read before it reads. -/
def SharedOutcomeReadsNextTick : Prop :=
  ∀ (x : LateCode) (t u : Word64) (c : Code), x.at_ ≠ t → u ≠ t → (x.give t c).read t = x.now ∧ (x.give t c).read u = c

/-- MGT_VIO is what it is driven to; a cable-present pin takes its level, and a cable that is plugged in outside RESET raises CABLE_CHANGE; a
read of CLK_TICK_LO answers the low half and latches the upper half for its function. -/
def PinsAndTickReads : Prop :=
  ∀ (s : State) (present : Bool) (f : FnId) (p : PortId) (high : Bool),
    Completes (.mgtVioChange present) s (fun t => t = { s with dev := { s.dev with pins := { s.dev.pins with mgtVio := present } } }) ∧
    (s.funcReach f.val = true → Completes (.clkTickLoRead f) s fun t =>
      t.dev.dbg.readAnswer = (s.dev.clk.tick.setWidth 32).setWidth 64 ∧
      Tab.get 0 t.dev.clk.latches f.val = s.dev.clk.tick.extractLsb' 32 32 ∧
      (∀ g, g ≠ f.val → Tab.get 0 t.dev.clk.latches g = Tab.get 0 s.dev.clk.latches g) ∧
      t = { s with dev := { s.dev with clk := { s.dev.clk with latches := t.dev.clk.latches },
                                       dbg := { s.dev.dbg with readAnswer := t.dev.dbg.readAnswer } } }) ∧
    Completes (.cblpresChange p high) s (fun t => t.dev.pins.cblpres.getLsbD p.val = high ∧
      (∀ q, q ≠ p.val → t.dev.pins.cblpres.getLsbD q = s.dev.pins.cblpres.getLsbD q) ∧ s.KeepsStore t) ∧
    (s.dev.pins.cblpres.getLsbD p.val = true → s.dev.boot.stage ≠ .reset → Completes (.cblpresChange p false) s fun t =>
      t = State.pfEvent { s with dev := { s.dev with pins := { s.dev.pins with cblpres := t.dev.pins.cblpres } } } 6 Codes.CABLE_CHANGE p.val)

/-- The management bus, the shared pins and timers, the pins and the tick read. -/
def Obligations.PinsAndBusAnswer : Prop :=
  SmbusCommandsAnswer ∧ SharedRequestsGiveOrRefuse ∧ SharedOutcomeReadsNextTick ∧ PinsAndTickReads

/-! ## Clocks and power (03, 04, 26) -/

/-- The first disagreement of the resonators assigns RES_FAULT and stops fabric work, and an agreement changes nothing; a calibration step of at
most 50, made in a background slot, waits for the frame boundary; a running island of a site in Ivory that loses lock takes that site out of
service under the fault that it assigns, which is the only one where no stored group is in error. -/
def ClockFaultsAreRecorded : Prop :=
  ∀ (s : State) (step : BitVec 16) (dom : BitVec 6) (x : SiteRef),
    (s.powered = true → s.dev.clk.resFault = false → Completes (.resonatorCheck true) s fun t =>
      t.dev.clk.resFault = true ∧ t.dev.aux.fabricStopped = true ∧ t.dev.faults.count = satAdd s.dev.faults.count 1 ∧
      t.dev.faults.next = nextFaultId s.dev.faults.next ∧ (t.dev.faults.log.any (fun e => e.2.code == Codes.RES_FAULT)) = true ∧
      t.dev.clk.tick = s.dev.clk.tick ∧ t.mem = s.mem ∧ s.KeepsStore t) ∧
    (exec (.resonatorCheck false) s = .next s) ∧
    (s.powered = true → s.dev.boot.stage ≠ .reset → s.dev.clk.trimPending = none → s.bgFree 0 12 s.slot = true → -50 ≤ step.toInt →
      step.toInt ≤ 50 → Completes (.resonatorCalibration step) s fun t =>
        t = { s with dev := { s.dev with clk := { s.dev.clk with trimPending := some (s.dev.clk.trim + step) }
                                         noc := (s.bgServed 0 12 .calibration).dev.noc } }) ∧
    (s.dev.boot.stage ≠ .reset → s.ivory (s.siteDomain x.die.val x.site.val) = true → (s.site (siteRefKey x)).island = none →
      Completes (.islandLockLost dom true x) s fun t =>
        (t.site (siteRefKey x)).island = some { code := Codes.ISLAND_LOCK_LOST, faultId := s.dev.faults.next, tick := s.stamp } ∧
        t.dev.clk.lockLost = true ∧ t.dev.clk.lostCount = satAdd s.dev.clk.lostCount 1 ∧
        (s.mem.marks = [] → t.dev.faults.count = satAdd s.dev.faults.count 1) ∧ s.KeepsStore t)

/-- A frame boundary starts a frame outside RESET: the frame number counts (the image's, or the boot frames), its tick is recorded, the waiting
trim step applies, the sensors, the input power and the average rail are those given, the hottest reading is shown with a sensor that has it,
and the throttle level stays. -/
def FrameBoundaryStartsFrame : Prop :=
  ∀ (s : State) (temps : List (BitVec 10)) (watts : BitVec 16) (reads : FrameReads), temps.length = 46 →
    s.dev.boot.stage ≠ .reset → Completes (.frameBoundary temps watts reads) s fun t =>
      t.dev.noc.frameTick = s.dev.clk.tick ∧
      (s.dev.noc.counting = true → t.dev.noc.frame = s.dev.noc.frame + 1 ∧ t.dev.noc.bootFrame = s.dev.noc.bootFrame) ∧
      (s.dev.noc.counting = false → t.dev.noc.bootFrame = s.dev.noc.bootFrame + 1 ∧ t.dev.noc.frame = s.dev.noc.frame) ∧
      t.dev.clk.trim = s.dev.clk.trimPending.getD s.dev.clk.trim ∧ t.dev.clk.trimPending = none ∧ t.dev.clk.tick = s.dev.clk.tick ∧
      (∀ i, i < 46 → Tab.get 0 t.dev.pwr.sensors i = temps.getD i 0 ∧ (temps.getD i 0).toNat ≤ t.dev.pwr.hottest.toNat) ∧
      temps.getD t.dev.pwr.hottestId.toNat 0 = t.dev.pwr.hottest ∧ t.dev.pwr.inputPower = watts ∧ t.dev.pwr.avgRail = reads.avgMv ∧
      t.dev.pwr.level = s.dev.pwr.level ∧ s.KeepsStore t

/-- Clock faults, and what a frame boundary starts. -/
def Obligations.ClockFaultsAndFrames : Prop := ClockFaultsAreRecorded ∧ FrameBoundaryStartsFrame

/-- A region's request for a domain of its own and the physical function's for a switchable present one, where none waits, are latched with
maker, target and tick; a region's for a domain of another changes no domain, and one for an absent domain changes nothing. At a later frame
boundary, with no trip standing, a request for a supported state that keeps the dependencies starts the closing of a domain in Ivory, and one
for a state that the domain does not support leaves its state alone; either is then gone. -/
def PowerRequestsAreLatchedAndActedOn : Prop :=
  ∀ (s : State) (f : FnId) (r : RegionId) (n : Fin 64) (v : Word) (q : PwrReq) (p : PState),
    (s.reaches f.val r.val = true → bitsOf v.toNat 5 0 = n.val → s.domOwner n.val = r.val → (s.domain n.val).request = none →
      Completes (.regionPwrReq f r v) s fun t =>
        t.domain n.val = { s.domain n.val with request := some ⟨some r.val, bitsOf v.toNat 10 8, s.dev.clk.tick, some (v.extractLsb' 16 16)⟩
                                               target := BitVec.ofNat 3 (bitsOf v.toNat 10 8) } ∧
        (∀ m, m ≠ n.val → t.domain m = s.domain m) ∧ t = { s with dev := { s.dev with pwr := t.dev.pwr } }) ∧
    (s.reaches f.val r.val = true → bitsOf v.toNat 5 0 = n.val → s.domOwner n.val ≠ r.val → Completes (.regionPwrReq f r v) s fun t =>
        t.dev.pwr = s.dev.pwr ∧ s.KeepsStore t) ∧
    (s.domPresent (bitsOf v.toNat 5 0) = false → exec (.regionPwrReq f r v) s = .next s) ∧
    (s.pfReach false = true → switchable n.val = true → s.domPresent n.val = true → (s.domain n.val).request = none →
      Completes (.pwrDomainTargetWrite n v) s fun t =>
        t.domain n.val = { s.domain n.val with request := some ⟨none, bitsOf v.toNat 2 0, s.dev.clk.tick, none⟩
                                               target := BitVec.ofNat 3 (bitsOf v.toNat 2 0) } ∧
        (∀ m, m ≠ n.val → t.domain m = s.domain m) ∧ t = { s with dev := { s.dev with pwr := t.dev.pwr } }) ∧
    (s.atFrame = true → s.dev.aux.tripHold = false → (s.domain n.val).request = some q → q.tick ≠ s.dev.clk.tick →
      pstate? q.target = some p → supports n.val p = true → p ≠ .ivory → (s.domain n.val).state = .ivory → s.dependencyOk n.val p = true →
      Completes (.pwrRequestAct n) s fun t =>
        (t.domain n.val).state = .closing ∧ (t.domain n.val).goal = some p ∧ (t.domain n.val).request = none ∧
        (∀ m, m ≠ n.val → t.domain m = s.domain m) ∧
        t = { s with dev := { s.dev with pwr := t.dev.pwr }, fab := { s.fab with regions := t.fab.regions } }) ∧
    (s.atFrame = true → s.dev.aux.tripHold = false → (s.domain n.val).request = some q → q.tick ≠ s.dev.clk.tick →
      (∀ u, pstate? q.target = some u → supports n.val u = false) → Completes (.pwrRequestAct n) s fun t =>
        (t.domain n.val).state = (s.domain n.val).state ∧ (t.domain n.val).moving = (s.domain n.val).moving ∧ (t.domain n.val).request = none ∧
        s.KeepsStore t)

/-- A domain that has been closing since an earlier frame boundary and whose last operation has completed enters Pewter and begins the move to its
goal, one frame long; a transition whose frames have passed ends in its state, and a site block that enters Charcoal has its sites'
scratchpads read 0; a closing of 64 frames is reported once, and goes on. -/
def PowerTransitionsEnd : Prop :=
  ∀ (s : State) (n : Fin 64) (p : PState),
    (s.atFrame = true → (s.domain n.val).state = .closing → 1 ≤ (s.domain n.val).closingFrames → s.domainBusy n.val = false →
      (s.domain n.val).goal = some p → p ≠ .pewter → p ≠ .ivory → Completes (.closingDrained n) s fun t =>
        (t.domain n.val).state = .pewter ∧ (t.domain n.val).goal = none ∧ (t.domain n.val).moving = some (p, 1) ∧
        (∀ m, m ≠ n.val → t.domain m = s.domain m) ∧ t.mem = s.mem ∧ t.fab = s.fab ∧ s.KeepsStore t) ∧
    (s.atFrame = true → (s.domain n.val).moving = some (p, 0) → Completes (.pwrTransitionComplete n) s fun t =>
        (t.domain n.val).state = p ∧ (t.domain n.val).moving = none ∧ (∀ m, m ≠ n.val → t.domain m = s.domain m) ∧ s.KeepsStore t ∧
        (p = .charcoal → isBlock n.val = true → ∀ k ∈ s.blockKeys n.val, k < 512 → ∀ off c, off < 2 ^ 20 →
          t.mem.read c (scratchAddr (k / 256) (k % 256) off) = 0)) ∧
    ((s.domain n.val).state = .closing → 64 ≤ (s.domain n.val).closingFrames → (s.domain n.val).drainRaised = false →
      Completes (.pwrDrainLong n) s fun t =>
        t.domain n.val = { s.domain n.val with drainRaised := true } ∧ (∀ m, m ≠ n.val → t.domain m = s.domain m) ∧ s.KeepsStore t)

/-- Power requests and the transitions that they start. -/
def Obligations.PowerDomainsFollowRequests : Prop := PowerRequestsAreLatchedAndActedOn ∧ PowerTransitionsEnd

/-- Every 64 frames, at the boundary, with no trip standing, the throttle level follows the hottest reading T: 4 at the trip threshold; from the
throttle threshold up 1, and one more for each 2 °C above it, up to 4; between the release and the throttle threshold 0 where it was 0, else 1;
below the release threshold 0. In other frames THROTTLE_RECOMPUTE changes nothing. -/
def ThrottleLevelFollowsHottest : Prop :=
  (∀ s : State, s.frame % 64 ≠ 0 → exec .throttleRecompute s = .next s) ∧
  ∀ s : State, s.atFrame = true → s.frame % 64 = 0 → s.dev.aux.tripHold = false → s.dev.boot.stage ≠ .reset → Completes .throttleRecompute s fun t =>
    (4 * s.dev.pwr.trip.toNat ≤ s.dev.pwr.hottest.toNat → t.dev.pwr.level = 4) ∧
    (4 * s.dev.pwr.throttle.toNat ≤ s.dev.pwr.hottest.toNat → s.dev.pwr.hottest.toNat < 4 * s.dev.pwr.trip.toNat →
      t.dev.pwr.level.toNat = min 4 (1 + (s.dev.pwr.hottest.toNat - 4 * s.dev.pwr.throttle.toNat) / 8)) ∧
    (4 * s.dev.pwr.release.toNat ≤ s.dev.pwr.hottest.toNat → s.dev.pwr.hottest.toNat < 4 * s.dev.pwr.throttle.toNat →
      s.dev.pwr.hottest.toNat < 4 * s.dev.pwr.trip.toNat → t.dev.pwr.level.toNat = if s.dev.pwr.level = 0 then 0 else 1) ∧
    (s.dev.pwr.hottest.toNat < 4 * s.dev.pwr.release.toNat → s.dev.pwr.hottest.toNat < 4 * s.dev.pwr.throttle.toNat →
      s.dev.pwr.hottest.toNat < 4 * s.dev.pwr.trip.toNat → t.dev.pwr.level = 0) ∧
    t.dev.pwr.domains = s.dev.pwr.domains ∧ t.mem = s.mem ∧ s.KeepsStore t

/-- A reading at the trip threshold assigns a fault, holds the trip and sets the level to 4; THERM_TRIP_APPLY at a frame boundary puts every site
block, engine, memory die and port domain in Charcoal and the edges and the telemetry domain in Pewter, and stops fabric work. A write of the
thresholds in order, the trip at most 110 °C, sets them, and any other is ignored. -/
def ThermalTripTurnsFabricOff : Prop :=
  ∀ (s : State) (v : Word),
    (4 * s.dev.pwr.trip.toNat ≤ s.dev.pwr.hottest.toNat → s.dev.aux.tripHold = false → s.dev.boot.stage ≠ .reset → Completes .thermTrip s fun t =>
      t.dev.aux.tripHold = true ∧ t.dev.pwr.tripped = true ∧ t.dev.pwr.tripPending = true ∧ t.dev.pwr.level = 4 ∧
      t.dev.faults.count = satAdd s.dev.faults.count 1 ∧ t.dev.pwr.domains = s.dev.pwr.domains ∧ t.mem = s.mem ∧ s.KeepsStore t) ∧
    (s.atFrame = true → s.dev.pwr.tripPending = true → Completes .thermTripApply s fun t =>
      (∀ n, n < 52 → n ≠ 19 → n ≠ 39 → n ≠ 40 → n ≠ 43 → n ≠ 44 → n ≠ 45 → (t.domain n).state = .charcoal) ∧
      (∀ n, n = 19 ∨ n = 39 ∨ n = 45 → (t.domain n).state = .pewter) ∧ t.dev.aux.fabricStopped = true ∧ t.dev.pwr.tripPending = false ∧
      s.KeepsStore t) ∧
    (s.pfReach false = true → v.extractLsb' 8 8 < v.extractLsb' 0 8 → v.extractLsb' 0 8 < v.extractLsb' 16 8 → v.extractLsb' 16 8 ≤ 110 →
      Completes (.pwrThermCtlWrite v) s fun t =>
        t = { s with dev := { s.dev with pwr :=
          { s.dev.pwr with throttle := v.extractLsb' 0 8, release := v.extractLsb' 8 8, trip := v.extractLsb' 16 8 } } }) ∧
    ((v.extractLsb' 0 8 ≤ v.extractLsb' 8 8 ∨ v.extractLsb' 16 8 ≤ v.extractLsb' 0 8 ∨ 110 < v.extractLsb' 16 8) →
      exec (.pwrThermCtlWrite v) s = .next s)

/-- A rail below 11.2 V is latched; SUPPLY_DROOP_BEGIN at a frame boundary takes the latch and begins the droop; SUPPLY_DROOP_END at one ends it
once 64 frames with a good rail have been counted. -/
def SupplyDroopBeginsAndEnds : Prop :=
  ∀ (s : State) (mv : BitVec 16),
    (mv.toNat < 11200 → s.powered = true → Completes (.railDroop mv) s fun t =>
      t = { s with dev := { s.dev with pins := { s.dev.pins with railMv := mv }
                                       pwr := { s.dev.pwr with droopLatched := true, droopGoodFrames := 0 } } }) ∧
    (s.atFrame = true → s.dev.pwr.droopLatched = true → Completes .supplyDroopBegin s fun t =>
      t.dev.pwr = { s.dev.pwr with droopLatched := false, droop := true, droopGoodFrames := 0 } ∧ t.mem = s.mem ∧ s.KeepsStore t) ∧
    (s.atFrame = true → s.dev.pwr.droop = true → 64 ≤ s.dev.pwr.droopGoodFrames → Completes .supplyDroopEnd s fun t =>
      t.dev.pwr = { s.dev.pwr with droop := false, droopGoodFrames := 0 } ∧ t.mem = s.mem ∧ s.KeepsStore t)

/-- Throttling, the thermal trip and supply droop. -/
def Obligations.HeatAndDroopAreHandled : Prop := ThrottleLevelFollowsHottest ∧ ThermalTripTurnsFabricOff ∧ SupplyDroopBeginsAndEnds

/-! ## Queues and rings (09) -/

/-- A QUEUE_CFG write with a valid size that enables a stopped queue without operations takes its fields and starts it from zero; one that clears
the enable of an enabled queue does only that; a base is written on a multiple of 64 while the queue is stopped and empty; an event ring that
is stopped is configured and enabled from zero. Other queues, and other regions' rings, stay. -/
def QueueRegistersConfigure : Prop :=
  ∀ (s : State) (f : FnId) (r : RegionId) (q : Fin 64) (v : Word) (b : Word64), s.reaches f.val r.val = true → q.val < s.queueCount r.val →
    ((s.queue r.val q.val).enable = false → s.queueOps r.val q.val = 0 → 4 ≤ bitsOf v.toNat 4 0 → bitsOf v.toNat 4 0 ≤ 16 →
      v.getLsbD 9 = true → Completes (.queueCfgWrite f r q v) s fun t =>
        t.queue r.val q.val = { s.queue r.val q.val with
          sizeLog2 := v.extractLsb' 0 5, host := v.getLsbD 5, cplHost := v.getLsbD 6, record64 := v.getLsbD 7, threadFed := v.getLsbD 8,
          enable := true, tail := 0, head := 0, cplTail := 0, cplHead := 0, nextSeq := 0, history := [], lastDigest := none } ∧
        (∀ p, p ≠ q.val → t.queue r.val p = s.queue r.val p) ∧ s.KeepsStore t) ∧
    ((s.queue r.val q.val).enable = true → v.getLsbD 9 = false → Completes (.queueCfgWrite f r q v) s fun t =>
        t.queue r.val q.val = { s.queue r.val q.val with enable := false } ∧ (∀ p, p ≠ q.val → t.queue r.val p = s.queue r.val p) ∧
        s.KeepsStore t) ∧
    ((s.queue r.val q.val).enable = false → s.queueOps r.val q.val = 0 → Completes (.ringBaseWrite f (.queueBase r q) b) s fun t =>
        t.queue r.val q.val = { s.queue r.val q.val with base := b &&& ~~~ 0x3F#64 } ∧ (∀ p, p ≠ q.val → t.queue r.val p = s.queue r.val p) ∧
        (∀ p, p ≠ r.val → t.region p = s.region p) ∧ t = { s with fab := { s.fab with regions := t.fab.regions } }) ∧
    ((s.region r.val).sched.evt.enable = false → 4 ≤ bitsOf v.toNat 4 0 → bitsOf v.toNat 4 0 ≤ 16 → v.getLsbD 6 = true →
      Completes (.ringCfgWrite f (.event r) v) s fun t =>
        (t.region r.val).sched.evt = { (s.region r.val).sched.evt with
          sizeLog2 := BitVec.ofNat 5 (bitsOf v.toNat 4 0), host := v.getLsbD 5, enable := true, tail := 0, head := 0, lost := 0, lostOpen := false } ∧
        (∀ p, p ≠ r.val → t.region p = s.region p) ∧ s.KeepsStore t)

/-- A doorbell of an enabled, ring-fed queue that moves the tail forward within the ring moves it and changes nothing else; one beyond the ring, or
on a queue that threads feed, changes no queue; one of a stopped queue or of a region closed to doorbells has no effect. -/
def DoorbellMovesTailWithinRing : Prop :=
  ∀ (s : State) (f : FnId) (r : RegionId) (q : Fin 64) (n : Word), s.reaches f.val r.val = true → q.val < s.queueCount r.val →
    ((s.queue r.val q.val).enable = true → (s.queue r.val q.val).threadFed = false → (s.region r.val).sched.noDoorbell = false →
      (n - (s.queue r.val q.val).head).toNat ≤ 2 ^ (s.queue r.val q.val).sizeLog2.toNat → (n - (s.queue r.val q.val).tail).toNat < 2 ^ 31 →
      Completes (.doorbell f r q n) s fun t =>
        t.queue r.val q.val = { s.queue r.val q.val with tail := n } ∧ (∀ p, p ≠ q.val → t.queue r.val p = s.queue r.val p) ∧
        (∀ p, p ≠ r.val → t.region p = s.region p) ∧ t = { s with fab := { s.fab with regions := t.fab.regions } }) ∧
    ((s.queue r.val q.val).enable = true →
      ((s.queue r.val q.val).threadFed = true ∨ 2 ^ (s.queue r.val q.val).sizeLog2.toNat < (n - (s.queue r.val q.val).head).toNat) →
      Completes (.doorbell f r q n) s fun t => (∀ p, t.queue r.val p = s.queue r.val p) ∧ s.KeepsStore t) ∧
    (((s.queue r.val q.val).enable = false ∨ (s.region r.val).sched.noDoorbell = true) → exec (.doorbell f r q n) s = .next s)

/-- The configuration of queues and rings, and doorbells. -/
def Obligations.QueuesAndDoorbells : Prop := QueueRegistersConfigure ∧ DoorbellMovesTailWithinRing

/-- At a slot boundary the descriptor of the round robin's queue is fetched, once a boundary: the queue's head moves on and the fetch waits with
the bytes read from region memory, or for the host's. The bytes of the oldest host fetch, made at an earlier boundary, are accepted before any
of that boundary's other fetches and issues: they take a task slot with the queue's next sequence number and, with a valid header and no
dependency, the operation is ready. -/
def DescriptorsAreFetchedAndAccepted : Prop :=
  ∀ (s : State) (r : RegionId) (q : Nat) (l : List Nat) (x : Fetch) (bytes : List Byte),
    (s.fabricOn = true → s.atBoundary = true → (s.region r.val).sched.fetchedAt ≠ s.slotCount + 1 → s.nextFetch r.val = some q →
      (s.queue r.val q).host = true → Completes (.descriptorFetch r) s fun t =>
      t.queue r.val q = { s.queue r.val q with head := (s.queue r.val q).head + 1 } ∧
      (t.region r.val).sched.fetches = (s.region r.val).sched.fetches ++ [{ queue := q, bytes := none, slot := s.slotCount }] ∧
      (t.region r.val).sched.rrLast = some q ∧ (t.region r.val).sched.fetchedAt = s.slotCount + 1 ∧ (∀ p, p ≠ q → t.queue r.val p = s.queue r.val p) ∧
      t = { s with fab := { s.fab with regions := t.fab.regions } }) ∧
    (s.fabricOn = true → s.atBoundary = true → (s.region r.val).sched.fetchedAt ≠ s.slotCount + 1 → s.nextFetch r.val = some q →
      (s.queue r.val q).host = false →
      s.ringRead r.val (va48 ((s.queue r.val q).base.toNat + (s.queue r.val q).head.toNat % 2 ^ (s.queue r.val q).sizeLog2.toNat * 64)) = .ok l →
      l.all (fun a => s.openByte a) = true → Completes (.descriptorFetch r) s fun t =>
        t.queue r.val q = { s.queue r.val q with head := (s.queue r.val q).head + 1 } ∧
        (t.region r.val).sched.fetches =
          (s.region r.val).sched.fetches ++ [{ queue := q, bytes := some (l.map (s.mem.read s.free)), slot := s.slotCount }] ∧
        t.mem = s.mem ∧ s.KeepsStore t) ∧
    (s.fabricOn = true → s.atBoundary = true → (s.region r.val).sched.fetchedAt = s.slotCount + 1 → exec (.descriptorFetch r) s = .next s) ∧
    (s.fabricOn = true → s.atBoundary = true → bytes.length = 64 →
      (s.region r.val).sched.fetches.find? (fun f => f.bytes.isNone) = some x → x.slot < s.slotCount →
      (∀ f ∈ (s.region r.val).sched.fetches, f.bytes.isSome = true → s.slotCount ≤ f.slot) → (s.region r.val).sched.issuedAt ≠ s.slotCount + 1 →
      s.slotOf r.val x.queue (s.queue r.val x.queue).nextSeq = none →
      (∀ o : Op, o.queue = x.queue → o.words = descWords bytes → s.headerOk r.val o = true ∧ o.deps.all (· == 0) = true) →
      Completes (.descriptorAccept r bytes) s fun t =>
        (t.queue r.val x.queue).nextSeq = (s.queue r.val x.queue).nextSeq + 1 ∧
        ∃ sl, t.slotOf r.val x.queue (s.queue r.val x.queue).nextSeq = some sl ∧ sl.op.words = descWords bytes ∧ sl.op.state = .ready ∧
          sl.op.readyTick = s.stamp ∧ sl.op.order = (s.region r.val).sched.nextOrder ∧ sl.rec_.status = 0)

/-- At a slot boundary the descriptor of the stalled issue whose turn it is at its queue is accepted where the queue takes it, and the thread goes
on behind it; on an enabled queue that a ring feeds the thread's task traps, and the thread stays where it is. -/
def StalledIssuesAreAccepted : Prop :=
  ∀ (s : State) (t : Tid) (q : Nat) (b : List Byte), s.fabricOn = true → s.atBoundary = true →
    s.issueTurn (s.thread (tidKey t) t.th.val).region (tidKey t, t.th.val) = true → (s.thread (tidKey t) t.th.val).state = .stallIssue q b →
    (s.queueTakes (s.thread (tidKey t) t.th.val).region q = true → (s.queue (s.thread (tidKey t) t.th.val).region q).threadFed = true →
      Completes (.issueAccept t) s fun u =>
        (u.thread (tidKey t) t.th.val).state = .running ∧ (u.thread (tidKey t) t.th.val).pc = (s.thread (tidKey t) t.th.val).pc + 8 ∧
        (u.thread (tidKey t) t.th.val).regs = (s.thread (tidKey t) t.th.val).regs ∧
        (u.queue (s.thread (tidKey t) t.th.val).region q).nextSeq = (s.queue (s.thread (tidKey t) t.th.val).region q).nextSeq + 1 ∧
        s.KeepsStore u) ∧
    ((s.queue (s.thread (tidKey t) t.th.val).region q).enable = true → (s.queue (s.thread (tidKey t) t.th.val).region q).threadFed = false →
      Completes (.issueAccept t) s fun u =>
        (∃ sl k, u.threadSlot (tidKey t) t.th.val = some sl ∧ sl.run.task.bind (·.trap) = some k) ∧
        (u.thread (tidKey t) t.th.val).pc = (s.thread (tidKey t) t.th.val).pc ∧ s.KeepsStore u)

/-- How descriptors come into a queue: from its ring, and from a thread's issue. -/
def Obligations.DescriptorsEnterQueues : Prop := DescriptorsAreFetchedAndAccepted ∧ StalledIssuesAreAccepted

/-- Where a region's event ring, or the physical function's, has lost entries and has room again, one entry reports them and the count starts
again; a digest ring's open loss is closed once there is room; a watermark's crossing is cleared with its count. -/
def Obligations.LossesAndCrossingsAreCleared : Prop :=
  ∀ (s : State) (f : FnId) (r : RegionId) (n : Fin 3),
    ((s.region r.val).sched.evt.enable = true → (s.region r.val).sched.evt.lostOpen = true → (s.region r.val).sched.evt.full = false →
      (Tab.get {} (s.region r.val).sched.wms 1).threshold = 0 → Completes (.eventsLost (.event r)) s fun t =>
        (t.region r.val).sched.evt = { (s.region r.val).sched.evt with
          lost := 0, lostOpen := false, tail := (s.region r.val).sched.evt.tail + 1 } ∧
        (t.region r.val).sched.slots = (s.region r.val).sched.slots ∧ s.KeepsStore t) ∧
    (s.dev.hst.pfEvt.enable = true → s.dev.hst.pfEvt.lostOpen = true → s.dev.hst.pfEvt.full = false → Completes (.eventsLost .pfEvent) s fun t =>
        t.dev.hst.pfEvt = { s.dev.hst.pfEvt with lost := 0, lostOpen := false, tail := s.dev.hst.pfEvt.tail + 1 } ∧
        t.mem = s.mem ∧ t.fab = s.fab ∧ s.KeepsStore t) ∧
    ((s.region r.val).sched.dig.enable = true → (s.region r.val).sched.dig.lostOpen = true → (s.region r.val).sched.dig.full = false →
      Completes (.digestLost r) s fun t =>
        (t.region r.val).sched.dig = { (s.region r.val).sched.dig with lostOpen := false } ∧
        (t.region r.val).sched.slots = (s.region r.val).sched.slots ∧ s.KeepsStore t) ∧
    (s.reaches f.val r.val = true → Completes (.wmCrossedClear f r n) s fun t =>
        Tab.get {} (t.region r.val).sched.wms n.val = { Tab.get {} (s.region r.val).sched.wms n.val with crossed := false, count := 0 } ∧
        (∀ m, m ≠ n.val → Tab.get {} (t.region r.val).sched.wms m = Tab.get {} (s.region r.val).sched.wms m) ∧
        t = { s with fab := { s.fab with regions := t.fab.regions } })

/-! ## The scheduler and the descriptors (09) -/

/-- A ready operation that a dispatch command may take: the fabric works, the operation is the named one, of that type, and first of all that
need its units (09 R353). -/
def Dispatches (s : State) (o : OpRef) (t : DescType) (sl : Slot) : Prop :=
  s.fabricOn = true ∧ s.slotAt o = some sl ∧ sl.op.desc? = some t ∧ s.mayDispatch o.region.val sl = true

/-- An operation that has ended: its task slot is free, and its queue remembers the status and the fault as its newest, beside those of the
operations that a dependency may still name (09 R352, R371). -/
def EndedWith (s t : State) (o : OpRef) (status : Code) (fault : BitVec 16) : Prop :=
  t.slotAt o = none ∧
    (t.queue o.region.val o.queue.val).history =
      ((s.queue o.region.val o.queue.val).remember (s.oldestSeq o.region.val o.queue.val) o.seq status fault).history ∧ s.KeepsStore t

/-- An operation that has dispatched and runs, from this slot where it had not run before. -/
def RunsNow (s t : State) (o : OpRef) : Prop :=
  ∃ x, t.slotAt o = some x ∧ x.op.state = .running ∧ x.op.dispatched = true ∧ (∀ sl, s.slotAt o = some sl → x.op.words = sl.op.words ∧
    (sl.op.dispatched = false → x.op.dispatchFrame = s.frame ∧ x.op.dispatchSlot = s.slot ∧ x.op.timeoutTick = s.dev.clk.tick)) ∧ s.KeepsStore t

/-- Where no completion is owed to the region's rings, memory stays as it is. -/
def MemoryStays (s t : State) (r : Nat) : Prop := (s.region r).sched.dues = [] → t.mem = s.mem

/-- The region's event ring takes no entry, or lies in host memory: an event writes no byte of device memory. -/
def EventsOutside (s : State) (r : Nat) : Prop := (s.region r).sched.evt.enable = false ∨ (s.region r).sched.evt.host = true

/-- A NOP, a FLAG_SET and a DIGEST_MARK that may dispatch complete at their dispatch, with OK, or with DESC_INVALID where a reserved bit is set; a
FLAG_SET latches its update for the boundary. A well-formed FLAG_WAIT or FENCE begins to run; it ends with OK by FLAG_WAIT_SATISFIED when its
flag meets the condition, or by FENCE_RELEASE when no earlier operation of its queue is left. -/
def Obligations.UnitlessDescriptorsDispatch : Prop :=
  ∀ (s : State) (o : OpRef) (sl : Slot),
    (Dispatches s o .nop sl → Completes (.nop o) s fun t =>
      EndedWith s t o (if sl.op.bodyOk then Codes.OK else Codes.DESC_INVALID) 0 ∧
      (t.region o.region.val).sched.flagUpds = (s.region o.region.val).sched.flagUpds) ∧
    (Dispatches s o .flagSet sl → sl.op.bodyOk = true → Completes (.flagSet o) s fun t =>
      EndedWith s t o Codes.OK 0 ∧ (t.region o.region.val).sched.flagUpds = (s.region o.region.val).sched.flagUpds ++
        [{ source := 1, sub := sl.op.queue * 2 ^ 32 + sl.op.seq.toNat, flag := sl.op.field 4 7 0, op := sl.op.field 4 9 8,
           value := BitVec.ofNat 32 (sl.op.word 5) }]) ∧
    (Dispatches s o .flagSet sl → sl.op.bodyOk = false → Completes (.flagSet o) s fun t =>
      EndedWith s t o Codes.DESC_INVALID 0 ∧ (t.region o.region.val).sched.flagUpds = (s.region o.region.val).sched.flagUpds) ∧
    (Dispatches s o .digestMark sl → Completes (.digestMark o) s fun t =>
      EndedWith s t o (if sl.op.bodyOk then Codes.OK else Codes.DESC_INVALID) 0) ∧
    (Dispatches s o .flagWait sl → sl.op.bodyOk = true → Completes (.flagWait o) s fun t => RunsNow s t o ∧ MemoryStays s t o.region.val) ∧
    (Dispatches s o .fence sl → sl.op.bodyOk = true → Completes (.fence o) s fun t => RunsNow s t o ∧ MemoryStays s t o.region.val) ∧
    (s.fabricOn = true → s.slotAt o = some sl → sl.op.desc? = some .flagWait → sl.op.state = .running →
      condHolds (sl.op.field 4 9 8) (s.flag o.region.val (sl.op.field 4 7 0)) (BitVec.ofNat 32 (sl.op.word 5)) = true →
      Completes (.flagWaitSatisfied o) s fun t => EndedWith s t o Codes.OK 0) ∧
    (s.fabricOn = true → s.slotAt o = some sl → sl.op.desc? = some .fence → sl.op.state = .running →
      (∀ x ∈ s.slots o.region.val, x.op.queue = sl.op.queue → slotBefore x sl = false) →
      Completes (.fenceRelease o) s fun t => EndedWith s t o Codes.OK 0)

/-- A COPY whose fields are invalid completes with COPY_INVALID, one with nothing to move with OK, one that fails a placement check of 08 R295 with
the check's code, counted at its engine; one between device addresses that passes runs. Where every byte can be reached and none is damaged,
its completion moves every byte as if the whole source were read first, changes no byte outside the destination, and latches OK. -/
def Obligations.CopiesMoveTheirBytes : Prop :=
  ∀ (s : State) (o : OpRef) (sl : Slot) (hostBytes : List Byte) (c : Code) (p q : Placed),
    (Dispatches s o .copy sl → s.copyFieldsOk sl.op = false → Completes (.copy o) s fun t => EndedWith s t o Codes.COPY_INVALID 0) ∧
    (Dispatches s o .copy sl → s.copyFieldsOk sl.op = true → sl.op.copyEmpty = true → Completes (.copy o) s fun t => EndedWith s t o Codes.OK 0) ∧
    (Dispatches s o .copy sl → s.copyFieldsOk sl.op = true → sl.op.copyEmpty = false → s.copyPlaced o.region.val sl.op = .error c →
      Completes (.copy o) s fun t => EndedWith s t o c 0 ∧
        Tab.get {} t.fab.engines (sl.op.engineDie * 24 + sl.op.engine) =
          { Tab.get {} s.fab.engines (sl.op.engineDie * 24 + sl.op.engine) with
            rejected := satAdd (Tab.get {} s.fab.engines (sl.op.engineDie * 24 + sl.op.engine)).rejected 1, lastReject := c
            completed := (Tab.get {} s.fab.engines (sl.op.engineDie * 24 + sl.op.engine)).completed + 1 }) ∧
    (Dispatches s o .copy sl → s.copyFieldsOk sl.op = true → sl.op.copyEmpty = false → s.copyPlaced o.region.val sl.op = .ok (some p, some q) →
      sl.op.srcHost = false → sl.op.dstHost = false → Completes (.copy o) s fun t => RunsNow s t o ∧ MemoryStays s t o.region.val) ∧
    (s.fabricOn = true → s.slotAt o = some sl → sl.op.desc? = some .copy → sl.op.state = .running →
      s.copyLocked o.region.val sl.op = true → sl.op.srcHost = false → sl.op.dstHost = false → sl.rec_.pendingStatus = 0 → s.mem.marks = [] → s.copyPlaced o.region.val sl.op = .ok (some p, some q) →
      (∀ a ∈ p.addrs sl.op.src sl.op ++ q.addrs sl.op.dst sl.op, s.ivory (s.domainOf a) = true ∧ s.islandAt a = none ∧ s.busyByte a = false) →
      (q.addrs sl.op.dst sl.op).Nodup → Completes (.copyComplete o hostBytes) s fun t =>
        (∃ x, t.slotAt o = some x ∧ x.op.state = .latched ∧ x.rec_.status = Codes.OK) ∧
        (∀ i, i < (q.addrs sl.op.dst sl.op).length → ∀ n,
          t.mem.read n ((q.addrs sl.op.dst sl.op).getD i 0) = s.mem.read s.free ((p.addrs sl.op.src sl.op).getD i 0)) ∧
        (∀ n a, a ∉ q.addrs sl.op.dst sl.op → t.mem.read n a = s.mem.read n a) ∧ s.KeepsStore t)

/-- A TASK that selects no thread completes with OK, one whose fields are invalid with TASK_INVALID; one that passes its checks starts its threads:
each runs from the entry with its index, the task's size and the two arguments in registers 0 to 3. -/
def Obligations.TasksStartTheirThreads : Prop :=
  ∀ (s : State) (o : OpRef) (sl : Slot),
    (Dispatches s o .task sl → sl.op.taskFieldsOk = true → (sl.op.siteCount = 0 ∨ sl.op.perSite = 0) → Completes (.task o) s fun t =>
      EndedWith s t o Codes.OK 0) ∧
    (Dispatches s o .task sl → sl.op.taskFieldsOk = false → Completes (.task o) s fun t => EndedWith s t o Codes.TASK_INVALID 0) ∧
    (Dispatches s o .task sl → s.taskRefused o.region.val sl.op = none → sl.run.task = none →
      (s.taskPlaces o.region.val sl).Nodup → Completes (.task o) s fun t =>
        RunsNow s t o ∧ (∃ x, t.slotAt o = some x ∧ x.run.task = some { threads := s.taskPlaces o.region.val sl }) ∧ MemoryStays s t o.region.val ∧
        ∀ i, i < (s.taskPlaces o.region.val sl).length → ∀ k th, (s.taskPlaces o.region.val sl).getD i (0, 0) = (k, th) →
          (t.thread k th).state = .running ∧ (t.thread k th).pc = BitVec.ofNat 48 sl.op.entry ∧ (t.thread k th).index = i ∧
          (t.thread k th).reg 0 = BitVec.ofNat 32 i ∧ (t.thread k th).reg 1 = BitVec.ofNat 32 (s.taskPlaces o.region.val sl).length ∧
          (t.thread k th).reg 2 = BitVec.ofNat 32 (sl.op.word 6) ∧ (t.thread k th).reg 3 = BitVec.ofNat 32 (sl.op.word 7))

/-- A latched operation completes with its status and fault at the boundary, and leaves its slot; a cancellation and a priority change of an
operation in a slot wait for the boundary; a software flag write waits behind the boundary's other updates. -/
def OperationsCompleteAndCommandsWait : Prop :=
  ∀ (s : State) (o : OpRef) (sl : Slot) (f : FnId) (r : RegionId) (v : Word64) (n : Byte) (w : Word),
    (s.fabricOn = true → s.atBoundary = true → s.slotAt o = some sl → sl.op.state = .latched → Completes (.operationComplete o) s fun t =>
      EndedWith s t o sl.rec_.status sl.rec_.faultId) ∧
    (s.reaches f.val r.val = true → (s.slotOf r.val (bitsOf v.toNat 37 32) (v.setWidth 32)).isSome = true →
      Completes (.regionCancelCmd f r v) s fun t =>
        (t.region r.val).sched = { (s.region r.val).sched with
          cmds := (s.region r.val).sched.cmds ++ [(bitsOf v.toNat 37 32, v.setWidth 32, none)] } ∧
        (∀ p, p ≠ r.val → t.region p = s.region p) ∧ t = { s with fab := { s.fab with regions := t.fab.regions } }) ∧
    (s.reaches f.val r.val = true → (s.slotOf r.val (bitsOf v.toNat 37 32) (v.setWidth 32)).isSome = true →
      Completes (.regionPrioCmd f r v) s fun t =>
        (t.region r.val).sched = { (s.region r.val).sched with
          cmds := (s.region r.val).sched.cmds ++ [(bitsOf v.toNat 37 32, v.setWidth 32, some (bitsOf v.toNat 42 40))] } ∧
        (∀ p, p ≠ r.val → t.region p = s.region p) ∧ t = { s with fab := { s.fab with regions := t.fab.regions } }) ∧
    (s.reaches f.val r.val = true → Completes (.flagRegisterWrite f r n w) s fun t =>
        (∃ u, (t.region r.val).sched = { (s.region r.val).sched with flagUpds := (s.region r.val).sched.flagUpds ++ [u] } ∧
          u.source = 5 ∧ u.flag = n.toNat ∧ u.op = 0 ∧ u.value = w) ∧
        (∀ p, p ≠ r.val → t.region p = s.region p) ∧ t = { s with fab := { s.fab with regions := t.fab.regions } })

/-- A TASK that is asked to make way and whose threads have all come to a boundary is preempted: their state is kept, and their hardware threads
are free. A timeout ends a FLAG_WAIT or a FENCE with TIMEOUT, and is noted in the record of a COPY that cannot be stopped. -/
def OperationsStopAndTimeOut : Prop :=
  ∀ (s : State) (o : OpRef) (sl : Slot) (x : TaskRun),
    (s.fabricOn = true → s.slotAt o = some sl → sl.op.state = .running → sl.op.desc? = some .task → sl.op.stopCode = some Codes.OK →
      sl.run.task = some x → x.trap = none → s.taskAtBoundary x = true → Completes (.preemptionPointStop o) s fun t =>
        (∃ y, t.slotAt o = some y ∧ y.op.state = .preempted ∧ y.op.stopCode = none ∧ y.rec_.wasPreempted = true ∧
          y.run.task.map (·.store.length) = some x.threads.length) ∧
        (∀ p ∈ x.threads, (t.thread p.1 p.2).state = .free) ∧ t.mem = s.mem ∧ s.KeepsStore t) ∧
    (s.fabricOn = true → s.slotAt o = some sl → s.timedOut o.region.val sl = true →
      (sl.op.desc? = some .flagWait ∨ sl.op.desc? = some .fence) → Completes (.timeoutExpiry o) s fun t => EndedWith s t o Codes.TIMEOUT 0) ∧
    (s.fabricOn = true → s.slotAt o = some sl → s.timedOut o.region.val sl = true → sl.op.desc? = some .copy → sl.op.preemptible = false →
      Completes (.timeoutExpiry o) s fun t => ∃ y, t.slotAt o = some y ∧ y.rec_.timedOut = true ∧ y.op.timeoutRaised = true ∧
        y.op.state = sl.op.state)

/-- How operations complete, are cancelled, stop and time out. -/
def Obligations.OperationsEndOrStop : Prop := OperationsCompleteAndCommandsWait ∧ OperationsStopAndTimeOut

/-- One boundary of a region with one latched operation completes it; of a region with no operation and one software flag write sets the flag; and of a
region with one waiting operation whose dependencies are met and whose unit is free dispatches it. -/
def Obligations.SchedulerBoundaryDecides : Prop :=
  ∀ (s : State) (r : RegionId) (sl : Slot) (u : FlagUpd), s.fabricOn = true → s.atBoundary = true → s.defined r.val = true → (s.region r.val).sched.fetches = [] →
    (s.region r.val).sched.cmds = [] → (s.region r.val).rev.pending = none →
    ((s.slots r.val) = [sl] → sl.op.state = .latched → Completes (.schedulerBoundary r) s fun t =>
      t.slots r.val = [] ∧ (t.queue r.val sl.op.queue).history =
        ((s.queue r.val sl.op.queue).remember sl.op.seq sl.op.seq sl.rec_.status sl.rec_.faultId).history ∧ s.KeepsStore t) ∧
    ((s.slots r.val) = [] → (s.region r.val).sched.flagUpds = [u] → u.source ≠ 4 → Completes (.schedulerBoundary r) s fun t =>
      t.flag r.val u.flag = flagApply u.op (s.flag r.val u.flag) u.value ∧ (∀ n, n ≠ u.flag → t.flag r.val n = s.flag r.val n) ∧
      (t.region r.val).sched.flagUpds = [] ∧ t.slots r.val = [] ∧ s.KeepsStore t) ∧
    ((s.slots r.val) = [sl] → sl.op.state = .waiting → sl.op.deps.all (· == 0) = true → sl.op.desc? = some .flagWait → sl.op.bodyOk = true →
      sl.op.dispatched = false → sl.run = {} → (s.region r.val).sched.flagUpds = [] →
      condHolds (sl.op.field 4 9 8) (s.flag r.val (sl.op.field 4 7 0)) (BitVec.ofNat 32 (sl.op.word 5)) = false →
      Completes (.schedulerBoundary r) s fun t => ∃ x, t.slots r.val = [x] ∧ x.op.state = .running ∧ x.op.dispatched = true ∧
        x.op.words = sl.op.words ∧ x.op.dispatchSlot = s.slot ∧ x.op.readyTick = s.dev.clk.tick)

/-! ## Threads (09) -/

/-- The thread may issue the instruction word w, which it has fetched, and no register of the list waits for a result. -/
def Issues (s : State) (t : Tid) (w : Nat) (rs : List Nat) : Prop :=
  s.threadReady (tidKey t) t.th.val = true ∧
    (∃ a, s.fetchAddr (tidKey t) t.th.val = .ok a ∧ s.mem.bad (upFrom a 8) = none ∧ s.fetchWord a = w) ∧
    (s.thread (tidKey t) t.th.val).waits rs = false

/-- Beside the thread, the number of the thread that issued last and the site's next vector tick, no part of its site and no other site,
memory, region or block has changed. -/
def OnlyThread (s u : State) (t : Tid) : Prop :=
  (∀ th, th ≠ t.th.val → u.thread (tidKey t) th = s.thread (tidKey t) th) ∧
    u.site (tidKey t) = { s.site (tidKey t) with threads := (u.site (tidKey t)).threads, lastIssued := t.th.val, nextVec := s.vecNext (tidKey t) + 1 } ∧
    (∀ k, k ≠ tidKey t → u.site k = s.site k) ∧ u = { s with fab := { s.fab with sites := u.fab.sites } }

/-- The thread goes on at the pc p, and nothing else of it has changed. -/
def GoesTo (s u : State) (t : Tid) (p : BitVec 48) : Prop :=
  u.thread (tidKey t) t.th.val = { s.thread (tidKey t) t.th.val with pc := p } ∧ OnlyThread s u t

/-- Register rd holds v, the pc has moved on by one instruction, and no other register and nothing else of the thread has changed. -/
def ResultIs (s u : State) (t : Tid) (rd : Reg) (v : Word) : Prop :=
  (u.thread (tidKey t) t.th.val).reg rd.toNat = v ∧
    (∀ n, n ≠ rd.toNat → (u.thread (tidKey t) t.th.val).reg n = (s.thread (tidKey t) t.th.val).reg n) ∧
    u.thread (tidKey t) t.th.val = { s.thread (tidKey t) t.th.val with
      regs := (u.thread (tidKey t) t.th.val).regs, pc := (s.thread (tidKey t) t.th.val).pc + 8 } ∧
    OnlyThread s u t

/-- The instruction c with opcode op, for every ra, rb and rd: rd takes f of the values that ra and rb held, and the pc moves on by 8. -/
def RegisterForm (op : Nat) (c : Tid → Reg → Reg → Reg → Instr) (f : Word → Word → Word) : Prop :=
  ∀ (s : State) (t : Tid) (rd ra rb : Reg), Issues s t (enc op rd.toNat ra.toNat rb.toNat 0 0) [rd.toNat, ra.toNat, rb.toNat] →
    Completes (c t rd ra rb) s fun u => ResultIs s u t rd (f (s.reg t ra) (s.reg t rb))

/-- The instruction c with opcode op, for every ra, rd and 32-bit immediate: rd takes f of what ra held and the immediate, and the pc moves on by 8. -/
def ImmediateForm (op : Nat) (c : Tid → Reg → Reg → Word → Instr) (f : Word → Word → Word) : Prop :=
  ∀ (s : State) (t : Tid) (rd ra : Reg) (imm : Word), Issues s t (enc op rd.toNat ra.toNat 0 0 imm.toNat) [rd.toNat, ra.toNat] →
    Completes (c t rd ra imm) s fun u => ResultIs s u t rd (f (s.reg t ra) imm)

/-- The instruction c with opcode op, for every ra and rd: rd takes f of the value that ra held, and the pc moves on by 8. -/
def OneOperandForm (op : Nat) (c : Tid → Reg → Reg → Instr) (f : Word → Word) : Prop :=
  ∀ (s : State) (t : Tid) (rd ra : Reg), Issues s t (enc op rd.toNat ra.toNat 0 0 0) [rd.toNat, ra.toNat] →
    Completes (c t rd ra) s fun u => ResultIs s u t rd (f (s.reg t ra))

/-- ADD, SUB, MUL, MULHS, MULHU, AND, OR, XOR, SHL, SHR, SAR, MINS, MAXS, MINU, MAXU, SEQ, SNE, SLT and SLTU complete: rd takes the result of
09 R317's table on ra and rb. -/
def IntegerRegisterForms : Prop :=
  RegisterForm 0x01 .add (fun a b => a + b) ∧ RegisterForm 0x02 .sub (fun a b => a - b) ∧ RegisterForm 0x03 .mul (fun a b => a * b) ∧
  RegisterForm 0x04 .mulhs (fun a b => BitVec.ofInt 32 (a.toInt * b.toInt / 2 ^ 32)) ∧
  RegisterForm 0x05 .mulhu (fun a b => BitVec.ofNat 32 (a.toNat * b.toNat / 2 ^ 32)) ∧
  RegisterForm 0x06 .and (fun a b => a &&& b) ∧ RegisterForm 0x07 .or (fun a b => a ||| b) ∧ RegisterForm 0x08 .xor (fun a b => a ^^^ b) ∧
  RegisterForm 0x09 .shl (fun a b => a <<< (b.toNat % 32)) ∧ RegisterForm 0x0A .shr (fun a b => a >>> (b.toNat % 32)) ∧
  RegisterForm 0x0B .sar (fun a b => a.sshiftRight (b.toNat % 32)) ∧
  RegisterForm 0x0C .mins (fun a b => if a.toInt ≤ b.toInt then a else b) ∧ RegisterForm 0x0D .maxs (fun a b => if b.toInt ≤ a.toInt then a else b) ∧
  RegisterForm 0x0E .minu (fun a b => if a ≤ b then a else b) ∧ RegisterForm 0x0F .maxu (fun a b => if b ≤ a then a else b) ∧
  RegisterForm 0x10 .seq (fun a b => if a = b then 1 else 0) ∧ RegisterForm 0x11 .sne (fun a b => if a = b then 0 else 1) ∧
  RegisterForm 0x12 .slt (fun a b => if a.toInt < b.toInt then 1 else 0) ∧ RegisterForm 0x13 .sltu (fun a b => if a < b then 1 else 0)

/-- Their nineteen immediate forms complete: rd takes the same result on ra and the immediate. -/
def IntegerImmediateForms : Prop :=
  ImmediateForm 0x41 .addImm (fun a b => a + b) ∧ ImmediateForm 0x42 .subImm (fun a b => a - b) ∧ ImmediateForm 0x43 .mulImm (fun a b => a * b) ∧
  ImmediateForm 0x44 .mulhsImm (fun a b => BitVec.ofInt 32 (a.toInt * b.toInt / 2 ^ 32)) ∧
  ImmediateForm 0x45 .mulhuImm (fun a b => BitVec.ofNat 32 (a.toNat * b.toNat / 2 ^ 32)) ∧
  ImmediateForm 0x46 .andImm (fun a b => a &&& b) ∧ ImmediateForm 0x47 .orImm (fun a b => a ||| b) ∧ ImmediateForm 0x48 .xorImm (fun a b => a ^^^ b) ∧
  ImmediateForm 0x49 .shlImm (fun a b => a <<< (b.toNat % 32)) ∧ ImmediateForm 0x4A .shrImm (fun a b => a >>> (b.toNat % 32)) ∧
  ImmediateForm 0x4B .sarImm (fun a b => a.sshiftRight (b.toNat % 32)) ∧
  ImmediateForm 0x4C .minsImm (fun a b => if a.toInt ≤ b.toInt then a else b) ∧
  ImmediateForm 0x4D .maxsImm (fun a b => if b.toInt ≤ a.toInt then a else b) ∧
  ImmediateForm 0x4E .minuImm (fun a b => if a ≤ b then a else b) ∧ ImmediateForm 0x4F .maxuImm (fun a b => if b ≤ a then a else b) ∧
  ImmediateForm 0x50 .seqImm (fun a b => if a = b then 1 else 0) ∧ ImmediateForm 0x51 .sneImm (fun a b => if a = b then 0 else 1) ∧
  ImmediateForm 0x52 .sltImm (fun a b => if a.toInt < b.toInt then 1 else 0) ∧ ImmediateForm 0x53 .sltuImm (fun a b => if a < b then 1 else 0)

/-- A thread whose turn it is, whose fetched word encodes the instruction and none of whose registers waits for a result, runs each integer
instruction to its end: the pc moves on by 8, and no other register, thread, site or other part of the state changes but the site's count of
issues. -/
def Obligations.IntegerForms : Prop := IntegerRegisterForms ∧ IntegerImmediateForms

/-- Moves, the selection, and the floating-point forms on F32 patterns, whose functions are those of the numerics chapter. -/
def MoveAndFloatForms : Prop :=
  (∀ (s : State) (t : Tid) (rd : Reg) (imm : Word), Issues s t (enc 0x20 rd.toNat 0 0 0 imm.toNat) [rd.toNat] →
    Completes (.movi t rd imm) s fun u => ResultIs s u t rd imm) ∧
  (∀ (s : State) (t : Tid) (rd ra rb rc : Reg), Issues s t (enc 0x22 rd.toNat ra.toNat rb.toNat rc.toNat 0) [rd.toNat, ra.toNat, rb.toNat, rc.toNat] →
    Completes (.sel t rd ra rb rc) s fun u => ResultIs s u t rd (if s.reg t rc = 0 then s.reg t rb else s.reg t ra)) ∧
  OneOperandForm 0x21 .mov id ∧ OneOperandForm 0x2F .fabs (fun a => a &&& 0x7FFFFFFF) ∧ OneOperandForm 0x30 .fneg (fun a => a ^^^ 0x80000000) ∧
  RegisterForm 0x28 .fadd (fun a b => BitVec.ofNat 32 (f32Add a.toNat b.toNat)) ∧
  RegisterForm 0x29 .fsub (fun a b => BitVec.ofNat 32 (f32Sub a.toNat b.toNat)) ∧
  RegisterForm 0x2A .fmul (fun a b => BitVec.ofNat 32 (f32Mul a.toNat b.toNat)) ∧
  RegisterForm 0x2B .fmin (fun a b => BitVec.ofNat 32 (f32Pick false a.toNat b.toNat)) ∧
  RegisterForm 0x2C .fmax (fun a b => BitVec.ofNat 32 (f32Pick true a.toNat b.toNat)) ∧
  RegisterForm 0x2D .feq (fun a b => if f32Eq a.toNat b.toNat then 1 else 0) ∧
  RegisterForm 0x2E .flt (fun a b => if f32Lt a.toNat b.toNat then 1 else 0)

/-- Conversions: a narrowing to nearest of an integer or an F32 value, and a widening, where the word decodes, its format code names a format and
the step y is between −64 and 63. -/
def ConversionForms : Prop :=
  ∀ (s : State) (t : Tid) (rd ra rb rc : Reg) (imm : Word) (f : Fmt), cvtFmt? (imm.toNat % 16) = some f →
    (decodes (enc 0x34 rd.toNat ra.toNat rb.toNat rc.toNat imm.toNat) = true → bitAt imm.toNat 5 = false →
      -64 ≤ (s.reg t rb).toInt → (s.reg t rb).toInt ≤ 63 →
      Issues s t (enc 0x34 rd.toNat ra.toNat rb.toNat rc.toNat imm.toNat) [rd.toNat, ra.toNat, rb.toNat] →
      Completes (.cvtn t rd ra rb rc imm) s fun u => ResultIs s u t rd (BitVec.ofNat 32 (cvtnBits f
        (if bitAt imm.toNat 4 then f32F.decode (s.reg t ra).toNat else Num.ofInt (s.reg t ra).toInt) (s.reg t rb).toInt .nearest
        (bitsOf imm.toNat 15 8)))) ∧
    (decodes (enc 0x35 rd.toNat ra.toNat 0 0 imm.toNat) = true →
      Issues s t (enc 0x35 rd.toNat ra.toNat 0 0 imm.toNat) [rd.toNat, ra.toNat] →
      Completes (.cvtw t rd ra imm) s fun u =>
        ResultIs s u t rd (BitVec.ofNat 32 (cvtwBits f (s.reg t ra).toNat (bitsOf imm.toNat 15 8) (bitAt imm.toNat 4))))

/-- Moves, binary32 arithmetic and conversions. -/
def Obligations.FloatAndConversionForms : Prop := MoveAndFloatForms ∧ ConversionForms

/-- The region, and the task's operation, of a thread. -/
def threadKey (s : State) (t : Tid) : OpKey := (s.thread (tidKey t) t.th.val).key

/-- The bytes at l lie in the thread's own scratchpad, its site works and its domain is on. -/
def OwnOpen (s : State) (t : Tid) (l : List Nat) : Prop :=
  ownBytes (tidKey t) l = true ∧ s.islandAt (l.headD 0) = none ∧ s.ivory (s.domainOf (l.headD 0)) = true

/-- Everything but the thread's task's record, the thread, and bytes of memory is as before. -/
def OnlyThreadAndTask (s u : State) (t : Tid) : Prop :=
  (∀ th, th ≠ t.th.val → u.thread (tidKey t) th = s.thread (tidKey t) th) ∧ (∀ k, k ≠ tidKey t → u.site k = s.site k) ∧
    (∀ r, r ≠ (s.thread (tidKey t) t.th.val).region → u.region r = s.region r) ∧
    u = { s with mem := u.mem, fab := { s.fab with sites := u.fab.sites, regions := u.fab.regions } }

/-- A load of n bytes from the own scratchpad: the address is ra's pair plus the immediate, aligned to n; the value, extended, is on its way to rd,
and memory is unchanged. -/
def OwnLoad (op n : Nat) (signed pair : Bool) (c : Tid → Reg → Reg → Word → Instr) : Prop :=
  ∀ (s : State) (t : Tid) (rd ra : Reg) (imm : Word) (l : List Nat),
    Issues s t (enc op rd.toNat ra.toNat 0 0 imm.toNat) ([ra.toNat, ra.toNat + 1, rd.toNat] ++ (if pair then [rd.toNat + 1] else [])) →
    ra.toNat % 2 = 0 → (pair = true → rd.toNat % 2 = 0) → (s.thread (tidKey t) t.th.val).address ra.toNat imm.toNat % n = 0 →
    s.threadAddrs (s.thread (tidKey t) t.th.val).region ((s.thread (tidKey t) t.th.val).address ra.toNat imm.toNat) n .load = .ok l →
    OwnOpen s t l → s.mem.bad l = none →
    Completes (c t rd ra imm) s fun u =>
      u.thread (tidKey t) t.th.val = { s.thread (tidKey t) t.th.val with
        pc := (s.thread (tidKey t) t.th.val).pc + 8
        outstanding := (s.thread (tidKey t) t.th.val).outstanding ++ [{
          reg := rd.toNat, pair := pair, sfu := false,
          value := some (if signed then (BitVec.ofInt 32 (signedOf (8 * n) (leNat (l.map (s.mem.read s.free))))).setWidth 64
                         else BitVec.ofNat 64 (leNat (l.map (s.mem.read s.free)))) }] } ∧
      u.mem = s.mem ∧ OnlyThreadAndTask s u t

/-- LD8U, LD8S, LD16U, LD16S, LD32 and LD64 complete; a load that returns (LOAD_RETURN) writes its register, or its pair, and no longer waits. -/
def LoadsFromOwnScratchpad : Prop :=
  OwnLoad 0x60 1 false false .ld8u ∧ OwnLoad 0x61 1 true false .ld8s ∧ OwnLoad 0x62 2 false false .ld16u ∧ OwnLoad 0x63 2 true false .ld16s ∧
  OwnLoad 0x64 4 false false .ld32 ∧ OwnLoad 0x65 8 false true .ld64 ∧
  (∀ (s : State) (t : Tid) (rd : Reg) (p : Pending) (v : Word64), s.fabricOn = true → p.reg = rd.toNat → p.pair = false → p.sfu = false →
    p.value = some v → p.due ≤ s.runSlots → (s.thread (tidKey t) t.th.val).outstanding = [p] → Completes (.loadReturn t rd) s fun u =>
      (u.thread (tidKey t) t.th.val).reg rd.toNat = v.setWidth 32 ∧ (u.thread (tidKey t) t.th.val).outstanding = [] ∧
      (∀ n, n ≠ rd.toNat → (u.thread (tidKey t) t.th.val).reg n = (s.thread (tidKey t) t.th.val).reg n) ∧
      (u.thread (tidKey t) t.th.val).pc = (s.thread (tidKey t) t.th.val).pc ∧ u.mem = s.mem ∧
      (∀ th, th ≠ t.th.val → u.thread (tidKey t) th = s.thread (tidKey t) th)) ∧
  (∀ (s : State) (t : Tid) (rd : Reg) (p : Pending) (v : Word64), s.fabricOn = true → p.reg = rd.toNat → p.pair = true → p.sfu = false →
    p.value = some v → p.due ≤ s.runSlots → (s.thread (tidKey t) t.th.val).outstanding = [p] → Completes (.loadReturn t rd) s fun u =>
      (u.thread (tidKey t) t.th.val).reg rd.toNat = v.setWidth 32 ∧ (u.thread (tidKey t) t.th.val).reg (rd.toNat + 1) = v.extractLsb' 32 32 ∧
      (u.thread (tidKey t) t.th.val).outstanding = [] ∧ u.mem = s.mem ∧
      (∀ n, n ≠ rd.toNat → n ≠ rd.toNat + 1 → (u.thread (tidKey t) t.th.val).reg n = (s.thread (tidKey t) t.th.val).reg n))

/-- A store of the n low bytes of rb (a pair for 8) to the own scratchpad: the bytes at the translated addresses are the value's, lowest first, and
every other byte reads as before. -/
def OwnStore (op n : Nat) (pair : Bool) (c : Tid → Reg → Reg → Word → Instr) : Prop :=
  ∀ (s : State) (t : Tid) (ra rb : Reg) (imm : Word) (l : List Nat),
    Issues s t (enc op 0 ra.toNat rb.toNat 0 imm.toNat) ([ra.toNat, ra.toNat + 1, rb.toNat] ++ (if pair then [rb.toNat + 1] else [])) →
    ra.toNat % 2 = 0 → (pair = true → rb.toNat % 2 = 0) → (s.thread (tidKey t) t.th.val).address ra.toNat imm.toNat % n = 0 →
    s.threadAddrs (s.thread (tidKey t) t.th.val).region ((s.thread (tidKey t) t.th.val).address ra.toNat imm.toNat) n .store = .ok l →
    OwnOpen s t l → l.any s.protectedByte = false → l.any s.busyByte = false → s.mem.marks = [] →
    Completes (c t ra rb imm) s fun u =>
      GoesTo s { u with mem := s.mem, fab := { u.fab with regions := s.fab.regions } } t ((s.thread (tidKey t) t.th.val).pc + 8) ∧
      (∀ i, i < n → ∀ k, u.mem.read k (l.getD i 0) = (leBytes 8 (if pair then (s.thread (tidKey t) t.th.val).pair rb.toNat
        else (s.reg t rb).toNat)).getD i 0) ∧
      (∀ k a, a ∉ l → u.mem.read k a = s.mem.read k a) ∧ OnlyThreadAndTask s u t

/-- ST8, ST16, ST32 and ST64 complete. -/
def StoresToOwnScratchpad : Prop :=
  OwnStore 0x68 1 false .st8 ∧ OwnStore 0x69 2 false .st16 ∧ OwnStore 0x6A 4 false .st32 ∧ OwnStore 0x6B 8 true .st64

/-- What an atomic operation stores: the old value with the operand rb (x), and for CAS with rb + 1, or the pair rb + 2 (y). -/
def atomNew (s : State) (t : Tid) (pair : Bool) (rb n code old : Nat) : Nat :=
  atomApply code n old (if pair then (s.thread (tidKey t) t.th.val).pair rb else ((s.thread (tidKey t) t.th.val).reg rb).toNat)
    (if pair then (s.thread (tidKey t) t.th.val).pair (rb + 2) else ((s.thread (tidKey t) t.th.val).reg (rb + 1)).toNat)

/-- An atomic operation of n bytes in the own scratchpad, for each of its operation codes: the old value is on its way to rd, the bytes at the
translated addresses are the operation's on the old value and its operands, and no other byte changes. FADD, which only ATOM32 has, is for
Ochre mode. -/
def OwnAtomic (op n : Nat) (pair : Bool) (c : Tid → Reg → Reg → Reg → BitVec 6 → Word → Instr) : Prop :=
  ∀ (s : State) (t : Tid) (rd ra rb : Reg) (code : BitVec 6) (imm : Word) (l : List Nat),
    (code.toNat ≤ 9 ∨ (code = 10 ∧ pair = false ∧ s.dev.aux.slateInForce = false)) → Issues s t (enc op rd.toNat ra.toNat rb.toNat code.toNat imm.toNat)
      ([ra.toNat, ra.toNat + 1, rd.toNat, rb.toNat] ++ (if pair then [rd.toNat + 1, rb.toNat + 1] else []) ++
        (if code = 9 then (if pair then [rb.toNat + 2, rb.toNat + 3] else [rb.toNat + 1]) else [])) →
    ra.toNat % 2 = 0 → (pair = true → rd.toNat % 2 = 0 ∧ rb.toNat % 2 = 0) → (code = 9 → if pair then rb.toNat % 4 = 0 else rb ≠ 63) →
    (s.thread (tidKey t) t.th.val).address ra.toNat imm.toNat % n = 0 →
    s.threadAddrs (s.thread (tidKey t) t.th.val).region ((s.thread (tidKey t) t.th.val).address ra.toNat imm.toNat) n .atomic = .ok l →
    OwnOpen s t l → l.any s.protectedByte = false → l.any s.busyByte = false → s.mem.marks = [] →
    Completes (c t rd ra rb code imm) s fun u =>
      (u.thread (tidKey t) t.th.val).outstanding = (s.thread (tidKey t) t.th.val).outstanding ++
        [{ reg := rd.toNat, pair := pair, sfu := false, value := some (BitVec.ofNat 64 (leNat (l.map (s.mem.read s.free)))) }] ∧
      (u.thread (tidKey t) t.th.val).pc = (s.thread (tidKey t) t.th.val).pc + 8 ∧
      (u.thread (tidKey t) t.th.val).regs = (s.thread (tidKey t) t.th.val).regs ∧
      (∀ i, i < n → ∀ k, u.mem.read k (l.getD i 0) =
        (leBytes 8 (atomNew s t pair rb.toNat n code.toNat (leNat (l.map (s.mem.read s.free))))).getD i 0) ∧
      (∀ k a, a ∉ l → u.mem.read k a = s.mem.read k a) ∧ OnlyThreadAndTask s u t

/-- ATOM32 and ATOM64 complete, and what each operation stores: ADD, MINS, MAXS, MINU, MAXU, AND, OR, XOR, SWAP, CAS and FADD. -/
def AtomicsInOwnScratchpad : Prop :=
  OwnAtomic 0x70 4 false .atom32 ∧ OwnAtomic 0x71 8 true .atom64 ∧
  (∀ n old x y : Nat, atomApply 0 n old x y = (old + x) % 2 ^ (8 * n) ∧
    (atomApply 1 n old x y = if signedOf (8 * n) old ≤ signedOf (8 * n) x then old else x) ∧
    (atomApply 2 n old x y = if signedOf (8 * n) x ≤ signedOf (8 * n) old then old else x) ∧
    atomApply 3 n old x y = min old x ∧ atomApply 4 n old x y = max old x ∧
    atomApply 5 n old x y = old &&& x ∧ atomApply 6 n old x y = old ||| x ∧ atomApply 7 n old x y = old ^^^ x ∧ atomApply 8 n old x y = x ∧
    (atomApply 9 n old x y = if old = x then y else old) ∧ atomApply 10 n old x y = f32Add old x)

/-- A thread whose turn it is and none of whose registers waits runs each load, store and atomic operation, at an aligned address whose
translation lies in its own open scratchpad and where no word is damaged, to its end. -/
def Obligations.OwnScratchpadAccesses : Prop := LoadsFromOwnScratchpad ∧ StoresToOwnScratchpad ∧ AtomicsInOwnScratchpad

/-- An access to another site's scratchpad or to DRAM joins the send queue of its route, where it waits behind those before it; where that queue
holds eight the thread stalls. The route's occurrence sends the oldest. -/
def RemoteAccessesTakeTheirRoute : Prop :=
  ∀ (s : State) (t : Tid) (ra rb : Reg) (imm : Word) (l : List Nat) (id : Nat),
    Issues s t (enc 0x6A 0 ra.toNat rb.toNat 0 imm.toNat) [ra.toNat, ra.toNat + 1, rb.toNat] → ra.toNat % 2 = 0 →
    (s.thread (tidKey t) t.th.val).address ra.toNat imm.toNat % 4 = 0 →
    s.threadAddrs (s.thread (tidKey t) t.th.val).region ((s.thread (tidKey t) t.th.val).address ra.toNat imm.toNat) 4 .store = .ok l →
    ownBytes (tidKey t) l = false → l.any s.protectedByte = false →
    s.threadRoute (s.thread (tidKey t) t.th.val).region (tidKey t / 256) (tidKey t % 256) (l.headD 0) true = some id →
    s.islandAt (l.headD 0) = none → s.ivory (s.domainOf (l.headD 0)) = true →
    ((Tab.get [] s.dev.noc.queues ((s.thread (tidKey t) t.th.val).region * 65536 + id)).length < 8 → Completes (.st32 t ra rb imm) s fun u =>
      (∃ p, Tab.get [] u.dev.noc.queues ((s.thread (tidKey t) t.th.val).region * 65536 + id) =
          Tab.get [] s.dev.noc.queues ((s.thread (tidKey t) t.th.val).region * 65536 + id) ++ [p] ∧
        p.addrs = l ∧ p.kind = 1 ∧ p.data = (s.reg t rb).setWidth 64 ∧ p.src = tidKey t ∧ p.thread = t.th.val) ∧
      (u.thread (tidKey t) t.th.val).pc = (s.thread (tidKey t) t.th.val).pc + 8 ∧ u.mem = s.mem) ∧
    (8 ≤ (Tab.get [] s.dev.noc.queues ((s.thread (tidKey t) t.th.val).region * 65536 + id)).length → Completes (.st32 t ra rb imm) s fun u =>
      (∃ w, (u.thread (tidKey t) t.th.val).state = .stallSend id w) ∧ u.dev.noc.queues = s.dev.noc.queues ∧
      (u.thread (tidKey t) t.th.val).pc = (s.thread (tidKey t) t.th.val).pc ∧ u.mem = s.mem)

/-- A route's occurrence sends the oldest access that waits on it: where no bundle on its way blocks it, a store's bytes reach their addresses,
and no other byte changes; where one does, it waits at that bundle. -/
def RouteOccurrenceSendsOldest : Prop :=
  ∀ (s : State) (r : RegionId) (route : BitVec 16) (p : Packet) (q : List Packet), s.fabricOn = true →
    Tab.get [] s.dev.noc.queues (r.val * 65536 + route.toNat) = p :: q → p.kind = 1 → p.addrs.Nodup → p.addrs ≠ [] → p.addrs.length ≤ 8 →
    s.islandAt (p.addrs.headD 0) = none → s.ivory (s.domainOf (p.addrs.headD 0)) = true → p.addrs.any s.busyByte = false → s.mem.marks = [] →
    s.stalledOn r.val route.toNat = none → s.occurs r.val route.toNat = true →
    (s.firstBlock r.val route.toNat = none → Completes (.sendQueueRelease r route) s fun u =>
      Tab.get [] u.dev.noc.queues (r.val * 65536 + route.toNat) = q ∧
      (∀ i, i < p.addrs.length → ∀ k, u.mem.read k (p.addrs.getD i 0) = (leBytes 8 p.data.toNat).getD i 0) ∧
      (∀ k a, a ∉ p.addrs → u.mem.read k a = s.mem.read k a) ∧ s.KeepsStore u) ∧
    (∀ c, s.firstBlock r.val route.toNat = some c → Completes (.sendQueueRelease r route) s fun u =>
      Tab.get [] u.dev.noc.queues (r.val * 65536 + route.toNat) = q ∧
      u.dev.noc.deferred = s.dev.noc.deferred ++ [{ key := r.val * 65536 + route.toNat, bundle := c.1, die := c.2.1, slot := c.2.2.1,
                                                    since := s.crossFrame c.2.2.1, packet := p }] ∧
      u.mem = s.mem ∧ u.fab = s.fab ∧ s.KeepsStore u)

/-- Accesses beyond the own scratchpad, and the occurrence of a route that performs the oldest. -/
def Obligations.RemoteAccessesTravel : Prop := RemoteAccessesTakeTheirRoute ∧ RouteOccurrenceSendsOldest

/-- The thread's task has trapped with this code in the site's next vector tick, and the thread stands; where no thread runs a soft maximum,
memory is unchanged. -/
def TrapsWith (s u : State) (t : Tid) (code : Code) : Prop :=
  (∃ x y i, u.threadSlot (tidKey t) t.th.val = some x ∧ x.run.task = some y ∧ y.trap = some (code, i, s.vecNext (tidKey t))) ∧
    ((∀ k, (s.site k).sfu.holder = none) → u.mem = s.mem) ∧ (u.thread (tidKey t) t.th.val).pc = (s.thread (tidKey t) t.th.val).pc ∧ s.KeepsStore u

/-- The task of the thread has not trapped. -/
def NoTrap (s : State) (t : Tid) : Prop := ∀ x y, s.threadSlot (tidKey t) t.th.val = some x → x.run.task = some y → y.trap = none

/-- LD32, ST32 and ATOM32 on an address that is not a multiple of 4 trap with THREAD_ALIGN; an ATOM32 with an operation code above 10, and a word
that no site decodes, trap with THREAD_ILLEGAL. -/
def ThreadTraps : Prop :=
  ∀ (s : State) (t : Tid) (rd ra rb : Reg) (imm : Word), NoTrap s t →
    (Issues s t (enc 0x64 rd.toNat ra.toNat 0 0 imm.toNat) [ra.toNat, ra.toNat + 1, rd.toNat] → ra.toNat % 2 = 0 →
      (s.thread (tidKey t) t.th.val).address ra.toNat imm.toNat % 4 ≠ 0 → Completes (.ld32 t rd ra imm) s fun u =>
        TrapsWith s u t Codes.THREAD_ALIGN) ∧
    (Issues s t (enc 0x6A 0 ra.toNat rb.toNat 0 imm.toNat) [ra.toNat, ra.toNat + 1, rb.toNat] → ra.toNat % 2 = 0 →
      (s.thread (tidKey t) t.th.val).address ra.toNat imm.toNat % 4 ≠ 0 → Completes (.st32 t ra rb imm) s fun u =>
        TrapsWith s u t Codes.THREAD_ALIGN) ∧
    (∀ code : BitVec 6, code.toNat < 9 → Issues s t (enc 0x70 rd.toNat ra.toNat rb.toNat code.toNat imm.toNat) [ra.toNat, ra.toNat + 1, rd.toNat, rb.toNat] →
      ra.toNat % 2 = 0 → (s.thread (tidKey t) t.th.val).address ra.toNat imm.toNat % 4 ≠ 0 → Completes (.atom32 t rd ra rb code imm) s fun u =>
        TrapsWith s u t Codes.THREAD_ALIGN) ∧
    (∀ code : BitVec 6, 10 < code.toNat → Issues s t (enc 0x70 rd.toNat ra.toNat rb.toNat code.toNat imm.toNat) [] →
      Completes (.atom32 t rd ra rb code imm) s fun u => TrapsWith s u t Codes.THREAD_ILLEGAL) ∧
    (∀ w, Issues s t w [] → decodes w = false → Completes (.undecodableInstruction t) s fun u => TrapsWith s u t Codes.THREAD_ILLEGAL)

/-- NOP and the branches: eight bytes on, or eight times the immediate from the instruction; JAL leaves the offset of the next instruction from the
entry, and JR goes to the entry plus ra. -/
def BranchesMoveThePc : Prop :=
  ∀ (s : State) (t : Tid) (rd ra : Reg) (imm : Word),
    (Issues s t 0 [] → Completes (.threadNop t) s fun u => GoesTo s u t ((s.thread (tidKey t) t.th.val).pc + 8)) ∧
    (Issues s t (enc 0x80 0 0 0 0 imm.toNat) [] → Completes (.br t imm) s fun u =>
      GoesTo s u t ((s.thread (tidKey t) t.th.val).pc + 8 * imm.signExtend 48)) ∧
    (Issues s t (enc 0x81 0 ra.toNat 0 0 imm.toNat) [ra.toNat] → Completes (.brz t ra imm) s fun u =>
      GoesTo s u t ((s.thread (tidKey t) t.th.val).pc + (if s.reg t ra = 0 then 8 * imm.signExtend 48 else 8))) ∧
    (Issues s t (enc 0x82 0 ra.toNat 0 0 imm.toNat) [ra.toNat] → Completes (.brnz t ra imm) s fun u =>
      GoesTo s u t ((s.thread (tidKey t) t.th.val).pc + (if s.reg t ra = 0 then 8 else 8 * imm.signExtend 48))) ∧
    (Issues s t (enc 0x83 rd.toNat 0 0 0 imm.toNat) [rd.toNat] → Completes (.jal t rd imm) s fun u =>
      (u.thread (tidKey t) t.th.val).reg rd.toNat =
        ((s.thread (tidKey t) t.th.val).pc + 8 - (s.thread (tidKey t) t.th.val).entry).setWidth 32 ∧
      (∀ n, n ≠ rd.toNat → (u.thread (tidKey t) t.th.val).reg n = (s.thread (tidKey t) t.th.val).reg n) ∧
      (u.thread (tidKey t) t.th.val).pc = (s.thread (tidKey t) t.th.val).pc + 8 * imm.signExtend 48 ∧ OnlyThread s u t) ∧
    (Issues s t (enc 0x84 0 ra.toNat 0 0 0) [ra.toNat] → (s.reg t ra).toNat % 8 = 0 → Completes (.jr t ra) s fun u =>
      GoesTo s u t ((s.thread (tidKey t) t.th.val).entry + (s.reg t ra).setWidth 48)) ∧
    (Issues s t (enc 0x84 0 ra.toNat 0 0 0) [ra.toNat] → (s.reg t ra).toNat % 8 ≠ 0 → NoTrap s t → Completes (.jr t ra) s fun u =>
      TrapsWith s u t Codes.THREAD_ILLEGAL)

/-- A thread whose turn it is runs NOP, BR, BRZ, BRNZ, JAL and JR to their end, and traps where 09 R313, R319 and R320 say so. -/
def Obligations.ThreadTrapsAndBranches : Prop := ThreadTraps ∧ BranchesMoveThePc

/-- EXIT ends the thread, and the task with the last; FWAIT stalls the thread until the flag meets its condition; FSET latches an update of its
region's flag; ISSUE reads its 64 bytes and stalls until the descriptor is accepted. -/
def Obligations.FlagsIssueAndExit : Prop :=
  ∀ (s : State) (t : Tid) (ra q : Reg) (flag : Byte) (cond op : BitVec 2) (imm : Word) (fl cd : Nat) (v : Word) (l : List Nat) (sl : Slot) (x : TaskRun),
    (Issues s t (enc 0x8F 0 0 0 0 0) [] → s.threadSlot (tidKey t) t.th.val = some sl → sl.run.task = some x → x.trap = none →
      x.threads = [(tidKey t, t.th.val)] → sl.rec_.pendingStatus = 0 → Completes (.exit t) s fun u =>
        (u.thread (tidKey t) t.th.val).state = .exited ∧
        (∃ y, u.threadSlot (tidKey t) t.th.val = some y ∧ y.op.state = .latched ∧ y.rec_.status = Codes.OK) ∧ u.mem = s.mem ∧ s.KeepsStore u) ∧
    (Issues s t (enc 0x90 0 ra.toNat 0 0 (flag.toNat + cond.toNat * 256)) [ra.toNat] → Completes (.fwait t ra flag cond) s fun u =>
      u.thread (tidKey t) t.th.val = { s.thread (tidKey t) t.th.val with state := .stallFlag flag.toNat cond.toNat (s.reg t ra) } ∧
      OnlyThread s u t) ∧
    (s.fabricOn = true → s.taskRuns (tidKey t) t.th.val = true → (s.thread (tidKey t) t.th.val).state = .stallFlag fl cd v →
      condHolds cd (s.flag (s.thread (tidKey t) t.th.val).region fl) v = true → Completes (.threadFlagRelease t) s fun u =>
        u.thread (tidKey t) t.th.val =
          { s.thread (tidKey t) t.th.val with state := .running, pc := (s.thread (tidKey t) t.th.val).pc + 8 } ∧
        (∀ th, th ≠ t.th.val → u.thread (tidKey t) th = s.thread (tidKey t) th) ∧ u = { s with fab := { s.fab with sites := u.fab.sites } }) ∧
    (Issues s t (enc 0x91 0 ra.toNat 0 0 (flag.toNat + op.toNat * 256)) [ra.toNat] → Completes (.fset t ra flag op) s fun u =>
      (∃ e, (u.region (s.thread (tidKey t) t.th.val).region).sched.flagUpds =
          (s.region (s.thread (tidKey t) t.th.val).region).sched.flagUpds ++ [e] ∧
        e.source = 4 ∧ e.flag = flag.toNat ∧ e.op = op.toNat ∧ e.value = s.reg t ra) ∧
      u.thread (tidKey t) t.th.val = { s.thread (tidKey t) t.th.val with pc := (s.thread (tidKey t) t.th.val).pc + 8 } ∧ u.mem = s.mem) ∧
    (Issues s t (enc 0x92 q.toNat ra.toNat 0 0 imm.toNat) [ra.toNat, ra.toNat + 1] → ra.toNat % 2 = 0 →
      s.threadAddrs (s.thread (tidKey t) t.th.val).region ((s.thread (tidKey t) t.th.val).address ra.toNat imm.toNat) 64 .load = .ok l →
      (∀ g, s.segOf (s.thread (tidKey t) t.th.val).region ((s.thread (tidKey t) t.th.val).address ra.toNat imm.toNat) 64 = some g →
        ownBytes (tidKey t) [g.phys ((s.thread (tidKey t) t.th.val).address ra.toNat imm.toNat)] = true ∧
        g.phys ((s.thread (tidKey t) t.th.val).address ra.toNat imm.toNat) % 64 = 0) →
      s.mem.bad l = none → q.toNat < s.queueCount (s.thread (tidKey t) t.th.val).region →
      (s.queue (s.thread (tidKey t) t.th.val).region q.toNat).threadFed = true → Completes (.issue t q ra imm) s fun u =>
        u.thread (tidKey t) t.th.val =
          { s.thread (tidKey t) t.th.val with state := .stallIssue q.toNat (l.map (s.mem.read s.free)) } ∧ OnlyThread s u t)

/-! ## Special functions (15) -/

/-- The unit of the thread's vector site takes the function fn: no fault, a mode that allows it, and nobody holds the unit. -/
def UnitTakes (s : State) (t : Tid) (fn : SfuFn) : Prop :=
  siteType t.site.val = .vector ∧ (s.site (tidKey t)).sfuFault = none ∧ (s.site (tidKey t)).sfu.holder = none ∧
    ((∃ d, s.regionDef? (s.thread (tidKey t) t.th.val).region = some d ∧ d.sfuMinimal = true) → fn = .exp2 ∨ fn = .log2) ∧
    (s.image.sepia = true → fn ≠ .geluErf)

/-- The function fn of ra, by the mode's definition, is on its way to rd; the pc moves on. -/
def FunctionForm (op : Nat) (fn : SfuFn) (c : Tid → Reg → Reg → Bool → Instr) : Prop :=
  ∀ (s : State) (t : Tid) (rd ra : Reg) (f32 : Bool), Issues s t (enc op rd.toNat ra.toNat 0 0 (if f32 then 1 else 0)) [rd.toNat, ra.toNat] →
    UnitTakes s t fn → Completes (c t rd ra f32) s fun u =>
      u.thread (tidKey t) t.th.val = { s.thread (tidKey t) t.th.val with
        pc := (s.thread (tidKey t) t.th.val).pc + 8
        outstanding := (s.thread (tidKey t) t.th.val).outstanding ++ [{
          reg := rd.toNat, pair := false, sfu := true,
          value := some (BitVec.ofNat 64
            (if s.image.sepia then sfuSepia fn f32 (s.reg t ra).toNat else sfuFull s.free fn f32 (s.reg t ra).toNat)) }] } ∧
      OnlyThread { s with free := u.free } u t

/-- EXP2, LOG2, RECIP, RSQRT, SIGMOID, TANH, GELU_ERF and GELU_TANH, where the site's unit takes them, send the mode's value of ra on its way to rd.
RECIP traps with THREAD_ILLEGAL at a site without the unit and with SFU_MODE_DENIED in a minimal region, and stalls while a row holds the unit;
GELU_ERF traps with SFU_UNAVAILABLE in a Sepia image; a result that has come (SFU_RESULT) is written to its register. -/
def Obligations.SpecialFunctionForms : Prop :=
  FunctionForm 0xA0 .exp2 .exp2 ∧ FunctionForm 0xA1 .log2 .log2 ∧ FunctionForm 0xA2 .recip .recip ∧ FunctionForm 0xA3 .rsqrt .rsqrt ∧
  FunctionForm 0xA4 .sigmoid .sigmoid ∧ FunctionForm 0xA5 .tanh .tanh ∧ FunctionForm 0xA6 .geluErf .geluErf ∧
  FunctionForm 0xA7 .geluTanh .geluTanh ∧
  (∀ (s : State) (t : Tid) (rd ra : Reg) (f32 : Bool), Issues s t (enc 0xA2 rd.toNat ra.toNat 0 0 (if f32 then 1 else 0)) [rd.toNat, ra.toNat] →
    NoTrap s t →
    (siteType t.site.val ≠ .vector → Completes (.recip t rd ra f32) s fun u => TrapsWith s u t Codes.THREAD_ILLEGAL) ∧
    (siteType t.site.val = .vector → (s.site (tidKey t)).sfuFault = none →
      (∃ d, s.regionDef? (s.thread (tidKey t) t.th.val).region = some d ∧ d.sfuMinimal = true) →
      Completes (.recip t rd ra f32) s fun u => TrapsWith s u t Codes.SFU_MODE_DENIED) ∧
    (siteType t.site.val = .vector → (s.site (tidKey t)).sfuFault = none → (s.site (tidKey t)).sfu.holder ≠ none →
      (∀ d, s.regionDef? (s.thread (tidKey t) t.th.val).region = some d → d.sfuMinimal = false) →
      Completes (.recip t rd ra f32) s fun u => ∃ w, u.thread (tidKey t) t.th.val = { s.thread (tidKey t) t.th.val with state := .stallSfu w } ∧
        OnlyThread s u t)) ∧
  (∀ (s : State) (t : Tid) (rd ra : Reg) (f32 : Bool), Issues s t (enc 0xA6 rd.toNat ra.toNat 0 0 (if f32 then 1 else 0)) [rd.toNat, ra.toNat] →
    NoTrap s t → siteType t.site.val = .vector → (s.site (tidKey t)).sfuFault = none → s.image.sepia = true →
    (∀ d, s.regionDef? (s.thread (tidKey t) t.th.val).region = some d → d.sfuMinimal = false) →
    Completes (.geluErf t rd ra f32) s fun u => TrapsWith s u t Codes.SFU_UNAVAILABLE) ∧
  (∀ (s : State) (t : Tid) (rd : Reg) (p : Pending) (v : Word64), s.fabricOn = true → p.reg = rd.toNat → p.pair = false → p.sfu = true →
    p.value = some v → p.due ≤ s.runSlots → (s.thread (tidKey t) t.th.val).outstanding = [p] → Completes (.sfuResult t rd) s fun u =>
      (u.thread (tidKey t) t.th.val).reg rd.toNat = v.setWidth 32 ∧ (u.thread (tidKey t) t.th.val).outstanding = [] ∧
      (∀ n, n ≠ rd.toNat → (u.thread (tidKey t) t.th.val).reg n = (s.thread (tidKey t) t.th.val).reg n) ∧ u.mem = s.mem)

/-- SOFTMAX of no elements completes at once, counted as a row; one whose areas pass their checks holds the unit. SOFTMAX_COMPLETE, where no word
is damaged, writes the outputs of the row's computation to the destination and the record to its place and nothing else, counts the row and
frees the unit. SFU_UNIT_FREE lets the one thread that waits with a row of no elements go on. -/
def Obligations.SoftmaxRowsAreWritten : Prop :=
  ∀ (s : State) (t : Tid) (ra rb rc : Reg) (n : BitVec 16) (i o m : Bool) (w : Nat) (src dst rec_ : List Nat) (row : Row)
    (h : Nat × Nat × Nat × Nat × Word),
    w = enc 0xA8 0 ra.toNat rb.toNat rc.toNat (n.toNat + (if i then 2 ^ 16 else 0) + (if o then 2 ^ 17 else 0) + (if m then 2 ^ 18 else 0)) →
    (Issues s t w [ra.toNat, ra.toNat + 1, rb.toNat, rb.toNat + 1, rc.toNat, rc.toNat + 1] → ra.toNat % 2 = 0 → rb.toNat % 2 = 0 →
      rc.toNat % 2 = 0 → UnitTakes s t .exp2 → (∀ d, s.regionDef? (s.thread (tidKey t) t.th.val).region = some d → d.sfuMinimal = false) →
      (n = 0 → Completes (.softmax t ra rb rc n i o m) s fun u =>
        u.thread (tidKey t) t.th.val = { s.thread (tidKey t) t.th.val with pc := (s.thread (tidKey t) t.th.val).pc + 8 } ∧
        (u.site (tidKey t)).sfu = { (s.site (tidKey t)).sfu with rows := (s.site (tidKey t)).sfu.rows + 1 } ∧ u.mem = s.mem) ∧
      (n ≠ 0 → s.rowAreas (tidKey t) (s.thread (tidKey t) t.th.val).region ((s.thread (tidKey t) t.th.val).row w) = .ok (src, dst, rec_) →
        Completes (.softmax t ra rb rc n i o m) s fun u =>
          u.thread (tidKey t) t.th.val = { s.thread (tidKey t) t.th.val with state := .softmax } ∧
          (∃ x, (u.site (tidKey t)).sfu.holder = some (t.th.val, ra.toNat, rb.toNat, rc.toNat, x) ∧ x.toNat % 65536 = n.toNat ∧
            (u.site (tidKey t)).sfu = { (s.site (tidKey t)).sfu with holder := some (t.th.val, ra.toNat, rb.toNat, rc.toNat, x) }) ∧
          u.mem = s.mem)) ∧
    (s.fabricOn = true → s.taskRuns (tidKey t) t.th.val = true → (s.site (tidKey t)).sfu.holder = some h → h.1 = t.th.val →
      row = (s.thread (tidKey t) t.th.val).row (enc 0xA8 0 h.2.1 h.2.2.1 h.2.2.2.1 h.2.2.2.2.toNat) →
      s.rowAreas (tidKey t) (s.thread (tidKey t) t.th.val).region row = .ok (src, dst, rec_) → (dst ++ rec_).Nodup → s.mem.marks = [] →
      EventsOutside s (s.thread (tidKey t) t.th.val).region → src.length = row.n * row.inSize → dst.length = row.n * row.outSize → rec_.length = 32 →
      Completes (.softmaxComplete t) s fun u =>
        (∀ j, j < dst.length → ∀ k, u.mem.read k (dst.getD j 0) =
          ((rowCompute s.free row (rowElems row.inSize row.n (src.map (s.mem.read s.free)))).out.flatMap (leBytes row.outSize)).getD j 0) ∧
        (∀ j, j < 32 → ∀ k, u.mem.read k (rec_.getD j 0) =
          (rowCompute s.free row (rowElems row.inSize row.n (src.map (s.mem.read s.free)))).bytes.getD j 0) ∧
        (∀ k a, a ∉ dst ++ rec_ → u.mem.read k a = s.mem.read k a) ∧
        u.thread (tidKey t) t.th.val =
          { s.thread (tidKey t) t.th.val with state := .running, pc := (s.thread (tidKey t) t.th.val).pc + 8 } ∧
        (u.site (tidKey t)).sfu.holder = none ∧ (u.site (tidKey t)).sfu.rows = (s.site (tidKey t)).sfu.rows + 1) ∧
    (∀ x : SiteRef, s.fabricOn = true → (s.site (siteRefKey x)).sfu.holder = none → siteRefKey x = tidKey t →
      s.stalledSfu (tidKey t) = [(t.th.val, w)] → s.taskRuns (tidKey t) t.th.val = true → n = 0 →
      siteType t.site.val = .vector → (s.site (tidKey t)).sfuFault = none →
      (∀ d, s.regionDef? (s.thread (tidKey t) t.th.val).region = some d → d.sfuMinimal = false) →
      Completes (.sfuUnitFree x) s fun u =>
        u.thread (tidKey t) t.th.val =
          { s.thread (tidKey t) t.th.val with state := .running, pc := (s.thread (tidKey t) t.th.val).pc + 8 } ∧
        (u.site (tidKey t)).sfu.holder = none ∧ u.mem = s.mem)

/-! ## Spin sites (10, 11, 12) -/

/-- The site works for the running operation of that slot. -/
def WorksFor (s : State) (k : Nat) (key : OpKey) (sl : Slot) (a : AnnealRun) : Prop := s.fabricOn = true ∧ s.spinSlot k = some (key, sl, a)

/-- No site but those of the list has changed, and no byte of memory. -/
def OtherSitesKeep (s u : State) (ks : List Nat) : Prop := (∀ j, j ∉ ks → u.site j = s.site j) ∧ u.mem = s.mem ∧ s.KeepsStore u

/-- An ANNEAL or a SAMPLE that passes its checks takes its sites: each starts from its starting state or from what it held, with the energy of its
rows, and window 0. -/
def TakesSites (t : DescType) (c : OpRef → Instr) : Prop :=
  ∀ (s : State) (o : OpRef) (sl : Slot), Dispatches s o t sl → sl.run.anneal = none → (s.annealSites o.region.val sl.op).Nodup →
    s.spinFault (s.annealSites o.region.val sl.op) = none → s.crossesLinks (s.annealSites o.region.val sl.op) = false →
    (∀ e, s.annealRefused o.region.val sl.op = some e → Completes (c o) s fun u => EndedWith s u o e.1 0) ∧
    (s.annealRefused o.region.val sl.op = none → (∀ n ∈ s.siteDomains (s.annealSites o.region.val sl.op), s.ivory n = true) →
      ((∃ k ∈ s.annealSites o.region.val sl.op, (s.startUnread sl.op k).isSome = true) → Completes (c o) s fun u =>
        EndedWith s u o Codes.MEM_UNCORRECTABLE s.dev.faults.next) ∧
      ((∀ k ∈ s.annealSites o.region.val sl.op, s.startUnread sl.op k = none) →
        (∃ k ∈ s.annealSites o.region.val sl.op, s.refsOk k sl.op.spins = false) → Completes (c o) s fun u =>
        EndedWith s u o Codes.ANL_BAD_REF 0) ∧
      ((∀ k ∈ s.annealSites o.region.val sl.op, s.startUnread sl.op k = none ∧ s.refsOk k sl.op.spins = true) →
        ((s.annealSites o.region.val sl.op).map (fun k => s.magnitude k sl.op.spins)).sum < 2 ^ 47 → Completes (c o) s fun u =>
          RunsNow s u o ∧ (∀ j, j ∉ s.annealSites o.region.val sl.op → u.site j = s.site j) ∧ MemoryStays s u o.region.val ∧
          ∀ k ∈ s.annealSites o.region.val sl.op,
            (u.site k).spin.committed = (if sl.op.initEn then BitVec.ofNat 4096 (leNat (s.areaBytes k sl.op.initOff 512)) else (s.site k).spin.committed) ∧
            (u.site k).spin.op = some (o.region.val, sl.op.queue, sl.op.seq) ∧ (u.site k).spin.work.active = true ∧ (u.site k).spin.work.window = 0 ∧
            (u.site k).spin.work.cur = (u.site k).spin.committed ∧
            (u.site k).spin.tally.energy = (List.range sl.op.reps).map (fun r => s.partialEnergy k (u.site k).spin sl.op.spins r)))

/-- ANNEAL and SAMPLE at their dispatch. -/
def AnnealsTakeTheirSites : Prop := TakesSites .anneal .anneal ∧ TakesSites .sample .sample

/-- An ordinary update slot that reads no uncorrectable word changes the working value of exactly those listed spins that their evaluation flips and that no lower spin cancels; the
committed state stays; in the window's last slot its update slots are over (11 R436, R451). A window starts, at a slot boundary, from the
committed state with nothing flipped. -/
def Obligations.UpdateSlotsFlipTheirSpins : Prop :=
  ∀ (s : State) (x : SiteRef) (key : OpKey) (sl : Slot) (a : AnnealRun), WorksFor s (siteRefKey x) key sl a →
    ((s.site (siteRefKey x)).spin.work.active = true → (s.site (siteRefKey x)).spin.work.committed = false →
      (s.site (siteRefKey x)).spin.work.claimsSent = false → (s.site (siteRefKey x)).spin.work.repairDue = false →
      (s.site (siteRefKey x)).spin.work.slotsOver = false → (s.site (siteRefKey x)).spin.work.lanes ∈ [8, 16, 32] →
      (s.site (siteRefKey x)).spin.work.uslot < sweepSlots (s.site (siteRefKey x)).spin.work.lanes →
      (s.site (siteRefKey x)).spin.work.sweep < s.opSweeps (a.sites.headD 0) sl.op →
      s.rowsUnread (siteRefKey x) (fun i => (slotBits (s.site (siteRefKey x)).spin.work.lanes (s.site (siteRefKey x)).spin.work.uslot).any
        (fun b => b % sl.op.spins = i)) = none → Completes (.updateSlot x) s fun u =>
        (∀ b, b < 4096 → ((u.site (siteRefKey x)).spin.work.cur.getLsbD b ≠ (s.site (siteRefKey x)).spin.work.cur.getLsbD b ↔
          b ∈ slotBits (s.site (siteRefKey x)).spin.work.lanes (s.site (siteRefKey x)).spin.work.uslot ∧
          (s.evaluate key sl.op a (siteRefKey x) (s.site (siteRefKey x)).spin 0 b).2 = true ∧
          b ∉ s.sameSlot (siteRefKey x) sl.op.spins ((slotBits (s.site (siteRefKey x)).spin.work.lanes (s.site (siteRefKey x)).spin.work.uslot).filter
            (fun c => (s.evaluate key sl.op a (siteRefKey x) (s.site (siteRefKey x)).spin 0 c).2)))) ∧
        (u.site (siteRefKey x)).spin.work.inWindow = (s.site (siteRefKey x)).spin.work.inWindow + 1 ∧
        (u.site (siteRefKey x)).spin.work.slotsOver = s.windowOver (s.site (siteRefKey x)).spin.work ∧
        (u.site (siteRefKey x)).spin.committed = (s.site (siteRefKey x)).spin.committed ∧
        (u.site (siteRefKey x)).spin.ghosts = (s.site (siteRefKey x)).spin.ghosts ∧ OtherSitesKeep s u [siteRefKey x]) ∧
    (s.atBoundary = true → (s.site (siteRefKey x)).spin.work.active = true → (s.site (siteRefKey x)).spin.work.committed = true → a.decisions = [] →
      s.windowMayStart key sl.op a (siteRefKey x) = true → Completes (.windowStart x) s fun u =>
        (u.site (siteRefKey x)).spin.work.window = (s.site (siteRefKey x)).spin.work.window + 1 ∧
        (u.site (siteRefKey x)).spin.work.cur = (s.site (siteRefKey x)).spin.committed ∧ (u.site (siteRefKey x)).spin.work.flips = [] ∧
        (u.site (siteRefKey x)).spin.work.committed = false ∧ (u.site (siteRefKey x)).spin.work.claimsSent = false ∧
        (u.site (siteRefKey x)).spin.work.slotsOver = false ∧ (u.site (siteRefKey x)).spin.work.inWindow = 0 ∧
        (u.site (siteRefKey x)).spin.work.began = s.runSlots ∧
        (u.site (siteRefKey x)).spin.committed = (s.site (siteRefKey x)).spin.committed ∧ OtherSitesKeep s u [siteRefKey x])

/-- At a slot boundary after the window's update slots (in Slate after its whole allotment), the claims of a site's one local export go to the site
that imports them, and are there when their last packet has come the route's whole way; claims, and committed values, of a window that are
there are taken: the values into the stream's ghosts and no others. -/
def Obligations.ClaimsAndValuesTravel : Prop :=
  ∀ (s : State) (x : SiteRef) (n : Fin 64) (key : OpKey) (sl : Slot) (a : AnnealRun) (e st : Stream) (i : Nat) (b : StreamMsg),
    WorksFor s (siteRefKey x) key sl a →
    (s.atBoundary = true → (s.site (siteRefKey x)).spin.work.active = true → (s.site (siteRefKey x)).spin.work.claimsSent = false →
      (s.site (siteRefKey x)).spin.work.repairDue = false → (s.site (siteRefKey x)).spin.work.slotsOver = true →
      (s.dev.aux.slateInForce = true → (s.site (siteRefKey x)).spin.work.began + (s.site (siteRefKey x)).spin.work.allotment ≤ s.runSlots) →
      s.exports (siteRefKey x) = [e] → e.remote = false → s.takesPart key e.peer = true → s.importOf (siteRefKey x) e = some (st, i) →
      e.peer ≠ siteRefKey x → Completes (.claimsSend x) s fun u =>
        (u.site (siteRefKey x)).spin = { (s.site (siteRefKey x)).spin with work :=
          { (s.site (siteRefKey x)).spin.work with claimsSent := true } } ∧
        (u.site e.peer).spin = { (s.site e.peer).spin with inbox := (s.site e.peer).spin.inbox ++
          [{ stream := i, window := (s.site (siteRefKey x)).spin.work.window, claims := true
             bits := exportBits sl.op.reps sl.op.spins (s.exportList (siteRefKey x)) e
               (fun b => (s.site (siteRefKey x)).spin.work.flips.any (fun f => f.bit = b && !f.cancelled))
             due := s.leaves key.1 e.route (e.packets sl.op.reps) + s.routeLength key.1 e.route }] } ∧
        OtherSitesKeep s u [siteRefKey x, e.peer]) ∧
    ((s.imports (siteRefKey x))[n.val]? = some e → e.remote = false → s.streamLive key a.multi e = true →
      ((s.site (siteRefKey x)).spin.work.active = true →
        (∀ c ∈ (s.site (siteRefKey x)).spin.work.claims, ¬ (c.1 = (s.site (siteRefKey x)).spin.work.window ∧ c.2.1 = n.val)) →
        (s.site (siteRefKey x)).spin.inbox = [b] → b.stream = n.val → b.due ≤ s.runSlots → b.window = (s.site (siteRefKey x)).spin.work.window →
        b.claims = true →
        Completes (.claimsArrive x n) s fun u =>
          (u.site (siteRefKey x)).spin = { (s.site (siteRefKey x)).spin with inbox := [], work := { (s.site (siteRefKey x)).spin.work with
            claims := (s.site (siteRefKey x)).spin.work.claims ++ [(b.window, n.val, b.bits)] } } ∧ OtherSitesKeep s u [siteRefKey x]) ∧
      ((s.site (siteRefKey x)).spin.inbox = [b] → b.stream = n.val → b.due ≤ s.runSlots → b.claims = false → sl.op.reps ≤ 16 →
        (s.dev.aux.slateInForce = true → (s.site (siteRefKey x)).spin.work.committed = true ∧ b.window = (s.site (siteRefKey x)).spin.work.window) →
        ((∀ d ∈ (s.site (siteRefKey x)).spin.tally.due, d.window = b.window → d.awaited.contains n.val = false) ∨
          s.areaUnread (siteRefKey x) sl.op.pairOff (4 * sl.op.pairCount) = none) →
        Completes (.ghostValuesArrive x n) s fun u =>
          (∀ q r, q < e.count → r < sl.op.reps → (Tab.get 0 (u.site (siteRefKey x)).spin.ghosts (e.first + q)).getLsbD r =
            b.bits.contains (q * sl.op.reps + r)) ∧
          (∀ g, g < e.first ∨ e.first + e.count ≤ g → Tab.get 0 (u.site (siteRefKey x)).spin.ghosts g =
            Tab.get 0 (s.site (siteRefKey x)).spin.ghosts g) ∧
          (u.site (siteRefKey x)).spin.inbox = [] ∧ (u.site (siteRefKey x)).spin.work.valuesIn.contains (b.window, n.val) = true ∧
          (u.site (siteRefKey x)).spin.committed = (s.site (siteRefKey x)).spin.committed ∧ OtherSitesKeep s u [siteRefKey x]))

/-- A commit, at a slot boundary with the window's claims held, rolls back every uncancelled flip whose row names a lower site's claimed ghost: the
spin keeps its value at the window's start and waits for repair. A window without ghost rows and stale flips commits every spin that was flipped
an odd number of times, and adds the flips' energies. -/
def Obligations.CommitsKeepOrRollBack : Prop :=
  ∀ (s : State) (x : SiteRef) (key : OpKey) (sl : Slot) (a : AnnealRun), WorksFor s (siteRefKey x) key sl a →
    (s.site (siteRefKey x)).spin.work.active = true → (s.site (siteRefKey x)).spin.work.claimsSent = true →
    (s.site (siteRefKey x)).spin.work.committed = false → s.atBoundary = true → a.abandons (s.site (siteRefKey x)).spin.work = false →
    s.claimsHeld key a (siteRefKey x) = true →
    (sl.op.isSample = true → s.areaUnread (siteRefKey x) sl.op.pairOff (4 * sl.op.pairCount) = none) →
    Completes (.windowCommit x) s fun u =>
      (u.site (siteRefKey x)).spin.work.committed = true ∧
      (u.site (siteRefKey x)).spin.tally.windows = (s.site (siteRefKey x)).spin.tally.windows + 1 ∧
      (∀ f ∈ (s.site (siteRefKey x)).spin.work.flips, f.cancelled = false →
        s.claimRolled (siteRefKey x) sl.op.reps sl.op.spins (s.site (siteRefKey x)).spin.work f.bit = true →
        (u.site (siteRefKey x)).spin.committed.getLsbD f.bit = (s.site (siteRefKey x)).spin.work.start.getLsbD f.bit ∧
        f.bit ∈ (u.site (siteRefKey x)).spin.work.repair) ∧
      ((∀ i, ∀ e ∈ s.spinRow (siteRefKey x) i, e.2 < 4096) → (∀ f ∈ (s.site (siteRefKey x)).spin.work.flips, f.stale = false) →
        (∀ b, b < 4096 → ((u.site (siteRefKey x)).spin.committed.getLsbD b ≠ (s.site (siteRefKey x)).spin.work.start.getLsbD b ↔
          ((s.site (siteRefKey x)).spin.work.flips.filter (fun f => !f.cancelled && f.bit = b)).length % 2 = 1)) ∧
        (u.site (siteRefKey x)).spin.tally.energy = addEnergies sl.op.spins
          ((s.site (siteRefKey x)).spin.work.flips.filter (fun f => !f.cancelled)) (s.site (siteRefKey x)).spin.tally.energy) ∧
      u.mem = s.mem ∧ s.KeepsStore u

/-- The slot of an operation after a command that changed the run of its ANNEAL. -/
def RunBecomes (u : State) (key : OpKey) (sl : Slot) (a : AnnealRun) : Prop :=
  ∃ y, u.slotOf key.1 key.2.1 key.2.2 = some y ∧ y.run.anneal = some a ∧ y.op = sl.op

/-- An exchange decision reaches the site; a stop is asked for once, at the first window that no site has started, but of the partners first in a
multi-package operation in Ochre mode; window 0 waits for SYNC_IN where the package owns it, and an edge is a frame mark for the region that owns
it; and marks go up and arrive. -/
def Obligations.DecisionsStopsAndMarks : Prop :=
  ∀ (s : State) (x : SiteRef) (o : OpRef) (p : PortId) (key : OpKey) (sl : Slot) (a : AnnealRun) (c : Code) (cause : StopCause)
    (d : Nat × List Nat × List Nat) (l : Nat) (m : EpochMark) (r w : Nat),
    (WorksFor s (siteRefKey x) key sl a → a.decisions = [d] → d.2.2.contains (siteRefKey x) = false →
      (∀ v ∈ a.decisionDue, v.1 = d.1 → v.2.1 = siteRefKey x → v.2.2 ≤ s.runSlots) →
      Completes (.exchangeDecisionArrive x) s fun u =>
        RunBecomes u key sl { a with decisions := [(d.1, d.2.1, d.2.2 ++ [siteRefKey x])] } ∧ OtherSitesKeep s u []) ∧
    (s.fabricOn = true → s.slotAt o = some sl → sl.op.state = .running → sl.run.anneal = some a →
      s.stopStatus o.region.val sl a cause = some c → cause ≠ .lateExchange → a.stopWindow = none → a.stopAsked = false →
      Completes (.stopRequest o cause) s fun u => OtherSitesKeep s u [] ∧
        RunBecomes u (o.region.val, o.queue.val, o.seq) sl
          (if a.multi && !s.dev.aux.slateInForce then { a with stopAsked := true, stopCode := c }
           else { a with stopWindow := some (s.stopAt a), stopCode := c })) ∧
    (s.fabricOn = true → s.slotAt o = some sl → sl.op.state = .running → sl.run.anneal = some a → a.multi = true → s.nextMark a = some w →
      (s.upHeld o.region.val a w = true ∨ (s.dev.aux.slateInForce = false ∧ w ≠ startMark)) → (s.parentEdge o.region.val).isSome = true → Completes (.epochMarkSend o) s fun u =>
        RunBecomes u (o.region.val, o.queue.val, o.seq) sl
          { a with epochSent := a.epochSent ++ [w], markDisturb := sl.rec_.disturbance } ∧ OtherSitesKeep s u []) ∧
    (s.fabricOn = true → s.dev.lnk.marksIn = [(p.val, l, m)] → s.markOp l = some (r, sl, a) → s.slotOf r sl.op.queue sl.op.seq = some sl →
      m.tag.toNat = sl.op.field 1 15 0 → m.disturbed = false → m.up = true → m.stop = false → Completes (.epochMarkArrive p) s fun u =>
        RunBecomes u (r, sl.op.queue, sl.op.seq) sl { a with upMarks := a.upMarks ++ [(l, m.window.toNat, false, false)] } ∧
        u.dev.lnk.marksIn = [] ∧ OtherSitesKeep s u []) ∧
    (s.fabricOn = true → s.dev.shared.syncInOwner = 1 → s.regionIds = [r] → s.slots r = [sl] → sl.run.anneal = some a → a.multi = true →
      a.downStart = true → Completes .syncInEdge s fun u =>
        RunBecomes u (r, sl.op.queue, sl.op.seq) sl { a with started := true } ∧ OtherSitesKeep s u []) ∧
    (s.fabricOn = true → s.dev.shared.syncInOwner.toNat = 0x20 + r → Completes .syncInEdge s fun u =>
      (u.region r).aux.marksDue = (1, 0, s.dev.clk.tick) :: (s.region r).aux.marksDue ∧ OtherSitesKeep s u []) ∧
    (s.dev.shared.syncInOwner = 0 → Completes .syncInEdge s fun u => u = s)

/-- An operation whose sites have all made their last commit ends: its readout and report are written, each site's committed state first, no other
byte changes, and it latches OK, or ANL_ASYMMETRIC where the recomputed energy differs; its result is the sweeps that every site has done. -/
def AnnealsEndWithTheirReadout : Prop :=
  ∀ (s : State) (o : OpRef) (sl : Slot) (a : AnnealRun) (e : AnnealEnd) (code : Code) (cells : List (Nat × Byte)),
    s.fabricOn = true → s.slotAt o = some sl → sl.op.state = .running → sl.run.anneal = some a →
    s.annealQuiet (o.region.val, o.queue.val, o.seq) sl.op a = true → s.epochsSent a = true → a.stopWindow = none → a.updatesBegan = true →
    sl.rec_.pendingStatus = 0 → s.mem.marks = [] → e = s.annealEnd sl a →
    code = (if e.asymmetric then Codes.ANL_ASYMMETRIC else Codes.OK) → cells = (s.annealOutput sl a code).1 → (cells.map (·.1)).Nodup →
    (∀ p ∈ cells, s.islandAt p.1 = none ∧ s.ivory (s.domainOf p.1) = true ∧ s.busyByte p.1 = false) →
    Completes (.annealComplete o) s fun u =>
      (∃ y, u.slotAt o = some y ∧ y.op.state = .latched ∧ y.rec_.status = code ∧ y.rec_.result = BitVec.ofNat 32 e.sweeps) ∧
      (∀ k ∈ a.sites, ∀ i, i < 512 → ∀ n, u.mem.read n (s.areaAddr k sl.op.readoutOff i) =
        ((s.site k).spin.committed >>> (8 * i)).setWidth 8) ∧
      (∀ p ∈ cells, ∀ n, u.mem.read n p.1 = p.2) ∧ (∀ n b, b ∉ cells.map (·.1) → u.mem.read n b = s.mem.read n b) ∧
      (∀ k, u.site k = s.site k) ∧ s.KeepsStore u

/-- An anneal from its dispatch to its readout. -/
def Obligations.AnnealsBeginAndEnd : Prop := AnnealsTakeTheirSites ∧ AnnealsEndWithTheirReadout

/-- A noise self-test, in a background slot that reaches the site, whose three words are those of 11 R427's generator only counts; another result takes the site out of service, with a fault. -/
def Obligations.NoiseSelfTestsJudgeTheSite : Prop :=
  ∀ (s : State) (x : SiteRef) (r : Nat) (z0 z1 z2 : Word64), s.fabricOn = true → s.isSpin x.die.val x.site.val = true →
    s.siteRegion? x.die.val x.site.val = some r → s.ivory (s.siteDomain x.die.val x.site.val) = true → s.bgHere x.die.val x.site.val = true →
    ([z0, z1, z2] = [lmf64 0 0 0 0, lmf64 0 0 1 0, lmf64 0 1 0 0] → Completes (.noiseSelfTest x z0 z1 z2) s fun u =>
      u.die x.die.val = { s.die x.die.val with testsRun := (s.die x.die.val).testsRun + 1 } ∧
      u = { s with
        fab := { s.fab with dies := u.fab.dies }
        dev := { s.dev with noc := { s.dev.noc with starved := u.dev.noc.starved, bgLast := u.dev.noc.bgLast } } }) ∧
    ([z0, z1, z2] ≠ [lmf64 0 0 0 0, lmf64 0 0 1 0, lmf64 0 1 0 0] → (s.site (siteRefKey x)).noise = none →
      (s.site (siteRefKey x)).spin.op = none → Completes (.noiseSelfTest x z0 z1 z2) s fun u =>
        (u.die x.die.val).testsRun = (s.die x.die.val).testsRun + 1 ∧ (u.die x.die.val).failures = satAdd (s.die x.die.val).failures 1 ∧
        (u.die x.die.val).lastSite = BitVec.ofNat 8 x.site.val ∧ (u.die x.die.val).noiseFailed = true ∧
        (∃ f, (u.site (siteRefKey x)).noise = some f ∧ f.code = Codes.ANL_NOISE_FAULT ∧ f.faultId = s.dev.faults.next) ∧
        (u.site (siteRefKey x)).spin = (s.site (siteRefKey x)).spin ∧
        (EventsOutside s r → u.mem = s.mem ∧ u.dev.faults.count = satAdd s.dev.faults.count 1) ∧ s.KeepsStore u)

/-! ## Matrix sites (13) -/

/-- An I8 operand of a site's area, as a number. -/
def i8At (s : State) (k base off : Nat) : Int := (s.mem.read s.free (s.areaAddr k base off)).toInt

/-- The MATRIX of a site's array or shadow set. -/
def MatrixIn (s : State) (h : Option OpKey) (key : OpKey) (sl : Slot) (m : MatRun) : Prop :=
  s.fabricOn = true ∧ h = some key ∧ s.slotOf key.1 key.2.1 key.2.2 = some sl ∧ sl.run.matrix = some m ∧ sl.op.state = .running

/-- The run of an operation's matrix afterwards. -/
def MatrixBecomes (u : State) (key : OpKey) (m : MatRun) : Prop := ∃ y, u.slotOf key.1 key.2.1 key.2.2 = some y ∧ y.run.matrix = some m

/-- Every byte of these addresses can be reached. -/
def Reached (s : State) (l : List Nat) : Prop := s.mem.marks = [] ∧ ∀ a ∈ l, s.islandAt a = none ∧ s.ivory (s.domainOf a) = true

/-- A MATRIX that fails a check ends with the check's code; one that passes takes its site's array with no group done,
where no word of memory is damaged. -/
def Obligations.MatricesTakeTheirArray : Prop :=
  ∀ (s : State) (o : OpRef) (sl : Slot), Dispatches s o .matrix sl → sl.run.matrix = none →
    (∀ e, s.matrixRefused o.region.val sl.op = some e → Completes (.matrix o) s fun u => EndedWith s u o e.1 e.2) ∧
    (s.matrixRefused o.region.val sl.op = none → s.matrixBarred sl.op = none → sl.op.accIn = false → s.mem.marks = [] → Completes (.matrix o) s fun u =>
      RunsNow s u o ∧ (u.site sl.op.matSite).mat.array = some (o.region.val, sl.op.queue, sl.op.seq) ∧ MemoryStays s u o.region.val ∧
      (∃ m, MatrixBecomes u (o.region.val, sl.op.queue, sl.op.seq) m ∧ m.group = 0 ∧ m.repeats = 0 ∧ m.accDone = false ∧
        m.banks = List.replicate sl.op.outputs (some 0)) ∧
      ∀ k, k ≠ sl.op.matSite → u.site k = s.site k)

/-- One promotion group of an integer product adds to each bank the exact sum of its operands' products, shifted; when accumulation has ended the
banks move to an empty shadow set and the array is free; and the drain of raw outputs writes each bank's 48 bits and nothing else. -/
def Obligations.MatrixBanksAddMoveAndDrain : Prop :=
  ∀ (s : State) (x : SiteRef) (key : OpKey) (sl : Slot) (m : MatRun) (ts : List Nat) (sum : Nat → Int),
    (MatrixIn s (s.site (siteRefKey x)).mat.array key sl m → m.accDone = false → sl.op.matKind = .product → sl.op.exact = false →
      sl.op.floating = false → sl.op.aFmt = 0 → sl.op.bFmt = 0 → m.quant = [] → m.rows = 32 → m.group * 16 < sl.op.kLen →
      ts = upFrom (m.group * 16) (min 16 (sl.op.kLen - m.group * 16)) →
      Reached s (ts.flatMap (fun t => (List.range 32).flatMap (fun i =>
        [s.areaAddr sl.op.matSite sl.op.aOff (t * sl.op.aStride + i), s.areaAddr sl.op.matSite sl.op.bOff (t * sl.op.bStride + i)]))) →
      (∀ e, sum e = (m.banks.getD e (some 0)).getD 0 + shift48 ((ts.map (fun t =>
        i8At s sl.op.matSite sl.op.aOff (t * sl.op.aStride + e / 32) *
        i8At s sl.op.matSite sl.op.bOff (t * sl.op.bStride + e % 32))).sum) (sl.op.inShift - m.repeats)) →
      (∀ e, e < sl.op.outputs → -(2 ^ 47) ≤ sum e ∧ sum e < 2 ^ 47) → Completes (.matrixPromotion x) s fun u =>
        (∃ n, MatrixBecomes u key n ∧ n.group = m.group + 1 ∧ n.repeats = m.repeats ∧
          n.banks = (List.range sl.op.outputs).map (fun e => some (sum e))) ∧
        u.mem = s.mem ∧ (∀ k, u.site k = s.site k) ∧ s.KeepsStore u) ∧
    (MatrixIn s (s.site (siteRefKey x)).mat.array key sl m → m.accDone = false → m.group = m.groups sl.op →
      Completes (.matrixAccumulationEnd x) s fun u =>
        MatrixBecomes u key { m with accDone := true } ∧
        ((s.site (siteRefKey x)).mat.shadow = none →
          (u.site (siteRefKey x)).mat = { (s.site (siteRefKey x)).mat with array := none, shadow := some key }) ∧
        ((s.site (siteRefKey x)).mat.shadow ≠ none → (u.site (siteRefKey x)).mat = (s.site (siteRefKey x)).mat) ∧ u.mem = s.mem) ∧
    (MatrixIn s (s.site (siteRefKey x)).mat.array key sl m → m.accDone = true → (s.site (siteRefKey x)).mat.shadow = none →
      Completes (.shadowSetFree x) s fun u =>
        u.site (siteRefKey x) = { s.site (siteRefKey x) with mat := { (s.site (siteRefKey x)).mat with array := none, shadow := some key } } ∧
        (∀ k, k ≠ siteRefKey x → u.site k = s.site k) ∧ u = { s with fab := { s.fab with sites := u.fab.sites } }) ∧
    (MatrixIn s (s.site (siteRefKey x)).mat.shadow key sl m → m.accDone = true → sl.op.outKind = 1 → m.quant = [] →
      m.banks = (List.range sl.op.outputs).map (fun e => some (sum e)) → sl.rec_.pendingStatus = 0 → sl.op.outputs % 32 = 0 →
      ((List.range (sl.op.outputs * 8)).map (fun i => s.areaAddr sl.op.matSite sl.op.outOff (i / 256 * sl.op.outStride + i % 256))).Nodup →
      Reached s ((List.range (sl.op.outputs * 8)).map (fun i => s.areaAddr sl.op.matSite sl.op.outOff (i / 256 * sl.op.outStride + i % 256))) →
      (∀ i, i < sl.op.outputs * 8 → s.busyByte (s.areaAddr sl.op.matSite sl.op.outOff (i / 256 * sl.op.outStride + i % 256)) = false) →
      Completes (.matrixDrainEnd x) s fun u =>
        (∃ y, u.slotOf key.1 key.2.1 key.2.2 = some y ∧ y.op.state = .latched ∧ y.rec_.status = Codes.OK) ∧
        (u.site (siteRefKey x)).mat = { (s.site (siteRefKey x)).mat with shadow := none } ∧
        (∀ e i, e < sl.op.outputs → i < 8 → ∀ n,
          u.mem.read n (s.areaAddr sl.op.matSite sl.op.outOff (e / 32 * sl.op.outStride + (e % 32 * 8 + i))) =
            BitVec.ofNat 8 (patternOf 48 (sum e) / 256 ^ i)) ∧
        (∀ n a, a ∉ (List.range (sl.op.outputs * 8)).map (fun i =>
          s.areaAddr sl.op.matSite sl.op.outOff (i / 256 * sl.op.outStride + i % 256)) → u.mem.read n a = s.mem.read n a) ∧ s.KeepsStore u)

/-! ## Vision engines (16, 17) -/

/-- The graph that runs on an engine of a die, in its slot. -/
def OnEngine (s : State) (d : DieId) (stereo : Bool) (k : OpKey) (sl : Slot) (v : VisRun) : Prop :=
  s.fabricOn = true ∧ s.graphOn d.val stereo = some (k, sl, v) ∧ s.slotOf k.1 k.2.1 k.2.2 = some sl ∧ sl.run.vis = some v

/-- The graph's run afterwards. -/
def GraphBecomes (u : State) (k : OpKey) (p : VisRun → Prop) : Prop :=
  ∃ y w, u.slotOf k.1 k.2.1 k.2.2 = some y ∧ y.run.vis = some w ∧ p w

/-- The graph's marks and waits afterwards. -/
def MarksBecome (u : State) (k : OpKey) (p : VisGroupRun → Prop) : Prop := ∃ y, u.slotOf k.1 k.2.1 k.2.2 = some y ∧ p y.run.group

/-- At a slot boundary, where no word of memory is damaged: a node of this kind that passes its checks runs with its parameter block, and its
feature owns the die's output buffer; where no plane streams, no byte of memory changes. One that fails a check is counted at its engine with
the check's code; an empty one completes with OK, and adds 1 to its done flag where done_en is set (16 R629). -/
def NodeStarts (kind : VisKind) (c : DieId → Instr) : Prop :=
  ∀ (s : State) (d : DieId) (k : OpKey) (sl : Slot) (v : VisRun) (b : List Byte), OnEngine s d (kind == .stereo) k sl v →
    s.atBoundary = true → v.inFrame = true → v.nodeState = .idle → nodeKind v v.node = some kind → s.mem.marks = [] →
    s.visBlock k.1 (nodeParams v v.node) = some b →
    (visEmpty kind b = true → Completes (c d) s fun u =>
      (if kind = .stereo then (u.die v.die).steNodes = (s.die v.die).steNodes + 1 ∧ (u.die v.die).steStatus = (s.die v.die).steStatus
       else (u.die v.die).featNodes = (s.die v.die).featNodes + 1 ∧ (u.die v.die).featStatus = (s.die v.die).featStatus) ∧
      (u.region k.1).sched.flagUpds = (s.region k.1).sched.flagUpds ++ (if bitAt (wordAt b 14) 8 then
        [{ source := 3, sub := 2 * v.die + (if v.stereo then 1 else 0), flag := bitsOf (wordAt b 14) 7 0, op := 1, value := 1 }] else []) ∧
      u.mem = s.mem ∧ s.KeepsStore u) ∧
    (∀ e, visEmpty kind b = false → s.visRefused k.1 d.val (kind == .stereo) kind b (sl.op.groupId ≠ 0) (nodeGroup v v.node) = some e → e ≠ Codes.OK → Completes (c d) s fun u =>
      (if kind = .stereo then (u.die v.die).steNodes = (s.die v.die).steNodes + 1 ∧ (u.die v.die).steStatus = e
       else (u.die v.die).featNodes = (s.die v.die).featNodes + 1 ∧ (u.die v.die).featStatus = e) ∧ u.mem = s.mem ∧ s.KeepsStore u) ∧
    (visEmpty kind b = false → s.visRefused k.1 d.val (kind == .stereo) kind b (sl.op.groupId ≠ 0) (nodeGroup v v.node) = none →
      (∀ x ∈ visOperands kind b, s.ivory (s.domainOf (s.visPhys k.1 x.base)) = true) → Completes (c d) s fun u =>
        GraphBecomes u k (fun w => w.params = b ∧ w.node = v.node ∧ w.frame = v.frame ∧ w.inFrame = true ∧ w.nodeState ≠ .idle) ∧
        Tab.get (0, 0) u.dev.shared.visBuf d.val = (k.1, if kind = .stereo then 2 else 1) ∧
        ((∀ p e o, .plane p e o ∈ visOperands kind b → p.streamed = false) →
          GraphBecomes u k (fun w => w.nodeState = .busy ∧ w.taken = []) ∧ u.mem = s.mem) ∧ s.KeepsStore u)

/-- The five kinds of node at their start. -/
def VisionNodesStart : Prop :=
  NodeStarts .pyramid .pyramid ∧ NodeStarts .detect .detect ∧ NodeStarts .describe .describe ∧ NodeStarts .matching .matchNode ∧
  NodeStarts .stereo .stereo

/-- The records of n bytes of a list at a device address, of which its header gives the count. -/
def listRecords (s : State) (a cap n : Nat) : List (List Byte) :=
  (List.range (min cap (leNat (s.mem.gather s.free (s.linAddrs a 16) |>.take 4)))).map fun i =>
    ((s.mem.gather s.free ((s.linAddrs a (16 + min cap (leNat (s.mem.gather s.free (s.linAddrs a 16) |>.take 4)) * n)).drop 16)).drop (i * n)).take n

/-- A VISION_GRAPH with nothing to do ends with OK, one that fails a check with its code, and another holds its engine,
where no word of memory is damaged. At a mark, or at once, its
frame starts at a slot boundary; where every byte can be reached, a MATCH node's end writes its records to their list and nothing else; a
DETECT that waited for a row goes on with the rows that have come. -/
def VisionGraphsRunTheirFrames : Prop :=
  ∀ (s : State) (o : OpRef) (sl : Slot) (d : DieId) (st : Bool) (k : OpKey) (v : VisRun) (nodes : List (List Byte)) (c : Code) (bs : List Byte) (l : List Nat),
    (Dispatches s o .visionGraph sl → sl.run.vis = none →
      (sl.op.nodeCount = 0 ∨ sl.op.frameCount = 0 → Completes (.visionGraph o) s fun u => EndedWith s u o Codes.OK 0) ∧
      (sl.op.nodeCount ≠ 0 → sl.op.frameCount ≠ 0 → s.graphChecked o.region.val sl.op = .error c → Completes (.visionGraph o) s fun u =>
        EndedWith s u o c 0) ∧
      (sl.op.nodeCount ≠ 0 → sl.op.frameCount ≠ 0 → s.graphChecked o.region.val sl.op = .ok nodes → s.engineBarred sl.op = none →
        s.mem.marks = [] → sl.op.groupId = 0 → Completes (.visionGraph o) s fun u => RunsNow s u o ∧
          GraphBecomes u (o.region.val, o.queue.val, o.seq) (fun w => w = { die := sl.op.visDie, stereo := sl.op.visStereo, nodes := nodes }) ∧
          MarksBecome u (o.region.val, o.queue.val, o.seq) (fun g => g.formed = true ∧ g.mark = false) ∧ MemoryStays s u o.region.val)) ∧
    (OnEngine s d st k sl v → s.atBoundary = true → sl.op.groupId = 0 → s.betweenFrames k.1 sl = true → (sl.op.markSrc = 0 ∨ sl.run.group.mark = true) →
      Completes (.visFrameStart d st) s fun u =>
        GraphBecomes u k (fun w => w = { v with inFrame := true, node := 0, nodeState := .idle, dead := [], stream := s.groupStream k.1 v }) ∧
        MarksBecome u k (fun g => g.mark = false ∧ g.waits = 0) ∧
        u.dev.pins.syncOutHigh = (s.dev.pins.syncOutHigh || sl.op.syncOut) ∧ u.mem = s.mem ∧ s.KeepsStore u) ∧
    (OnEngine s d false k sl v → v.inFrame = true → v.nodeState = .busy → nodeKind v v.node = some .matching → sl.rec_.pendingStatus = 0 →
      bs = listBytes 0 ((List.range (listRecords s (s.visPhys k.1 (listAt v.params 4).base) (listAt v.params 4).cap 32).length).map
        (matchRecord (listRecords s (s.visPhys k.1 (listAt v.params 4).base) (listAt v.params 4).cap 32)
          (listRecords s (s.visPhys k.1 (listAt v.params 8).base) (listAt v.params 8).cap 32)
          (bitsOf (wordAt v.params 12) 8 0) (bitAt (wordAt v.params 12) 9))) →
      l = s.linAddrs (s.visPhys k.1 (listAt v.params 0).base) bs.length → l.Nodup → (∀ a ∈ l, s.busyByte a = false) →
      Reached s (l ++ s.linAddrs (s.visPhys k.1 (listAt v.params 4).base) (16 + (listAt v.params 4).cap * 32) ++
        s.linAddrs (s.visPhys k.1 (listAt v.params 8).base) (16 + (listAt v.params 8).cap * 32)) →
      Completes (.visNodeComplete d false) s fun u =>
        (∀ i, i < bs.length → ∀ n, u.mem.read n (l.getD i 0) = bs.getD i 0) ∧ (∀ n a, a ∉ l → u.mem.read n a = s.mem.read n a) ∧
        (u.die v.die).featNodes = (s.die v.die).featNodes + 1 ∧ (u.die v.die).featStatus = (s.die v.die).featStatus ∧ s.KeepsStore u) ∧
    (OnEngine s d false k sl v → v.inFrame = true → v.nodeState = .waitRow → nodeKind v v.node = some .detect →
      s.mem.marks = [] → v.taken.length < (planeAt v.params 0).height → s.rowReady k.1 sl.op v (planeAt v.params 0) v.taken.length = true →
      Completes (.streamRowWaitEnd d false) s fun u =>
        GraphBecomes u k (fun w => v.taken <+: w.taken ∧ v.taken.length < w.taken.length ∧ w.nodeState ≠ .idle ∧ w.params = v.params) ∧
        u.mem = s.mem ∧ s.KeepsStore u)

/-- PYRAMID, DETECT, DESCRIBE, MATCH and STEREO nodes start, and graphs take their engine and run their frames, where no word of memory is damaged. -/
def Obligations.VisionNodesAndGraphs : Prop := VisionNodesStart ∧ VisionGraphsRunTheirFrames

/-- A timer that the region owns stands at a positive multiple of its period (log 119): a frame mark is due at the next boundary, where it marks a
graph that waits between frames, and is counted as missed by one in its frame; one waiting boundary past the stall limit is one underrun of the
group; a timer write takes effect for its owner alone; SYNC_OUT returns low. -/
def Obligations.VisionMarksTimersAndGroups : Prop :=
  ∀ (s : State) (r : RegionId) (n : Fin 8) (f : FnId) (v : Word) (sl m : Slot) (ms : List Slot) (g : Fin 16) (y k : Nat) (tk : Word64),
    (s.fabricOn = true → s.dev.shared.timers.contains (n.val, (r.val, 2)) = true → 0 < k → Tab.get 0 (s.region r.val).aux.timerPeriod n.val ≠ 0 →
      (s.dev.clk.tick - Tab.get 0 (s.region r.val).aux.timerWrite n.val).toNat = k * (Tab.get 0 (s.region r.val).aux.timerPeriod n.val).toNat →
      Completes (.frameMarkTimer r n) s fun u =>
        (u.region r.val).aux = { (s.region r.val).aux with marksDue := (2, n.val, s.dev.clk.tick) :: (s.region r.val).aux.marksDue } ∧
        (u.region r.val).sched = (s.region r.val).sched ∧ (∀ j, j ≠ r.val → u.region j = s.region j) ∧
        u = { s with fab := { s.fab with regions := u.fab.regions } }) ∧
    (s.graphs r.val = [sl] → s.slotOf r.val sl.op.queue sl.op.seq = some sl → (s.region r.val).aux.marksDue = [(2, n.val, tk)] →
      sl.op.markSrc = 2 → sl.op.markIndex = n.val →
      (s.betweenFrames r.val sl = true → MarksBecome (s.boundaryMarks r.val) (r.val, sl.op.queue, sl.op.seq) (fun x => x.mark = true)) ∧
      (s.betweenFrames r.val sl = false → sl.run.group.formed = true → sl.op.groupId = 0 →
        (Tab.get {} ((s.boundaryMarks r.val).region r.val).aux.visGroups 0).marksMissed =
          satAdd (Tab.get {} (s.region r.val).aux.visGroups 0).marksMissed 1)) ∧
    (s.fabricOn = true → s.atBoundary = true → g.val ≠ 0 → s.visMembers r.val g.val = m :: ms → s.waitingRow r.val g.val = some y →
      m.op.stallLimit + 1 = m.run.group.waits → m.run.group.underrun = false → m.op.dropToMark = false →
      Completes (.visGroupUnderrun r g) s fun u =>
        (Tab.get {} (u.region r.val).aux.visGroups g.val).underruns = satAdd (Tab.get {} (s.region r.val).aux.visGroups g.val).underruns 1 ∧
        (Tab.get {} (u.region r.val).aux.visGroups g.val).framesDropped = (Tab.get {} (s.region r.val).aux.visGroups g.val).framesDropped ∧
        (∀ x ∈ u.visMembers r.val g.val, x.run.group.underrun = true) ∧ (EventsOutside s r.val → u.mem = s.mem) ∧ s.KeepsStore u) ∧
    (s.reaches f.val r.val = true → s.dev.shared.timers.contains (n.val, (r.val, 2)) = true → Completes (.regionVisTimerWrite f r n v) s fun u =>
      Tab.get 0 (u.region r.val).aux.timerPeriod n.val = v ∧ Tab.get 0 (u.region r.val).aux.timerWrite n.val = s.dev.clk.tick ∧
      (∀ j, j ≠ n.val → Tab.get 0 (u.region r.val).aux.timerPeriod j = Tab.get 0 (s.region r.val).aux.timerPeriod j) ∧
      (∀ j, j ≠ r.val → u.region j = s.region j) ∧ u = { s with fab := { s.fab with regions := u.fab.regions } }) ∧
    (s.dev.shared.timers.contains (n.val, (r.val, 2)) = false → Completes (.regionVisTimerWrite f r n v) s fun u => u = s) ∧
    Completes .syncOutPulseEnd s (fun u => u = { s with dev := { s.dev with pins := { s.dev.pins with syncOutHigh := false } } })

/-! ## The network and the memory dies (07, 08) -/

/-- An operation has latched an end with this status and fault. -/
def EndLatched (u : State) (k : OpKey) (code : Code) (fault : BitVec 16) : Prop :=
  ∃ y, u.slotOf k.1 k.2.1 k.2.2 = some y ∧ y.op.state = .latched ∧ y.rec_.status = code ∧ y.rec_.faultId = fault

/-- The operation's disturbance count has gone up by one. -/
def Disturbed (s u : State) (k : OpKey) : Prop :=
  ∀ sl, s.slotOf k.1 k.2.1 k.2.2 = some sl → ∃ y, u.slotOf k.1 k.2.1 k.2.2 = some y ∧ y.rec_.disturbance = satAdd sl.rec_.disturbance 1 ∧ y.op = sl.op

/-- A packet whose check fails is gone, from its send queue where it was there, is counted at its link, and ends its operation with NOC_LINK_ERROR
and the next fault ID; one whose check holds goes on. A response held by a refresh comes one frame later, voids the route's next request
occurrence and disturbs its operation. A task of a router without a background slot for 16 frames is starved until a slot of the router's
escalation window serves it, which counts. -/
def NetworkFailuresAndBackground : Prop :=
  ∀ (s : State) (d : DieId) (kind : Fin 4) (index : Byte) (port : Fin 6) (r : RegionId) (route : BitVec 16) (k : OpKey) (sl : Slot) (m : Fin 6)
    (e n : Nat) (task : BgTask) (a th : Nat) (p : Pending),
    Completes (.nocPacketArrive d kind index port r route true) s (fun u => u = s) ∧
    (s.fabricOn = true → (s.routeEntries r.val route.toNat).any (fun e => e.router = (d.val, kind.val, index.toNat) && e.inPort = port.val) = true →
      s.routeOp r.val route.toNat = some k → s.slotOf k.1 k.2.1 k.2.2 = some sl → sl.op.state = .running →
      n = linkKey (d.val, kind.val, index.toNat) port.val → Tab.get 0 s.dev.noc.linkErr n ≠ 3 →
      Completes (.nocPacketArrive d kind index port r route false) s fun u =>
        EndLatched u k Codes.NOC_LINK_ERROR s.dev.faults.next ∧ (s.mem.marks = [] → u.dev.faults.count = satAdd s.dev.faults.count 1) ∧
        (s.inbound r.val route.toNat = none → s.dev.noc.deferred = [] →
          Tab.get [] u.dev.noc.queues (r.val * 65536 + route.toNat) = (Tab.get [] s.dev.noc.queues (r.val * 65536 + route.toNat)).tail) ∧
        Tab.get 0 u.dev.noc.linkErr n = Tab.get 0 s.dev.noc.linkErr n + 1 ∧ (EventsOutside s r.val → u.mem = s.mem) ∧ s.KeepsStore u) ∧
    Completes (.dramRefresh m false r route) s (fun u => u = s) ∧
    (s.fabricOn = true → (s.memDie m.val).present = true → s.routeChannel r.val route.toNat m.val = some e →
      s.routeOp r.val route.toNat = some k → Completes (.dramRefresh m true r route) s fun u =>
        Disturbed s u k ∧
        u.dev.noc.voids = s.dev.noc.voids ++ [(r.val * 65536 + route.toNat, s.voidFrame r.val route.toNat (edgeRouter (m.val / 3) e))] ∧
        (s.inbound r.val route.toNat = some (a, th, p) → { p with due := p.due + 4096 } ∈ (u.thread a th).outstanding) ∧
        Tab.get {} u.dev.noc.edges (m.val / 3 * 24 + e) =
          { Tab.get {} s.dev.noc.edges (m.val / 3 * 24 + e) with heldOver := satAdd (Tab.get {} s.dev.noc.edges (m.val / 3 * 24 + e)).heldOver 1 } ∧
        u.mem = s.mem ∧ s.KeepsStore u) ∧
    (n = (d.val * 256 + index.toNat) * 8 + bgCode task → s.running = true → s.bgTaskAt d.val index.toNat task = true → n ∉ s.dev.noc.starved →
      Tab.get 0 s.dev.noc.bgLast n + 16 ≤ s.frame →
      Completes (.bgTaskStarved d index task) s (fun u =>
        u.dev.noc.starved = s.dev.noc.starved ++ [n] ∧ u = { s with dev := { s.dev with noc := { s.dev.noc with starved := u.dev.noc.starved } } }) ∧
      (s.dev.aux.fabricStopped = false → s.inBgWindow d.val index.toNat = true → Tab.get 0 s.dev.noc.bgWindowLast (d.val * 256 + index.toNat) ≠ s.slotCount + 1 →
        Completes (.bgEscalationWindow d index) { s with dev := { s.dev with noc := { s.dev.noc with starved := [n] } } } fun u =>
          u.dev.noc.starved = [] ∧ Tab.get 0 u.dev.noc.bgLast n = s.frame ∧ u.dev.noc.edges = Tab.modify {} s.dev.noc.edges (d.val * 24 + index.toNat)
            (fun t => { t with escalations := satAdd t.escalations 1 }) ∧ u.mem = s.mem ∧ u.fab = s.fab ∧ s.KeepsStore u))

/-- A background task of an edge router has its slot: nothing but the network block's record of background slots changes by that. -/
def BgServed (s u : State) (d router : Nat) (t : BgTask) : Prop := u.dev = (s.bgServed d router t).dev

/-- Scrub, in a background slot of the channel's router, reads a channel's next five words: it counts a corrected word, which waits for its
writeback, and changes no byte; a group that the command says it finds wrong is marked; the writeback then leaves the word without a mark. -/
def ScrubReadsFiveWords : Prop :=
  ∀ (s : State) (m : Fin 6) (ch : Fin 4) (at_ q a : Nat), s.dev.aux.fabricStopped = false → s.dev.noc.held = false →
    s.dieServes m.val = true → at_ = Tab.get 0 (s.memDie m.val).scrubPos ch.val → q = (s.memDie m.val).position.toNat →
    (s.bgFree (m.val / 3) (dieEdge m.val ch.val) s.slot = true → s.mem.marks = [] → Completes (.scrubRead m ch []) s fun u =>
      Tab.get 0 (u.memDie m.val).scrubPos ch.val = at_ + 5 ∧ (u.memDie m.val).corrected = (s.memDie m.val).corrected ∧
      (∀ j, j ≠ m.val → u.memDie j = s.memDie j) ∧ BgServed s u (m.val / 3) (dieEdge m.val ch.val) .scrub ∧
      u = { s with fab := { s.fab with memDies := u.fab.memDies }, dev := u.dev }) ∧
    (s.bgFree (m.val / 3) (dieEdge m.val ch.val) s.slot = true → s.mem.marks = [(a, .corrected)] → isScratch a = false → a / 64 = scrubAddr q ch.val at_ / 64 →
      (∀ i, 0 < i → i < 5 → scrubAddr q ch.val (at_ + i) / 64 ≠ a / 64) → Completes (.scrubRead m ch []) s fun u =>
        (u.memDie m.val).corrected = satAdd (s.memDie m.val).corrected 1 ∧
        (u.memDie m.val).writeback = (s.memDie m.val).writeback ++ [(ch.val, scrubAddr q ch.val at_)] ∧
        Tab.get 0 (u.memDie m.val).scrubPos ch.val = at_ + 5 ∧ u.mem = s.mem ∧ BgServed s u (m.val / 3) (dieEdge m.val ch.val) .scrub ∧ s.KeepsStore u) ∧
    (∀ g : Fin 40, s.bgFree (m.val / 3) (dieEdge m.val ch.val) s.slot = true → s.mem.marks = [] → Completes (.scrubRead m ch [(g, .corrected)]) s fun u =>
      (∃ e ∈ u.mem.marks, e.1 / 8 = (scrubAddr q ch.val (at_ + g.val / 8) + g.val % 8 * 8) / 8 ∧ e.2 = .corrected) ∧
      (∀ n b, u.mem.read n b = s.mem.read n b) ∧ Tab.get 0 (u.memDie m.val).scrubPos ch.val = at_ + 5 ∧
      BgServed s u (m.val / 3) (dieEdge m.val ch.val) .scrub ∧ s.KeepsStore u) ∧
    (s.streamSlot (m.val / 3) (dieEdge m.val ch.val) s.slot false = false → s.mem.marks = [(a, .corrected)] → isScratch a = false →
      (s.memDie m.val).writeback = [(ch.val, a / 64 * 64)] →
      Completes (.scrubWriteback m ch) s fun u =>
        u.mem.marks = [] ∧ (∀ n b, u.mem.read n b = s.mem.read n b) ∧ (u.memDie m.val).writeback = [] ∧
        (∀ j, j ≠ m.val → u.memDie j = s.memDie j) ∧ BgServed s u (m.val / 3) (dieEdge m.val ch.val) .scrub ∧ s.KeepsStore u)

/-- The network's failures, background traffic and scrub. -/
def Obligations.NetworkAndScrub : Prop := NetworkFailuresAndBackground ∧ ScrubReadsFiveWords

/-! ## The die-to-die interface (19) -/

/-- On a bundle whose clock is in lock: a packet that arrives whole changes nothing; a lane whose check fails often enough is retired and waits for its record; a packet whose CRC fails is
tried again, one frame later, until the budget of attempts is used, which ends its operation. -/
def BundlesCheckTheirPackets : Prop :=
  ∀ (s : State) (b : BundleId) (l : Nat) (fails : BitVec 36) (o : OpRef) (sl : Slot), s.bundleOnline b.val = true → s.bundleLocked b.val = true →
    (attemptsOf (s.bundle b.val).retrying (o.region.val, o.queue.val, o.seq) = 0 → Completes (.ydiPacketReceive b true 0 o) s fun u => u = s) ∧
    (attemptsOf (s.bundle b.val).retrying (o.region.val, o.queue.val, o.seq) = 0 → fails = 1#36 <<< l → l ∈ (s.bundle b.val).dataLanes →
      Completes (.ydiPacketReceive b true fails o) s fun u =>
        Tab.get 0 (u.bundle b.val).laneErr l = Tab.get 0 (s.bundle b.val).laneErr l + 1 ∧
        (Tab.get 0 (s.bundle b.val).laneErr l + 1 < max 1 s.dev.ydi.errThreshold.toNat →
          (u.bundle b.val).retired = (s.bundle b.val).retired ∧ u.flash = s.flash) ∧
        (max 1 s.dev.ydi.errThreshold.toNat ≤ Tab.get 0 (s.bundle b.val).laneErr l + 1 → (s.bundle b.val).retired.getLsbD l = false →
          (u.bundle b.val).retired = (s.bundle b.val).retired ||| (1#36 <<< l) ∧ (u.bundle b.val).pendingLanes = (s.bundle b.val).pendingLanes ++ [l] ∧
          u.flash = { s.flash with unwritten := s.flash.unwritten ++ [(b.val, l)] }) ∧
        (u.bundle b.val).width = (s.bundle b.val).width ∧ u.mem = s.mem ∧ u.fab = s.fab) ∧
    (s.slotAt o = some sl → sl.op.state = .running →
      (attemptsOf (s.bundle b.val).retrying (o.region.val, o.queue.val, o.seq) + 1 < max 1 s.dev.ydi.retryBudget.toNat →
        Completes (.ydiPacketReceive b false 0 o) s fun u =>
          (u.bundle b.val).crcFail = satAdd (s.bundle b.val).crcFail 1 ∧ (u.bundle b.val).deferrals = satAdd (s.bundle b.val).deferrals 1 ∧
          attemptsOf (u.bundle b.val).retrying (o.region.val, o.queue.val, o.seq) =
            attemptsOf (s.bundle b.val).retrying (o.region.val, o.queue.val, o.seq) + 1 ∧
          (∃ y, u.slotAt o = some y ∧ y.op.state = .running ∧ y.rec_.disturbance = satAdd sl.rec_.disturbance 1) ∧ u.mem = s.mem ∧ s.KeepsStore u) ∧
      (max 1 s.dev.ydi.retryBudget.toNat ≤ attemptsOf (s.bundle b.val).retrying (o.region.val, o.queue.val, o.seq) + 1 →
        Completes (.ydiPacketReceive b false 0 o) s fun u =>
          EndLatched u (o.region.val, o.queue.val, o.seq) Codes.DDI_RETRY_EXHAUSTED s.dev.faults.next ∧
          attemptsOf (u.bundle b.val).retrying (o.region.val, o.queue.val, o.seq) = 0 ∧ (EventsOutside s o.region.val → u.mem = s.mem) ∧ s.KeepsStore u))

/-- A packet that a bundle blocked crosses it in its slot of a later frame: its deferrals are counted, and disturb its operation; those of a resent
packet were counted where its CRC failed. At a frame boundary a bundle takes the width of its working lanes, never a greater one, and goes
offline where its clock or sideband pair failed. Each retirement reaches the record once. A configuration write waits for the next error window,
which clears every lane's count. -/
def BundlesChangeAtBoundaries : Prop :=
  ∀ (s : State) (b : BundleId) (o : OpRef) (v : Word) (w l n : Nat) (t : List (Nat × Nat)) (x : Deferral),
    (attemptsOf (s.bundle b.val).retrying (o.region.val, o.queue.val, o.seq) ≠ 0 → Completes (.ydiDeferredCross b o) s fun u => u = s) ∧
    (s.fabricOn = true → s.atBoundary = true → s.bundlePresent b.val = true → s.bundleLocked b.val = true →
      attemptsOf (s.bundle b.val).retrying (o.region.val, o.queue.val, o.seq) = 0 →
      (s.dev.noc.deferred = [] → s.crossesNow (o.region.val, o.queue.val, o.seq) b.val = true → Completes (.ydiDeferredCross b o) s fun u =>
        u.bundle b.val = { s.bundle b.val with deferrals := satAdd (s.bundle b.val).deferrals 1 } ∧ Disturbed s u (o.region.val, o.queue.val, o.seq) ∧
        (∀ c, c ≠ b.val → u.bundle c = s.bundle c) ∧ u.mem = s.mem ∧ s.KeepsStore u) ∧
      (s.dev.noc.deferred = [x] → x.bundle = b.val → (x.key / 65536, x.packet.queue, x.packet.seq) = (o.region.val, o.queue.val, o.seq) →
        x.slot = s.slot → x.since < s.frame → s.blocked b.val x.die x.slot s.frame true = false → x.packet.kind = 1 →
        Completes (.ydiDeferredCross b o) s fun u =>
          u.dev.noc.deferred = [] ∧
          u.bundle b.val = { s.bundle b.val with
            deferrals := satAdd (s.bundle b.val).deferrals (max 1 (s.blockedFrames b.val x.die x.slot x.since true)) } ∧
          (∀ c, c ≠ b.val → u.bundle c = s.bundle c) ∧ s.KeepsStore u)) ∧
    (s.bundleOnline b.val = true → Completes (.bundleSidebandFail b) s fun u =>
      u.bundle b.val = { s.bundle b.val with sidebandPending := true } ∧ u = { s with dev := { s.dev with ydi := { s.dev.ydi with bundles := u.dev.ydi.bundles } } }) ∧
    (s.atFrame = true → s.bundleOnline b.val = true → (s.bundle b.val).pendingLanes ≠ [] → (s.bundle b.val).sidebandPending = false → (s.bundle b.val).sideband = false →
      w = min (s.bundle b.val).width.toNat (widthCode (s.bundle b.val).working.length) → Completes (.bundleWidthChange b) s fun u =>
        (u.bundle b.val).width = BitVec.ofNat 2 w ∧ (u.bundle b.val).changeFrame = some s.frame ∧ (u.bundle b.val).pendingLanes = [] ∧ (u.bundle b.val).retired = (s.bundle b.val).retired ∧
        (∀ c, c ≠ b.val → u.bundle c = s.bundle c) ∧ (w ≠ 0 → u.fab = s.fab ∧ u.mem = s.mem) ∧ s.KeepsStore u) ∧
    (s.atFrame = true → s.bundleOnline b.val = true → (s.bundle b.val).sidebandPending = true → Completes (.bundleWidthChange b) s fun u =>
      (u.bundle b.val).width = 0 ∧ (u.bundle b.val).sideband = true ∧ s.KeepsStore u) ∧
    (s.bgFree 0 12 s.slot = true → s.flash.unwritten = (n, l) :: t → Completes .laneRecordWrite s fun u =>
      u.flash.unwritten = t ∧ Tab.get 0 u.flash.retired n = Tab.get 0 s.flash.retired n ||| (1#36 <<< l) ∧
      (∀ c, c ≠ n → Tab.get 0 u.flash.retired c = Tab.get 0 s.flash.retired c) ∧
      u = { s with flash := { s.flash with unwritten := t, retired := u.flash.retired }, dev := (s.bgServed 0 12 .wearLevelling).dev }) ∧
    (s.pfReach false = true → Completes (.ydiCfgWrite v) s fun u => u = { s with dev := { s.dev with ydi := { s.dev.ydi with cfgNext := some v } } }) ∧
    (s.atFrame = true → s.frame % 2 ^ s.dev.ydi.windowLog2.toNat = 0 → s.dev.ydi.cfgNext = some v → Completes .ydiErrorWindow s fun u =>
      (∀ c, (u.bundle c) = { s.bundle c with laneErr := [] }) ∧ u.dev.ydi.errThreshold = v.extractLsb' 0 8 ∧
      u.dev.ydi.windowLog2 = v.extractLsb' 8 4 ∧ u.dev.ydi.retryBudget = v.extractLsb' 12 4 ∧ u.dev.ydi.cfgNext = none ∧
      u = { s with dev := { s.dev with ydi := u.dev.ydi } })

/-- The die-to-die bundles: their packets, and how they change. -/
def Obligations.BundlesCarryAndChange : Prop := BundlesCheckTheirPackets ∧ BundlesChangeAtBoundaries

/-! ## Rincen links (20) -/

/-- No port but p, and nothing outside the link block, has changed. -/
def OnlyPort (s u : State) (p : Nat) : Prop :=
  (∀ q, q ≠ p → u.port q = s.port q) ∧ u = { s with dev := { s.dev with lnk := { s.dev.lnk with ports := u.dev.lnk.ports } } }

/-- A cabled port trains, or fails once with an event; each frame that a trained port begins has a valid header with its number; a valid header that
arrives ends the misses and brings a training port up, one with a wrong CRC is counted; a used port whose partner agrees becomes live; and the third
miss declares the partner's loss. -/
def Obligations.PortsTrainBeatAndGoLive : Prop :=
  ∀ (s : State) (p : PortId) (h : List Byte), s.portOn p.val = true →
    (s.uncabled p.val = false → (s.port p.val).trained = false → (s.port p.val).state ≠ .lost → Completes (.portTrainAttempt p true) s fun u =>
      u.port p.val = { s.port p.val with trained := true, state := .training, misses := 0, trainFailRaised := false, rxBits := [], ackBits := [] } ∧
      OnlyPort s u p.val) ∧
    (s.uncabled p.val = false → (s.port p.val).trained = false → (s.port p.val).state ≠ .lost → Completes (.portTrainAttempt p false) s fun u =>
      u.port p.val = { s.port p.val with state := .training, trainFailRaised := true } ∧ (∀ q, q ≠ p.val → u.port q = s.port q) ∧
      ((s.port p.val).trainFailRaised = true → OnlyPort s u p.val) ∧ s.KeepsStore u) ∧
    ((s.port p.val).trained = true → Completes (.linkFrameStart p) s fun u =>
      (u.port p.val).frame = (s.port p.val).frame + 1 ∧ headerValid (u.port p.val).header = true ∧ (u.port p.val).header.length = 512 ∧
      wordAt (u.port p.val).header 1 = ((s.port p.val).frame + 1).toNat ∧ (u.port p.val).state = (s.port p.val).state ∧ OnlyPort s u p.val) ∧
    ((s.port p.val).trained = true → h.length = 512 → headerValid h = true → s.portUsed p.val = false → (s.port p.val).sent = [] →
      Completes (.linkHeaderReceive p h) s fun u =>
        (u.port p.val).misses = 0 ∧ (u.port p.val).rxFrame = BitVec.ofNat 32 (wordAt h 1) ∧
        (u.port p.val).neighbour = BitVec.ofNat 17 (wordAt h 3 % 2 ^ 17) ∧
        (u.port p.val).state = (match (s.port p.val).state with
          | .training => .up | .down => .up | .lost => .returned | x => x) ∧ OnlyPort s u p.val) ∧
    ((s.port p.val).trained = true → h.length = 512 → leAt h 508 4 ≠ (crc32c (h.take 508)).toNat → (s.port p.val).misses.toNat < 2 →
      Completes (.linkHeaderReceive p h) s fun u =>
        (u.port p.val).crcFail = satAdd (s.port p.val).crcFail 1 ∧ (u.port p.val).state = (s.port p.val).state ∧ OnlyPort s u p.val) ∧
    (s.running = true → s.portUsed p.val = true → (s.port p.val).trained = true → (s.port p.val).state = .up → (s.port p.val).partnerReady = true →
      s.partnerMatches p.val = true → Completes (.portLive p) s fun u => u.port p.val = { s.port p.val with state := .live } ∧ OnlyPort s u p.val) ∧
    ((s.port p.val).heard = true → (s.port p.val).misses.toNat < 2 → Completes (.heartbeatMiss p) s fun u =>
      u.port p.val = { s.port p.val with misses := (s.port p.val).misses + 1 } ∧ OnlyPort s u p.val) ∧
    ((s.port p.val).heard = true → 2 ≤ (s.port p.val).misses.toNat → Completes (.heartbeatMiss p) s fun u =>
      (u.port p.val).state = .lost ∧ (u.port p.val).sent = [] ∧ (s.package, p.val) ∈ u.dev.lnk.notices ∧
      (s.mem.marks = [] → u.dev.faults.count = satAdd s.dev.faults.count 1) ∧ Tab.get 0 u.dev.lnk.lossFault p.val = s.dev.faults.next ∧ s.KeepsStore u)

/-- A live port sends the oldest cell of its slot's route, which waits for its acknowledgement, and an idle cell where none waits; a slack slot carries the
first cell that is due again; a cell with a wrong CRC is counted and not accepted; a data cell in sequence reaches its on-die route, and one to
forward its link route. -/
def Obligations.CellsAreSentResentAndTaken : Prop :=
  ∀ (s : State) (p : PortId) (slot : Nat) (e : LinkEntry) (c : LinkCell) (rest : List LinkCell) (x : SentCell) (b : List Byte) (fwd : Bool),
    s.portOn p.val = true → (s.port p.val).trained = true → (s.port p.val).state = .live → slot < 1364 →
    (slot % 16 ≠ 15 → s.outEntry p.val slot fwd = some e → Tab.get [] s.dev.lnk.queues e.linkRoute = c :: rest → (s.port p.val).partnerHeld = false →
      Completes (if fwd then .cellForward p slot else .linkCellSend p slot) s fun u =>
        (u.port p.val).cellOut = cellBytes 1 c.retried c.route c.seq c.mark c.packet ∧
        (u.port p.val).sent = (s.port p.val).sent ++ [{ frame := (s.port p.val).frame, slot := slot, origFrame := (s.port p.val).frame
                                                        origSlot := slot, cell := c, fails := 0, due := false }] ∧
        Tab.get [] u.dev.lnk.queues e.linkRoute = rest ∧ (∀ q, q ≠ p.val → u.port q = s.port q) ∧ u.mem = s.mem ∧ u.fab = s.fab) ∧
    (slot % 16 ≠ 15 → s.outEntry p.val slot fwd = some e → Tab.get [] s.dev.lnk.queues e.linkRoute = [] →
      Completes (if fwd then .cellForward p slot else .linkCellSend p slot) s fun u =>
        u.port p.val = { s.port p.val with cellOut := idleCell } ∧ OnlyPort s u p.val) ∧
    (slot % 16 = 15 → (s.port p.val).partnerHeld = false → (s.port p.val).nextResend = some x → x.cell.op = none → Completes (.cellResend p slot) s fun u =>
        (u.port p.val).cellOut = cellBytes 2 true x.cell.route x.cell.seq x.cell.mark x.cell.packet ∧
        (u.port p.val).resends = satAdd (s.port p.val).resends 1 ∧
        (u.port p.val).sent = (s.port p.val).sent.erase x ++
          [{ x with cell := { x.cell with retried := true }, frame := (s.port p.val).frame, slot := slot, due := false }] ∧ OnlyPort s u p.val) ∧
    (b.length = 384 → leAt b 336 4 ≠ (crc32c (b.take 336)).toNat → slot ≠ 1363 → Completes (.linkCellReceive p slot b) s fun u =>
        u.port p.val = { s.port p.val with crcFail := satAdd (s.port p.val).crcFail 1 } ∧ OnlyPort s u p.val) ∧
    (b.length = 384 → leAt b 336 4 = (crc32c (b.take 336)).toNat → wordAt b 0 % 8 = 1 → bitAt (wordAt b 2) 0 = false → slot ≠ 1363 →
      s.inEntry p.val (wordAt b 0 / 2 ^ 16) = some e → e.linkRoute = wordAt b 0 / 2 ^ 16 →
      (e.forwarded = false → Tab.get [] s.dev.lnk.heldCells e.linkRoute = [] → BitVec.ofNat 32 (wordAt b 1) = Tab.get 0 s.dev.lnk.seqIn e.linkRoute →
        Completes (.linkCellReceive p slot b) s fun u =>
          Tab.get [] u.dev.lnk.fromHub (e.region * 65536 + e.route) = Tab.get [] s.dev.lnk.fromHub (e.region * 65536 + e.route) ++ [(b.drop 16).take 320] ∧
          Tab.get 0 u.dev.lnk.seqIn e.linkRoute = Tab.get 0 s.dev.lnk.seqIn e.linkRoute + 1 ∧
          (u.port p.val).rxBits = (s.port p.val).rxBits ++ [slot] ∧ u.mem = s.mem ∧ s.KeepsStore u) ∧
      (e.forwarded = true → (Tab.get [] s.dev.lnk.queues e.linkRoute).length < 8 → Completes (.linkCellReceive p slot b) s fun u =>
          (∃ y, Tab.get [] u.dev.lnk.queues e.linkRoute = Tab.get [] s.dev.lnk.queues e.linkRoute ++ [y] ∧ y.packet = (b.drop 16).take 320 ∧
            y.seq = BitVec.ofNat 32 (wordAt b 1) ∧ y.op = none) ∧
          (u.port p.val).rxBits = (s.port p.val).rxBits ++ [slot] ∧ u.mem = s.mem ∧ u.fab = s.fab))

/-- The first notice of a lost link is kept and sent on by the other live ports, and breaks the link routes whose path uses it; a second is ignored.
After a notice, the alternate entries of its key take effect once, with a fault. -/
def Obligations.NoticesBreakAndSwitchRoutes : Prop :=
  ∀ (s : State) (p : PortId) (ordinal : BitVec 17) (far : PortId) (key : BitVec 16) (a : Nat × Nat), s.running = true →
    ((s.port p.val).state = .live → (ordinal.toNat, far.val) ∉ s.dev.lnk.notices → Completes (.linkDownNotice p ordinal far) s fun u =>
      u.dev.lnk.notices = s.dev.lnk.notices ++ [(ordinal.toNat, far.val)] ∧
      (∀ q, q < 8 → q ≠ p.val → (s.port q).state = .live → (q, ordinal.toNat, far.val) ∈ u.dev.lnk.noticesOut) ∧
      (∀ l ∈ s.noticeRoutes ordinal.toNat far.val, l ∈ u.dev.lnk.broken) ∧ u.dev.lnk.ports = s.dev.lnk.ports ∧ u.mem = s.mem ∧ s.KeepsStore u) ∧
    ((ordinal.toNat, far.val) ∈ s.dev.lnk.notices → Completes (.linkDownNotice p ordinal far) s fun u => u = s) ∧
    ((s.topo?.bind (fun t => t.alts[key.toNat]?)) = some a → a ∈ s.dev.lnk.notices → (∃ e ∈ s.links, e.alternate = true ∧ e.altKey = key.toNat) →
      key.toNat ∉ s.dev.lnk.switched → Completes (.routeSwitch key) s fun u =>
        u.dev.lnk.switched = s.dev.lnk.switched ++ [key.toNat] ∧ (s.mem.marks = [] → u.dev.faults.count = satAdd s.dev.faults.count 1) ∧
        (∀ l ∈ u.dev.lnk.broken, l ∈ s.dev.lnk.broken) ∧ s.KeepsStore u)

/-! ## The host link and the functions (21) -/

/-- The host link is lost: with link_down_reset the package is reset; without it every function's configuration is reset, its MSI-X state
stays, the loss is counted, takes a fault ID and waits to be raised, and a fetch of an image ends with HST_LINK_DOWN. The link trains at the rate and width given; what waits is raised. -/
def Obligations.HostLinkFallsAndTrains : Prop :=
  ∀ (s : State) (rate : BitVec 3) (width : BitVec 5) (flit : Bool),
    (s.dev.hst.linkUp = true → s.dev.hst.linkDownReset = true → s.NoOtherCause false false false false → Completes .hostLinkDown s fun t =>
      t.dev.boot.stage = .rom ∧ t.dev.boot.rcHost = true ∧ t.mem = {} ∧ t.fab.image = none ∧
      t.dev.hst.linkDowns = satAdd s.dev.hst.linkDowns 1 ∧ t.dev.clk.tick = s.dev.clk.tick ∧ s.KeepsStore t) ∧
    (s.dev.hst.linkUp = true → s.dev.hst.linkDownReset = false → Completes .hostLinkDown s fun t =>
      t.dev.hst.linkUp = false ∧ t.dev.hst.linkDowns = satAdd s.dev.hst.linkDowns 1 ∧ t.dev.aux.linkDownPending = true ∧
      (∀ k, t.func k = { msix := (s.func k).msix, pba := (s.func k).pba, sentMsgs := (s.func k).sentMsgs }) ∧
      t.dev.hst.vfEnable = false ∧ t.dev.faults.count = satAdd s.dev.faults.count 1 ∧ t.dev.hst.pfEvt = s.dev.hst.pfEvt ∧
      (s.dev.aux.loading = some .load → t.dev.boot.stage = .awaitImage ∧ t.dev.boot.imageResult = Codes.HST_LINK_DOWN ∧ t.dev.aux.loading = none) ∧
      (s.dev.aux.loading = none → t.dev.boot = s.dev.boot ∧ t.dev.noc = s.dev.noc) ∧
      t = { s with dev := { s.dev with hst := t.dev.hst, faults := t.dev.faults, aux := t.dev.aux, boot := t.dev.boot, noc := t.dev.noc } }) ∧
    (s.dev.hst.linkUp = false → exec .hostLinkDown s = .next s) ∧
    (s.dev.boot.stage ≠ .reset → s.dev.boot.stage ≠ .rom → Completes (.hostLinkUp rate width flit) s fun t =>
      t.dev.hst.linkUp = true ∧ t.dev.hst.rate = rate ∧ t.dev.hst.width = width ∧ t.dev.hst.flit = flit ∧
      t.dev.hst.linkDowns = s.dev.hst.linkDowns ∧ t.dev.aux.linkDownPending = false ∧ t.dev.aux.watchdogPending = false ∧
      (∀ k, t.func k = s.func k) ∧ t.mem = s.mem ∧ t.fab = s.fab ∧ s.KeepsStore t) ∧
    (s.dev.boot.stage ≠ .reset → s.dev.boot.stage ≠ .rom → s.dev.aux.watchdogPending = false → s.dev.aux.linkDownPending = true →
      s.dev.hst.pfEvt.enable = true → s.dev.hst.pfEvt.full = false → Completes (.hostLinkUp rate width flit) s fun t =>
      t.dev.hst.pfEvt = { s.dev.hst.pfEvt with tail := s.dev.hst.pfEvt.tail + 1 })

/-- VF Enable and NumVFs decide which virtual functions exist; a virtual function's reset keeps its enable and asks for its region's reset; the
physical function's clears VF Enable and, in RUNNING, unloads the image; D3hot, D0 and Bus Master Enable belong to one function, and what
its pending bits hold goes out when nothing holds it back. -/
def Obligations.FunctionsAreConfigured : Prop :=
  ∀ (s : State) (en v : Bool) (n : Fin 33) (r : RegionId) (f : FnId), s.dev.hst.linkUp = true → s.dev.boot.stage.hostUp = true →
    (en = false ∨ s.dev.boot.stage = .running → Completes (.vfEnableWrite en n) s fun t =>
      (∀ k, 1 ≤ k → k ≤ 32 → t.func k = { s.func k with enabled := en && decide (k ≤ n.val) }) ∧ t.func 0 = s.func 0 ∧
      t.dev.hst.vfEnable = en ∧ t.dev.hst.numVFs = n.val ∧ t = { s with dev := { s.dev with hst := t.dev.hst } }) ∧
    (en = true → s.dev.boot.stage ≠ .running → exec (.vfEnableWrite en n) s = .next s) ∧
    ((s.func (r.val + 1)).enabled = true → Completes (.vfFlr r) s fun t =>
      t.func (r.val + 1) = { enabled := true, sentMsgs := (s.func (r.val + 1)).sentMsgs } ∧ (∀ k, k ≠ r.val + 1 → t.func k = s.func k) ∧
      (s.dev.boot.stage = .running → s.defined r.val = true → (s.region r.val).aux.resetBusy = false →
        t.region r.val = { s.region r.val with aux := { (s.region r.val).aux with resetAsked := true } }) ∧
      (∀ p, p ≠ r.val → t.region p = s.region p) ∧ t.mem = s.mem ∧ s.KeepsStore t) ∧
    (Completes .pfFlr s fun t =>
      t.func 0 = { enabled := (s.func 0).enabled, sentMsgs := (s.func 0).sentMsgs } ∧ t.dev.hst.vfEnable = false ∧
      (∀ k, 1 ≤ k → k ≤ 32 → (t.func k).enabled = false) ∧
      (s.dev.boot.stage = .running → t.fab.image = none ∧ t.dev.boot.stage = .awaitImage ∧ t.dev.boot.imageResult = Codes.OK) ∧
      (s.dev.boot.stage ≠ .running → t.fab = s.fab ∧ t.mem = s.mem) ∧ s.KeepsStore t) ∧
    (f = 0 ∨ (s.func f.val).enabled = true → Completes (.functionD3hot f) s fun t =>
      t.func f.val = { s.func f.val with d3hot := true } ∧ (∀ k, k ≠ f.val → t.func k = s.func k) ∧
      t = { s with dev := { s.dev with hst := { s.dev.hst with funcs := t.dev.hst.funcs } } }) ∧
    (f = 0 ∨ (s.func f.val).enabled = true → Completes (.powerStateD0 f) s fun t =>
      (t.func f.val).d3hot = false ∧ (t.func f.val).busMaster = (s.func f.val).busMaster ∧ (t.func f.val).msix = (s.func f.val).msix ∧
      (∀ i, i < 64 → (t.func f.val).pba.getLsbD i = ((s.func f.val).pba.getLsbD i && !((s.func f.val).busMaster && !(s.func f.val).masked i))) ∧
      (∀ k, k ≠ f.val → t.func k = s.func k) ∧ t = { s with dev := { s.dev with hst := { s.dev.hst with funcs := t.dev.hst.funcs } } }) ∧
    (f = 0 ∨ (s.func f.val).enabled = true → Completes (.busMasterEnableWrite f v) s fun t =>
      (t.func f.val).busMaster = v ∧ (t.func f.val).d3hot = (s.func f.val).d3hot ∧ (t.func f.val).msix = (s.func f.val).msix ∧
      (∀ i, i < 64 → (t.func f.val).pba.getLsbD i = ((s.func f.val).pba.getLsbD i && !(v && !(s.func f.val).d3hot && !(s.func f.val).masked i))) ∧
      (∀ k, k ≠ f.val → t.func k = s.func k) ∧ t = { s with dev := { s.dev with hst := { s.dev.hst with funcs := t.dev.hst.funcs } } })

/-- A source whose count or hold time is reached sends one message of its vector, or sets the vector's pending bit where the vector is masked
or its function sends none; one that is not due does nothing. Unmasking a vector sends the message that its pending bit holds. -/
def Obligations.MessagesAreSentOrHeld : Prop :=
  ∀ (s : State) (src : IrqSource) (f : FnId) (vec : Fin 64) (k v : Nat), k = (s.irqOf src).2 → v = (s.irqOf src).1.vector.toNat →
    ((s.irqOf src).1.due s.tick = true → v < vectorCount k → (k = 0 ∨ (s.func k).enabled = true) → Completes (.msixMessage src) s fun t =>
      (t.irqOf src).1 = { (s.irqOf src).1 with pending := 0 } ∧
      ((s.func k).busMaster = true → (s.func k).d3hot = false → (s.func k).masked v = false →
        t.func k = { s.func k with sentMsgs := Tab.modify 0 (s.func k).sentMsgs v (· + 1), pba := (s.func k).pba &&& ~~~((1 : BitVec 64) <<< v) }) ∧
      ((s.func k).busMaster = false ∨ (s.func k).d3hot = true ∨ (s.func k).masked v = true →
        t.func k = { s.func k with pba := (s.func k).pba ||| ((1 : BitVec 64) <<< v) }) ∧
      (∀ j, j ≠ k → t.func j = s.func j) ∧ t.mem = s.mem ∧ t.hostMem = s.hostMem ∧ s.KeepsStore t) ∧
    ((s.irqOf src).1.due s.tick = false → exec (.msixMessage src) s = .next s) ∧
    (s.hubReach f.val = true → vec.val < vectorCount f.val → Completes (.msixUnmask f vec) s fun t =>
      (t.func f.val).masked vec.val = false ∧ (∀ i, i ≠ vec.val → (t.func f.val).entry i = (s.func f.val).entry i) ∧
      ((s.func f.val).sends = true → (t.func f.val).pba.getLsbD vec.val = false ∧
        ((s.func f.val).pba.getLsbD vec.val = true → Tab.get 0 (t.func f.val).sentMsgs vec.val = Tab.get 0 (s.func f.val).sentMsgs vec.val + 1)) ∧
      ((s.func f.val).sends = false → (t.func f.val).pba = (s.func f.val).pba ∧ (t.func f.val).sentMsgs = (s.func f.val).sentMsgs) ∧
      (∀ j, j ≠ f.val → t.func j = s.func j) ∧ t = { s with dev := { s.dev with hst := { s.dev.hst with funcs := t.dev.hst.funcs } } })

/-- A failed host read of a fetch drops the fetch and the queue's later ones and stops its queue, with head back at that
descriptor; one of a copy ends the copy, which latches HST_HOST_ERROR with the next
fault ID unless a status noted earlier comes first. An access of another width or alignment reads 0, changes no register and is an event. -/
def Obligations.HostReadsAndAccessesFail : Prop :=
  ∀ (s : State) (o : OpRef) (x : Fetch) (sl : Slot) (f : FnId) (a : BitVec 26),
    (s.dev.boot.stage = .running →
      (s.region o.region.val).sched.fetches.find? (fun f => f.queue = o.queue.val && f.bytes.isNone) = some x →
      Completes (.hostReadError o true) s fun t =>
        t.queue o.region.val o.queue.val = { s.queue o.region.val o.queue.val with
          enable := false, head := (t.queue o.region.val o.queue.val).head } ∧
        ((s.region o.region.val).sched.fetches = [x] → (t.region o.region.val).sched.fetches = [] ∧
          (t.queue o.region.val o.queue.val).head = (s.queue o.region.val o.queue.val).head - 1) ∧
        (∀ p, p ≠ o.queue.val → t.queue o.region.val p = s.queue o.region.val p ∧
          (t.region o.region.val).sched.fetches.filter (fun f => f.queue = p) = (s.region o.region.val).sched.fetches.filter (fun f => f.queue = p)) ∧
        (s.mem.marks = [] →
          (t.region o.region.val).rev.lastFaultCode = Codes.HST_HOST_ERROR ∧ (t.region o.region.val).rev.lastFaultId = s.dev.faults.next) ∧
        (s.mem.marks = [] → t.dev.faults.count = satAdd s.dev.faults.count 1) ∧ (EventsOutside s o.region.val → t.mem = s.mem) ∧ s.KeepsStore t) ∧
    (s.dev.boot.stage = .running → s.slotAt o = some sl → sl.op.desc? = some .copy → sl.op.srcHost = true → sl.op.state = .running →
      Completes (.hostReadError o false) s fun t =>
        (∃ y, t.slotAt o = some y ∧ y.op.state = .latched ∧ y.op.words = sl.op.words ∧
          (sl.op.dstHost = true → sl.rec_.pendingStatus = Codes.OK → y.rec_.status = Codes.HST_HOST_ERROR ∧ y.rec_.faultId = s.dev.faults.next)) ∧
        (sl.op.dstHost = true → t.mem = s.mem) ∧ s.KeepsStore t) ∧
    (s.hubReach f.val = true → Completes (.badRegisterAccess f a) s fun t =>
      t.dev.dbg.readAnswer = 0 ∧
      (s.dev.hst.pfEvt.enable = true → s.dev.hst.pfEvt.full = false →
        t.dev.hst.pfEvt = { s.dev.hst.pfEvt with tail := s.dev.hst.pfEvt.tail + 1 }) ∧
      t = { s with hostMem := t.hostMem, dev := { s.dev with
        dbg := { s.dev.dbg with readAnswer := 0 }, hst := { s.dev.hst with pfEvt := t.dev.hst.pfEvt, pfIrq := t.dev.hst.pfIrq } } })
/-! ## Register writes (21, 18) -/

/-- A 256-bit register with its 32-bit word n replaced: word n is the value, the others are as before. -/
def WordPut (a b : BitVec 256) (n : Nat) (v : Word) : Prop :=
  b.extractLsb' (32 * n) 32 = v ∧ ∀ m, m < 8 → m ≠ n → b.extractLsb' (32 * m) 32 = a.extractLsb' (32 * m) 32

/-- Writes of the physical function: each register of its own takes the value, a 64-bit write is both halves, a misaligned one changes none,
and one of a register whose domain is in Pewter is only an event. -/
def Obligations.RegisterWritesChangeTheirRegister : Prop :=
  ∀ (s : State) (v : Word64) (w : Bool) (n : Nat) (o : BitVec 26) (r : RegionId), s.pfReach true = true →
    Completes (.registerWrite 0 0x98 false v) s (fun t =>
      t = { s with dev := { s.dev with boot := { s.dev.boot with imageLen := v.setWidth 32 } } }) ∧
    Completes (.registerWrite 0 0x90 true v) s (fun t =>
      t = { s with dev := { s.dev with boot := { s.dev.boot with imageSrc := v } } }) ∧
    Completes (.registerWrite 0 0x84 false v) s (fun t =>
      t = { s with dev := { s.dev with boot := { s.dev.boot with
        rcPowerOn := s.dev.boot.rcPowerOn && !v.getLsbD 0, rcBoard := s.dev.boot.rcBoard && !v.getLsbD 1,
        rcHost := s.dev.boot.rcHost && !v.getLsbD 2, rcWatchdog := s.dev.boot.rcWatchdog && !v.getLsbD 3 } } }) ∧
    Completes (.registerWrite 0 0x88 false v) s (fun t =>
      t = { s with dev := { s.dev with boot := { s.dev.boot with recoveryNext := v.getLsbD 0 } } }) ∧
    Completes (.registerWrite 0 0x10000 false v) s (fun t =>
      t = { s with dev := { s.dev with hst := { s.dev.hst with linkDownReset := v.getLsbD 0 } } }) ∧
    (n < 24 → s.dev.boot.stage ≠ .recovery → Completes (.registerWrite 0 (BitVec.ofNat 26 (0x200200 + 4 * n)) false v) s fun t =>
      Tab.get 0 t.dev.sec.keyData n = v.setWidth 32 ∧ (∀ m, m ≠ n → Tab.get 0 t.dev.sec.keyData m = Tab.get 0 s.dev.sec.keyData m) ∧
      t = { s with dev := { s.dev with sec := { s.dev.sec with keyData := t.dev.sec.keyData } } }) ∧
    (s.reaches 0 r.val = true → Completes (.registerWrite 0 (BitVec.ofNat 26 (0x800000 + r.val * 0x10000 + 0x658)) false v) s fun t =>
      (t.region r.val).sched.dig = { (s.region r.val).sched.dig with head := v.setWidth 32 } ∧ (∀ p, p ≠ r.val → t.region p = s.region p) ∧
      t = { s with fab := { s.fab with regions := t.fab.regions } }) ∧
    (o.toNat % (if w then 8 else 4) ≠ 0 → Completes (.registerWrite 0 o w v) s fun t =>
      t = { s with hostMem := t.hostMem, dev := { s.dev with hst := { s.dev.hst with pfEvt := t.dev.hst.pfEvt, pfIrq := t.dev.hst.pfIrq } } }) ∧
    (o.toNat % 4 = 0 → s.writableHeld o.toNat = true → s.domState (holdDomain o.toNat) = .pewter → Completes (.registerWrite 0 o false v) s fun t =>
      t = { s with hostMem := t.hostMem, dev := { s.dev with hst := { s.dev.hst with pfEvt := t.dev.hst.pfEvt, pfIrq := t.dev.hst.pfIrq } } })

/-- Whatever a virtual function writes, no fuse, no boot flash, no other function and no boot register changes, and of another region
only the result of a request for a shared pin that this request overtakes at the same tick. -/
def Obligations.VirtualFunctionsAreIsolated : Prop :=
  ∀ (s t : State) (f : FnId) (o : BitVec 26) (w : Bool) (v : Word64), f ≠ 0 → exec (.registerWrite f o w v) s = .next t →
    (∀ p, p < 32 → p ≠ f.val - 1 → (t.region p).sched = (s.region p).sched ∧ (t.region p).rev = (s.region p).rev ∧
      (t.region p).aux = { (s.region p).aux with sharedResult := (t.region p).aux.sharedResult }) ∧
    (∀ k, k ≠ f.val → t.func k = s.func k) ∧ t.dev.boot = s.dev.boot ∧ s.KeepsStore t

/-- The determinism control is written outside IMAGE_LOAD and RUNNING, and is locked in them; weights and input words wait for the slot
boundary, the others as they were; a locked digest of weights is closed to the virtual function; only the physical function locks it. -/
def Obligations.DeterminismRegistersAreWritten : Prop :=
  ∀ (s : State) (f : FnId) (r : RegionId) (n : Fin 8) (v : Word),
    (s.pfReach true = true → s.dev.boot.stage ≠ .imageLoad → s.dev.boot.stage ≠ .running → Completes (.hubDetCtlWrite v) s fun t =>
      t = { s with dev := { s.dev with aux := { s.dev.aux with slateCtl := v.getLsbD 0 } } }) ∧
    (s.pfReach true = true → (s.dev.boot.stage = .imageLoad ∨ s.dev.boot.stage = .running) → Completes (.hubDetCtlWrite v) s fun t =>
      (s.dev.hst.pfEvt.enable = true → s.dev.hst.pfEvt.full = false →
        t.dev.hst.pfEvt = { s.dev.hst.pfEvt with tail := s.dev.hst.pfEvt.tail + 1 }) ∧
      t = { s with hostMem := t.hostMem, dev := { s.dev with hst := { s.dev.hst with pfEvt := t.dev.hst.pfEvt, pfIrq := t.dev.hst.pfIrq } } }) ∧
    (s.reaches f.val r.val = true → (f = 0 ∨ (s.region r.val).aux.weightsLock = false) → Completes (.detWeightsWrite f r n v) s fun t =>
      (∃ x, (t.region r.val).aux.weightsNext = some x ∧
        WordPut ((s.region r.val).aux.weightsNext.getD (s.region r.val).aux.weights) x n.val v) ∧
      (t.region r.val).aux.weights = (s.region r.val).aux.weights ∧ (∀ p, p ≠ r.val → t.region p = s.region p) ∧
      t = { s with fab := { s.fab with regions := t.fab.regions } }) ∧
    (f ≠ 0 → (s.region r.val).aux.weightsLock = true → exec (.detWeightsWrite f r n v) s = .next s) ∧
    (s.reaches f.val r.val = true → Completes (.detInputWrite f r n v) s fun t =>
      (∃ x, (t.region r.val).aux.inputNext = some x ∧
        WordPut ((s.region r.val).aux.inputNext.getD (s.region r.val).aux.input) x n.val v) ∧
      (t.region r.val).aux.input = (s.region r.val).aux.input ∧ (∀ p, p ≠ r.val → t.region p = s.region p) ∧
      t = { s with fab := { s.fab with regions := t.fab.regions } }) ∧
    (s.reaches 0 r.val = true → Completes (.weightsLockSet 0 r) s fun t =>
      t.region r.val = { s.region r.val with aux := { (s.region r.val).aux with weightsLock := true } } ∧
      (∀ p, p ≠ r.val → t.region p = s.region p) ∧ t = { s with fab := { s.fab with regions := t.fab.regions } }) ∧
    (f ≠ 0 → exec (.weightsLockSet f r) s = .next s)

/-! ## Security (22) -/

/-- A command whose programming goes through ends with OK and blows its fuses; where a fuse fails it ends with SEC_FUSE_FAIL, where it is cut
off it stays busy. -/
def FusesBlown (s t : State) (res : FuseResult) (total : Nat) : Prop :=
  t.dev.sec.busy = true ∧
    (res = .blown → t.dev.sec.result = Codes.OK ∧ t.dev.sec.cut = s.dev.sec.cut) ∧
    (∀ k, res = .failed k → k < total → t.dev.sec.result = Codes.SEC_FUSE_FAIL) ∧
    (∀ k, res = .cut k → t.dev.sec.cut = true)

/-- The security block takes a command: the write reaches it, no command is busy, and the stage is AWAIT_IMAGE or RUNNING. -/
def SecTakes (s : State) : Prop :=
  s.pfReach false = true ∧ s.dev.sec.busy = false ∧ (s.dev.boot.stage = .awaitImage ∨ s.dev.boot.stage = .running)

/-- No memory, fabric or boot state is changed. -/
def SecKeeps (s t : State) : Prop :=
  t.mem = s.mem ∧ t.fab = s.fab ∧ t.dev.boot = s.dev.boot ∧ t.flash.copyA = s.flash.copyA ∧ t.flash.copyB = s.flash.copyB ∧ t.part = s.part

/-- An image key is provisioned in a fresh slot while provisioning is open: its SHA-384 hash, then the valid bit, are blown and the key is
stored; a used slot or a blown lock turns it away with no fuse changed, and so does a stage without commands. -/
def Obligations.ImageKeysAreProvisioned : Prop :=
  ∀ (s : State) (k : Fin 8) (res : FuseResult),
    (SecTakes s → s.fuses.lock = false → s.fuses.slotFresh k.val = true → Completes (.provisionImageKey k res) s fun t =>
      FusesBlown s t res ((onesOf 384 (BitVec.ofNat 384 (beNat (sha384 s.stagedKey)))).length + 1) ∧ SecKeeps s t ∧
      Tab.get [] t.flash.keyStore k.val = s.stagedKey ∧ (∀ j, j ≠ k.val → Tab.get [] t.flash.keyStore j = Tab.get [] s.flash.keyStore j) ∧
      (res = .blown → Tab.get 0 t.fuses.imgHash k.val = BitVec.ofNat 384 (beNat (sha384 s.stagedKey)) ∧ t.fuses.provisioned k.val = true) ∧
      (∀ j, j ≠ k.val → Tab.get 0 t.fuses.imgHash j = Tab.get 0 s.fuses.imgHash j ∧ t.fuses.provisioned j = s.fuses.provisioned j) ∧
      t.fuses = { s.fuses with imgHash := t.fuses.imgHash, imgValid := t.fuses.imgValid }) ∧
    (SecTakes s → s.fuses.lock = true → Completes (.provisionImageKey k res) s fun t =>
      t = { s with dev := { s.dev with sec := { s.dev.sec with result := Codes.SEC_LOCKED } } }) ∧
    (SecTakes s → s.fuses.lock = false → s.fuses.slotFresh k.val = false → Completes (.provisionImageKey k res) s fun t =>
      t = { s with dev := { s.dev with sec := { s.dev.sec with result := Codes.SEC_SLOT_USED } } }) ∧
    (s.pfReach false = true → s.dev.sec.busy = false → s.dev.boot.stage ≠ .awaitImage → s.dev.boot.stage ≠ .running →
      Completes (.provisionImageKey k res) s fun t =>
      t = { s with dev := { s.dev with sec := { s.dev.sec with result := Codes.SEC_CMD_DENIED } } }) ∧
    (s.dev.sec.busy = true → exec (.provisionImageKey k res) s = .next s)

/-- Keys are revoked, unless a locked part would keep no image key or no firmware copy would verify; thermometers advance to the security
version of the image or of the older copy, never past 64; the lock is blown once an image key lives. -/
def Obligations.FuseCommandsBlowTheirFuses : Prop :=
  ∀ (s : State) (k : Fin 8) (j : Fin 4) (res : FuseResult) (x : Fuses), SecTakes s →
    ((s.fuses.lock = false ∨ s.fuses.liveSlots ≠ [k.val]) → Completes (.revokeImageKey k res) s fun t =>
      FusesBlown s t res 1 ∧ SecKeeps s t ∧ t.flash = s.flash ∧
      (res = .blown → t.fuses = { s.fuses with imgRevoked := s.fuses.imgRevoked ||| ((1 : BitVec 8) <<< k.val) })) ∧
    (s.fuses.lock = true → s.fuses.liveSlots = [k.val] → Completes (.revokeImageKey k res) s fun t =>
      t = { s with dev := { s.dev with sec := { s.dev.sec with result := Codes.SEC_REVOKE_LAST } } }) ∧
    (x = { s.fuses with fwRevoked := s.fuses.fwRevoked ||| ((1 : BitVec 4) <<< j.val) } →
      ({ s with fuses := x }.copyVerifies s.flash.copyA = true ∨ { s with fuses := x }.copyVerifies s.flash.copyB = true →
        Completes (.revokeFirmwareKey j res) s fun t =>
          FusesBlown s t res 1 ∧ SecKeeps s t ∧ t.flash = s.flash ∧ (res = .blown → t.fuses = x)) ∧
      ({ s with fuses := x }.copyVerifies s.flash.copyA = false → { s with fuses := x }.copyVerifies s.flash.copyB = false →
        Completes (.revokeFirmwareKey j res) s fun t =>
          t = { s with dev := { s.dev with sec := { s.dev.sec with result := Codes.SEC_REVOKE_LAST } } })) ∧
    (s.dev.boot.stage = .running → s.fuses.imgRollback < min 64 s.image.securityVersion.toNat → Completes (.advanceImageRollback res) s fun t =>
      FusesBlown s t res (min 64 s.image.securityVersion.toNat - s.fuses.imgRollback) ∧ SecKeeps s t ∧ t.flash = s.flash ∧
      (res = .blown → t.fuses = { s.fuses with imgRollback := min 64 s.image.securityVersion.toNat })) ∧
    (s.dev.boot.stage = .awaitImage → Completes (.advanceImageRollback res) s fun t =>
      t = { s with dev := { s.dev with sec := { s.dev.sec with result := Codes.SEC_CMD_DENIED } } }) ∧
    (s.dev.boot.stage = .running → min 64 s.image.securityVersion.toNat ≤ s.fuses.imgRollback → Completes (.advanceImageRollback res) s fun t =>
      t = { s with dev := { s.dev with sec := { s.dev.sec with result := Codes.OK } } }) ∧
    (s.copyVerifies s.flash.copyA = true → s.copyVerifies s.flash.copyB = true → s.fuses.fwRollback < min 64 s.lowerVersion →
      Completes (.advanceFirmwareRollback res) s fun t =>
        FusesBlown s t res (min 64 s.lowerVersion - s.fuses.fwRollback) ∧ SecKeeps s t ∧ t.flash = s.flash ∧
        (res = .blown → t.fuses = { s.fuses with fwRollback := min 64 s.lowerVersion })) ∧
    (s.copyVerifies s.flash.copyA = true → s.copyVerifies s.flash.copyB = true → min 64 s.lowerVersion ≤ s.fuses.fwRollback →
      Completes (.advanceFirmwareRollback res) s fun t => t = { s with dev := { s.dev with sec := { s.dev.sec with result := Codes.OK } } }) ∧
    ((s.copyVerifies s.flash.copyA = false ∨ s.copyVerifies s.flash.copyB = false) → Completes (.advanceFirmwareRollback res) s fun t =>
      t = { s with dev := { s.dev with sec := { s.dev.sec with result := Codes.SEC_ROLLBACK_DENIED } } }) ∧
    (s.fuses.liveSlots ≠ [] → Completes (.blowProvisioningLock res) s fun t =>
      FusesBlown s t res 1 ∧ SecKeeps s t ∧ t.flash = s.flash ∧ (res = .blown → t.fuses = { s.fuses with lock := true })) ∧
    (s.fuses.liveSlots = [] → Completes (.blowProvisioningLock res) s fun t =>
      t = { s with dev := { s.dev with sec := { s.dev.sec with result := Codes.SEC_REVOKE_LAST } } })

/-- A go write takes its place behind the attestations that wait; the first of them ends with SEC_NO_DIGEST, or with OK and a signature of 24
words over its queue's digest. No register read depends on the attestation key. -/
def Obligations.AttestationsAnswer : Prop :=
  ∀ (s : State) (f : FnId) (r : RegionId) (v : Word) (rest : List (Nat × Word64)) (p : Nat) (t : Word64) (q : Nat) (o : Nat) (key : BitVec 384),
    (s.reaches f.val r.val = true → (s.region r.val).aux.attestBusy = false → v.getLsbD 0 = true →
      (∀ e ∈ s.dev.sec.attests, e.2 ≠ s.tick) → Completes (.attestGo f r v) s fun u =>
        u.region r.val = { s.region r.val with aux := { (s.region r.val).aux with attestQueue := v.extractLsb' 1 6, attestBusy := true } } ∧
        u.dev.sec.attests = s.dev.sec.attests ++ [(r.val, s.tick)] ∧ (∀ j, j ≠ r.val → u.region j = s.region j) ∧
        u = { s with fab := { s.fab with regions := u.fab.regions }
                     dev := { s.dev with sec := { s.dev.sec with attests := u.dev.sec.attests } } }) ∧
    ((s.region r.val).aux.attestBusy = true → exec (.attestGo f r v) s = .next s) ∧
    (s.islandUp 44 = true → s.dev.sec.attests = (p, t) :: rest → q = (s.region p).aux.attestQueue.toNat → Completes .attestComplete s fun u =>
      u.dev.sec.attests = rest ∧ (u.region p).aux.attestBusy = false ∧
      ((s.queue p q).lastDigest = none → (u.region p).aux.attestResult = Codes.SEC_NO_DIGEST ∧
        (u.region p).aux.attestSig = (s.region p).aux.attestSig) ∧
      ((s.queue p q).lastDigest.isSome = true → (u.region p).aux.attestResult = Codes.OK ∧ (u.region p).aux.attestSig.length = 24) ∧
      (∀ j, j ≠ p → u.region j = s.region j) ∧ u.mem = s.mem ∧ s.KeepsStore u) ∧
    { s with part := { s.part with attestKey := key } }.regRead f.val o = s.regRead f.val o

/-! ## Revocation (23) -/

/-- A command that writes REGION_REVOKE_CMD, with its kind. -/
def RevokesWith (c : Instr) (kind : Nat) (f : FnId) (r : RegionId) (v : Word64) : Prop :=
  (c, kind) ∈ [(.revokeQueueLock f r v, 0), (.revokeWindow f r v, 1), (.revokeFlag f r v, 2), (.revokeTaskSlot f r v, 3),
    (.revokeStreamSlot f r v, 4), (.revokeRegion f r v, 5)]

/-- A region's revocation changes only its own request. -/
def OnlyRevocation (s t : State) (r : Nat) : Prop :=
  (t.region r).sched = (s.region r).sched ∧ (t.region r).aux = (s.region r).aux ∧ (∀ p, p ≠ r → t.region p = s.region p) ∧
    t = { s with fab := { s.fab with regions := t.fab.regions } }

/-- A revocation of a resource that the region has is busy from its write on; a bad argument ends at once with REVOKE_BAD_ARG; a write while one is
busy does nothing. When every old operation has ended, the resource is in its reset state, busy is 0 and REVOKE_DONE is raised. -/
def Obligations.RevocationsAreRequestedAndEnd : Prop :=
  ∀ (s : State) (c : Instr) (kind : Nat) (f : FnId) (r : RegionId) (v : Word64) (x : Revocation), RevokesWith c kind f r v →
    (s.reaches f.val r.val = true → v.toNat % 16 = kind → (s.region r.val).rev.busy = false → bitsOf v.toNat 7 4 = 0 →
      bitsOf v.toNat 63 8 = Nat.land (bitsOf v.toNat 63 8) (revokeMask kind) → s.revokeNames r.val kind (bitsOf v.toNat 63 8) = true →
      Completes c s fun t =>
        (t.region r.val).rev = { (s.region r.val).rev with busy := true, result := Codes.OK
                                                           pending := some { kind := kind, arg := bitsOf v.toNat 63 8 } } ∧
        OnlyRevocation s t r.val) ∧
    (s.reaches f.val r.val = true → v.toNat % 16 = kind → (s.region r.val).rev.busy = false →
      (bitsOf v.toNat 7 4 ≠ 0 ∨ bitsOf v.toNat 63 8 ≠ Nat.land (bitsOf v.toNat 63 8) (revokeMask kind) ∨
        s.revokeNames r.val kind (bitsOf v.toNat 63 8) = false) →
      Completes c s fun t =>
        (t.region r.val).rev = { (s.region r.val).rev with result := Codes.REVOKE_BAD_ARG } ∧ OnlyRevocation s t r.val) ∧
    ((s.region r.val).rev.busy = true → exec c s = .next s) ∧
    (s.dev.boot.stage = .running → (s.region r.val).aux.resetBusy = false → (s.region r.val).rev.pending = some x → x.applied = true →
      (∀ p ∈ x.old, s.slotOf r.val p.1 p.2 = none) → Completes (.revokeDone r) s fun t =>
        (t.region r.val).rev.busy = false ∧ (t.region r.val).rev.pending = none ∧ (t.region r.val).rev.result = (s.region r.val).rev.result ∧
        (t.region r.val).rev.epochs = (s.region r.val).rev.epochs ∧
        (x.kind = 0 → t.queue r.val (x.arg % 64) = { s.queue r.val (x.arg % 64) with enable := false } ∧
          ∀ q, q ≠ x.arg % 64 → t.queue r.val q = s.queue r.val q) ∧
        (x.kind = 2 → t.flag r.val x.arg = 0 ∧ ∀ n, n ≠ x.arg → t.flag r.val n = s.flag r.val n) ∧
        (x.kind = 5 → (∀ n, t.flag r.val n = 0) ∧ ∀ q, (t.queue r.val q).enable = false) ∧
        ((x.kind = 1 ∨ x.kind = 3) → (∀ n, t.flag r.val n = s.flag r.val n) ∧ ∀ q, t.queue r.val q = s.queue r.val q) ∧
        (∀ p, p ≠ r.val → t.region p = s.region p) ∧ (EventsOutside s r.val → t.mem = s.mem) ∧ s.KeepsStore t) ∧
    ((s.region r.val).rev.pending = some x → (x.applied = false ∨ ∃ p ∈ x.old, (s.slotOf r.val p.1 p.2).isSome = true) →
      exec (.revokeDone r) s = .next s)

/-! ## Telemetry, trace and the test port (24) -/

/-- A period begins at its frame boundary with every enabled source unread; a source that is read, by the control cores at a boundary or in a
background slot of its target, the lowest first of each kind, gives one record, or a drop where the ring is full; the trace control arms
a capture of a region that is open to it and is refused otherwise; consent is the region's own function's to give. -/
def Obligations.SamplesAndTracesAreControlled : Prop :=
  ∀ (s : State) (n : Fin 64) (v : Word) (f : FnId) (r : RegionId) (o : Nat) (ok : Bool),
    (s.sampling = true → s.atFrame = true → s.frame % 2 ^ s.dev.tel.periodLog2.toNat = 0 → s.dev.tel.unread = [] → Completes .telSamplePeriod s fun t =>
      t = { s with dev := { s.dev with tel := { s.dev.tel with unread := t.dev.tel.unread, late := t.dev.tel.late } } } ∧
      t.dev.tel.late = s.dev.tel.late ∧ ∀ i, i ∈ t.dev.tel.unread ↔ i < 64 ∧ (Tab.get 0 s.dev.tel.sources i).getLsbD 31 = true) ∧
    (s.sampling = true → s.atFrame = true → s.frame % 2 ^ s.dev.tel.periodLog2.toNat = 0 → s.dev.tel.unread ≠ [] → Completes .telSamplePeriod s fun t =>
      t.dev.tel.late = satAdd s.dev.tel.late s.dev.tel.unread.length ∧ t.dev.tel.sources = s.dev.tel.sources ∧ t.mem = s.mem ∧ t.fab = s.fab ∧
      s.KeepsStore t) ∧
    (s.sampling = true → n.val ∈ s.dev.tel.unread → s.sampleNow (s.sourceOffset n.val) = true →
      (∀ m ∈ s.dev.tel.unread, m < n.val → inFabric (s.sourceOffset m) ≠ inFabric (s.sourceOffset n.val)) →
      s.dev.tel.ring.full = true → Completes (.telSampleRead n) s fun t =>
      t.dev.tel = { s.dev.tel with unread := s.dev.tel.unread.erase n.val, lostSince := s.dev.tel.lostSince + 1
                                   ring := { s.dev.tel.ring with lost := satAdd s.dev.tel.ring.lost 1 } } ∧
      t = { s with dev := { s.dev with tel := t.dev.tel, noc := (s.sampleServed (s.sourceOffset n.val)).dev.noc } }) ∧
    (s.sampling = true → n.val ∈ s.dev.tel.unread → s.sampleNow (s.sourceOffset n.val) = true →
      (∀ m ∈ s.dev.tel.unread, m < n.val → inFabric (s.sourceOffset m) ≠ inFabric (s.sourceOffset n.val)) →
      s.dev.tel.ring.full = false → s.dev.tel.lostSince = 0 → s.pfHostAllowed = true →
      o = (Tab.get 0 s.dev.tel.sources n.val).toNat % 2 ^ 26 → ok = (samplePermitted o && s.sampleReached o) →
      Completes (.telSampleRead n) s fun t =>
        t.hostMem = hostPut s.hostMem (s.dev.tel.ring.base.toNat + s.dev.tel.ring.tail.toNat % 2 ^ s.dev.tel.ring.sizeLog2.toNat * 16)
          (leBytes 4 (n.val + (if ok then 64 else 128)) ++ leBytes 4 (s.frame % 2 ^ 32) ++ leBytes 8 (if ok then (s.regRead64 0 o).toNat else 0)) ∧
        t.dev.tel = { s.dev.tel with unread := s.dev.tel.unread.erase n.val, ring := { s.dev.tel.ring with tail := s.dev.tel.ring.tail + 1 } } ∧
        t = { s with hostMem := t.hostMem, dev := { s.dev with tel := t.dev.tel, noc := (s.sampleServed o).dev.noc } }) ∧
    (s.pfReach false = true → s.domState 45 ≠ .pewter → v.getLsbD 0 = true → s.traceOpen (bitsOf v.toNat 5 1) = true →
      s.dev.dbg.ctl.getLsbD 0 = false → Completes (.dbgTraceCtlWrite v) s fun t =>
        t = { s with dev := { s.dev with dbg := { s.dev.dbg with
          ctl := v.setWidth 11, armed := true, running := false, ending := false, full := false, written := 0, buf := [], collect := [] } } }) ∧
    (s.pfReach false = true → s.domState 45 ≠ .pewter → v.getLsbD 0 = false → Completes (.dbgTraceCtlWrite v) s fun t =>
        t = { s with dev := { s.dev with dbg := { s.dev.dbg with
          ctl := v.setWidth 11, armed := false, running := false, ending := false, collect := [] } } }) ∧
    (s.pfReach false = true → s.domState 45 ≠ .pewter → v.getLsbD 0 = true → s.fuses.lock = true →
      (s.region (bitsOf v.toNat 5 1)).aux.dbgConsent = false → Completes (.dbgTraceCtlWrite v) s fun t =>
        (s.dev.hst.pfEvt.enable = true → s.dev.hst.pfEvt.full = false →
          t.dev.hst.pfEvt = { s.dev.hst.pfEvt with tail := s.dev.hst.pfEvt.tail + 1 }) ∧
        t = { s with hostMem := t.hostMem, dev := { s.dev with hst := { s.dev.hst with pfEvt := t.dev.hst.pfEvt, pfIrq := t.dev.hst.pfIrq } } }) ∧
    (f.val = r.val + 1 → s.reaches f.val r.val = true → Completes (.regionDbgConsentWrite f r v) s fun t =>
      (t.region r.val).aux = { (s.region r.val).aux with dbgConsent := v.getLsbD 0 } ∧ (∀ p, p ≠ r.val → t.region p = s.region p) ∧
      ((s.region r.val).aux.dbgConsent = true → v.getLsbD 0 = false → bitsOf s.dev.dbg.ctl.toNat 5 1 = r.val → s.dev.dbg.running = true →
        t.dev.dbg.ending = true) ∧
      t = { s with fab := { s.fab with regions := t.fab.regions }, dev := { s.dev with dbg := { s.dev.dbg with ending := t.dev.dbg.ending } } }) ∧
    (f.val ≠ r.val + 1 → exec (.regionDbgConsentWrite f r v) s = .next s)

/-- Each test instruction is loaded while the port is powered, and changes nothing else out of RESET; in RESET, EXTEST, CLAMP and HIGHZ hold the
package there and decide its balls, and an instruction that holds nothing lets the boot start. IDCODE answers the part's number. -/
def Obligations.TestInstructionsLoad : Prop :=
  ∀ (s : State) (op : Byte) (c : Instr) (bits : BitVec 19), s.dev.pins.mgtVio = true → s.dev.boot.causeRail = false →
    ((c, op) ∈ [(Instr.testLogicReset, (0x01 : Byte)), (.extest, 0x03), (.clamp, 0x04), (.highz, 0x05), (.dbgAccess, 0x10), (.bypass 0xFF, 0xFF)] →
      s.dev.boot.stage ≠ .reset ∨ jtagHolds op = true → Completes c s fun t =>
        t = { s with dev := { s.dev with dbg := { s.dev.dbg with ir := op } } } ∧
        (s.dev.boot.stage = .reset → op = 0x03 ∨ op = 0x04 →
          t.syncOutBall = (if s.dev.dbg.boundary.getLsbD 10 then (if s.dev.dbg.boundary.getLsbD 9 then .high else .low) else .floats)) ∧
        (s.dev.boot.stage = .reset → op = 0x05 → t.syncOutBall = .floats ∧ t.alertBall = .floats)) ∧
    (s.dev.boot.stage = .reset → s.dev.boot.causeOver = false → s.dev.boot.causeBoard = false → s.dev.boot.causeHost = false →
      Completes .testLogicReset s fun t => s.AtRom t ∧ t.dev.dbg.ir = 0x01 ∧ s.KeepsStore t ∧ s.KeepsFabric t) ∧
    (s.dev.boot.stage ≠ .reset → Completes .idcode s fun t =>
      t = { s with dev := { s.dev with dbg := { s.dev.dbg with ir := 0x01, readAnswer := t.dev.dbg.readAnswer } } } ∧
      t.dev.dbg.readAnswer = (if s.part.grade = .ae7_960 then 0x1AE7056B else 0x1AE6456B)) ∧
    (s.dev.boot.stage ≠ .reset → Completes (.samplePreload bits) s fun t =>
      t = { s with free := t.free, dev := { s.dev with dbg := { s.dev.dbg with ir := 0x02, boundary := bits, readAnswer := t.dev.dbg.readAnswer } } } ∧
      t.dev.dbg.readAnswer.getLsbD 9 = s.dev.pins.syncOutHigh ∧ t.dev.dbg.readAnswer.getLsbD 13 = !s.alertLow) ∧
    (namedOpcode op = true → exec (.bypass op) s = .next s)

/-- A debug access that is open reads or writes one register of the physical function, with status 0; with the lock blown every write and every
access of the security block or of a region's window is denied with status 1 and an event, and changes nothing else. -/
def Obligations.DebugAccessesAreGuarded : Prop :=
  ∀ (s : State) (v : Word64), s.dev.pins.mgtVio = true → s.dev.boot.causeRail = false → s.dev.dbg.ir = 0x10 →
    (v.getLsbD 26 = false → v.toNat % 4 = 0 → s.debugOpen (v.toNat % 2 ^ 26) false = true → Completes (.dbgAccessUpdate v) s fun t =>
      t.dev.dbg.access = BitVec.ofNat 64 (v.toNat % 2 ^ 28 + (s.regRead 0 (v.toNat % 2 ^ 26)).toNat * 2 ^ 28) ∧
      t = { s with dev := { s.dev with dbg := { s.dev.dbg with access := t.dev.dbg.access }, clk := { s.dev.clk with latches := t.dev.clk.latches } } }) ∧
    (v.getLsbD 26 = true → v.toNat % 2 ^ 26 = 0x98 → s.fuses.lock = false → s.dev.aux.slateInForce = false → s.pfReach true = true →
      Completes (.dbgAccessUpdate v) s fun t =>
        t.dev.boot.imageLen = v.extractLsb' 28 32 ∧ t.dev.dbg.access.toNat / 2 ^ 60 = 0 ∧ t.mem = s.mem ∧ t.fab = s.fab ∧ s.KeepsStore t) ∧
    (s.fuses.lock = true → (v.getLsbD 26 = true ∨ debugClosed (v.toNat % 2 ^ 26) = true) → Completes (.dbgAccessUpdate v) s fun t =>
      t.dev.dbg.access = BitVec.ofNat 64 (v.toNat % 2 ^ 28 + 2 ^ 60) ∧
      (s.dev.hst.pfEvt.enable = true → s.dev.hst.pfEvt.full = false →
        t.dev.hst.pfEvt = { s.dev.hst.pfEvt with tail := s.dev.hst.pfEvt.tail + 1 }) ∧
      t = { s with hostMem := t.hostMem, dev := { s.dev with dbg := { s.dev.dbg with access := t.dev.dbg.access }, hst := { s.dev.hst with
        pfEvt := t.dev.hst.pfEvt, pfIrq := t.dev.hst.pfIrq } } })
end

