-- ==== Sys2Proof/Laws/Tab.lean ====
section
/-!
SUPPORT. Sparse tables: reading after a write.
-/
namespace Sys2Proof.Machine

@[simp] theorem Tab.get_set_same {α : Type} (d : α) (t : Tab α) (k : Nat) (v : α) : Tab.get d (Tab.set t k v) k = v := by
  induction t with
  | nil => simp [Tab.set, Tab.get]
  | cons e t ih =>
    obtain ⟨j, a⟩ := e
    unfold Tab.set
    split
    · simp [Tab.get]
    · split
      · simp [Tab.get]
      · rename_i h _
        simp [Tab.get, h, ih]

theorem Tab.get_set_other {α : Type} (d : α) (t : Tab α) {k j : Nat} (v : α) (h : k ≠ j) :
    Tab.get d (Tab.set t k v) j = Tab.get d t j := by
  induction t with
  | nil => simp [Tab.set, Tab.get, h]
  | cons e t ih =>
    obtain ⟨i, a⟩ := e
    unfold Tab.set
    split
    · rename_i hik
      subst hik
      simp [Tab.get, h]
    · split
      · simp [Tab.get, h]
      · simp [Tab.get, ih]

@[simp] theorem Tab.get_modify_same {α : Type} (d : α) (t : Tab α) (k : Nat) (f : α → α) :
    Tab.get d (Tab.modify d t k f) k = f (Tab.get d t k) := by simp [Tab.modify]

theorem Tab.get_modify_other {α : Type} (d : α) (t : Tab α) {k j : Nat} (f : α → α) (h : k ≠ j) :
    Tab.get d (Tab.modify d t k f) j = Tab.get d t j := by simp [Tab.modify, Tab.get_set_other _ _ _ h]

end Sys2Proof.Machine
end

