-- ==== Sys2Proof/Laws/State.lean ====
section
/-!
SUPPORT. What each mask and each update of the state does to each part of it: one lemma per part and update, true by definition, so
that no proof unfolds a record update.
-/
namespace Sys2Proof.Machine

/-! ## Masks -/

@[simp] theorem State.devEffect_pending (s : State) (f : State → State) : (s.devEffect f).pending = s.pending := rfl
@[simp] theorem State.devEffect_part (s : State) (f : State → State) : (s.devEffect f).part = s.part := rfl
@[simp] theorem State.devEffect_fuses (s : State) (f : State → State) : (s.devEffect f).fuses = s.fuses := rfl
@[simp] theorem State.devEffect_flash (s : State) (f : State → State) : (s.devEffect f).flash = s.flash := rfl
@[simp] theorem State.devEffect_dev (s : State) (f : State → State) : (s.devEffect f).dev = (f s).dev := rfl
@[simp] theorem State.devEffect_fab (s : State) (f : State → State) : (s.devEffect f).fab = s.fab := rfl
@[simp] theorem State.devEffect_mem (s : State) (f : State → State) : (s.devEffect f).mem = s.mem := rfl
@[simp] theorem State.devEffect_hostMem (s : State) (f : State → State) : (s.devEffect f).hostMem = s.hostMem := rfl
@[simp] theorem State.devEffect_free (s : State) (f : State → State) : (s.devEffect f).free = (f s).free := rfl

@[simp] theorem State.effect_pending (s : State) (f : State → State) : (s.effect f).pending = s.pending := rfl
@[simp] theorem State.effect_part (s : State) (f : State → State) : (s.effect f).part = s.part := rfl
@[simp] theorem State.effect_fuses (s : State) (f : State → State) : (s.effect f).fuses = s.fuses := rfl
@[simp] theorem State.effect_flash (s : State) (f : State → State) : (s.effect f).flash = s.flash := rfl
@[simp] theorem State.effect_dev (s : State) (f : State → State) : (s.effect f).dev = (f s).dev := rfl
@[simp] theorem State.effect_fab (s : State) (f : State → State) : (s.effect f).fab = (f s).fab := rfl
@[simp] theorem State.effect_mem (s : State) (f : State → State) : (s.effect f).mem = (f s).mem := rfl
@[simp] theorem State.effect_hostMem (s : State) (f : State → State) : (s.effect f).hostMem = (f s).hostMem := rfl
@[simp] theorem State.effect_free (s : State) (f : State → State) : (s.effect f).free = (f s).free := rfl

@[simp] theorem State.flashEffect_pending (s : State) (f : State → State) : (s.flashEffect f).pending = s.pending := rfl
@[simp] theorem State.flashEffect_part (s : State) (f : State → State) : (s.flashEffect f).part = s.part := rfl
@[simp] theorem State.flashEffect_fuses (s : State) (f : State → State) : (s.flashEffect f).fuses = s.fuses := rfl
@[simp] theorem State.flashEffect_flash (s : State) (f : State → State) : (s.flashEffect f).flash = (f s).flash := rfl
@[simp] theorem State.flashEffect_dev (s : State) (f : State → State) : (s.flashEffect f).dev = (f s).dev := rfl
@[simp] theorem State.flashEffect_fab (s : State) (f : State → State) : (s.flashEffect f).fab = (f s).fab := rfl
@[simp] theorem State.flashEffect_mem (s : State) (f : State → State) : (s.flashEffect f).mem = (f s).mem := rfl
@[simp] theorem State.flashEffect_hostMem (s : State) (f : State → State) : (s.flashEffect f).hostMem = (f s).hostMem := rfl
@[simp] theorem State.flashEffect_free (s : State) (f : State → State) : (s.flashEffect f).free = (f s).free := rfl

@[simp] theorem State.fuseEffect_pending (s : State) (f : State → State) : (s.fuseEffect f).pending = s.pending := rfl
@[simp] theorem State.fuseEffect_part (s : State) (f : State → State) : (s.fuseEffect f).part = s.part := rfl
@[simp] theorem State.fuseEffect_fuses (s : State) (f : State → State) : (s.fuseEffect f).fuses = (f s).fuses := rfl
@[simp] theorem State.fuseEffect_flash (s : State) (f : State → State) : (s.fuseEffect f).flash = (f s).flash := rfl
@[simp] theorem State.fuseEffect_dev (s : State) (f : State → State) : (s.fuseEffect f).dev = (f s).dev := rfl
@[simp] theorem State.fuseEffect_fab (s : State) (f : State → State) : (s.fuseEffect f).fab = (f s).fab := rfl
@[simp] theorem State.fuseEffect_mem (s : State) (f : State → State) : (s.fuseEffect f).mem = (f s).mem := rfl
@[simp] theorem State.fuseEffect_hostMem (s : State) (f : State → State) : (s.fuseEffect f).hostMem = (f s).hostMem := rfl
@[simp] theorem State.fuseEffect_free (s : State) (f : State → State) : (s.fuseEffect f).free = (f s).free := rfl

@[simp] theorem State.whenP_true (s : State) (f : State → State) : s.whenP true f = f s := rfl
@[simp] theorem State.whenP_false (s : State) (f : State → State) : s.whenP false f = s := rfl

theorem State.whenP_pos (s : State) {c : Bool} (f : State → State) (h : c = true) : s.whenP c f = f s := by simp [h]
theorem State.whenP_neg (s : State) {c : Bool} (f : State → State) (h : c = false) : s.whenP c f = s := by simp [h]

/-! ## The hub blocks -/

@[simp] theorem State.onBoot_dev (s : State) (f : Boot → Boot) : (s.onBoot f).dev = { s.dev with boot := f s.dev.boot } := rfl
@[simp] theorem State.onBoot_pending (s : State) (f : Boot → Boot) : (s.onBoot f).pending = s.pending := rfl
@[simp] theorem State.onBoot_part (s : State) (f : Boot → Boot) : (s.onBoot f).part = s.part := rfl
@[simp] theorem State.onBoot_fuses (s : State) (f : Boot → Boot) : (s.onBoot f).fuses = s.fuses := rfl
@[simp] theorem State.onBoot_flash (s : State) (f : Boot → Boot) : (s.onBoot f).flash = s.flash := rfl
@[simp] theorem State.onBoot_fab (s : State) (f : Boot → Boot) : (s.onBoot f).fab = s.fab := rfl
@[simp] theorem State.onBoot_mem (s : State) (f : Boot → Boot) : (s.onBoot f).mem = s.mem := rfl
@[simp] theorem State.onBoot_hostMem (s : State) (f : Boot → Boot) : (s.onBoot f).hostMem = s.hostMem := rfl
@[simp] theorem State.onBoot_free (s : State) (f : Boot → Boot) : (s.onBoot f).free = s.free := rfl

@[simp] theorem State.onAux_dev (s : State) (f : BootAux → BootAux) : (s.onAux f).dev = { s.dev with aux := f s.dev.aux } := rfl
@[simp] theorem State.onAux_pending (s : State) (f : BootAux → BootAux) : (s.onAux f).pending = s.pending := rfl
@[simp] theorem State.onAux_part (s : State) (f : BootAux → BootAux) : (s.onAux f).part = s.part := rfl
@[simp] theorem State.onAux_fuses (s : State) (f : BootAux → BootAux) : (s.onAux f).fuses = s.fuses := rfl
@[simp] theorem State.onAux_flash (s : State) (f : BootAux → BootAux) : (s.onAux f).flash = s.flash := rfl
@[simp] theorem State.onAux_fab (s : State) (f : BootAux → BootAux) : (s.onAux f).fab = s.fab := rfl
@[simp] theorem State.onAux_mem (s : State) (f : BootAux → BootAux) : (s.onAux f).mem = s.mem := rfl
@[simp] theorem State.onAux_hostMem (s : State) (f : BootAux → BootAux) : (s.onAux f).hostMem = s.hostMem := rfl
@[simp] theorem State.onAux_free (s : State) (f : BootAux → BootAux) : (s.onAux f).free = s.free := rfl

@[simp] theorem State.onPins_dev (s : State) (f : Pins → Pins) : (s.onPins f).dev = { s.dev with pins := f s.dev.pins } := rfl
@[simp] theorem State.onPins_pending (s : State) (f : Pins → Pins) : (s.onPins f).pending = s.pending := rfl
@[simp] theorem State.onPins_part (s : State) (f : Pins → Pins) : (s.onPins f).part = s.part := rfl
@[simp] theorem State.onPins_fuses (s : State) (f : Pins → Pins) : (s.onPins f).fuses = s.fuses := rfl
@[simp] theorem State.onPins_flash (s : State) (f : Pins → Pins) : (s.onPins f).flash = s.flash := rfl
@[simp] theorem State.onPins_fab (s : State) (f : Pins → Pins) : (s.onPins f).fab = s.fab := rfl
@[simp] theorem State.onPins_mem (s : State) (f : Pins → Pins) : (s.onPins f).mem = s.mem := rfl
@[simp] theorem State.onPins_hostMem (s : State) (f : Pins → Pins) : (s.onPins f).hostMem = s.hostMem := rfl
@[simp] theorem State.onPins_free (s : State) (f : Pins → Pins) : (s.onPins f).free = s.free := rfl

@[simp] theorem State.onShared_dev (s : State) (f : Shared → Shared) : (s.onShared f).dev = { s.dev with shared := f s.dev.shared } := rfl
@[simp] theorem State.onShared_pending (s : State) (f : Shared → Shared) : (s.onShared f).pending = s.pending := rfl
@[simp] theorem State.onShared_part (s : State) (f : Shared → Shared) : (s.onShared f).part = s.part := rfl
@[simp] theorem State.onShared_fuses (s : State) (f : Shared → Shared) : (s.onShared f).fuses = s.fuses := rfl
@[simp] theorem State.onShared_flash (s : State) (f : Shared → Shared) : (s.onShared f).flash = s.flash := rfl
@[simp] theorem State.onShared_fab (s : State) (f : Shared → Shared) : (s.onShared f).fab = s.fab := rfl
@[simp] theorem State.onShared_mem (s : State) (f : Shared → Shared) : (s.onShared f).mem = s.mem := rfl
@[simp] theorem State.onShared_hostMem (s : State) (f : Shared → Shared) : (s.onShared f).hostMem = s.hostMem := rfl
@[simp] theorem State.onShared_free (s : State) (f : Shared → Shared) : (s.onShared f).free = s.free := rfl

@[simp] theorem State.onClk_dev (s : State) (f : Clk → Clk) : (s.onClk f).dev = { s.dev with clk := f s.dev.clk } := rfl
@[simp] theorem State.onClk_pending (s : State) (f : Clk → Clk) : (s.onClk f).pending = s.pending := rfl
@[simp] theorem State.onClk_part (s : State) (f : Clk → Clk) : (s.onClk f).part = s.part := rfl
@[simp] theorem State.onClk_fuses (s : State) (f : Clk → Clk) : (s.onClk f).fuses = s.fuses := rfl
@[simp] theorem State.onClk_flash (s : State) (f : Clk → Clk) : (s.onClk f).flash = s.flash := rfl
@[simp] theorem State.onClk_fab (s : State) (f : Clk → Clk) : (s.onClk f).fab = s.fab := rfl
@[simp] theorem State.onClk_mem (s : State) (f : Clk → Clk) : (s.onClk f).mem = s.mem := rfl
@[simp] theorem State.onClk_hostMem (s : State) (f : Clk → Clk) : (s.onClk f).hostMem = s.hostMem := rfl
@[simp] theorem State.onClk_free (s : State) (f : Clk → Clk) : (s.onClk f).free = s.free := rfl

@[simp] theorem State.onPwr_dev (s : State) (f : Pwr → Pwr) : (s.onPwr f).dev = { s.dev with pwr := f s.dev.pwr } := rfl
@[simp] theorem State.onPwr_pending (s : State) (f : Pwr → Pwr) : (s.onPwr f).pending = s.pending := rfl
@[simp] theorem State.onPwr_part (s : State) (f : Pwr → Pwr) : (s.onPwr f).part = s.part := rfl
@[simp] theorem State.onPwr_fuses (s : State) (f : Pwr → Pwr) : (s.onPwr f).fuses = s.fuses := rfl
@[simp] theorem State.onPwr_flash (s : State) (f : Pwr → Pwr) : (s.onPwr f).flash = s.flash := rfl
@[simp] theorem State.onPwr_fab (s : State) (f : Pwr → Pwr) : (s.onPwr f).fab = s.fab := rfl
@[simp] theorem State.onPwr_mem (s : State) (f : Pwr → Pwr) : (s.onPwr f).mem = s.mem := rfl
@[simp] theorem State.onPwr_hostMem (s : State) (f : Pwr → Pwr) : (s.onPwr f).hostMem = s.hostMem := rfl
@[simp] theorem State.onPwr_free (s : State) (f : Pwr → Pwr) : (s.onPwr f).free = s.free := rfl

@[simp] theorem State.onNoc_dev (s : State) (f : Noc → Noc) : (s.onNoc f).dev = { s.dev with noc := f s.dev.noc } := rfl
@[simp] theorem State.onNoc_pending (s : State) (f : Noc → Noc) : (s.onNoc f).pending = s.pending := rfl
@[simp] theorem State.onNoc_part (s : State) (f : Noc → Noc) : (s.onNoc f).part = s.part := rfl
@[simp] theorem State.onNoc_fuses (s : State) (f : Noc → Noc) : (s.onNoc f).fuses = s.fuses := rfl
@[simp] theorem State.onNoc_flash (s : State) (f : Noc → Noc) : (s.onNoc f).flash = s.flash := rfl
@[simp] theorem State.onNoc_fab (s : State) (f : Noc → Noc) : (s.onNoc f).fab = s.fab := rfl
@[simp] theorem State.onNoc_mem (s : State) (f : Noc → Noc) : (s.onNoc f).mem = s.mem := rfl
@[simp] theorem State.onNoc_hostMem (s : State) (f : Noc → Noc) : (s.onNoc f).hostMem = s.hostMem := rfl
@[simp] theorem State.onNoc_free (s : State) (f : Noc → Noc) : (s.onNoc f).free = s.free := rfl

@[simp] theorem State.onYdi_dev (s : State) (f : Ydi → Ydi) : (s.onYdi f).dev = { s.dev with ydi := f s.dev.ydi } := rfl
@[simp] theorem State.onYdi_pending (s : State) (f : Ydi → Ydi) : (s.onYdi f).pending = s.pending := rfl
@[simp] theorem State.onYdi_part (s : State) (f : Ydi → Ydi) : (s.onYdi f).part = s.part := rfl
@[simp] theorem State.onYdi_fuses (s : State) (f : Ydi → Ydi) : (s.onYdi f).fuses = s.fuses := rfl
@[simp] theorem State.onYdi_flash (s : State) (f : Ydi → Ydi) : (s.onYdi f).flash = s.flash := rfl
@[simp] theorem State.onYdi_fab (s : State) (f : Ydi → Ydi) : (s.onYdi f).fab = s.fab := rfl
@[simp] theorem State.onYdi_mem (s : State) (f : Ydi → Ydi) : (s.onYdi f).mem = s.mem := rfl
@[simp] theorem State.onYdi_hostMem (s : State) (f : Ydi → Ydi) : (s.onYdi f).hostMem = s.hostMem := rfl
@[simp] theorem State.onYdi_free (s : State) (f : Ydi → Ydi) : (s.onYdi f).free = s.free := rfl

@[simp] theorem State.onLnk_dev (s : State) (f : Lnk → Lnk) : (s.onLnk f).dev = { s.dev with lnk := f s.dev.lnk } := rfl
@[simp] theorem State.onLnk_pending (s : State) (f : Lnk → Lnk) : (s.onLnk f).pending = s.pending := rfl
@[simp] theorem State.onLnk_part (s : State) (f : Lnk → Lnk) : (s.onLnk f).part = s.part := rfl
@[simp] theorem State.onLnk_fuses (s : State) (f : Lnk → Lnk) : (s.onLnk f).fuses = s.fuses := rfl
@[simp] theorem State.onLnk_flash (s : State) (f : Lnk → Lnk) : (s.onLnk f).flash = s.flash := rfl
@[simp] theorem State.onLnk_fab (s : State) (f : Lnk → Lnk) : (s.onLnk f).fab = s.fab := rfl
@[simp] theorem State.onLnk_mem (s : State) (f : Lnk → Lnk) : (s.onLnk f).mem = s.mem := rfl
@[simp] theorem State.onLnk_hostMem (s : State) (f : Lnk → Lnk) : (s.onLnk f).hostMem = s.hostMem := rfl
@[simp] theorem State.onLnk_free (s : State) (f : Lnk → Lnk) : (s.onLnk f).free = s.free := rfl

@[simp] theorem State.onHst_dev (s : State) (f : Hst → Hst) : (s.onHst f).dev = { s.dev with hst := f s.dev.hst } := rfl
@[simp] theorem State.onHst_pending (s : State) (f : Hst → Hst) : (s.onHst f).pending = s.pending := rfl
@[simp] theorem State.onHst_part (s : State) (f : Hst → Hst) : (s.onHst f).part = s.part := rfl
@[simp] theorem State.onHst_fuses (s : State) (f : Hst → Hst) : (s.onHst f).fuses = s.fuses := rfl
@[simp] theorem State.onHst_flash (s : State) (f : Hst → Hst) : (s.onHst f).flash = s.flash := rfl
@[simp] theorem State.onHst_fab (s : State) (f : Hst → Hst) : (s.onHst f).fab = s.fab := rfl
@[simp] theorem State.onHst_mem (s : State) (f : Hst → Hst) : (s.onHst f).mem = s.mem := rfl
@[simp] theorem State.onHst_hostMem (s : State) (f : Hst → Hst) : (s.onHst f).hostMem = s.hostMem := rfl
@[simp] theorem State.onHst_free (s : State) (f : Hst → Hst) : (s.onHst f).free = s.free := rfl

@[simp] theorem State.onSec_dev (s : State) (f : Sec → Sec) : (s.onSec f).dev = { s.dev with sec := f s.dev.sec } := rfl
@[simp] theorem State.onSec_pending (s : State) (f : Sec → Sec) : (s.onSec f).pending = s.pending := rfl
@[simp] theorem State.onSec_part (s : State) (f : Sec → Sec) : (s.onSec f).part = s.part := rfl
@[simp] theorem State.onSec_fuses (s : State) (f : Sec → Sec) : (s.onSec f).fuses = s.fuses := rfl
@[simp] theorem State.onSec_flash (s : State) (f : Sec → Sec) : (s.onSec f).flash = s.flash := rfl
@[simp] theorem State.onSec_fab (s : State) (f : Sec → Sec) : (s.onSec f).fab = s.fab := rfl
@[simp] theorem State.onSec_mem (s : State) (f : Sec → Sec) : (s.onSec f).mem = s.mem := rfl
@[simp] theorem State.onSec_hostMem (s : State) (f : Sec → Sec) : (s.onSec f).hostMem = s.hostMem := rfl
@[simp] theorem State.onSec_free (s : State) (f : Sec → Sec) : (s.onSec f).free = s.free := rfl

@[simp] theorem State.onFaults_dev (s : State) (f : Faults → Faults) : (s.onFaults f).dev = { s.dev with faults := f s.dev.faults } := rfl
@[simp] theorem State.onFaults_pending (s : State) (f : Faults → Faults) : (s.onFaults f).pending = s.pending := rfl
@[simp] theorem State.onFaults_part (s : State) (f : Faults → Faults) : (s.onFaults f).part = s.part := rfl
@[simp] theorem State.onFaults_fuses (s : State) (f : Faults → Faults) : (s.onFaults f).fuses = s.fuses := rfl
@[simp] theorem State.onFaults_flash (s : State) (f : Faults → Faults) : (s.onFaults f).flash = s.flash := rfl
@[simp] theorem State.onFaults_fab (s : State) (f : Faults → Faults) : (s.onFaults f).fab = s.fab := rfl
@[simp] theorem State.onFaults_mem (s : State) (f : Faults → Faults) : (s.onFaults f).mem = s.mem := rfl
@[simp] theorem State.onFaults_hostMem (s : State) (f : Faults → Faults) : (s.onFaults f).hostMem = s.hostMem := rfl
@[simp] theorem State.onFaults_free (s : State) (f : Faults → Faults) : (s.onFaults f).free = s.free := rfl

@[simp] theorem State.onTel_dev (s : State) (f : Tel → Tel) : (s.onTel f).dev = { s.dev with tel := f s.dev.tel } := rfl
@[simp] theorem State.onTel_pending (s : State) (f : Tel → Tel) : (s.onTel f).pending = s.pending := rfl
@[simp] theorem State.onTel_part (s : State) (f : Tel → Tel) : (s.onTel f).part = s.part := rfl
@[simp] theorem State.onTel_fuses (s : State) (f : Tel → Tel) : (s.onTel f).fuses = s.fuses := rfl
@[simp] theorem State.onTel_flash (s : State) (f : Tel → Tel) : (s.onTel f).flash = s.flash := rfl
@[simp] theorem State.onTel_fab (s : State) (f : Tel → Tel) : (s.onTel f).fab = s.fab := rfl
@[simp] theorem State.onTel_mem (s : State) (f : Tel → Tel) : (s.onTel f).mem = s.mem := rfl
@[simp] theorem State.onTel_hostMem (s : State) (f : Tel → Tel) : (s.onTel f).hostMem = s.hostMem := rfl
@[simp] theorem State.onTel_free (s : State) (f : Tel → Tel) : (s.onTel f).free = s.free := rfl

@[simp] theorem State.onDbg_dev (s : State) (f : Dbg → Dbg) : (s.onDbg f).dev = { s.dev with dbg := f s.dev.dbg } := rfl
@[simp] theorem State.onDbg_pending (s : State) (f : Dbg → Dbg) : (s.onDbg f).pending = s.pending := rfl
@[simp] theorem State.onDbg_part (s : State) (f : Dbg → Dbg) : (s.onDbg f).part = s.part := rfl
@[simp] theorem State.onDbg_fuses (s : State) (f : Dbg → Dbg) : (s.onDbg f).fuses = s.fuses := rfl
@[simp] theorem State.onDbg_flash (s : State) (f : Dbg → Dbg) : (s.onDbg f).flash = s.flash := rfl
@[simp] theorem State.onDbg_fab (s : State) (f : Dbg → Dbg) : (s.onDbg f).fab = s.fab := rfl
@[simp] theorem State.onDbg_mem (s : State) (f : Dbg → Dbg) : (s.onDbg f).mem = s.mem := rfl
@[simp] theorem State.onDbg_hostMem (s : State) (f : Dbg → Dbg) : (s.onDbg f).hostMem = s.hostMem := rfl
@[simp] theorem State.onDbg_free (s : State) (f : Dbg → Dbg) : (s.onDbg f).free = s.free := rfl

@[simp] theorem State.onDomain_dev (s : State) (n : Nat) (f : Domain → Domain) : (s.onDomain n f).dev = { s.dev with pwr := { s.dev.pwr with domains := Tab.modify {} s.dev.pwr.domains n f } } := rfl
@[simp] theorem State.onDomain_pending (s : State) (n : Nat) (f : Domain → Domain) : (s.onDomain n f).pending = s.pending := rfl
@[simp] theorem State.onDomain_part (s : State) (n : Nat) (f : Domain → Domain) : (s.onDomain n f).part = s.part := rfl
@[simp] theorem State.onDomain_fuses (s : State) (n : Nat) (f : Domain → Domain) : (s.onDomain n f).fuses = s.fuses := rfl
@[simp] theorem State.onDomain_flash (s : State) (n : Nat) (f : Domain → Domain) : (s.onDomain n f).flash = s.flash := rfl
@[simp] theorem State.onDomain_fab (s : State) (n : Nat) (f : Domain → Domain) : (s.onDomain n f).fab = s.fab := rfl
@[simp] theorem State.onDomain_mem (s : State) (n : Nat) (f : Domain → Domain) : (s.onDomain n f).mem = s.mem := rfl
@[simp] theorem State.onDomain_hostMem (s : State) (n : Nat) (f : Domain → Domain) : (s.onDomain n f).hostMem = s.hostMem := rfl
@[simp] theorem State.onDomain_free (s : State) (n : Nat) (f : Domain → Domain) : (s.onDomain n f).free = s.free := rfl

@[simp] theorem State.onBundle_dev (s : State) (b : Nat) (f : Bundle → Bundle) : (s.onBundle b f).dev = { s.dev with ydi := { s.dev.ydi with bundles := Tab.modify {} s.dev.ydi.bundles b f } } := rfl
@[simp] theorem State.onBundle_pending (s : State) (b : Nat) (f : Bundle → Bundle) : (s.onBundle b f).pending = s.pending := rfl
@[simp] theorem State.onBundle_part (s : State) (b : Nat) (f : Bundle → Bundle) : (s.onBundle b f).part = s.part := rfl
@[simp] theorem State.onBundle_fuses (s : State) (b : Nat) (f : Bundle → Bundle) : (s.onBundle b f).fuses = s.fuses := rfl
@[simp] theorem State.onBundle_flash (s : State) (b : Nat) (f : Bundle → Bundle) : (s.onBundle b f).flash = s.flash := rfl
@[simp] theorem State.onBundle_fab (s : State) (b : Nat) (f : Bundle → Bundle) : (s.onBundle b f).fab = s.fab := rfl
@[simp] theorem State.onBundle_mem (s : State) (b : Nat) (f : Bundle → Bundle) : (s.onBundle b f).mem = s.mem := rfl
@[simp] theorem State.onBundle_hostMem (s : State) (b : Nat) (f : Bundle → Bundle) : (s.onBundle b f).hostMem = s.hostMem := rfl
@[simp] theorem State.onBundle_free (s : State) (b : Nat) (f : Bundle → Bundle) : (s.onBundle b f).free = s.free := rfl

@[simp] theorem State.onPort_dev (s : State) (p : Nat) (f : Port → Port) : (s.onPort p f).dev = { s.dev with lnk := { s.dev.lnk with ports := Tab.modify {} s.dev.lnk.ports p f } } := rfl
@[simp] theorem State.onPort_pending (s : State) (p : Nat) (f : Port → Port) : (s.onPort p f).pending = s.pending := rfl
@[simp] theorem State.onPort_part (s : State) (p : Nat) (f : Port → Port) : (s.onPort p f).part = s.part := rfl
@[simp] theorem State.onPort_fuses (s : State) (p : Nat) (f : Port → Port) : (s.onPort p f).fuses = s.fuses := rfl
@[simp] theorem State.onPort_flash (s : State) (p : Nat) (f : Port → Port) : (s.onPort p f).flash = s.flash := rfl
@[simp] theorem State.onPort_fab (s : State) (p : Nat) (f : Port → Port) : (s.onPort p f).fab = s.fab := rfl
@[simp] theorem State.onPort_mem (s : State) (p : Nat) (f : Port → Port) : (s.onPort p f).mem = s.mem := rfl
@[simp] theorem State.onPort_hostMem (s : State) (p : Nat) (f : Port → Port) : (s.onPort p f).hostMem = s.hostMem := rfl
@[simp] theorem State.onPort_free (s : State) (p : Nat) (f : Port → Port) : (s.onPort p f).free = s.free := rfl

@[simp] theorem State.onFunc_dev (s : State) (k : Nat) (f : Func → Func) : (s.onFunc k f).dev = { s.dev with hst := { s.dev.hst with funcs := Tab.modify {} s.dev.hst.funcs k f } } := rfl
@[simp] theorem State.onFunc_pending (s : State) (k : Nat) (f : Func → Func) : (s.onFunc k f).pending = s.pending := rfl
@[simp] theorem State.onFunc_part (s : State) (k : Nat) (f : Func → Func) : (s.onFunc k f).part = s.part := rfl
@[simp] theorem State.onFunc_fuses (s : State) (k : Nat) (f : Func → Func) : (s.onFunc k f).fuses = s.fuses := rfl
@[simp] theorem State.onFunc_flash (s : State) (k : Nat) (f : Func → Func) : (s.onFunc k f).flash = s.flash := rfl
@[simp] theorem State.onFunc_fab (s : State) (k : Nat) (f : Func → Func) : (s.onFunc k f).fab = s.fab := rfl
@[simp] theorem State.onFunc_mem (s : State) (k : Nat) (f : Func → Func) : (s.onFunc k f).mem = s.mem := rfl
@[simp] theorem State.onFunc_hostMem (s : State) (k : Nat) (f : Func → Func) : (s.onFunc k f).hostMem = s.hostMem := rfl
@[simp] theorem State.onFunc_free (s : State) (k : Nat) (f : Func → Func) : (s.onFunc k f).free = s.free := rfl

@[simp] theorem State.onEdge_dev (s : State) (die e : Nat) (f : EdgeStat → EdgeStat) : (s.onEdge die e f).dev = { s.dev with noc := { s.dev.noc with edges := Tab.modify {} s.dev.noc.edges (die * 24 + e) f } } := rfl
@[simp] theorem State.onEdge_pending (s : State) (die e : Nat) (f : EdgeStat → EdgeStat) : (s.onEdge die e f).pending = s.pending := rfl
@[simp] theorem State.onEdge_part (s : State) (die e : Nat) (f : EdgeStat → EdgeStat) : (s.onEdge die e f).part = s.part := rfl
@[simp] theorem State.onEdge_fuses (s : State) (die e : Nat) (f : EdgeStat → EdgeStat) : (s.onEdge die e f).fuses = s.fuses := rfl
@[simp] theorem State.onEdge_flash (s : State) (die e : Nat) (f : EdgeStat → EdgeStat) : (s.onEdge die e f).flash = s.flash := rfl
@[simp] theorem State.onEdge_fab (s : State) (die e : Nat) (f : EdgeStat → EdgeStat) : (s.onEdge die e f).fab = s.fab := rfl
@[simp] theorem State.onEdge_mem (s : State) (die e : Nat) (f : EdgeStat → EdgeStat) : (s.onEdge die e f).mem = s.mem := rfl
@[simp] theorem State.onEdge_hostMem (s : State) (die e : Nat) (f : EdgeStat → EdgeStat) : (s.onEdge die e f).hostMem = s.hostMem := rfl
@[simp] theorem State.onEdge_free (s : State) (die e : Nat) (f : EdgeStat → EdgeStat) : (s.onEdge die e f).free = s.free := rfl

@[simp] theorem State.domain_onDomain (s : State) (n : Nat) (f : Domain → Domain) : (s.onDomain n f).domain n = f (s.domain n) := by
  simp [State.domain]
theorem State.domain_onDomain_other (s : State) {n m : Nat} (f : Domain → Domain) (h : n ≠ m) : (s.onDomain n f).domain m = s.domain m := by
  simp [State.domain, Tab.get_modify_other _ _ _ h]
@[simp] theorem State.bundle_onBundle (s : State) (b : Nat) (f : Bundle → Bundle) : (s.onBundle b f).bundle b = f (s.bundle b) := by
  simp [State.bundle]
@[simp] theorem State.port_onPort (s : State) (p : Nat) (f : Port → Port) : (s.onPort p f).port p = f (s.port p) := by simp [State.port]
theorem State.port_onPort_other (s : State) {p q : Nat} (f : Port → Port) (h : p ≠ q) : (s.onPort p f).port q = s.port q := by
  simp [State.port, Tab.get_modify_other _ _ _ h]
@[simp] theorem State.func_onFunc (s : State) (k : Nat) (f : Func → Func) : (s.onFunc k f).func k = f (s.func k) := by simp [State.func]
theorem State.func_onFunc_other (s : State) {k j : Nat} (f : Func → Func) (h : k ≠ j) : (s.onFunc k f).func j = s.func j := by
  simp [State.func, Tab.get_modify_other _ _ _ h]

/-! ## The fabric -/

@[simp] theorem State.onRegion_pending (s : State) (r : Nat) (f : Region → Region) : (s.onRegion r f).pending = s.pending := rfl
@[simp] theorem State.onRegion_part (s : State) (r : Nat) (f : Region → Region) : (s.onRegion r f).part = s.part := rfl
@[simp] theorem State.onRegion_fuses (s : State) (r : Nat) (f : Region → Region) : (s.onRegion r f).fuses = s.fuses := rfl
@[simp] theorem State.onRegion_flash (s : State) (r : Nat) (f : Region → Region) : (s.onRegion r f).flash = s.flash := rfl
@[simp] theorem State.onRegion_dev (s : State) (r : Nat) (f : Region → Region) : (s.onRegion r f).dev = s.dev := rfl
@[simp] theorem State.onRegion_mem (s : State) (r : Nat) (f : Region → Region) : (s.onRegion r f).mem = s.mem := rfl
@[simp] theorem State.onRegion_hostMem (s : State) (r : Nat) (f : Region → Region) : (s.onRegion r f).hostMem = s.hostMem := rfl
@[simp] theorem State.onRegion_free (s : State) (r : Nat) (f : Region → Region) : (s.onRegion r f).free = s.free := rfl
@[simp] theorem State.onRegion_image (s : State) (r : Nat) (f : Region → Region) : (s.onRegion r f).fab.image = s.fab.image := rfl
@[simp] theorem State.onRegion_body (s : State) (r : Nat) (f : Region → Region) : (s.onRegion r f).fab.body = s.fab.body := rfl
@[simp] theorem State.onRegion_siteMap (s : State) (r : Nat) (f : Region → Region) : (s.onRegion r f).fab.siteMap = s.fab.siteMap := rfl
@[simp] theorem State.onRegion_sites (s : State) (r : Nat) (f : Region → Region) : (s.onRegion r f).fab.sites = s.fab.sites := rfl
@[simp] theorem State.onRegion_memDies (s : State) (r : Nat) (f : Region → Region) : (s.onRegion r f).fab.memDies = s.fab.memDies := rfl
@[simp] theorem State.onRegion_engines (s : State) (r : Nat) (f : Region → Region) : (s.onRegion r f).fab.engines = s.fab.engines := rfl
@[simp] theorem State.onRegion_dies (s : State) (r : Nat) (f : Region → Region) : (s.onRegion r f).fab.dies = s.fab.dies := rfl

@[simp] theorem State.onSched_pending (s : State) (r : Nat) (f : RegionSched → RegionSched) : (s.onSched r f).pending = s.pending := rfl
@[simp] theorem State.onSched_part (s : State) (r : Nat) (f : RegionSched → RegionSched) : (s.onSched r f).part = s.part := rfl
@[simp] theorem State.onSched_fuses (s : State) (r : Nat) (f : RegionSched → RegionSched) : (s.onSched r f).fuses = s.fuses := rfl
@[simp] theorem State.onSched_flash (s : State) (r : Nat) (f : RegionSched → RegionSched) : (s.onSched r f).flash = s.flash := rfl
@[simp] theorem State.onSched_dev (s : State) (r : Nat) (f : RegionSched → RegionSched) : (s.onSched r f).dev = s.dev := rfl
@[simp] theorem State.onSched_mem (s : State) (r : Nat) (f : RegionSched → RegionSched) : (s.onSched r f).mem = s.mem := rfl
@[simp] theorem State.onSched_hostMem (s : State) (r : Nat) (f : RegionSched → RegionSched) : (s.onSched r f).hostMem = s.hostMem := rfl
@[simp] theorem State.onSched_free (s : State) (r : Nat) (f : RegionSched → RegionSched) : (s.onSched r f).free = s.free := rfl
@[simp] theorem State.onSched_image (s : State) (r : Nat) (f : RegionSched → RegionSched) : (s.onSched r f).fab.image = s.fab.image := rfl
@[simp] theorem State.onSched_body (s : State) (r : Nat) (f : RegionSched → RegionSched) : (s.onSched r f).fab.body = s.fab.body := rfl
@[simp] theorem State.onSched_siteMap (s : State) (r : Nat) (f : RegionSched → RegionSched) : (s.onSched r f).fab.siteMap = s.fab.siteMap := rfl
@[simp] theorem State.onSched_sites (s : State) (r : Nat) (f : RegionSched → RegionSched) : (s.onSched r f).fab.sites = s.fab.sites := rfl
@[simp] theorem State.onSched_memDies (s : State) (r : Nat) (f : RegionSched → RegionSched) : (s.onSched r f).fab.memDies = s.fab.memDies := rfl
@[simp] theorem State.onSched_engines (s : State) (r : Nat) (f : RegionSched → RegionSched) : (s.onSched r f).fab.engines = s.fab.engines := rfl
@[simp] theorem State.onSched_dies (s : State) (r : Nat) (f : RegionSched → RegionSched) : (s.onSched r f).fab.dies = s.fab.dies := rfl

@[simp] theorem State.onRAux_pending (s : State) (r : Nat) (f : RegionAux → RegionAux) : (s.onRAux r f).pending = s.pending := rfl
@[simp] theorem State.onRAux_part (s : State) (r : Nat) (f : RegionAux → RegionAux) : (s.onRAux r f).part = s.part := rfl
@[simp] theorem State.onRAux_fuses (s : State) (r : Nat) (f : RegionAux → RegionAux) : (s.onRAux r f).fuses = s.fuses := rfl
@[simp] theorem State.onRAux_flash (s : State) (r : Nat) (f : RegionAux → RegionAux) : (s.onRAux r f).flash = s.flash := rfl
@[simp] theorem State.onRAux_dev (s : State) (r : Nat) (f : RegionAux → RegionAux) : (s.onRAux r f).dev = s.dev := rfl
@[simp] theorem State.onRAux_mem (s : State) (r : Nat) (f : RegionAux → RegionAux) : (s.onRAux r f).mem = s.mem := rfl
@[simp] theorem State.onRAux_hostMem (s : State) (r : Nat) (f : RegionAux → RegionAux) : (s.onRAux r f).hostMem = s.hostMem := rfl
@[simp] theorem State.onRAux_free (s : State) (r : Nat) (f : RegionAux → RegionAux) : (s.onRAux r f).free = s.free := rfl
@[simp] theorem State.onRAux_image (s : State) (r : Nat) (f : RegionAux → RegionAux) : (s.onRAux r f).fab.image = s.fab.image := rfl
@[simp] theorem State.onRAux_body (s : State) (r : Nat) (f : RegionAux → RegionAux) : (s.onRAux r f).fab.body = s.fab.body := rfl
@[simp] theorem State.onRAux_siteMap (s : State) (r : Nat) (f : RegionAux → RegionAux) : (s.onRAux r f).fab.siteMap = s.fab.siteMap := rfl
@[simp] theorem State.onRAux_sites (s : State) (r : Nat) (f : RegionAux → RegionAux) : (s.onRAux r f).fab.sites = s.fab.sites := rfl
@[simp] theorem State.onRAux_memDies (s : State) (r : Nat) (f : RegionAux → RegionAux) : (s.onRAux r f).fab.memDies = s.fab.memDies := rfl
@[simp] theorem State.onRAux_engines (s : State) (r : Nat) (f : RegionAux → RegionAux) : (s.onRAux r f).fab.engines = s.fab.engines := rfl
@[simp] theorem State.onRAux_dies (s : State) (r : Nat) (f : RegionAux → RegionAux) : (s.onRAux r f).fab.dies = s.fab.dies := rfl

@[simp] theorem State.onRev_pending (s : State) (r : Nat) (f : RegionRevoke → RegionRevoke) : (s.onRev r f).pending = s.pending := rfl
@[simp] theorem State.onRev_part (s : State) (r : Nat) (f : RegionRevoke → RegionRevoke) : (s.onRev r f).part = s.part := rfl
@[simp] theorem State.onRev_fuses (s : State) (r : Nat) (f : RegionRevoke → RegionRevoke) : (s.onRev r f).fuses = s.fuses := rfl
@[simp] theorem State.onRev_flash (s : State) (r : Nat) (f : RegionRevoke → RegionRevoke) : (s.onRev r f).flash = s.flash := rfl
@[simp] theorem State.onRev_dev (s : State) (r : Nat) (f : RegionRevoke → RegionRevoke) : (s.onRev r f).dev = s.dev := rfl
@[simp] theorem State.onRev_mem (s : State) (r : Nat) (f : RegionRevoke → RegionRevoke) : (s.onRev r f).mem = s.mem := rfl
@[simp] theorem State.onRev_hostMem (s : State) (r : Nat) (f : RegionRevoke → RegionRevoke) : (s.onRev r f).hostMem = s.hostMem := rfl
@[simp] theorem State.onRev_free (s : State) (r : Nat) (f : RegionRevoke → RegionRevoke) : (s.onRev r f).free = s.free := rfl
@[simp] theorem State.onRev_image (s : State) (r : Nat) (f : RegionRevoke → RegionRevoke) : (s.onRev r f).fab.image = s.fab.image := rfl
@[simp] theorem State.onRev_body (s : State) (r : Nat) (f : RegionRevoke → RegionRevoke) : (s.onRev r f).fab.body = s.fab.body := rfl
@[simp] theorem State.onRev_siteMap (s : State) (r : Nat) (f : RegionRevoke → RegionRevoke) : (s.onRev r f).fab.siteMap = s.fab.siteMap := rfl
@[simp] theorem State.onRev_sites (s : State) (r : Nat) (f : RegionRevoke → RegionRevoke) : (s.onRev r f).fab.sites = s.fab.sites := rfl
@[simp] theorem State.onRev_memDies (s : State) (r : Nat) (f : RegionRevoke → RegionRevoke) : (s.onRev r f).fab.memDies = s.fab.memDies := rfl
@[simp] theorem State.onRev_engines (s : State) (r : Nat) (f : RegionRevoke → RegionRevoke) : (s.onRev r f).fab.engines = s.fab.engines := rfl
@[simp] theorem State.onRev_dies (s : State) (r : Nat) (f : RegionRevoke → RegionRevoke) : (s.onRev r f).fab.dies = s.fab.dies := rfl

@[simp] theorem State.onQueue_pending (s : State) (r q : Nat) (f : Queue → Queue) : (s.onQueue r q f).pending = s.pending := rfl
@[simp] theorem State.onQueue_part (s : State) (r q : Nat) (f : Queue → Queue) : (s.onQueue r q f).part = s.part := rfl
@[simp] theorem State.onQueue_fuses (s : State) (r q : Nat) (f : Queue → Queue) : (s.onQueue r q f).fuses = s.fuses := rfl
@[simp] theorem State.onQueue_flash (s : State) (r q : Nat) (f : Queue → Queue) : (s.onQueue r q f).flash = s.flash := rfl
@[simp] theorem State.onQueue_dev (s : State) (r q : Nat) (f : Queue → Queue) : (s.onQueue r q f).dev = s.dev := rfl
@[simp] theorem State.onQueue_mem (s : State) (r q : Nat) (f : Queue → Queue) : (s.onQueue r q f).mem = s.mem := rfl
@[simp] theorem State.onQueue_hostMem (s : State) (r q : Nat) (f : Queue → Queue) : (s.onQueue r q f).hostMem = s.hostMem := rfl
@[simp] theorem State.onQueue_free (s : State) (r q : Nat) (f : Queue → Queue) : (s.onQueue r q f).free = s.free := rfl
@[simp] theorem State.onQueue_image (s : State) (r q : Nat) (f : Queue → Queue) : (s.onQueue r q f).fab.image = s.fab.image := rfl
@[simp] theorem State.onQueue_body (s : State) (r q : Nat) (f : Queue → Queue) : (s.onQueue r q f).fab.body = s.fab.body := rfl
@[simp] theorem State.onQueue_siteMap (s : State) (r q : Nat) (f : Queue → Queue) : (s.onQueue r q f).fab.siteMap = s.fab.siteMap := rfl
@[simp] theorem State.onQueue_sites (s : State) (r q : Nat) (f : Queue → Queue) : (s.onQueue r q f).fab.sites = s.fab.sites := rfl
@[simp] theorem State.onQueue_memDies (s : State) (r q : Nat) (f : Queue → Queue) : (s.onQueue r q f).fab.memDies = s.fab.memDies := rfl
@[simp] theorem State.onQueue_engines (s : State) (r q : Nat) (f : Queue → Queue) : (s.onQueue r q f).fab.engines = s.fab.engines := rfl
@[simp] theorem State.onQueue_dies (s : State) (r q : Nat) (f : Queue → Queue) : (s.onQueue r q f).fab.dies = s.fab.dies := rfl

@[simp] theorem State.onSite_pending (s : State) (k : Nat) (f : Site → Site) : (s.onSite k f).pending = s.pending := rfl
@[simp] theorem State.onSite_part (s : State) (k : Nat) (f : Site → Site) : (s.onSite k f).part = s.part := rfl
@[simp] theorem State.onSite_fuses (s : State) (k : Nat) (f : Site → Site) : (s.onSite k f).fuses = s.fuses := rfl
@[simp] theorem State.onSite_flash (s : State) (k : Nat) (f : Site → Site) : (s.onSite k f).flash = s.flash := rfl
@[simp] theorem State.onSite_dev (s : State) (k : Nat) (f : Site → Site) : (s.onSite k f).dev = s.dev := rfl
@[simp] theorem State.onSite_mem (s : State) (k : Nat) (f : Site → Site) : (s.onSite k f).mem = s.mem := rfl
@[simp] theorem State.onSite_hostMem (s : State) (k : Nat) (f : Site → Site) : (s.onSite k f).hostMem = s.hostMem := rfl
@[simp] theorem State.onSite_free (s : State) (k : Nat) (f : Site → Site) : (s.onSite k f).free = s.free := rfl
@[simp] theorem State.onSite_image (s : State) (k : Nat) (f : Site → Site) : (s.onSite k f).fab.image = s.fab.image := rfl
@[simp] theorem State.onSite_body (s : State) (k : Nat) (f : Site → Site) : (s.onSite k f).fab.body = s.fab.body := rfl
@[simp] theorem State.onSite_siteMap (s : State) (k : Nat) (f : Site → Site) : (s.onSite k f).fab.siteMap = s.fab.siteMap := rfl
@[simp] theorem State.onSite_regions (s : State) (k : Nat) (f : Site → Site) : (s.onSite k f).fab.regions = s.fab.regions := rfl
@[simp] theorem State.onSite_memDies (s : State) (k : Nat) (f : Site → Site) : (s.onSite k f).fab.memDies = s.fab.memDies := rfl
@[simp] theorem State.onSite_engines (s : State) (k : Nat) (f : Site → Site) : (s.onSite k f).fab.engines = s.fab.engines := rfl
@[simp] theorem State.onSite_dies (s : State) (k : Nat) (f : Site → Site) : (s.onSite k f).fab.dies = s.fab.dies := rfl

@[simp] theorem State.onSpin_pending (s : State) (k : Nat) (f : Spin → Spin) : (s.onSpin k f).pending = s.pending := rfl
@[simp] theorem State.onSpin_part (s : State) (k : Nat) (f : Spin → Spin) : (s.onSpin k f).part = s.part := rfl
@[simp] theorem State.onSpin_fuses (s : State) (k : Nat) (f : Spin → Spin) : (s.onSpin k f).fuses = s.fuses := rfl
@[simp] theorem State.onSpin_flash (s : State) (k : Nat) (f : Spin → Spin) : (s.onSpin k f).flash = s.flash := rfl
@[simp] theorem State.onSpin_dev (s : State) (k : Nat) (f : Spin → Spin) : (s.onSpin k f).dev = s.dev := rfl
@[simp] theorem State.onSpin_mem (s : State) (k : Nat) (f : Spin → Spin) : (s.onSpin k f).mem = s.mem := rfl
@[simp] theorem State.onSpin_hostMem (s : State) (k : Nat) (f : Spin → Spin) : (s.onSpin k f).hostMem = s.hostMem := rfl
@[simp] theorem State.onSpin_free (s : State) (k : Nat) (f : Spin → Spin) : (s.onSpin k f).free = s.free := rfl
@[simp] theorem State.onSpin_image (s : State) (k : Nat) (f : Spin → Spin) : (s.onSpin k f).fab.image = s.fab.image := rfl
@[simp] theorem State.onSpin_body (s : State) (k : Nat) (f : Spin → Spin) : (s.onSpin k f).fab.body = s.fab.body := rfl
@[simp] theorem State.onSpin_siteMap (s : State) (k : Nat) (f : Spin → Spin) : (s.onSpin k f).fab.siteMap = s.fab.siteMap := rfl
@[simp] theorem State.onSpin_regions (s : State) (k : Nat) (f : Spin → Spin) : (s.onSpin k f).fab.regions = s.fab.regions := rfl
@[simp] theorem State.onSpin_memDies (s : State) (k : Nat) (f : Spin → Spin) : (s.onSpin k f).fab.memDies = s.fab.memDies := rfl
@[simp] theorem State.onSpin_engines (s : State) (k : Nat) (f : Spin → Spin) : (s.onSpin k f).fab.engines = s.fab.engines := rfl
@[simp] theorem State.onSpin_dies (s : State) (k : Nat) (f : Spin → Spin) : (s.onSpin k f).fab.dies = s.fab.dies := rfl

@[simp] theorem State.onWork_pending (s : State) (k : Nat) (f : SpinWork → SpinWork) : (s.onWork k f).pending = s.pending := rfl
@[simp] theorem State.onWork_part (s : State) (k : Nat) (f : SpinWork → SpinWork) : (s.onWork k f).part = s.part := rfl
@[simp] theorem State.onWork_fuses (s : State) (k : Nat) (f : SpinWork → SpinWork) : (s.onWork k f).fuses = s.fuses := rfl
@[simp] theorem State.onWork_flash (s : State) (k : Nat) (f : SpinWork → SpinWork) : (s.onWork k f).flash = s.flash := rfl
@[simp] theorem State.onWork_dev (s : State) (k : Nat) (f : SpinWork → SpinWork) : (s.onWork k f).dev = s.dev := rfl
@[simp] theorem State.onWork_mem (s : State) (k : Nat) (f : SpinWork → SpinWork) : (s.onWork k f).mem = s.mem := rfl
@[simp] theorem State.onWork_hostMem (s : State) (k : Nat) (f : SpinWork → SpinWork) : (s.onWork k f).hostMem = s.hostMem := rfl
@[simp] theorem State.onWork_free (s : State) (k : Nat) (f : SpinWork → SpinWork) : (s.onWork k f).free = s.free := rfl
@[simp] theorem State.onWork_image (s : State) (k : Nat) (f : SpinWork → SpinWork) : (s.onWork k f).fab.image = s.fab.image := rfl
@[simp] theorem State.onWork_body (s : State) (k : Nat) (f : SpinWork → SpinWork) : (s.onWork k f).fab.body = s.fab.body := rfl
@[simp] theorem State.onWork_siteMap (s : State) (k : Nat) (f : SpinWork → SpinWork) : (s.onWork k f).fab.siteMap = s.fab.siteMap := rfl
@[simp] theorem State.onWork_regions (s : State) (k : Nat) (f : SpinWork → SpinWork) : (s.onWork k f).fab.regions = s.fab.regions := rfl
@[simp] theorem State.onWork_memDies (s : State) (k : Nat) (f : SpinWork → SpinWork) : (s.onWork k f).fab.memDies = s.fab.memDies := rfl
@[simp] theorem State.onWork_engines (s : State) (k : Nat) (f : SpinWork → SpinWork) : (s.onWork k f).fab.engines = s.fab.engines := rfl
@[simp] theorem State.onWork_dies (s : State) (k : Nat) (f : SpinWork → SpinWork) : (s.onWork k f).fab.dies = s.fab.dies := rfl

@[simp] theorem State.onTally_pending (s : State) (k : Nat) (f : SpinCounts → SpinCounts) : (s.onTally k f).pending = s.pending := rfl
@[simp] theorem State.onTally_part (s : State) (k : Nat) (f : SpinCounts → SpinCounts) : (s.onTally k f).part = s.part := rfl
@[simp] theorem State.onTally_fuses (s : State) (k : Nat) (f : SpinCounts → SpinCounts) : (s.onTally k f).fuses = s.fuses := rfl
@[simp] theorem State.onTally_flash (s : State) (k : Nat) (f : SpinCounts → SpinCounts) : (s.onTally k f).flash = s.flash := rfl
@[simp] theorem State.onTally_dev (s : State) (k : Nat) (f : SpinCounts → SpinCounts) : (s.onTally k f).dev = s.dev := rfl
@[simp] theorem State.onTally_mem (s : State) (k : Nat) (f : SpinCounts → SpinCounts) : (s.onTally k f).mem = s.mem := rfl
@[simp] theorem State.onTally_hostMem (s : State) (k : Nat) (f : SpinCounts → SpinCounts) : (s.onTally k f).hostMem = s.hostMem := rfl
@[simp] theorem State.onTally_free (s : State) (k : Nat) (f : SpinCounts → SpinCounts) : (s.onTally k f).free = s.free := rfl
@[simp] theorem State.onTally_image (s : State) (k : Nat) (f : SpinCounts → SpinCounts) : (s.onTally k f).fab.image = s.fab.image := rfl
@[simp] theorem State.onTally_body (s : State) (k : Nat) (f : SpinCounts → SpinCounts) : (s.onTally k f).fab.body = s.fab.body := rfl
@[simp] theorem State.onTally_siteMap (s : State) (k : Nat) (f : SpinCounts → SpinCounts) : (s.onTally k f).fab.siteMap = s.fab.siteMap := rfl
@[simp] theorem State.onTally_regions (s : State) (k : Nat) (f : SpinCounts → SpinCounts) : (s.onTally k f).fab.regions = s.fab.regions := rfl
@[simp] theorem State.onTally_memDies (s : State) (k : Nat) (f : SpinCounts → SpinCounts) : (s.onTally k f).fab.memDies = s.fab.memDies := rfl
@[simp] theorem State.onTally_engines (s : State) (k : Nat) (f : SpinCounts → SpinCounts) : (s.onTally k f).fab.engines = s.fab.engines := rfl
@[simp] theorem State.onTally_dies (s : State) (k : Nat) (f : SpinCounts → SpinCounts) : (s.onTally k f).fab.dies = s.fab.dies := rfl

@[simp] theorem State.onThread_pending (s : State) (k th : Nat) (f : Thread → Thread) : (s.onThread k th f).pending = s.pending := rfl
@[simp] theorem State.onThread_part (s : State) (k th : Nat) (f : Thread → Thread) : (s.onThread k th f).part = s.part := rfl
@[simp] theorem State.onThread_fuses (s : State) (k th : Nat) (f : Thread → Thread) : (s.onThread k th f).fuses = s.fuses := rfl
@[simp] theorem State.onThread_flash (s : State) (k th : Nat) (f : Thread → Thread) : (s.onThread k th f).flash = s.flash := rfl
@[simp] theorem State.onThread_dev (s : State) (k th : Nat) (f : Thread → Thread) : (s.onThread k th f).dev = s.dev := rfl
@[simp] theorem State.onThread_mem (s : State) (k th : Nat) (f : Thread → Thread) : (s.onThread k th f).mem = s.mem := rfl
@[simp] theorem State.onThread_hostMem (s : State) (k th : Nat) (f : Thread → Thread) : (s.onThread k th f).hostMem = s.hostMem := rfl
@[simp] theorem State.onThread_free (s : State) (k th : Nat) (f : Thread → Thread) : (s.onThread k th f).free = s.free := rfl
@[simp] theorem State.onThread_image (s : State) (k th : Nat) (f : Thread → Thread) : (s.onThread k th f).fab.image = s.fab.image := rfl
@[simp] theorem State.onThread_body (s : State) (k th : Nat) (f : Thread → Thread) : (s.onThread k th f).fab.body = s.fab.body := rfl
@[simp] theorem State.onThread_siteMap (s : State) (k th : Nat) (f : Thread → Thread) : (s.onThread k th f).fab.siteMap = s.fab.siteMap := rfl
@[simp] theorem State.onThread_regions (s : State) (k th : Nat) (f : Thread → Thread) : (s.onThread k th f).fab.regions = s.fab.regions := rfl
@[simp] theorem State.onThread_memDies (s : State) (k th : Nat) (f : Thread → Thread) : (s.onThread k th f).fab.memDies = s.fab.memDies := rfl
@[simp] theorem State.onThread_engines (s : State) (k th : Nat) (f : Thread → Thread) : (s.onThread k th f).fab.engines = s.fab.engines := rfl
@[simp] theorem State.onThread_dies (s : State) (k th : Nat) (f : Thread → Thread) : (s.onThread k th f).fab.dies = s.fab.dies := rfl

@[simp] theorem State.onMemDie_pending (s : State) (m : Nat) (f : MemDie → MemDie) : (s.onMemDie m f).pending = s.pending := rfl
@[simp] theorem State.onMemDie_part (s : State) (m : Nat) (f : MemDie → MemDie) : (s.onMemDie m f).part = s.part := rfl
@[simp] theorem State.onMemDie_fuses (s : State) (m : Nat) (f : MemDie → MemDie) : (s.onMemDie m f).fuses = s.fuses := rfl
@[simp] theorem State.onMemDie_flash (s : State) (m : Nat) (f : MemDie → MemDie) : (s.onMemDie m f).flash = s.flash := rfl
@[simp] theorem State.onMemDie_dev (s : State) (m : Nat) (f : MemDie → MemDie) : (s.onMemDie m f).dev = s.dev := rfl
@[simp] theorem State.onMemDie_mem (s : State) (m : Nat) (f : MemDie → MemDie) : (s.onMemDie m f).mem = s.mem := rfl
@[simp] theorem State.onMemDie_hostMem (s : State) (m : Nat) (f : MemDie → MemDie) : (s.onMemDie m f).hostMem = s.hostMem := rfl
@[simp] theorem State.onMemDie_free (s : State) (m : Nat) (f : MemDie → MemDie) : (s.onMemDie m f).free = s.free := rfl
@[simp] theorem State.onMemDie_image (s : State) (m : Nat) (f : MemDie → MemDie) : (s.onMemDie m f).fab.image = s.fab.image := rfl
@[simp] theorem State.onMemDie_body (s : State) (m : Nat) (f : MemDie → MemDie) : (s.onMemDie m f).fab.body = s.fab.body := rfl
@[simp] theorem State.onMemDie_siteMap (s : State) (m : Nat) (f : MemDie → MemDie) : (s.onMemDie m f).fab.siteMap = s.fab.siteMap := rfl
@[simp] theorem State.onMemDie_regions (s : State) (m : Nat) (f : MemDie → MemDie) : (s.onMemDie m f).fab.regions = s.fab.regions := rfl
@[simp] theorem State.onMemDie_sites (s : State) (m : Nat) (f : MemDie → MemDie) : (s.onMemDie m f).fab.sites = s.fab.sites := rfl
@[simp] theorem State.onMemDie_engines (s : State) (m : Nat) (f : MemDie → MemDie) : (s.onMemDie m f).fab.engines = s.fab.engines := rfl
@[simp] theorem State.onMemDie_dies (s : State) (m : Nat) (f : MemDie → MemDie) : (s.onMemDie m f).fab.dies = s.fab.dies := rfl

@[simp] theorem State.onEngine_pending (s : State) (die e : Nat) (f : CopyEngine → CopyEngine) : (s.onEngine die e f).pending = s.pending := by unfold State.onEngine; split <;> rfl
@[simp] theorem State.onEngine_part (s : State) (die e : Nat) (f : CopyEngine → CopyEngine) : (s.onEngine die e f).part = s.part := by unfold State.onEngine; split <;> rfl
@[simp] theorem State.onEngine_fuses (s : State) (die e : Nat) (f : CopyEngine → CopyEngine) : (s.onEngine die e f).fuses = s.fuses := by unfold State.onEngine; split <;> rfl
@[simp] theorem State.onEngine_flash (s : State) (die e : Nat) (f : CopyEngine → CopyEngine) : (s.onEngine die e f).flash = s.flash := by unfold State.onEngine; split <;> rfl
@[simp] theorem State.onEngine_dev (s : State) (die e : Nat) (f : CopyEngine → CopyEngine) : (s.onEngine die e f).dev = s.dev := by unfold State.onEngine; split <;> rfl
@[simp] theorem State.onEngine_mem (s : State) (die e : Nat) (f : CopyEngine → CopyEngine) : (s.onEngine die e f).mem = s.mem := by unfold State.onEngine; split <;> rfl
@[simp] theorem State.onEngine_hostMem (s : State) (die e : Nat) (f : CopyEngine → CopyEngine) : (s.onEngine die e f).hostMem = s.hostMem := by unfold State.onEngine; split <;> rfl
@[simp] theorem State.onEngine_free (s : State) (die e : Nat) (f : CopyEngine → CopyEngine) : (s.onEngine die e f).free = s.free := by unfold State.onEngine; split <;> rfl
@[simp] theorem State.onEngine_image (s : State) (die e : Nat) (f : CopyEngine → CopyEngine) : (s.onEngine die e f).fab.image = s.fab.image := by unfold State.onEngine; split <;> rfl
@[simp] theorem State.onEngine_body (s : State) (die e : Nat) (f : CopyEngine → CopyEngine) : (s.onEngine die e f).fab.body = s.fab.body := by unfold State.onEngine; split <;> rfl
@[simp] theorem State.onEngine_siteMap (s : State) (die e : Nat) (f : CopyEngine → CopyEngine) : (s.onEngine die e f).fab.siteMap = s.fab.siteMap := by unfold State.onEngine; split <;> rfl
@[simp] theorem State.onEngine_regions (s : State) (die e : Nat) (f : CopyEngine → CopyEngine) : (s.onEngine die e f).fab.regions = s.fab.regions := by unfold State.onEngine; split <;> rfl
@[simp] theorem State.onEngine_sites (s : State) (die e : Nat) (f : CopyEngine → CopyEngine) : (s.onEngine die e f).fab.sites = s.fab.sites := by unfold State.onEngine; split <;> rfl
@[simp] theorem State.onEngine_memDies (s : State) (die e : Nat) (f : CopyEngine → CopyEngine) : (s.onEngine die e f).fab.memDies = s.fab.memDies := by unfold State.onEngine; split <;> rfl
@[simp] theorem State.onEngine_dies (s : State) (die e : Nat) (f : CopyEngine → CopyEngine) : (s.onEngine die e f).fab.dies = s.fab.dies := by unfold State.onEngine; split <;> rfl

@[simp] theorem State.onDie_pending (s : State) (d : Nat) (f : DieRegs → DieRegs) : (s.onDie d f).pending = s.pending := rfl
@[simp] theorem State.onDie_part (s : State) (d : Nat) (f : DieRegs → DieRegs) : (s.onDie d f).part = s.part := rfl
@[simp] theorem State.onDie_fuses (s : State) (d : Nat) (f : DieRegs → DieRegs) : (s.onDie d f).fuses = s.fuses := rfl
@[simp] theorem State.onDie_flash (s : State) (d : Nat) (f : DieRegs → DieRegs) : (s.onDie d f).flash = s.flash := rfl
@[simp] theorem State.onDie_dev (s : State) (d : Nat) (f : DieRegs → DieRegs) : (s.onDie d f).dev = s.dev := rfl
@[simp] theorem State.onDie_mem (s : State) (d : Nat) (f : DieRegs → DieRegs) : (s.onDie d f).mem = s.mem := rfl
@[simp] theorem State.onDie_hostMem (s : State) (d : Nat) (f : DieRegs → DieRegs) : (s.onDie d f).hostMem = s.hostMem := rfl
@[simp] theorem State.onDie_free (s : State) (d : Nat) (f : DieRegs → DieRegs) : (s.onDie d f).free = s.free := rfl
@[simp] theorem State.onDie_image (s : State) (d : Nat) (f : DieRegs → DieRegs) : (s.onDie d f).fab.image = s.fab.image := rfl
@[simp] theorem State.onDie_body (s : State) (d : Nat) (f : DieRegs → DieRegs) : (s.onDie d f).fab.body = s.fab.body := rfl
@[simp] theorem State.onDie_siteMap (s : State) (d : Nat) (f : DieRegs → DieRegs) : (s.onDie d f).fab.siteMap = s.fab.siteMap := rfl
@[simp] theorem State.onDie_regions (s : State) (d : Nat) (f : DieRegs → DieRegs) : (s.onDie d f).fab.regions = s.fab.regions := rfl
@[simp] theorem State.onDie_sites (s : State) (d : Nat) (f : DieRegs → DieRegs) : (s.onDie d f).fab.sites = s.fab.sites := rfl
@[simp] theorem State.onDie_memDies (s : State) (d : Nat) (f : DieRegs → DieRegs) : (s.onDie d f).fab.memDies = s.fab.memDies := rfl
@[simp] theorem State.onDie_engines (s : State) (d : Nat) (f : DieRegs → DieRegs) : (s.onDie d f).fab.engines = s.fab.engines := rfl

@[simp] theorem State.region_onRegion (s : State) (r : Nat) (f : Region → Region) : (s.onRegion r f).region r = f (s.region r) := by
  simp [State.region, State.onRegion, State.onFab]
theorem State.region_onRegion_other (s : State) {r q : Nat} (f : Region → Region) (h : r ≠ q) : (s.onRegion r f).region q = s.region q := by
  simp [State.region, State.onRegion, State.onFab, Tab.get_modify_other _ _ _ h]
@[simp] theorem State.region_onSched (s : State) (r : Nat) (f : RegionSched → RegionSched) :
    (s.onSched r f).region r = { s.region r with sched := f (s.region r).sched } := by simp [State.onSched]
theorem State.region_onSched_other (s : State) {r q : Nat} (f : RegionSched → RegionSched) (h : r ≠ q) :
    (s.onSched r f).region q = s.region q := by simp [State.onSched, State.region_onRegion_other _ _ h]
@[simp] theorem State.region_onRAux (s : State) (r : Nat) (f : RegionAux → RegionAux) :
    (s.onRAux r f).region r = { s.region r with aux := f (s.region r).aux } := by simp [State.onRAux]
theorem State.region_onRAux_other (s : State) {r q : Nat} (f : RegionAux → RegionAux) (h : r ≠ q) :
    (s.onRAux r f).region q = s.region q := by simp [State.onRAux, State.region_onRegion_other _ _ h]
@[simp] theorem State.region_onRev (s : State) (r : Nat) (f : RegionRevoke → RegionRevoke) :
    (s.onRev r f).region r = { s.region r with rev := f (s.region r).rev } := by simp [State.onRev]
theorem State.region_onRev_other (s : State) {r q : Nat} (f : RegionRevoke → RegionRevoke) (h : r ≠ q) :
    (s.onRev r f).region q = s.region q := by simp [State.onRev, State.region_onRegion_other _ _ h]
@[simp] theorem State.queue_onQueue (s : State) (r q : Nat) (f : Queue → Queue) : (s.onQueue r q f).queue r q = f (s.queue r q) := by
  simp [State.queue, State.onQueue]
@[simp] theorem State.site_onSite (s : State) (k : Nat) (f : Site → Site) : (s.onSite k f).site k = f (s.site k) := by
  simp [State.site, State.onSite, State.onFab]
theorem State.site_onSite_other (s : State) {k j : Nat} (f : Site → Site) (h : k ≠ j) : (s.onSite k f).site j = s.site j := by
  simp [State.site, State.onSite, State.onFab, Tab.get_modify_other _ _ _ h]
@[simp] theorem State.thread_onThread (s : State) (k th : Nat) (f : Thread → Thread) : (s.onThread k th f).thread k th = f (s.thread k th) := by
  simp [State.thread, State.onThread]
theorem State.thread_onThread_other (s : State) {k th j i : Nat} (f : Thread → Thread) (h : ¬ (k = j ∧ th = i)) :
    (s.onThread k th f).thread j i = s.thread j i := by
  by_cases hk : k = j
  · subst hk
    have hi : th ≠ i := fun e => h ⟨rfl, e⟩
    simp [State.thread, State.onThread, Tab.get_modify_other _ _ _ hi]
  · simp [State.thread, State.onThread, State.site_onSite_other _ _ hk]
@[simp] theorem State.memDie_onMemDie (s : State) (m : Nat) (f : MemDie → MemDie) : (s.onMemDie m f).memDie m = f (s.memDie m) := by
  simp [State.memDie, State.onMemDie, State.onFab]
@[simp] theorem State.die_onDie (s : State) (d : Nat) (f : DieRegs → DieRegs) : (s.onDie d f).die d = f (s.die d) := by
  simp [State.die, State.onDie, State.onFab]

/-! ## Memory and the free counter -/

@[simp] theorem State.onMem_pending (s : State) (f : Mem → Mem) : (s.onMem f).pending = s.pending := rfl
@[simp] theorem State.onMem_part (s : State) (f : Mem → Mem) : (s.onMem f).part = s.part := rfl
@[simp] theorem State.onMem_fuses (s : State) (f : Mem → Mem) : (s.onMem f).fuses = s.fuses := rfl
@[simp] theorem State.onMem_flash (s : State) (f : Mem → Mem) : (s.onMem f).flash = s.flash := rfl
@[simp] theorem State.onMem_dev (s : State) (f : Mem → Mem) : (s.onMem f).dev = s.dev := rfl
@[simp] theorem State.onMem_fab (s : State) (f : Mem → Mem) : (s.onMem f).fab = s.fab := rfl
@[simp] theorem State.onMem_mem (s : State) (f : Mem → Mem) : (s.onMem f).mem = f s.mem := rfl
@[simp] theorem State.onMem_hostMem (s : State) (f : Mem → Mem) : (s.onMem f).hostMem = s.hostMem := rfl
@[simp] theorem State.onMem_free (s : State) (f : Mem → Mem) : (s.onMem f).free = s.free := rfl
@[simp] theorem State.bump_pending (s : State) : s.bump.pending = s.pending := rfl
@[simp] theorem State.bump_part (s : State) : s.bump.part = s.part := rfl
@[simp] theorem State.bump_fuses (s : State) : s.bump.fuses = s.fuses := rfl
@[simp] theorem State.bump_flash (s : State) : s.bump.flash = s.flash := rfl
@[simp] theorem State.bump_dev (s : State) : s.bump.dev = s.dev := rfl
@[simp] theorem State.bump_fab (s : State) : s.bump.fab = s.fab := rfl
@[simp] theorem State.bump_mem (s : State) : s.bump.mem = s.mem := rfl
@[simp] theorem State.bump_hostMem (s : State) : s.bump.hostMem = s.hostMem := rfl
@[simp] theorem State.bump_free (s : State) : s.bump.free = s.free + 1 := rfl

end Sys2Proof.Machine
end

