-- ==== Sys2Proof/Laws/Events.lean ====
section
/-!
SUPPORT. What raising an event to the physical function and assigning a fault ID can do: everything each changes, and what it leaves.
-/
namespace Sys2Proof.Machine

/-- An event to the physical function changes its event ring, its interrupt source and host memory alone. -/
theorem State.pfEvent_form (s : State) (k : Nat) (c : Code) (d : Nat) :
    ∃ m e i, s.pfEvent k c d = { s with hostMem := m, dev := { s.dev with hst := { s.dev.hst with pfEvt := e, pfIrq := i } } } := by
  by_cases he : s.dev.hst.pfEvt.enable = true
  · by_cases hf : s.dev.hst.pfEvt.full = true
    · exact ⟨_, _, _, by simp only [State.pfEvent, he, hf]; rfl⟩
    · by_cases ha : s.pfHostAllowed = true
      · exact ⟨_, _, _, by simp only [State.pfEvent, State.hostStore, he, hf, ha]; rfl⟩
      · exact ⟨_, _, _, by simp only [State.pfEvent, State.hostStore, he, hf, ha]; rfl⟩
  · exact ⟨_, _, _, by simp only [State.pfEvent, he]; rfl⟩

/-- The same, as a frame. -/
theorem State.pfEvent_frame (s : State) (k : Nat) (c : Code) (d : Nat) :
    s.pfEvent k c d =
      { s with hostMem := (s.pfEvent k c d).hostMem
               dev := { s.dev with hst := { s.dev.hst with pfEvt := (s.pfEvent k c d).dev.hst.pfEvt, pfIrq := (s.pfEvent k c d).dev.hst.pfIrq } } } := by
  obtain ⟨m, e, i, h⟩ := s.pfEvent_form k c d
  rw [h]

@[simp] theorem State.pfEvent_pending (s : State) (k : Nat) (c : Code) (d : Nat) : (s.pfEvent k c d).pending = s.pending := by rw [pfEvent_frame]
@[simp] theorem State.pfEvent_part (s : State) (k : Nat) (c : Code) (d : Nat) : (s.pfEvent k c d).part = s.part := by rw [pfEvent_frame]
@[simp] theorem State.pfEvent_fuses (s : State) (k : Nat) (c : Code) (d : Nat) : (s.pfEvent k c d).fuses = s.fuses := by rw [pfEvent_frame]
@[simp] theorem State.pfEvent_flash (s : State) (k : Nat) (c : Code) (d : Nat) : (s.pfEvent k c d).flash = s.flash := by rw [pfEvent_frame]
@[simp] theorem State.pfEvent_fab (s : State) (k : Nat) (c : Code) (d : Nat) : (s.pfEvent k c d).fab = s.fab := by rw [pfEvent_frame]
@[simp] theorem State.pfEvent_mem (s : State) (k : Nat) (c : Code) (d : Nat) : (s.pfEvent k c d).mem = s.mem := by rw [pfEvent_frame]
@[simp] theorem State.pfEvent_free (s : State) (k : Nat) (c : Code) (d : Nat) : (s.pfEvent k c d).free = s.free := by rw [pfEvent_frame]
@[simp] theorem State.pfEvent_boot (s : State) (k : Nat) (c : Code) (d : Nat) : (s.pfEvent k c d).dev.boot = s.dev.boot := by rw [pfEvent_frame]
@[simp] theorem State.pfEvent_aux (s : State) (k : Nat) (c : Code) (d : Nat) : (s.pfEvent k c d).dev.aux = s.dev.aux := by rw [pfEvent_frame]
@[simp] theorem State.pfEvent_pins (s : State) (k : Nat) (c : Code) (d : Nat) : (s.pfEvent k c d).dev.pins = s.dev.pins := by rw [pfEvent_frame]
@[simp] theorem State.pfEvent_shared (s : State) (k : Nat) (c : Code) (d : Nat) : (s.pfEvent k c d).dev.shared = s.dev.shared := by rw [pfEvent_frame]
@[simp] theorem State.pfEvent_clk (s : State) (k : Nat) (c : Code) (d : Nat) : (s.pfEvent k c d).dev.clk = s.dev.clk := by rw [pfEvent_frame]
@[simp] theorem State.pfEvent_pwr (s : State) (k : Nat) (c : Code) (d : Nat) : (s.pfEvent k c d).dev.pwr = s.dev.pwr := by rw [pfEvent_frame]
@[simp] theorem State.pfEvent_noc (s : State) (k : Nat) (c : Code) (d : Nat) : (s.pfEvent k c d).dev.noc = s.dev.noc := by rw [pfEvent_frame]
@[simp] theorem State.pfEvent_ydi (s : State) (k : Nat) (c : Code) (d : Nat) : (s.pfEvent k c d).dev.ydi = s.dev.ydi := by rw [pfEvent_frame]
@[simp] theorem State.pfEvent_lnk (s : State) (k : Nat) (c : Code) (d : Nat) : (s.pfEvent k c d).dev.lnk = s.dev.lnk := by rw [pfEvent_frame]
@[simp] theorem State.pfEvent_sec (s : State) (k : Nat) (c : Code) (d : Nat) : (s.pfEvent k c d).dev.sec = s.dev.sec := by rw [pfEvent_frame]
@[simp] theorem State.pfEvent_faults (s : State) (k : Nat) (c : Code) (d : Nat) : (s.pfEvent k c d).dev.faults = s.dev.faults := by rw [pfEvent_frame]
@[simp] theorem State.pfEvent_tel (s : State) (k : Nat) (c : Code) (d : Nat) : (s.pfEvent k c d).dev.tel = s.dev.tel := by rw [pfEvent_frame]
@[simp] theorem State.pfEvent_dbg (s : State) (k : Nat) (c : Code) (d : Nat) : (s.pfEvent k c d).dev.dbg = s.dev.dbg := by rw [pfEvent_frame]

/-- ALERT_N is driven low only where it is owned for SMBus alert, and nothing else changes. -/
theorem State.alert_frame (s : State) : s.alert = { s with dev := { s.dev with aux := { s.dev.aux with alertLow := s.alert.dev.aux.alertLow } } } := by
  unfold State.alert; split <;> rfl

@[simp] theorem State.alert_boot (s : State) : s.alert.dev.boot = s.dev.boot := by rw [alert_frame]
@[simp] theorem State.alert_flash (s : State) : s.alert.flash = s.flash := by rw [alert_frame]
@[simp] theorem State.alert_mem (s : State) : s.alert.mem = s.mem := by rw [alert_frame]
@[simp] theorem State.alert_fab (s : State) : s.alert.fab = s.fab := by rw [alert_frame]
@[simp] theorem State.alert_pwr (s : State) : s.alert.dev.pwr = s.dev.pwr := by rw [alert_frame]
@[simp] theorem State.alert_sec (s : State) : s.alert.dev.sec = s.dev.sec := by rw [alert_frame]
@[simp] theorem State.alert_ydi (s : State) : s.alert.dev.ydi = s.dev.ydi := by rw [alert_frame]
@[simp] theorem State.alert_clk (s : State) : s.alert.dev.clk = s.dev.clk := by rw [alert_frame]

/-- A fault ID is assigned: the log, the counters and, for one region, its last fault. -/
theorem State.assignFault_frame (s : State) (c : Code) (r : Option Nat) (d : Nat) (x : Option Nat) :
    s.assignFault c r d x =
      { s with dev := { s.dev with faults := (s.assignFault c r d x).dev.faults }
               fab := { s.fab with regions := (s.assignFault c r d x).fab.regions } } := by
  unfold State.assignFault; cases r <;> rfl

@[simp] theorem State.assignFault_mem (s : State) (c : Code) (r : Option Nat) (d : Nat) (x : Option Nat) : (s.assignFault c r d x).mem = s.mem := by
  rw [assignFault_frame]
@[simp] theorem State.assignFault_flash (s : State) (c : Code) (r : Option Nat) (d : Nat) (x : Option Nat) :
    (s.assignFault c r d x).flash = s.flash := by rw [assignFault_frame]
@[simp] theorem State.assignFault_fuses (s : State) (c : Code) (r : Option Nat) (d : Nat) (x : Option Nat) :
    (s.assignFault c r d x).fuses = s.fuses := by rw [assignFault_frame]
@[simp] theorem State.assignFault_boot (s : State) (c : Code) (r : Option Nat) (d : Nat) (x : Option Nat) :
    (s.assignFault c r d x).dev.boot = s.dev.boot := by rw [assignFault_frame]
@[simp] theorem State.assignFault_ydi (s : State) (c : Code) (r : Option Nat) (d : Nat) (x : Option Nat) :
    (s.assignFault c r d x).dev.ydi = s.dev.ydi := by rw [assignFault_frame]
@[simp] theorem State.assignFault_count (s : State) (c : Code) (r : Option Nat) (d : Nat) (x : Option Nat) :
    (s.assignFault c r d x).dev.faults.count = satAdd s.dev.faults.count 1 := by unfold State.assignFault; cases r <;> rfl
@[simp] theorem State.assignFault_next (s : State) (c : Code) (r : Option Nat) (d : Nat) (x : Option Nat) :
    (s.assignFault c r d x).dev.faults.next = nextFaultId s.dev.faults.next := by unfold State.assignFault; cases r <;> rfl
@[simp] theorem State.lastFault_assign (s : State) (c : Code) (r : Option Nat) (d : Nat) (x : Option Nat) :
    (s.assignFault c r d x).lastFault = s.dev.faults.next := by
  cases r <;> simp [State.assignFault, State.lastFault, State.onFaults, State.onDev, State.onRev, State.onRegion, State.onFab]

/-- An event that the ring takes: one entry more, and one pending interrupt where the source signals (09 R374, 21 R796). -/
theorem State.pfEvent_taken (s : State) (k : Nat) (c : Code) (d : Nat) (he : s.dev.hst.pfEvt.enable = true) (hf : s.dev.hst.pfEvt.full = false) :
    (s.pfEvent k c d).dev.hst.pfEvt = { s.dev.hst.pfEvt with tail := s.dev.hst.pfEvt.tail + 1 } := by
  unfold State.pfEvent
  simp only [State.hostStore]
  repeat' split
  all_goals simp_all [State.onHst, State.onDev]

/-- An event that finds the ring full or disabled is counted as lost (09 R375). -/
theorem State.pfEvent_lost (s : State) (k : Nat) (c : Code) (d : Nat) (h : s.dev.hst.pfEvt.enable = false ∨ s.dev.hst.pfEvt.full = true) :
    (s.pfEvent k c d).dev.hst.pfEvt.lost = satAdd s.dev.hst.pfEvt.lost 1 ∧ (s.pfEvent k c d).hostMem = s.hostMem := by
  unfold State.pfEvent
  simp only [State.hostStore]
  rcases h with h | h <;> (repeat' split) <;> simp_all [State.onHst, State.onDev, Ring.drop1]

end Sys2Proof.Machine
end

