-- ==== Sys2Proof/Laws/Memory.lean ====
section
/-!
SUPPORT. Device memory: a read after a write, and that every operation keeps the canonical form.
-/
namespace Sys2Proof.Machine

/-! ### Listed bytes -/

theorem cellAt_putCell_same (l : List Host.Cell) (a : Nat) (v : Byte) : cellAt (putCell l a v) a = some v := by
  induction l with
  | nil => simp [putCell, cellAt]
  | cons c t ih =>
    obtain ⟨b, w⟩ := c
    unfold putCell
    split
    · simp [cellAt]
    · split
      · simp [cellAt]
      · rename_i h _
        simp [cellAt, h, ih]

theorem cellAt_putCell_other (l : List Host.Cell) {a b : Nat} (v : Byte) (h : a ≠ b) :
    cellAt (putCell l a v) b = cellAt l b := by
  induction l with
  | nil => simp [putCell, cellAt, h]
  | cons c t ih =>
    obtain ⟨i, w⟩ := c
    unfold putCell
    split
    · rename_i hi
      subst hi
      simp [cellAt, h]
    · split
      · simp [cellAt, h]
      · simp [cellAt, ih]

/-- Which bytes a filter over addresses leaves listed. -/
theorem cellAt_filter (p : Nat → Bool) (l : List Host.Cell) (a : Nat) :
    cellAt (l.filter (fun c => p c.1)) a = if p a then cellAt l a else none := by
  induction l with
  | nil => simp [cellAt]
  | cons c l ih =>
    obtain ⟨b, v⟩ := c
    by_cases h : p b = true
    · simp only [List.filter_cons, h, if_true, cellAt, ih]
      split
      · rename_i hb
        simp [← hb, h]
      · rfl
    · have hf : ((b, v) :: l).filter (fun c => p c.1) = l.filter (fun c => p c.1) := by simp [h]
      rw [hf, ih]
      by_cases hb : b = a
      · subst hb
        simp [h]
      · simp [cellAt, hb]

theorem cellAt_dropCell_same (l : List Host.Cell) (a : Nat) : cellAt (dropCell l a) a = none := by
  have := cellAt_filter (fun x => decide (x ≠ a)) l a
  simpa [dropCell] using this

theorem cellAt_dropCell_other (l : List Host.Cell) {a b : Nat} (h : a ≠ b) : cellAt (dropCell l a) b = cellAt l b := by
  have := cellAt_filter (fun x => decide (x ≠ a)) l b
  simpa [dropCell, h.symm] using this

/-! ### Rising addresses -/

theorem risingCells_iff (l : List Host.Cell) : risingCells l = true ↔ l.Pairwise (fun x y => x.1 < y.1) := by
  induction l with
  | nil => simp [risingCells]
  | cons c t ih =>
    obtain ⟨a, v⟩ := c
    cases t with
    | nil => simp [risingCells]
    | cons d t =>
      obtain ⟨b, w⟩ := d
      simp only [risingCells, Bool.and_eq_true, decide_eq_true_eq, ih, List.pairwise_cons, List.mem_cons, forall_eq_or_imp]
      constructor
      · rintro ⟨h, h2, h3⟩
        exact ⟨⟨h, fun x hx => Nat.lt_trans h (h2 x hx)⟩, h2, h3⟩
      · rintro ⟨⟨h, _⟩, h2⟩
        exact ⟨h, h2⟩

theorem risingCells_filter (p : Host.Cell → Bool) (l : List Host.Cell) (h : risingCells l = true) :
    risingCells (l.filter p) = true := (risingCells_iff _).2 (((risingCells_iff _).1 h).filter p)

theorem mem_putCell {l : List Host.Cell} {a : Nat} {v : Byte} {c : Host.Cell} (h : c ∈ putCell l a v) :
    c = (a, v) ∨ c ∈ l := by
  induction l with
  | nil => simpa [putCell] using h
  | cons d t ih =>
    obtain ⟨b, w⟩ := d
    unfold putCell at h
    split at h
    · simp only [List.mem_cons] at h ⊢
      exact h.imp_right .inr
    · split at h
      · simpa using h
      · simp only [List.mem_cons] at h ⊢
        rcases h with h | h
        · exact .inr (.inl h)
        · exact (ih h).imp_right .inr

theorem risingCells_putCell (l : List Host.Cell) (a : Nat) (v : Byte) (h : risingCells l = true) :
    risingCells (putCell l a v) = true := by
  rw [risingCells_iff] at h ⊢
  induction l with
  | nil => simp [putCell]
  | cons d t ih =>
    obtain ⟨b, w⟩ := d
    obtain ⟨h1, h2⟩ := List.pairwise_cons.1 h
    unfold putCell
    split
    · rename_i hb
      subst hb
      exact List.pairwise_cons.2 ⟨h1, h2⟩
    · split
      · rename_i hl
        refine List.pairwise_cons.2 ⟨?_, h⟩
        intro c hc
        rcases List.mem_cons.1 hc with rfl | hc
        · exact hl
        · exact Nat.lt_trans hl (h1 c hc)
      · refine List.pairwise_cons.2 ⟨?_, ih h2⟩
        intro c hc
        rcases mem_putCell hc with rfl | hc
        · show b < a
          omega
        · exact h1 c hc

/-- The bytes the AE7 writes to host memory keep it rising. -/
theorem risingCells_hostPut (l : List Host.Cell) (a : Nat) (bs : List Byte) (h : risingCells l = true) :
    risingCells (hostPut l a bs) = true := by
  unfold hostPut
  generalize bs.zipIdx = z
  induction z generalizing l with
  | nil => exact h
  | cons p z ih => exact ih _ (risingCells_putCell _ _ _ h)

/-! ### Reading after a write -/

/-- A byte reads as it was written, whatever the free values are. -/
theorem Mem.read_write_same (m : Mem) (n a : Nat) (v : Byte) : (m.write a v).read n a = v := by
  unfold Mem.write
  by_cases h : (m.zeroAt a && v == 0) = true
  · have hz : m.zeroAt a = true ∧ v = 0 := by simpa using h
    simp only [h, if_true, Mem.read, cellAt_dropCell_same]
    have : ({ m with cells := dropCell m.cells a } : Mem).zeroAt a = true := hz.1
    simp [this, hz.2]
  · simp only [h, Mem.read]
    simp [cellAt_putCell_same]

/-- A write leaves every other byte as it was. -/
theorem Mem.read_write_other (m : Mem) (n : Nat) {a b : Nat} (v : Byte) (h : a ≠ b) :
    (m.write a v).read n b = m.read n b := by
  have hc : cellAt (m.write a v).cells b = cellAt m.cells b := by
    unfold Mem.write
    split
    · exact cellAt_dropCell_other _ h
    · exact cellAt_putCell_other _ v h
  unfold Mem.read
  rw [hc]
  rfl

@[simp] theorem Mem.write_zeroAt (m : Mem) (a b : Nat) (v : Byte) : (m.write a v).zeroAt b = m.zeroAt b := rfl
@[simp] theorem Mem.write_marks (m : Mem) (a : Nat) (v : Byte) : (m.write a v).marks = m.marks := rfl
@[simp] theorem Mem.write_zeroed (m : Mem) (a : Nat) (v : Byte) : (m.write a v).zeroed = m.zeroed := rfl

/-! ### The canonical form -/

theorem Mem.wf_iff (m : Mem) :
    m.wf = true ↔ risingCells m.cells = true ∧ ∀ c ∈ m.cells, ¬ (m.zeroAt c.1 = true ∧ c.2 = 0) := by
  simp only [Mem.wf, Bool.and_eq_true, List.all_eq_true, Bool.not_eq_true', Bool.and_eq_false_imp, beq_eq_false_iff_ne, not_and, ne_eq]

/-- Reset memory, which lists nothing, is in the form. -/
theorem Mem.wf_empty : ({} : Mem).wf = true := rfl

theorem Mem.wf_write (m : Mem) (a : Nat) (v : Byte) (h : m.wf = true) : (m.write a v).wf = true := by
  rw [Mem.wf_iff] at h ⊢
  simp only [Mem.write_zeroAt]
  unfold Mem.write
  split
  · exact ⟨risingCells_filter _ _ h.1, fun c hc => h.2 c ((List.mem_filter.1 hc).1)⟩
  · rename_i hv
    refine ⟨risingCells_putCell _ _ _ h.1, fun c hc => ?_⟩
    rcases mem_putCell hc with rfl | hc
    · simpa using hv
    · exact h.2 c hc

/-- Marks have no part in the form. -/
theorem Mem.wf_marks (m : Mem) (l : List (Nat × Mark)) : ({ m with marks := l } : Mem).wf = m.wf := rfl

/-- A filter of the cells keeps the form where no remaining byte starts to read as an unlisted zero. -/
theorem Mem.wf_filter {m m' : Mem} (p : Host.Cell → Bool) (h : m.wf = true) (hc : m'.cells = m.cells.filter p)
    (hz : ∀ c, p c = true → m'.zeroAt c.1 = true → m.zeroAt c.1 = true) : m'.wf = true := by
  rw [Mem.wf_iff] at h ⊢
  rw [hc]
  refine ⟨risingCells_filter _ _ h.1, fun c hm hb => ?_⟩
  obtain ⟨h1, h2⟩ := List.mem_filter.1 hm
  exact h.2 c h1 ⟨hz c h2 hb.1, hb.2⟩

theorem Mem.wf_clearRange (m : Mem) (lo hi : Nat) (h : m.wf = true) : (m.clearRange lo hi).wf = true :=
  Mem.wf_filter _ h rfl (fun _ _ hz => hz)

theorem Mem.wf_zeroFill (m : Mem) (lo hi : Nat) (h : m.wf = true) : (m.zeroFill lo hi).wf = true := by
  refine Mem.wf_filter _ h rfl (fun c hc hz => ?_)
  simp only [Mem.zeroAt, Mem.zeroFill, Bool.or_eq_true, List.any_eq_true, List.mem_cons, List.mem_filter] at hz ⊢
  rcases hz with hz | ⟨q, rfl | hq, hx⟩
  · exact .inl hz
  · simp only [hx, Bool.not_true] at hc
    cases hc
  · exact .inr ⟨q, hq.1, hx⟩

theorem Mem.wf_forgetDram (m : Mem) (h : m.wf = true) : m.forgetDram.wf = true := by
  refine Mem.wf_filter _ h rfl (fun c hc _ => ?_)
  simp only [Mem.zeroAt, Bool.or_eq_true]
  exact .inl hc

theorem Mem.wf_forget (m : Mem) (lo hi : Nat) (h : m.wf = true) : (m.forget lo hi).wf = true := by
  refine Mem.wf_filter _ h rfl (fun c _ hz => ?_)
  simp only [Mem.zeroAt, Mem.forget, Bool.or_eq_true, List.any_eq_true, List.mem_flatMap] at hz ⊢
  rcases hz with hz | ⟨q, ⟨p, hp, hq⟩, hx⟩
  · exact .inl hz
  · refine .inr ⟨p, hp, ?_⟩
    simp [cutRange, List.mem_filter] at hq
    simp at hx ⊢
    rcases hq with ⟨rfl | rfl, _⟩ <;> simp at hx <;> omega

theorem Mem.wf_writeCells (m : Mem) (l : List (Nat × Byte)) (h : m.wf = true) : (m.writeCells l).1.wf = true := by
  unfold Mem.writeCells
  simp only [Mem.wf_marks]
  generalize l.filter _ = g
  induction g generalizing m with
  | nil => exact h
  | cons p g ih => exact ih _ (Mem.wf_write _ _ _ h)

/-! ### What the other operations leave -/

/-- Clearing a range leaves every byte outside it. -/
theorem Mem.read_clearRange_other (m : Mem) (n lo hi a : Nat) (h : ¬ (lo ≤ a ∧ a < hi)) :
    (m.clearRange lo hi).read n a = m.read n a := by
  have hc := cellAt_filter (fun x => !(lo ≤ x && x < hi)) m.cells a
  have hp : (!(decide (lo ≤ a) && decide (a < hi))) = true := by
    simp
    omega
  simp only [hp, if_true] at hc
  unfold Mem.read
  exact congrArg (fun o : Option Byte => match o with
    | some v => v | none => if m.zeroAt a then 0 else Config.freeByte n a) hc

/-- A zero-filled DRAM byte reads 0. -/
theorem Mem.read_zeroFill (m : Mem) (n lo hi a : Nat) (h1 : lo ≤ a) (h2 : a < hi) :
    (m.zeroFill lo hi).read n a = 0 := by
  have hc := cellAt_filter (fun x => !(lo ≤ x && x < hi)) m.cells a
  simp only [h1, h2, decide_true, Bool.and_self, Bool.not_true] at hc
  have hz : (m.zeroFill lo hi).zeroAt a = true := by simp [Mem.zeroAt, Mem.zeroFill, h1, h2]
  have he : cellAt (m.zeroFill lo hi).cells a = none := by simpa [Mem.zeroFill] using hc
  simp [Mem.read, he, hz]

/-- A cleared scratchpad byte reads 0. -/
theorem Mem.read_clearRange_scratch (m : Mem) (n lo hi a : Nat) (h1 : lo ≤ a) (h2 : a < hi) (h : scratchBase ≤ a) :
    (m.clearRange lo hi).read n a = 0 := by
  have hc := cellAt_filter (fun x => !(lo ≤ x && x < hi)) m.cells a
  simp only [h1, h2, decide_true, Bool.and_self, Bool.not_true] at hc
  have he : cellAt (m.clearRange lo hi).cells a = none := by simpa [Mem.clearRange] using hc
  have hz : (m.clearRange lo hi).zeroAt a = true := by simp [Mem.zeroAt, h]
  simp [Mem.read, he, hz]

/-- An acceptance leaves every scratchpad byte. -/
theorem Mem.read_forgetDram_scratch (m : Mem) (n a : Nat) (h : scratchBase ≤ a) : m.forgetDram.read n a = m.read n a := by
  have hc := cellAt_filter (fun x => decide (scratchBase ≤ x)) m.cells a
  simp only [h, decide_true, if_true] at hc
  have hz : m.forgetDram.zeroAt a = m.zeroAt a := by simp [Mem.zeroAt, h]
  have he : cellAt m.forgetDram.cells a = cellAt m.cells a := hc
  simp [Mem.read, he, hz]

/-- A write of bytes of which none is at `a` leaves the byte there. -/
theorem Mem.read_writeCells_other (m : Mem) (l : List (Nat × Byte)) (n a : Nat) (h : ∀ p ∈ l, p.1 ≠ a) :
    (m.writeCells l).1.read n a = m.read n a := by
  have key : ∀ (g : List (Nat × Byte)) (m : Mem), (∀ p ∈ g, p.1 ≠ a) →
      (g.foldl (fun m p => m.write p.1 p.2) m).read n a = m.read n a := by
    intro g
    induction g with
    | nil => exact fun _ _ => rfl
    | cons p g ih =>
      intro m hg
      rw [List.foldl_cons, ih _ (fun q hq => hg q (List.mem_cons_of_mem _ hq)),
        Mem.read_write_other _ _ _ (hg p (List.mem_cons_self ..))]
  exact key _ m (fun p hp => h p ((List.mem_filter.1 hp).1))

end Sys2Proof.Machine
end

