-- ==== Sys2Proof/Laws/Ops.lean ====
section
/-!
SUPPORT. What the operations that many commands share can do: events, ring storage, domains set to Ivory, the start of a boot, a hub
tick, and the programming of fuses.
-/
namespace Sys2Proof.Machine

/-! ### Events -/

/-- `t` differs from `s` by what raising events writes and by nothing else: bytes of rings, the regions' records, the physical function's
ring and interrupt source, the trace collection, and what a ring entry's merge read counts: memory counters and the fault log. -/
def State.EventOnly (s t : State) : Prop :=
  t = { s with mem := t.mem, hostMem := t.hostMem
               dev := { s.dev with hst := { s.dev.hst with pfEvt := t.dev.hst.pfEvt, pfIrq := t.dev.hst.pfIrq }, dbg := t.dev.dbg
                                   faults := t.dev.faults }
               fab := { s.fab with regions := t.fab.regions, memDies := t.fab.memDies } }

theorem State.EventOnly.refl (s : State) : s.EventOnly s := rfl

theorem State.EventOnly.trans {s t u : State} (h : s.EventOnly t) (k : t.EventOnly u) : s.EventOnly u := by
  unfold State.EventOnly at *
  rw [k, h]

theorem State.onSched_only (s : State) (r : Nat) (f : RegionSched → RegionSched) : s.EventOnly (s.onSched r f) := rfl

theorem State.hostStore_only (s : State) (b : Bool) (a : Nat) (bs : List Byte) : s.EventOnly (s.hostStore b a bs) := by
  cases b <;> rfl

theorem State.assignFault_only (s : State) (c : Code) (r : Option Nat) (d : Nat) (k : Option Nat) : s.EventOnly (s.assignFault c r d k) := by
  unfold State.assignFault
  cases r <;> rfl

/-- Counting corrected groups changes memory counters alone. -/
theorem State.countCorrected_only (s : State) (l : List Nat) : s.EventOnly (s.countCorrected l) := by
  unfold State.countCorrected
  dsimp only
  generalize List.filter _ _ = hit
  have key : ∀ (hit : List (Nat × Mark)) (t : State), s.EventOnly t →
      s.EventOnly (hit.foldl (fun s p => s.onMemDie ((s.dramDie p.1).getD 0) fun m => { m with corrected := satAdd m.corrected 1 }) t) := by
    intro hit
    induction hit with
    | nil => exact fun _ h => h
    | cons p l ih => exact fun t h => ih _ (h.trans rfl)
  exact key hit s (State.EventOnly.refl s)

theorem State.memCount_only (s : State) (r a : Nat) : s.EventOnly (s.memCount r a) := by
  unfold State.memCount
  dsimp only
  split
  · exact State.assignFault_only _ _ _ _ _
  · exact (State.assignFault_only _ _ _ _ _).trans rfl

/-- A ring entry in region memory changes bytes of memory, and what its merge reads count. -/
theorem State.ringStore_form (s : State) (r v : Nat) (bs : List Byte) : (s.ringStore r v bs).1 = s ∨
    ∃ l, (s.ringStore r v bs).1 = (s.countMerged (l.map (·.1))).onMem fun _ => ((s.countMerged (l.map (·.1))).mem.writeCells l).1 := by
  unfold State.ringStore
  repeat' split
  all_goals first
    | exact .inl rfl
    | exact .inr ⟨_, rfl⟩

/-- Counting corrected groups leaves memory. -/
theorem State.countMerged_mem (s : State) (l : List Nat) : (s.countMerged l).mem = s.mem := by
  unfold State.countMerged State.countCorrected
  dsimp only
  generalize List.filter _ _ = hit
  have key : ∀ (hit : List (Nat × Mark)) (t : State),
      (hit.foldl (fun s p => s.onMemDie ((s.dramDie p.1).getD 0) fun m => { m with corrected := satAdd m.corrected 1 }) t).mem = t.mem := by
    intro hit
    induction hit with
    | nil => exact fun _ => rfl
    | cons p l ih => exact fun t => ih _
  exact key hit s

/-- A ring entry keeps the canonical form of memory. -/
theorem State.ringStore_wf (s : State) (r v : Nat) (bs : List Byte) (h : s.mem.wf = true) : (s.ringStore r v bs).1.mem.wf = true := by
  rcases s.ringStore_form r v bs with e | ⟨l, e⟩
  · rw [e]
    exact h
  · rw [e]
    refine Mem.wf_writeCells _ _ ?_
    rw [State.countMerged_mem]
    exact h

theorem State.regionRingStore_only (s : State) (r : Nat) (b : Bool) (a : Nat) (bs : List Byte) :
    s.EventOnly (s.regionRingStore r b a bs).1 := by
  unfold State.regionRingStore
  split
  · exact State.hostStore_only _ _ _ _
  · rcases s.ringStore_form r (va48 a) bs with e | ⟨l, e⟩ <;> rw [e]
    · exact State.EventOnly.refl s
    · exact (State.countCorrected_only _ _).trans rfl

theorem State.pfEvent_only (s : State) (kind : Nat) (c : Code) (d : Nat) : s.EventOnly (s.pfEvent kind c d) := by
  obtain ⟨m, e, i, h⟩ := s.pfEvent_form kind c d
  rw [h]
  rfl

theorem State.trace_only (s : State) (r kind key queue status value item : Nat) :
    s.EventOnly (s.trace r kind key queue status value item) := by
  unfold State.trace
  dsimp only
  split <;> rfl

theorem State.eventPut_only (s : State) (r kind : Nat) (c : Code) (d : Nat) : s.EventOnly (s.eventPut r kind c d) := by
  unfold State.eventPut
  dsimp only
  split
  · rfl
  · split
    · rfl
    · refine ((State.EventOnly.trans ?_ (State.onSched_only _ _ _)).trans (State.trace_only _ _ _ _ _ _ _ _)).trans (State.onSched_only _ _ _)
      split
      · exact ((State.regionRingStore_only _ _ _ _ _).trans (State.memCount_only _ _ _)).trans (State.pfEvent_only _ _ _ _)
      · exact State.regionRingStore_only _ _ _ _ _

theorem State.wmCross_only (s : State) (r n : Nat) : s.EventOnly (s.wmCross r n) := by
  unfold State.wmCross
  dsimp only
  split
  · split
    · exact State.onSched_only _ _ _
    · exact (State.onSched_only _ _ _).trans (State.eventPut_only _ _ _ _ _)
  · split
    · exact State.EventOnly.refl s
    · exact State.onSched_only _ _ _

theorem State.wmStep_only (s : State) (r n : Nat) : s.EventOnly (s.wmStep r n) := by
  unfold State.wmStep
  split
  · exact State.wmCross_only _ _ _
  · exact (State.wmCross_only _ _ _).trans (State.wmCross_only _ _ _)

theorem State.regionEvent_only (s : State) (r kind : Nat) (c : Code) (d : Nat) : s.EventOnly (s.regionEvent r kind c d) :=
  (State.eventPut_only _ _ _ _ _).trans (State.wmStep_only _ _ _)

theorem State.eventAll_only (s : State) (rs : List Nat) (kind : Nat) (c : Code) (d : Nat) : s.EventOnly (s.eventAll rs kind c d) := by
  have key : ∀ (rs : List Nat) (t : State), s.EventOnly t → s.EventOnly (rs.foldl (fun s r => s.regionEvent r kind c d) t) := by
    intro rs
    induction rs with
    | nil => exact fun _ h => h
    | cons r rs ih => exact fun t h => ih _ (h.trans (State.regionEvent_only t r kind c d))
  exact key rs _ (State.pfEvent_only s kind c d)

/-- What an event leaves: the queue of commands, the part, fuses, flash, free values, and every hub block but HST's event ring, DBG and
the fault log. -/
theorem State.EventOnly.frame {s t : State} (h : s.EventOnly t) :
    t.pending = s.pending ∧ t.part = s.part ∧ t.fuses = s.fuses ∧ t.flash = s.flash ∧ t.free = s.free ∧ t.dev.boot = s.dev.boot ∧
    t.dev.aux = s.dev.aux ∧ t.dev.pins = s.dev.pins ∧ t.dev.shared = s.dev.shared ∧ t.dev.clk = s.dev.clk ∧ t.dev.pwr = s.dev.pwr ∧
    t.dev.noc = s.dev.noc ∧ t.dev.ydi = s.dev.ydi ∧ t.dev.lnk = s.dev.lnk ∧ t.dev.sec = s.dev.sec ∧
    t.dev.tel = s.dev.tel := by
  rw [h]
  simp

/-! ### Banks and loading -/

/-- Clearing banks keeps the canonical form of memory. -/
theorem Mem.wf_clearBanks (m : Mem) (key : Nat) (keep : BitVec 16) (h : m.wf = true) : (m.clearBanks key keep).wf = true := by
  unfold Mem.clearBanks
  generalize List.range 16 = l
  induction l generalizing m with
  | nil => exact h
  | cons b l ih =>
    refine ih _ ?_
    dsimp only
    split
    · exact h
    · exact Mem.wf_clearRange _ _ _ h

/-- What the loader writes keeps the canonical form of memory. -/
theorem State.loaderWrite_wf (s : State) (a : Nat) (bs : List Byte) (h : s.mem.wf = true) : (s.loaderWrite a bs).mem.wf = true :=
  Mem.wf_writeCells _ _ h

/-! ### Domains and the start of a boot -/

/-- Setting domains to Ivory changes the PWR block alone. -/
theorem State.toIvory_form (l : List Nat) (s : State) : ∃ p, s.toIvory l = { s with dev := { s.dev with pwr := p } } := by
  induction l generalizing s with
  | nil => exact ⟨_, rfl⟩
  | cons a l ih =>
    obtain ⟨p, h⟩ := ih (s.onDomain a fun d =>
      { d with target := 0, state := .ivory, request := none, goal := none, moving := none, closingFrames := 0, drainRaised := false })
    exact ⟨p, h⟩

/-- A domain set to Ivory is in Ivory. -/
theorem State.toIvory_ivory (l : List Nat) (s : State) (n : Nat) (h : n ∈ l ∨ (s.domain n).state = .ivory) :
    ((s.toIvory l).domain n).state = .ivory := by
  induction l generalizing s with
  | nil => exact h.resolve_left List.not_mem_nil
  | cons a l ih =>
    apply ih
    simp only [List.mem_cons] at h
    by_cases hm : n ∈ l
    · exact .inl hm
    · right
      simp only [State.domain, State.onDomain, State.onPwr, State.onDev]
      by_cases ha : a = n
      · subst ha
        simp
      · rw [Tab.get_modify_other _ _ _ ha]
        rcases h with (h | h) | h
        · exact absurd h.symm ha
        · exact absurd h hm
        · exact h

/-- A domain not named keeps its record. -/
theorem State.toIvory_other (l : List Nat) (s : State) (n : Nat) (h : n ∉ l) : (s.toIvory l).domain n = s.domain n := by
  induction l generalizing s with
  | nil => rfl
  | cons a l ih =>
    simp only [List.mem_cons, not_or] at h
    refine (ih _ h.2).trans ?_
    simp only [State.domain, State.onDomain, State.onPwr, State.onDev]
    exact Tab.get_modify_other _ _ _ (Ne.symm h.1)

/-- The start of a boot: stage ROM, the hub domains in Ivory, boot frame 0 at this tick. -/
theorem State.startBoot_stage (s : State) : s.startBoot.dev.boot.stage = .rom ∧ s.startBoot.dev.noc.frame = 0 ∧
    s.startBoot.dev.noc.frameTick = s.detach.bootDomains.tick ∧ s.startBoot.dev.noc.counting = false := ⟨rfl, rfl, rfl, rfl⟩

/-- A boot without a standing trip sets the hub domains alone, to Ivory. -/
theorem State.bootDomains_free (s : State) (hold : s.dev.aux.tripHold = false) : s.bootDomains = s.toIvory [40, 41, 42, 43, 44, 45] := by
  unfold State.bootDomains
  rw [hold]
  rfl

theorem State.startBoot_hub (s : State) (n : Nat) (h : n ∈ [40, 41, 42, 43, 44, 45]) (hold : s.detach.dev.aux.tripHold = false) :
    (s.startBoot.domain n).state = .ivory := by
  have e : s.startBoot.domain n = s.detach.bootDomains.domain n := rfl
  rw [e, State.bootDomains_free _ hold]
  exact State.toIvory_ivory [40, 41, 42, 43, 44, 45] s.detach n (.inl h)

theorem State.startBoot_other (s : State) (n : Nat) (h : n ∉ [40, 41, 42, 43, 44, 45]) (hold : s.detach.dev.aux.tripHold = false) :
    s.startBoot.domain n = s.detach.domain n := by
  have e : s.startBoot.domain n = s.detach.bootDomains.domain n := rfl
  rw [e, State.bootDomains_free _ hold]
  exact State.toIvory_other [40, 41, 42, 43, 44, 45] s.detach n h

/-! ### A hub tick -/

/-- A hub tick changes CLK_TICK and the busy bit of the SEC block, and nothing where the always-on domain is off. -/
theorem hubTick_form (s : State) :
    hubTick s = { s with dev := { s.dev with clk := { s.dev.clk with tick := if s.powered then s.dev.clk.tick + 1 else s.dev.clk.tick }
                                             sec := { s.dev.sec with busy := if s.powered then s.dev.sec.busy && s.dev.sec.cut else s.dev.sec.busy } } } := by
  unfold hubTick
  split <;> rfl

/-! ### Fuses -/

/-- A fuse that is blown stays blown. -/
theorem blowBits_keeps {w : Nat} (x : BitVec w) (l : List Nat) (n : Nat) : x &&& blowBits x l n = x := by
  unfold blowBits
  have h : ∀ (m : List Nat) (y : BitVec w), x &&& y = x → x &&& m.foldl (fun x i => x ||| ((1 : BitVec w) <<< i)) y = x := by
    intro m
    induction m with
    | nil => exact fun y h => by simpa using h
    | cons a m ih =>
      intro y h
      refine ih _ ?_
      ext i hi
      have hb := congrArg (fun z => z.getLsbD i) h
      simp only [BitVec.getLsbD_and, BitVec.getLsbD_or, ← BitVec.getLsbD_eq_getElem] at hb ⊢
      revert hb
      cases x.getLsbD i <;> cases y.getLsbD i <;> simp
  exact h _ _ (by simp)

/-- What programming leaves in the fuses: what some number of its steps leaves. -/
theorem State.program_fuses (s : State) (c k n : Nat) (r : FuseResult) (ap : State → Nat → State) :
    ∃ m, m ≤ n ∧ (s.program c k n r ap).fuses = (ap s m).fuses := by
  unfold State.program
  split
  · exact ⟨n, Nat.le_refl _, rfl⟩
  · split
    · exact ⟨n, Nat.le_refl _, rfl⟩
    · rename_i j h
      refine ⟨j, by omega, ?_⟩
      rw [State.pfEvent_fuses]
      rfl
  · exact ⟨_, Nat.min_le_right _ _, rfl⟩

/-- A SEC command leaves the fuses, or runs. -/
theorem State.secRun_fuses (s : State) (o : Option Code) (f : State → State) :
    (s.secRun o f).fuses = s.fuses ∨ s.secRun o f = f s := by
  unfold State.secRun
  repeat' split
  all_goals first
    | exact .inl rfl
    | exact .inr rfl

end Sys2Proof.Machine
end

