-- ==== Sys2Proof/Laws/Threads.lean ====
section
/-!
SUPPORT. Sites and threads read after an update, the fields of an encoded instruction word, and what issuing an instruction does.
-/
namespace Sys2Proof.Machine

/-- An update of a thread changes its site's threads alone. -/
theorem State.onThread_frame (s : State) (k th : Nat) (f : Thread → Thread) :
    s.onThread k th f = { s with fab := { s.fab with sites := (s.onThread k th f).fab.sites } } := rfl
theorem State.site_onThread (s : State) (k th : Nat) (f : Thread → Thread) :
    (s.onThread k th f).site k = { s.site k with threads := ((s.onThread k th f).site k).threads } := by simp [State.onThread]

/-- The thread that issued last is noted beside the threads. -/
@[simp] theorem State.thread_issued (s : State) (k j th n : Nat) : (s.issued k n).thread j th = s.thread j th := by
  unfold State.issued
  by_cases h : j = k
  · subst h; simp [State.thread]
  · rw [State.thread, State.site_onSite_other _ _ (Ne.symm h)]; rfl

/-- The fields of an encoded word (09 R313). -/
@[simp] theorem wOp_enc {op rd ra rb rc imm : Nat} (h : op < 256) : wOp (enc op rd ra rb rc imm) = op := by
  simp only [wOp, enc, bitsOf]; omega
@[simp] theorem wRd_enc {op rd ra rb rc imm : Nat} (h : op < 256) (hd : rd < 64) : wRd (enc op rd ra rb rc imm) = rd := by
  simp only [wRd, enc, bitsOf]; omega
@[simp] theorem wRa_enc {op rd ra rb rc imm : Nat} (h : op < 256) (hd : rd < 64) (ha : ra < 64) : wRa (enc op rd ra rb rc imm) = ra := by
  simp only [wRa, enc, bitsOf]; omega
@[simp] theorem wRb_enc {op rd ra rb rc imm : Nat} (h : op < 256) (hd : rd < 64) (ha : ra < 64) (hb : rb < 64) :
    wRb (enc op rd ra rb rc imm) = rb := by
  simp only [wRb, enc, bitsOf]; omega
@[simp] theorem wRc_enc {op rd ra rb rc imm : Nat} (h : op < 256) (hd : rd < 64) (ha : ra < 64) (hb : rb < 64) (hc : rc < 64) :
    wRc (enc op rd ra rb rc imm) = rc := by
  simp only [wRc, enc, bitsOf]; omega
@[simp] theorem wImm_enc {op rd ra rb rc imm : Nat} (h : op < 256) (hd : rd < 64) (ha : ra < 64) (hb : rb < 64) (hc : rc < 64)
    (hi : imm < 2 ^ 32) : wImm (enc op rd ra rb rc imm) = imm := by
  simp only [wImm, enc, bitsOf]; omega

/-- A ready thread that has fetched the word, with legal operands and no register that waits, takes the instruction's effect. -/
theorem State.issueAs_runs {s : State} {t : Tid} {w a : Nat} {rs : List Nat} (f : State → State) (hr : s.threadReady (tidKey t) t.th.val = true)
    (ha : s.fetchAddr (tidKey t) t.th.val = .ok a) (hb : s.mem.bad (upFrom a 8) = none) (hw : s.fetchWord a = w)
    (hn : (s.thread (tidKey t) t.th.val).waits rs = false) :
    s.issueAs t w true rs f = f (s.issued (tidKey t) t.th.val) := by
  simp [State.issueAs, hr, ha, hb, hw, hn]

/-- An instruction whose register waits leaves the state as it is. -/
theorem State.issueAs_waits {s : State} {t : Tid} {w a : Nat} {rs : List Nat} (f : State → State) (hr : s.threadReady (tidKey t) t.th.val = true)
    (ha : s.fetchAddr (tidKey t) t.th.val = .ok a) (hb : s.mem.bad (upFrom a 8) = none)
    (hn : (s.thread (tidKey t) t.th.val).waits rs = true) : s.issueAs t w true rs f = s := by
  simp [State.issueAs, hr, ha, hb, hn]

/-- Operands that are not legal trap the thread (09 R315). -/
theorem State.issueAs_illegal {s : State} {t : Tid} {w a : Nat} {rs : List Nat} (f : State → State) (hr : s.threadReady (tidKey t) t.th.val = true)
    (ha : s.fetchAddr (tidKey t) t.th.val = .ok a) (hb : s.mem.bad (upFrom a 8) = none) (hw : s.fetchWord a = w) :
    s.issueAs t w false rs f = (s.issued (tidKey t) t.th.val).trap (tidKey t) t.th.val Codes.THREAD_ILLEGAL 0 := by
  simp [State.issueAs, hr, ha, hb, hw]

end Sys2Proof.Machine
end

