-- ==== Sys2Proof/Tests/Slice0.lean ====
section
/-!
SUPPORT. Tests: ill-formed commands are refused, and for the clauses of every statement a concrete state and operands that meet its
hypotheses, with what the command then gives, worked out by hand from the rules that the statement cites.
-/
namespace Sys2Proof.Tests
open Sys2Proof.Machine
set_option maxRecDepth 20000
set_option Elab.async false

/-! ## States -/

/-- The command answers a next state that satisfies `p`. -/
def gives (c : Instr) (s : State) (p : State → Bool) : Bool :=
  match exec c s with
  | .next t => p t
  | _ => false

/-- The command is refused as ill-formed. -/
def refuses (c : Instr) (s : State) : Bool :=
  match exec c s with
  | .refused .illFormed => true
  | _ => false

/-- A package in a stage, with its rail and MGT_VIO up and no reset cause. -/
def at_ (g : Stage) : State :=
  { dev := { boot := { stage := g, causeRail := false }, pins := { mgtVio := true, railMv := 12000 } } }

/-- Region 0: 4 × 4 sites of die 0, with eight queues. -/
def region0 : RegionDef :=
  { id := 0, paired := false, tolerant := false, sfuMinimal := false, narrow := 0, die := 0, rect1 := ⟨0, 0, 4, 4⟩, rect2 := {}
    queueFirst := 0, queueCount := 8, seed := 0 }

/-- Every domain in Ivory. -/
def allIvory : Tab Domain := (List.range 64).map (fun n => (n, { target := 0, state := .ivory }))

/-- The two slot-table entries of a foreground route of region 0 from one router to its neighbour. -/
def slotRoute (id : Nat) (x y : Router) : List SlotEntry :=
  [⟨x.1, x.2.1, x.2.2, 0, 5, 0, 3, 0, false, id⟩, ⟨y.1, y.2.1, y.2.2, 0, 6, 1, 0, 0, false, id⟩]

/-- A running package with region 0 on site 0's scratchpad, three routes, the host link up, and functions 0 and 1 enabled. -/
def run : State :=
  let s := at_ .running
  let s := s.onFab fun f =>
    { f with image := some { regions := [region0], seed := 5 }
             body := { segments := [{ region := 0, base := 0, limit := 0xFFFFF, target := scratchAddr 0 0 0, read := true, write := true }]
                       slots := slotRoute 0 (0, 1, 0) (0, 0, 0) ++ slotRoute 1 (0, 0, 0) (0, 1, 0) ++ slotRoute 2 (0, 0, 4) (0, 0, 0) } }
  let s := s.onPwr fun p => { p with domains := allIvory }
  let s := s.onClk fun c => { c with tick := 50000 }
  let s := s.onBoot fun b => { b with watchdogOn := true }
  let s := s.onNoc fun n => { n with frameTick := 50000, counting := true, frame := 64 }
  s.onHst fun h => { h with linkUp := true, funcs := [(0, { busMaster := true }), (1, { enabled := true, busMaster := true })] }

/-- The same state at slot `n` of its frame, each slot two hub ticks. -/
def atSlot (s : State) (n : Nat) : State := s.onNoc fun x => { x with frameTick := s.tick - BitVec.ofNat 64 (2 * n) }

/-- Bytes laid at an address of device memory. -/
def lay (s : State) (a : Nat) (l : List Byte) : State := s.onMem fun m => l.zipIdx.foldl (fun m p => m.write (a + p.2) p.1) m

/-! ## Well-formed commands -/

theorem test_bundle_masks : refuses (.dieLinkDone []) .reset = true := by decide
theorem test_sensor_readings : refuses (.frameBoundary [] 0 ⟨0, 0, []⟩) .reset = true := by decide
theorem test_descriptor_bytes : refuses (.descriptorAccept 0 [0]) .reset = true := by decide
theorem test_header_bytes : refuses (.linkHeaderReceive 0 [1, 2]) .reset = true := by decide
theorem test_cell_bytes : refuses (.linkCellReceive 0 0 []) .reset = true ∧ refuses (.linkCellReceive 0 1364 (List.replicate 384 0)) .reset = true := by
  decide
theorem test_send_slot : refuses (.linkCellSend 0 1364) .reset = true ∧ gives (.linkCellSend 0 1363) .reset (fun _ => true) = true := by decide
theorem test_forward_slot : refuses (.cellForward 0 1364) .reset = true := by decide
theorem test_resend_slot : refuses (.cellResend 0 1364) .reset = true := by decide

/-! ## Witnesses: the queue of commands -/

theorem witness_wellFormed : (Instr.mgmtStatus).wellFormed = true ∧ (Instr.dieLinkDone []).wellFormed = false := by decide
theorem witness_idle : (at_ .running).pending = [] ∧ (match step (at_ .running) with
    | .next t => decide (t.dev.clk.tick = 1)
    | _ => false) = true := by decide
theorem witness_fuses_legal : State.reset.fuses.Legal ∧ step { State.reset with pending := [.extest] } ≠ .refused .illFormed := by
  refine ⟨⟨by decide, by decide⟩, ?_⟩
  rw [show step { State.reset with pending := [.extest] } = .next { State.reset with dev := State.reset.dev } from by rfl]
  exact fun h => nomatch h

/-! ## Witnesses: resets and boot -/

theorem witness_overvoltage : 13600 < (14000 : BitVec 16).toNat ∧ gives (.railOvervoltage 14000) run (fun t =>
    t.dev.boot.causeOver && t.dev.boot.stage = .reset && t.dev.boot.rcPowerOn && t.dev.clk.tick = 0 && t.fab.image.isNone) = true := by decide
theorem witness_overvoltage_not : (13600 : BitVec 16).toNat ≤ 13600 ∧ gives (.railOvervoltage 13600) run (fun t =>
    t.dev.boot.stage = .running && t.dev.pins.railMv = 13600) = true := by decide
theorem witness_undervoltage : (10799 : BitVec 16).toNat < 10800 ∧ gives (.railUndervoltage 10799) run (fun t =>
    t.dev.boot.causeRail && !t.dev.boot.causeOver && t.dev.boot.stage = .reset) = true := by decide
theorem witness_board_reset : gives (.boardResetAssert 100) run (fun t => t.dev.boot.causeBoard && t.dev.boot.rcBoard && t.dev.clk.tick = 50000) = true ∧
    gives (.boardResetAssert 99) run (fun t => t.dev.boot.stage = .running) = true := by decide
theorem witness_host_reset : gives (.hostResetAssert 100) run (fun t => t.dev.boot.causeHost && t.dev.boot.rcHost && !t.dev.boot.rcBoard) = true := by decide
theorem witness_watchdog : run.dev.boot.watchdogOn = true ∧ run.NoOtherCause false false false false ∧
    gives .watchdogExpiry run (fun t => t.dev.boot.stage = .rom && t.dev.boot.rcWatchdog && t.dev.aux.watchdogPending) = true :=
  ⟨by decide, ⟨by decide, by decide, by decide, by decide, by decide⟩, by decide⟩
theorem witness_power_good : 11000 < (11001 : BitVec 16).toNat ∧ State.reset.dev.boot.causeRail = true ∧ State.reset.NoOtherCause true false false false ∧
    gives (.railPowerGood 11001) .reset (fun t => t.dev.boot.stage = .rom && (t.domain 40).state = .ivory && (t.domain 0).state = .charcoal) = true :=
  ⟨by decide, by decide, ⟨by decide, by decide, by decide, by decide, by decide⟩, by decide⟩

/-- A package held in reset by one cause. -/
def held (f : Boot → Boot) : State := (at_ .reset).onBoot f
theorem witness_release_board : (held fun b => { b with causeBoard := true }).NoOtherCause false false true false ∧
    gives (.resetRelease .board) (held fun b => { b with causeBoard := true }) (fun t => t.dev.boot.stage = .rom) = true :=
  ⟨⟨by decide, by decide, by decide, by decide, by decide⟩, by decide⟩
theorem witness_release_host : (held fun b => { b with causeHost := true }).NoOtherCause false false false true ∧
    gives (.resetRelease .host) (held fun b => { b with causeHost := true }) (fun t => t.dev.boot.stage = .rom) = true :=
  ⟨⟨by decide, by decide, by decide, by decide, by decide⟩, by decide⟩
theorem witness_release_over : (held fun b => { b with causeOver := true }).NoOtherCause false true false false ∧
    gives (.resetRelease .overVoltage) (held fun b => { b with causeOver := true }) (fun t => t.dev.boot.stage = .rom) = true :=
  ⟨⟨by decide, by decide, by decide, by decide, by decide⟩, by decide⟩
theorem witness_release_not_last : gives (.resetRelease .board) (held fun b => { b with causeBoard := true, causeHost := true }) (fun t =>
    t.dev.boot.stage = .reset && !t.dev.boot.causeBoard && t.dev.boot.causeHost) = true := by decide
theorem witness_restart : gives .bootRestart (at_ .bootFailed) (fun t => t.dev.boot.stage = .rom) = true := by decide

/-- A firmware copy that verifies under an unblown key fuse. -/
def goodCopy : FwCopy := { keySlot := 0, keyMatches := true, sigOk := true, version := 3 }
/-- A stage with firmware copies in flash. -/
def flashed (g : Stage) (a b : Option FwCopy) : State := { at_ g with flash := { copyA := a, copyB := b } }

theorem witness_rom : gives .bootRomDone (at_ .rom) (fun t => t.dev.boot.stage = .fwVerify) = true ∧
    gives .bootRomDone ((at_ .rom).onBoot fun b => { b with failCount := 3 }) (fun t => t.dev.boot.stage = .recovery) = true := by decide
theorem witness_verify : (flashed .fwVerify (some goodCopy) none).copyVerifies (some goodCopy) = true ∧
    gives .fwVerifyDone (flashed .fwVerify (some goodCopy) none) (fun t => t.dev.boot.stage = .dieLink && (t.domain 19).state = .ivory) = true := by decide
theorem witness_verify_other : (flashed .fwVerify none (some goodCopy)).copyVerifies none = false ∧
    gives .fwVerifyDone (flashed .fwVerify none (some goodCopy)) (fun t => t.dev.boot.stage = .dieLink && t.flash.activeB) = true := by decide
theorem witness_verify_none : gives .fwVerifyDone (at_ .fwVerify) (fun t => t.dev.boot.stage = .recovery) = true ∧
    gives .fwVerifyDone ((flashed .fwVerify (some goodCopy) none).onClk fun c => { c with resFault := true }) (fun t => t.dev.boot.stage = .clockFault) = true := by
  decide
theorem witness_mem_init : gives (.memInitDone true) (at_ .memInit) (fun t => t.dev.boot.stage = .awaitImage && t.mem.read 7 0 = 0) = true ∧
    gives (.memInitDone false) (at_ .memInit) (fun t => t.dev.boot.stage = .bootFailed) = true := by decide
theorem witness_lanes : gives (.dieLinkDone (List.replicate 40 (BitVec.allOnes 36))) (at_ .dieLink) (fun t =>
    t.dev.boot.stage = .memInit && (t.bundle 0).retired = 0) = true ∧
    gives (.dieLinkDone (List.replicate 40 0)) (at_ .dieLink) (fun t => t.dev.boot.stage = .bootFailed) = true := by decide
theorem witness_boot_timeout : Stage.memInit.bounded = true ∧ gives (.bootStageTimeout .missedBound) (at_ .memInit) (fun t =>
    t.dev.boot.stage = .bootFailed && t.dev.boot.failCount = 1) = true := by decide

/-! ## Witnesses: image commands and region reset -/

/-- AWAIT_IMAGE with the host link up, the physical function a bus master, and an image length. -/
def awaiting (len : Word) : State :=
  ((at_ .awaitImage).onBoot fun b => { b with imageLen := len }).onHst fun h => { h with linkUp := true, funcs := [(0, { busMaster := true })] }

theorem witness_autoload : (at_ .awaitImage).dev.aux.autoloadTried = false ∧
    gives .imageAutoload { at_ .awaitImage with flash := { autoload := some [1] } } (fun t =>
      t.dev.boot.stage = .imageLoad && t.dev.aux.loading = some .autoload) = true := by decide
theorem witness_load : checkLength (0x1000 : Word).toNat = none ∧ (awaiting 0x1000).pfHostAllowed = true ∧
    gives .imageLoad (awaiting 0x1000) (fun t => t.dev.boot.stage = .imageLoad && t.dev.boot.imageBusy && t.dev.aux.loading = some .load) = true := by decide
theorem witness_load_deferred : gives .imageLoad ((awaiting 0x1000).onSec fun c => { c with busy := true }) (fun t =>
    t.dev.boot.stage = .awaitImage && t.dev.aux.loadDeferred) = true ∧
    gives .imageLoadDeferredStart ((awaiting 0x1000).onAux fun a => { a with loadDeferred := true }) (fun t =>
      t.dev.boot.stage = .imageLoad && !t.dev.aux.loadDeferred) = true := by decide
theorem witness_load_state : run.dev.boot.stage.hostUp = true ∧
    gives .imageLoad run (fun t => t.dev.boot.imageResult = Codes.IMAGE_STATE && t.dev.boot.stage = .running) = true := by decide
theorem witness_store : gives .storeAutoload (awaiting 0x1000) (fun t => t.dev.boot.stage = .awaitImage && t.dev.aux.loading = some .store) = true ∧
    gives .eraseAutoload { awaiting 0 with flash := { autoload := some [1] } } (fun t => t.flash.autoload.isNone && t.dev.boot.imageResult = Codes.OK) = true := by
  decide
theorem witness_flash_firmware : ((awaiting 0).onBoot fun b => { b with stage := .recovery }).copyVerifies (some goodCopy) = true ∧
    gives (.flashFirmware goodCopy) ((awaiting 0).onBoot fun b => { b with stage := .recovery }) (fun t =>
      t.activeCopy = some goodCopy && t.dev.boot.imageResult = Codes.OK) = true := by decide
theorem witness_unload : gives .imageUnload run (fun t => t.dev.boot.stage = .awaitImage && t.fab.image.isNone && t.fab.regions = []) = true := by decide

/-- IMAGE_LOAD with a fetch of eight bytes, which no image passes. -/
def fetching (k : LoadKind) : State :=
  ((awaiting 8).onBoot fun b => { b with stage := .imageLoad, imageBusy := true }).onAux fun a => { a with loading := some k }
theorem witness_bad_image : validateImage (fetching .load) (List.replicate 8 0) = some { step := 1, code := Codes.IMAGE_FORMAT } ∧
    gives (.imageFetchDone (List.replicate 8 0)) (fetching .load) (fun t =>
      t.dev.boot.stage = .awaitImage && t.dev.boot.imageResult = Codes.IMAGE_FORMAT && t.dev.aux.detailStep = 1) = true := by decide
theorem witness_fetch_errors : gives (.imageFetchError .linkDown) (fetching .load) (fun t => t.dev.boot.stage = .awaitImage && t.dev.aux.loading.isNone) = true ∧
    gives (.imageFetchError .hostError) (fetching .load) (fun t => t.dev.boot.imageResult = Codes.HST_HOST_ERROR && t.dev.faults.count = 1) = true := by decide

/-- An accepted image that waits for its frame boundary. -/
def starting : State := (run.onBoot fun b => { b with stage := .imageLoad }).onAux fun a => { a with starting := true }
theorem witness_start : gives (.regionsStart ⟨[], []⟩) starting (fun t => t.dev.boot.stage = .running && t.dev.noc.counting && t.dev.noc.frameTick = 50000) = true ∧
    gives (.imageApplyFault 2) starting (fun t => t.dev.boot.stage = .awaitImage && t.dev.boot.imageResult = Codes.IMAGE_APPLY_FAULT) = true := by decide

theorem witness_region_reset : run.reaches 0 0 = true ∧ gives (.regionResetReq 0 0) run (fun t => (t.region 0).aux.resetAsked) = true := by decide
/-- Region 0 has asked for a reset. -/
def asked : State := run.onRAux 0 fun a => { a with resetAsked := true }
theorem witness_region_reset_start : asked.defined 0 = true ∧ asked.atFrame = true ∧ asked.slots 0 = [] ∧
    gives (.regionResetStart 0) asked (fun t => (t.region 0).aux.resetBusy && t.epoch 0 5 0 = 1) = true := by decide
/-- Region 0's reset is under way, with a byte in site 0's scratchpad. -/
def resetting : State := lay (run.onRAux 0 fun a => { a with resetBusy := true }) (scratchAddr 0 0 9) [7]
theorem witness_region_reset_end : resetting.dev.clk.unlocked = [] ∧ resetting.slots 0 = [] ∧ resetting.fab.body.indexTables = [] ∧
    gives (.regionResetEnd 0 true true ⟨[], []⟩) resetting (fun t => !(t.region 0).aux.resetBusy && t.mem.read 0 (scratchAddr 0 0 9) = 0) = true ∧
    gives (.regionResetEnd 0 true false ⟨[], []⟩) resetting (fun t => (t.region 0).sched.noDoorbell && t.dev.faults.count = 1) = true := by decide

theorem witness_table_fault : run.siteRegion? 0 19 = some 0 ∧ siteType 19 = .vector ∧
    (0x7DA46BB5 : BitVec 32) ≠ publishedSum (!run.image.sepia) (tableOf 0) ∧
    gives (.regionResetEnd 0 true true ⟨[⟨⟨0, 19⟩, 0, 0x7DA46BB5⟩], []⟩) resetting (fun t =>
      (t.site 19).sfu.tableFault && (t.site 19).sfuFault.any (fun f => f.code = Codes.SFU_TABLE_FAULT) && t.dev.faults.count = 1) = true := by decide

theorem witness_noise_at_reset : siteRefKey ⟨0, 0⟩ ∈ resetting.siteKeys 0 ∧ resetting.isSpin 0 0 = true ∧ resetting.ivory (resetting.siteDomain 0 0) = true ∧
    gives (.regionResetEnd 0 true true ⟨[], [⟨0, 0⟩]⟩) resetting (fun t =>
      (t.die 0).noiseFailed && (t.site 0).noise.any (fun f => f.code = Codes.ANL_NOISE_FAULT) && t.dev.faults.count = 1) = true := by decide

/-! ## Witnesses: pins, the management bus, clocks and power -/

theorem witness_smbus : run.dev.pins.mgtVio = true ∧ run.dev.boot.causeRail = false ∧
    gives .mgmtStatus run (fun t => t.dev.dbg.smbus = some [1]) = true ∧ gives .mgmtStatus (at_ .rom) (fun t => t.dev.dbg.smbus = some [2]) = true ∧
    gives .stage run (fun t => t.dev.dbg.smbus = some [7]) = true := by decide
theorem witness_last_fault : run.dev.faults.newest = none ∧
    gives .lastFault (run.assignFault Codes.RES_FAULT none 0 none) (fun t => t.dev.dbg.smbus = some (leBytes 4 (1 + 65536 * Codes.RES_FAULT.toNat))) = true := by
  decide
theorem witness_alert : run.dev.shared.alertOwner = 1 ∧ gives .alertResponse (run.onAux fun a => { a with alertLow := true }) (fun t =>
      !t.dev.aux.alertLow && t.dev.dbg.smbus = some [0x4C]) = true ∧
    gives .alertResponse (run.onShared fun h => { h with alertOwner := 2 }) (fun t => t.dev.dbg.smbus = none) = true := by decide

/-- A request of region tick timer 0 for region 0's first feature. -/
def timerReq : Word := 0x00010004
theorem witness_shared : run.reaches 1 0 = true ∧ requestOk timerReq false = true ∧ run.dev.shared.ownerOf 4 0 = none ∧
    gives (.regionSharedReq 1 0 timerReq) run (fun t => t.dev.shared.ownerOf 4 0 = some (0, 1) && (t.region 0).aux.sharedResult.now = Codes.OK) = true := by decide
theorem witness_shared_bad : requestOk 0 false = false ∧
    gives (.regionSharedReq 1 0 0) run (fun t => (t.region 0).aux.sharedResult.now = Codes.SHARED_REQ_INVALID) = true := by decide
theorem witness_shared_owned : (run.onShared fun h => { h with timers := [(0, (5, 1))] }).dev.shared.takes = [] ∧
    gives (.regionSharedReq 1 0 timerReq) (run.onShared fun h => { h with timers := [(0, (5, 1))] }) (fun t =>
      (t.region 0).aux.sharedResult.now = Codes.RESOURCE_OWNED && t.dev.shared.ownerOf 4 0 = some (5, 1)) = true := by decide
theorem witness_hub_shared : run.pfReach true = true ∧ requestOk 0x00010002 true = true ∧
    gives (.hubSharedReq 0x00010002) run (fun t => t.dev.shared.ownerOf 2 0 = some (0x40, 1) && t.dev.shared.hubResult.now = Codes.OK) = true := by decide
theorem witness_shared_tie : (run.onShared fun h => { h with timers := [(0, (5, 1))], takes := [(64, (50000, 6))] }).dev.shared.ownerOf 4 0 = some (5, 1) ∧
    gives (.regionSharedReq 1 0 timerReq) (run.onShared fun h => { h with timers := [(0, (5, 1))], takes := [(64, (50000, 6))] }) (fun t =>
      t.dev.shared.ownerOf 4 0 = some (0, 1) && (t.region 5).aux.sharedResult.now = Codes.RESOURCE_OWNED) = true := by decide
theorem witness_late_code : ({} : LateCode).at_ ≠ (7 : Word64) ∧ (({} : LateCode).give 7 Codes.OK).read 7 = 0 := by decide
theorem witness_pins : gives (.mgtVioChange false) run (fun t => !t.dev.pins.mgtVio) = true ∧
    gives (.cblpresChange 3 false) (run.onHst fun h => { h with pfEvt := { h.pfEvt with enable := true, sizeLog2 := 4 } }) (fun t =>
      !t.dev.pins.cblpres.getLsbD 3 && t.dev.pins.cblpres.getLsbD 2 && t.dev.hst.pfEvt.tail = 1) = true := by decide
theorem witness_tick_read : run.funcReach 1 = true ∧ gives (.clkTickLoRead 1) (run.onClk fun c => { c with tick := 0x500000007 }) (fun t =>
    t.dev.dbg.readAnswer = 7 && Tab.get 0 t.dev.clk.latches 1 = 5 && Tab.get 0 t.dev.clk.latches 0 = 0) = true := by decide

theorem witness_resonators : run.powered = true ∧ gives (.resonatorCheck true) run (fun t =>
    t.dev.clk.resFault && t.dev.aux.fabricStopped && t.dev.faults.count = 1) = true := by decide
theorem witness_calibration : -50 ≤ (BitVec.ofInt 16 (-50)).toInt ∧ (50 : BitVec 16).toInt ≤ 50 ∧
    gives (.resonatorCalibration 50) run (fun t => t.dev.clk.trimPending = some 50) = true ∧
    gives (.resonatorCalibration 51) run (fun t => t.dev.clk.trimPending = none) = true := by decide
theorem witness_island : run.ivory (run.siteDomain 0 1) = true ∧ gives (.islandLockLost 0 true ⟨0, 1⟩) run (fun t =>
    (t.site 1).island.any (fun x => x.code = Codes.ISLAND_LOCK_LOST && x.faultId = 1) && t.dev.clk.lockLost) = true := by decide
theorem witness_frame : (List.replicate 46 (0 : BitVec 10)).length = 46 ∧
    gives (.frameBoundary (List.replicate 45 100 ++ [200]) 300 ⟨12000, 12000, []⟩) (run.onClk fun c => { c with trimPending := some 5 }) (fun t =>
      t.dev.noc.frameTick = 50000 && t.dev.clk.trim = 5 && t.dev.pwr.hottest = 200 && t.dev.pwr.inputPower = 300) = true := by decide

/-- Region 0 owns site block 0. -/
def owning : State := run.onFab fun f => { f with image := some { regions := [region0], powerOwners := 0 :: List.replicate 51 0xFF } }
theorem witness_power_request : owning.domOwner 0 = 0 ∧ (owning.domain 0).request = none ∧
    gives (.regionPwrReq 1 0 0x00010100) owning (fun t => (t.domain 0).request = some ⟨some 0, 1, 50000, some 1⟩ && (t.domain 1).request = none) = true ∧
    owning.domOwner 1 ≠ 0 ∧ gives (.regionPwrReq 1 0 0x00010101) owning (fun t => t.dev.pwr = owning.dev.pwr) = true := by decide
theorem witness_power_target : run.pfReach false = true ∧ switchable 3 = true ∧ run.domPresent 3 = true ∧
    gives (.pwrDomainTargetWrite 3 3) run (fun t => (t.domain 3).request = some ⟨none, 3, 50000, none⟩) = true := by decide
/-- Domain 3 has a request for a target. -/
def requested (target : Nat) : State := run.onDomain 3 fun d => { d with request := some ⟨none, target, 40000, none⟩ }
theorem witness_power_act : pstate? 3 = some .charcoal ∧ supports 3 .charcoal = true ∧ (requested 3).dependencyOk 3 .charcoal = true ∧
    gives (.pwrRequestAct 3) (requested 3) (fun t => (t.domain 3).state = .closing && (t.domain 3).goal = some .charcoal) = true := by decide
theorem witness_power_absent : run.domPresent 52 = false ∧ gives (.regionPwrReq 1 0 52) run (fun t => decide (t.dev = run.dev)) = true := by decide
theorem witness_power_bad : pstate? 7 = none ∧ gives (.pwrRequestAct 3) (requested 7) (fun t =>
    (t.domain 3).state = .ivory && (t.domain 3).request = none) = true := by decide
theorem witness_closing : (run.onDomain 3 fun d => { d with state := .closing, goal := some .charcoal, closingFrames := 1 }).domainBusy 3 = false ∧
    gives (.closingDrained 3) (run.onDomain 3 fun d => { d with state := .closing, goal := some .charcoal, closingFrames := 1 }) (fun t =>
      (t.domain 3).state = .pewter && (t.domain 3).moving = some (.charcoal, 1)) = true := by decide
/-- Site 0 is mapped. -/
def mapped : State := run.onFab fun f => { f with siteMap := [(0, 0)] }
theorem witness_transition : isBlock 0 = true ∧ 0 ∈ mapped.blockKeys 0 ∧
    gives (.pwrTransitionComplete 0) (lay (mapped.onDomain 0 fun d => { d with state := .pewter, moving := some (.charcoal, 0) }) (scratchAddr 0 0 9) [7]) (fun t =>
      (t.domain 0).state = .charcoal && t.mem.read 0 (scratchAddr 0 0 9) = 0) = true := by decide
theorem witness_drain_long : gives (.pwrDrainLong 3) (run.onDomain 3 fun d => { d with state := .closing, closingFrames := 64 }) (fun t =>
    (t.domain 3).drainRaised) = true := by decide

/-- A hottest reading, in quarters of a degree. -/
def heat (q : BitVec 10) : State := run.onPwr fun p => { p with hottest := q, level := 1 }
theorem witness_throttle : run.frame % 64 = 0 ∧ gives .throttleRecompute (heat 440) (fun t => t.dev.pwr.level = 4) = true ∧
    gives .throttleRecompute (heat 396) (fun t => t.dev.pwr.level = 3) = true ∧ gives .throttleRecompute (heat 379) (fun t => t.dev.pwr.level = 1) = true ∧
    gives .throttleRecompute (heat 359) (fun t => t.dev.pwr.level = 0) = true := by decide
theorem witness_throttle_other_frame : ((heat 440).onNoc fun n => { n with frame := 65 }).frame % 64 ≠ 0 ∧
    gives .throttleRecompute ((heat 440).onNoc fun n => { n with frame := 65 }) (fun t => t.dev.pwr.level = 1) = true := by decide
theorem witness_trip : 4 * run.dev.pwr.trip.toNat ≤ (heat 440).dev.pwr.hottest.toNat ∧ gives .thermTrip (heat 440) (fun t =>
    t.dev.aux.tripHold && t.dev.pwr.tripPending && t.dev.faults.count = 1) = true ∧
    gives .thermTripApply (run.onPwr fun p => { p with tripPending := true }) (fun t =>
      (t.domain 0).state = .charcoal && (t.domain 19).state = .pewter && (t.domain 43).state = .ivory && t.dev.aux.fabricStopped) = true := by decide
theorem witness_thresholds : gives (.pwrThermCtlWrite 0x006E5A64) run (fun t => t.dev.pwr = run.dev.pwr) = false ∧
    gives (.pwrThermCtlWrite 0x006E5A64) run (fun t => t.dev.pwr.throttle = 0x64 && t.dev.pwr.release = 0x5A && t.dev.pwr.trip = 110) = true ∧
    gives (.pwrThermCtlWrite 0x006F5A64) run (fun t => t.dev.pwr.trip = 110 && t.dev.pwr.throttle = 0x5F) = true := by decide
theorem witness_droop : gives (.railDroop 11199) run (fun t => t.dev.pwr.droopLatched) = true ∧
    gives .supplyDroopBegin (run.onPwr fun p => { p with droopLatched := true }) (fun t => t.dev.pwr.droop && !t.dev.pwr.droopLatched) = true ∧
    gives .supplyDroopEnd (run.onPwr fun p => { p with droop := true, droopGoodFrames := 64 }) (fun t => !t.dev.pwr.droop) = true := by decide

/-! ## Witnesses: a valid image -/

/-- Words of four bytes. -/
def wordBytes (l : List Nat) : List Byte := l.flatMap (leBytes 4)
/-- The SHA-384 hash of the signed part of the image below. -/
def signedHash : Nat := 0x8dc58179d53dedf44e043ad87eab6bca6870162e4190a4a64c0df37d75ad9a82af369ac1b20c319f6f7cbc035f539a00
/-- The public key under which (hash, hash) signs the hash: the point with that x coordinate less the base point, so that both multiples of
the check are 1. -/
def signedKey : List Byte :=
  beBytes 48 0xbc8123a128165b6f1ea6d358050c9260001556fff096c44ee0c3698ee26dd9a6b4f5a8b91fb2d90ddde011716f92e349 ++
  beBytes 48 0xf9d7a6dac0bb2b8b756592aafac6040b0ce1f9226dcbfa83cd0674ff6d9186b5c527410107d1028741ee268528f932ef
/-- The header, directory, site map and power plan of an image without regions. -/
def signedPart : List Byte :=
  wordBytes ([0x49374541, 1, 256 + 3 * 2 ^ 16, 768, 256, 512, 0x11010, 0x01011021, 0, 0, 0, 0, 5, 0] ++ List.replicate 50 0 ++
    [1, 384, 64, 1, 0, 0, 0, 0, 2, 448, 0, 0, 0, 0, 0, 0, 5, 448, 64, 1, 0, 0, 0, 0] ++ List.replicate 24 0) ++
    List.replicate 19 0xFF ++ [0] ++ List.replicate 19 0xFF ++ List.replicate 25 0
/-- The image, signed for slot 0. -/
def goodImage : List Byte := signedPart ++ wordBytes [0x100] ++ beBytes 48 signedHash ++ beBytes 48 signedHash ++ List.replicate 156 0
/-- A package that fetches it, with its key provisioned in slot 0. -/
def fetchGood (k : LoadKind) : State :=
  let s := ((awaiting 768).onBoot fun b => { b with stage := .imageLoad, imageBusy := true }).onAux fun a => { a with loading := some k }
  { s with flash := { s.flash with keyStore := [(0, signedKey)] }
           fuses := { s.fuses with imgHash := [(0, BitVec.ofNat 384 (beNat (sha384 signedKey)))], imgValid := 1 } }
theorem witness_image_hash : goodImage.length = 768 ∧ beNat (imageDigest goodImage) = signedHash := by decide +kernel
theorem witness_image_valid : validateImage (fetchGood .load) goodImage = none := by decide +kernel
theorem validate_loading (s : State) (k : LoadKind) (img : List Byte) :
    validateImage (s.onAux fun a => { a with loading := some k }) img = validateImage s img := rfl
theorem witness_image_valid_store : validateImage ((fetchGood .load).onAux fun a => { a with loading := some .store }) goodImage = none :=
  (validate_loading _ _ _).trans witness_image_valid
/-! ## Witnesses: queues, descriptors and operations -/

/-- Queue 0 of region 0 in a state of its own. -/
def withQueue (q : Queue) : State := run.onSched 0 fun g => { g with queues := [(0, q)] }
/-- Queue 0 with four of sixteen descriptors rung in, in region memory. -/
def ringing : State := withQueue { enable := true, sizeLog2 := 4, tail := 4, head := 1 }

theorem witness_queue_cfg : run.reaches 1 0 = true ∧ 0 < run.queueCount 0 ∧ (run.queue 0 0).enable = false ∧ run.queueOps 0 0 = 0 ∧
    gives (.queueCfgWrite 1 0 0 0x204) run (fun t => (t.queue 0 0).enable && (t.queue 0 0).sizeLog2 = 4 && (t.queue 0 0).tail = 0) = true ∧
    gives (.queueCfgWrite 1 0 0 0) ringing (fun t => !(t.queue 0 0).enable && (t.queue 0 0).tail = 4) = true := by decide +kernel
theorem witness_queue_base : gives (.ringBaseWrite 1 (.queueBase 0 0) 0x1234567F) run (fun t => (t.queue 0 0).base = 0x12345640) = true ∧
    gives (.ringCfgWrite 1 (.event 0) 0x50) run (fun t => (t.region 0).sched.evt.enable && (t.region 0).sched.evt.sizeLog2 = 16) = true := by decide +kernel
theorem witness_doorbell : gives (.doorbell 1 0 0 17) ringing (fun t => (t.queue 0 0).tail = 17) = true ∧
    gives (.doorbell 1 0 0 18) ringing (fun t => (t.queue 0 0).tail = 4) = true := by decide +kernel
theorem witness_doorbell_off : (run.queue 0 0).enable = false ∧ exec (.doorbell 1 0 0 1) run = .next run := by
  refine ⟨by decide, rfl⟩

/-- Sixteen descriptor words, the given ones first. -/
def words (l : List Word) : List Word := l ++ List.replicate (16 - l.length) 0
/-- A descriptor in bytes. -/
def descBytes (l : List Word) : List Byte := (words l).flatMap (fun w => leBytes 4 w.toNat)

theorem witness_fetch : ringing.nextFetch 0 = some 0 ∧ gives (.descriptorFetch 0) (lay ringing (scratchAddr 0 0 64) (descBytes [7])) (fun t =>
    (t.queue 0 0).head = 2 && (t.region 0).sched.fetches = [{ queue := 0, bytes := some (descBytes [7]), slot := 0x40000 }]) = true := by decide +kernel
/-- The same ring in host memory. -/
def hostRing : State := withQueue { enable := true, sizeLog2 := 4, tail := 4, head := 1, host := true }
theorem witness_fetch_host : hostRing.nextFetch 0 = some 0 ∧ gives (.descriptorFetch 0) hostRing (fun t =>
    (t.queue 0 0).head = 2 && (t.region 0).sched.fetches = [{ queue := 0, bytes := none, slot := 0x40000 }]) = true ∧
    gives (.descriptorFetch 0) (hostRing.onSched 0 fun g => { g with fetchedAt := 0x40001 }) (fun t => (t.region 0).sched.fetches = []) = true := by decide +kernel
theorem witness_accept : (descBytes [7]).length = 64 ∧ run.headerOk 0 { queue := 0, seq := 0, words := descWords (descBytes [7]) } = true ∧
    gives (.descriptorAccept 0 (descBytes [7])) (hostRing.onSched 0 fun g => { g with fetches := [{ queue := 0, bytes := none }] }) (fun t =>
      (t.queue 0 0).nextSeq = 1 && (t.slotOf 0 0 0).any (fun x => x.op.state = .ready && x.op.readyTick = 50000)) = true := by decide +kernel

/-- An operation of queue 0 of region 0. -/
def op (l : List Word) (st : OpState) : Op := { queue := 0, seq := 0, words := words l, state := st }
def ref : OpRef := ⟨0, 0, 0⟩
/-- Region 0 with these task slots, and queue 0 enabled. -/
def withSlots (l : List Slot) : State := (withQueue { enable := true, sizeLog2 := 4 }).onSched 0 fun g => { g with slots := l }
def withOp (l : List Word) (st : OpState) : State := withSlots [{ op := op l st }]

/-- Where queue 0's history begins. -/
def lastEnd (s : State) : Option (Word × Code × BitVec 16) := (s.queue 0 0).history.head?

theorem witness_losses : ((withOp [0] .ready).region 0).sched.wms = [] ∧
    gives (.eventsLost (.event 0)) (run.onSched 0 fun g => { g with evt := { enable := true, sizeLog2 := 4, lost := 3, lostOpen := true } }) (fun t =>
      (t.region 0).sched.evt.lost = 0 && !(t.region 0).sched.evt.lostOpen && (t.region 0).sched.evt.tail = 1) = true ∧
    gives (.eventsLost .pfEvent) (run.onHst fun h => { h with pfEvt := { enable := true, sizeLog2 := 4, lost := 3, lostOpen := true } }) (fun t =>
      t.dev.hst.pfEvt.tail = 1 && t.dev.hst.pfEvt.lost = 0) = true ∧
    gives (.digestLost 0) (run.onSched 0 fun g => { g with dig := { enable := true, sizeLog2 := 4, lostOpen := true } }) (fun t =>
      !(t.region 0).sched.dig.lostOpen) = true := by decide +kernel
theorem witness_watermark : gives (.wmCrossedClear 1 0 1) (run.onSched 0 fun g => { g with wms := [(1, { threshold := 3, crossed := true, count := 2 })] }) (fun t =>
    (Tab.get {} (t.region 0).sched.wms 1).threshold = 3 && !(Tab.get {} (t.region 0).sched.wms 1).crossed) = true := by decide +kernel

theorem witness_nop : Dispatches (withOp [0] .ready) ref .nop { op := op [0] .ready } ∧
    gives (.nop ref) (withOp [0] .ready) (fun t => (t.slotAt ref).isNone && lastEnd t = some (0, Codes.OK, 0)) = true :=
  ⟨⟨by decide, by decide, by decide, by decide⟩, by decide +kernel⟩
theorem witness_flag_set : Dispatches (withOp [7, 0, 0, 0, 40, 9] .ready) ref .flagSet { op := op [7, 0, 0, 0, 40, 9] .ready } ∧
    (op [7, 0, 0, 0, 40, 9] .ready).bodyOk = true ∧ (op [7, 0, 0, 0, 40, 9, 1] .ready).bodyOk = false ∧
    gives (.flagSet ref) (withOp [7, 0, 0, 0, 40, 9] .ready) (fun t => (t.region 0).sched.flagUpds.map (·.flag) = [40] && lastEnd t = some (0, Codes.OK, 0)) = true ∧
    gives (.flagSet ref) (withOp [7, 0, 0, 0, 40, 9, 1] .ready) (fun t => (t.region 0).sched.flagUpds = [] && lastEnd t = some (0, Codes.DESC_INVALID, 0)) = true :=
  ⟨⟨by decide, by decide, by decide, by decide⟩, by decide +kernel⟩
theorem witness_digest_mark : Dispatches (withOp [10] .ready) ref .digestMark { op := op [10] .ready } ∧
    gives (.digestMark ref) (withOp [10] .ready) (fun t => lastEnd t = some (0, Codes.OK, 0)) = true :=
  ⟨⟨by decide, by decide, by decide, by decide⟩, by decide +kernel⟩
theorem witness_flag_wait : Dispatches (withOp [8, 0, 0, 0, 40, 9] .ready) ref .flagWait { op := op [8, 0, 0, 0, 40, 9] .ready } ∧
    gives (.flagWait ref) (withOp [8, 0, 0, 0, 40, 9] .ready) (fun t => (t.slotAt ref).any (fun x => x.op.state = .running && x.op.dispatched)) = true ∧
    condHolds 0 (withOp [8, 0, 0, 0, 40] .running |>.flag 0 40) 0 = true ∧
    gives (.flagWaitSatisfied ref) (withOp [8, 0, 0, 0, 40] .running) (fun t => lastEnd t = some (0, Codes.OK, 0)) = true :=
  ⟨⟨by decide, by decide, by decide, by decide⟩, by decide +kernel⟩
theorem witness_fence : Dispatches (withOp [9] .ready) ref .fence { op := op [9] .ready } ∧
    gives (.fence ref) (withOp [9] .ready) (fun t => (t.slotAt ref).any (fun x => x.op.state = .running)) = true ∧
    (∀ x ∈ (withOp [9] .running).slots 0, x.op.queue = 0 → slotBefore x { op := op [9] .running } = false) ∧
    gives (.fenceRelease ref) (withOp [9] .running) (fun t => lastEnd t = some (0, Codes.OK, 0)) = true :=
  ⟨⟨by decide, by decide, by decide, by decide⟩, by decide +kernel⟩
theorem witness_complete : gives (.operationComplete ref) (withSlots [{ op := op [0] .latched, rec_ := { status := Codes.BOUNDS, faultId := 4 } }]) (fun t =>
    (t.slotAt ref).isNone && lastEnd t = some (0, Codes.BOUNDS, 4)) = true := by decide +kernel
theorem witness_cancel : (withOp [0] .waiting).reaches 1 0 = true ∧ ((withOp [0] .waiting).slotOf 0 0 0).isSome = true ∧
    gives (.regionCancelCmd 1 0 0) (withOp [0] .waiting) (fun t => (t.region 0).sched.cmds = [(0, 0, none)]) = true ∧
    gives (.regionPrioCmd 1 0 0x50000000000) (withOp [0] .waiting) (fun t => (t.region 0).sched.cmds = [(0, 0, some 5)]) = true := by decide +kernel
theorem witness_flag_write : gives (.flagRegisterWrite 1 0 9 77) run (fun t => (t.region 0).sched.flagUpds.map (fun u => (u.source, u.flag, u.value)) = [(5, 9, 77)]) = true := by
  decide +kernel

/-- A waiting FLAG_WAIT whose timeout of 1024 ticks has run out, with timer 0 for timeouts. -/
def late (d : Word) : Slot := { op := { op [d, 0x10000] .running with dispatched := true, timeoutTick := 40000 } }
def timed (d : Word) : State := (withSlots [late d]).onShared fun h => { h with timers := [(0, (0, 1))] }
theorem witness_timeout : (timed 8).timedOut 0 (late 8) = true ∧
    gives (.timeoutExpiry ref) (timed 8) (fun t => (t.slotAt ref).isNone && lastEnd t = some (0, Codes.TIMEOUT, 0)) = true ∧
    (timed 1).timedOut 0 (late 1) = true ∧
    gives (.timeoutExpiry ref) (timed 1) (fun t => (t.slotAt ref).any (fun x => x.rec_.timedOut && x.op.timeoutRaised && x.op.state = .running)) = true := by decide +kernel
/-- A task of one thread at site 3, asked to stop. -/
def stopping : Slot := { op := { op [2] .running with stopCode := some Codes.OK }, run := { task := some { threads := [(3, 0)] } } }
theorem witness_preempt : (withSlots [stopping]).taskAtBoundary { threads := [(3, 0)] } = true ∧
    gives (.preemptionPointStop ref) (withSlots [stopping]) (fun t =>
      (t.slotAt ref).any (fun x => x.op.state = .preempted && x.rec_.wasPreempted) && (t.thread 3 0).state = .free) = true := by decide +kernel

theorem witness_boundary : run.fabricOn = true ∧ run.defined 0 = true ∧
    gives (.schedulerBoundary 0) (withSlots [{ op := op [0] .latched, rec_ := { status := Codes.BOUNDS } }]) (fun t =>
      t.slots 0 = [] && lastEnd t = some (0, Codes.BOUNDS, 0)) = true ∧
    gives (.schedulerBoundary 0) (run.onSched 0 fun g => { g with flagUpds := [⟨5, 0, 9, 0, 77, 0⟩] }) (fun t => t.flag 0 9 = 77) = true ∧
    gives (.schedulerBoundary 0) (withOp [8, 0, 0, 0, 40, 9] .waiting) (fun t => (t.slots 0).map (·.op.state) = [.running]) = true := by decide +kernel

/-- A copy of `n` bytes from 0x100 to `dst` of region 0, with flags for host sides. -/
def copyWords (n dst flags : Word) : List Word := [1, 0, 0, 0, 0x100, 0, dst, 0, n, 0, 0, 0, 0, 0, 1 + flags, 0]
theorem witness_copy_empty : Dispatches (withOp (copyWords 0 0x200 0) .ready) ref .copy { op := op (copyWords 0 0x200 0) .ready } ∧
    run.copyFieldsOk (op (copyWords 0 0x200 0) .ready) = true ∧ (op (copyWords 0 0x200 0) .ready).copyEmpty = true ∧
    gives (.copy ref) (withOp (copyWords 0 0x200 0) .ready) (fun t => lastEnd t = some (0, Codes.OK, 0)) = true :=
  ⟨⟨by decide, by decide, by decide, by decide⟩, by decide +kernel⟩
theorem witness_copy_refused : Dispatches (withOp (copyWords 4 0x100000 0) .ready) ref .copy { op := op (copyWords 4 0x100000 0) .ready } ∧
    run.copyPlaced 0 (op (copyWords 4 0x100000 0) .ready) = .error Codes.BOUNDS ∧
    gives (.copy ref) (withOp (copyWords 4 0x100000 0) .ready) (fun t =>
      lastEnd t = some (0, Codes.BOUNDS, 0) && (Tab.get {} t.fab.engines 0).rejected = 1 && (Tab.get {} t.fab.engines 0).completed = 1) = true :=
  ⟨⟨by decide, by decide, by decide, by decide⟩, rfl, by decide +kernel⟩
/-- The two sides of the copy. -/
def sides (n : Word) : Placed × Placed :=
  match run.copyPlaced 0 (op (copyWords n 0x200 0) .ready) with
  | .ok (some p, some q) => (p, q)
  | _ => (⟨⟨0, 0, 0, 0, false, false⟩, 0, 0, none⟩, ⟨⟨0, 0, 0, 0, false, false⟩, 0, 0, none⟩)
theorem witness_copy_runs : Dispatches (withOp (copyWords 4 0x200 0) .ready) ref .copy { op := op (copyWords 4 0x200 0) .ready } ∧
    (match run.copyPlaced 0 (op (copyWords 4 0x200 0) .ready) with
      | .ok (some p, some q) => decide ((p, q) = sides 4)
      | _ => false) = true ∧
    gives (.copy ref) (withOp (copyWords 4 0x200 0) .ready) (fun t => (t.slotAt ref).any (fun x => x.op.state = .running)) = true :=
  ⟨⟨by decide, by decide, by decide, by decide⟩, by decide +kernel⟩
/-- The copy runs and its source holds four bytes. -/
def copying : State := lay (withOp (copyWords 4 0x200 0) .running) (scratchAddr 0 0 0x100) [1, 2, 3, 4]
theorem witness_copy_moves : copying.mem.marks = [] ∧
    (∀ a ∈ (sides 4).1.addrs (op (copyWords 4 0x200 0) .running).src (op (copyWords 4 0x200 0) .running) ++
        (sides 4).2.addrs (op (copyWords 4 0x200 0) .running).dst (op (copyWords 4 0x200 0) .running),
      copying.ivory (copying.domainOf a) = true ∧ copying.islandAt a = none ∧ copying.busyByte a = false) ∧
    ((sides 4).2.addrs (op (copyWords 4 0x200 0) .running).dst (op (copyWords 4 0x200 0) .running)).Nodup ∧
    gives (.copyComplete ref []) copying (fun t => t.mem.readBytes 0 (scratchAddr 0 0 0x200) 4 = [1, 2, 3, 4] &&
      (t.slotAt ref).any (fun x => x.op.state = .latched && x.rec_.status = Codes.OK)) = true := by decide +kernel

/-- A task of one thread at each of `n` sites, from entry 0x40. -/
def taskWords (n per e : Word) : List Word := [2, 0, 0, 0, e, 0, 11, 12, n * 256, per, 0, 0, 0, 0, 0, 0]
theorem witness_task_none : Dispatches (withOp (taskWords 0 1 0x40) .ready) ref .task { op := op (taskWords 0 1 0x40) .ready } ∧
    (op (taskWords 0 1 0x40) .ready).taskFieldsOk = true ∧
    gives (.task ref) (withOp (taskWords 0 1 0x40) .ready) (fun t => lastEnd t = some (0, Codes.OK, 0)) = true :=
  ⟨⟨by decide, by decide, by decide +kernel, by decide +kernel⟩, by decide +kernel⟩
theorem witness_task_invalid : Dispatches (withOp (taskWords 1 1 0x44) .ready) ref .task { op := op (taskWords 1 1 0x44) .ready } ∧
    (op (taskWords 1 1 0x44) .ready).taskFieldsOk = false ∧
    gives (.task ref) (withOp (taskWords 1 1 0x44) .ready) (fun t => lastEnd t = some (0, Codes.TASK_INVALID, 0)) = true :=
  ⟨⟨by decide, by decide, by decide +kernel, by decide +kernel⟩, by decide +kernel⟩
theorem witness_task_starts : Dispatches (withOp (taskWords 1 2 0x40) .ready) ref .task { op := op (taskWords 1 2 0x40) .ready } ∧
    run.taskRefused 0 (op (taskWords 1 2 0x40) .ready) = none ∧ (run.taskPlaces 0 { op := op (taskWords 1 2 0x40) .ready }).Nodup ∧
    gives (.task ref) (withOp (taskWords 1 2 0x40) .ready) (fun t =>
      (run.taskPlaces 0 { op := op (taskWords 1 2 0x40) .ready }).all (fun p =>
        (t.thread p.1 p.2).state = .running && (t.thread p.1 p.2).pc = 0x40 && (t.thread p.1 p.2).reg 1 = 2 && (t.thread p.1 p.2).reg 3 = 12)) = true :=
  ⟨⟨by decide, by decide, by decide +kernel, by decide +kernel⟩, by decide +kernel⟩

/-! ## Witnesses: threads -/

/-- The thread of the tests: hardware thread 0 of the vector site 4 of die 0. -/
def tid : Tid := ⟨0, 4, 0⟩

/-- The slot of a thread's task. -/
def taskAt (k : Nat) : Slot := { op := op [2] .running, run := { task := some { threads := [(k, 0)] } } }
def taskSlot : Slot := taskAt 4

/-- Hardware thread 0 of site `k` runs the instruction word `w` at the start of its site's scratchpad, with these registers. -/
def thrAt (k w : Nat) (regs : Tab Word) : State :=
  let s := withSlots [taskAt k]
  let s := s.onFab fun f => { f with body := { f.body with
    segments := f.body.segments ++ [{ region := 0, base := 0x100000, limit := 0x1FFFFF, target := scratchAddr 0 k 0, read := true, write := true }] } }
  let s := s.onThread k 0 fun _ => { regs := regs, pc := 0x100000, entry := 0x100000, state := .running }
  lay s (scratchAddr 0 k 0) (leBytes 8 w)

/-- The thread of the tests runs an instruction word. -/
def thr (w : Nat) (regs : Tab Word) : State := thrAt 4 w regs

/-- The premise Issues, as a check. -/
def issuesB (s : State) (w : Nat) (rs : List Nat) : Bool :=
  s.threadReady 4 0 && (match s.fetchAddr 4 0 with
    | .ok a => (s.mem.bad (upFrom a 8)).isNone && s.fetchWord a = w
    | .error _ => false) && !(s.thread 4 0).waits rs

theorem issues_of (s : State) (w : Nat) (rs : List Nat) (h : issuesB s w rs = true) : Issues s tid w rs := by
  unfold issuesB at h
  split at h
  · rename_i a ha
    simp only [Bool.and_eq_true, decide_eq_true_eq, Option.isNone_iff_eq_none, Bool.not_eq_true'] at h
    exact ⟨h.1.1, ⟨a, ha, h.1.2.1, h.1.2.2⟩, h.2⟩
  · simp at h

theorem witness_issues (op : Nat) (h : op ∈ [0x01, 0x41, 0x21, 0x22, 0x28, 0x60, 0x68, 0x80, 0x8F, 0x90, 0x91]) : Issues (thr (enc op 1 2 3 0 0) []) tid (enc op 1 2 3 0 0) [1, 2, 3] := by
  refine issues_of _ _ _ ?_
  revert op
  decide +kernel

/-- What register 1 holds after an instruction with 7 in register 2 and −2 in register 3. -/
def result (c : Instr) (w : Nat) : Option Word :=
  match exec c (thr w [(2, 7), (3, 0xFFFFFFFE)]) with
  | .next t => some ((t.thread 4 0).reg 1)
  | _ => none

theorem test_integer_registers :
    result (.add tid 1 2 3) (enc 0x01 1 2 3 0 0) = some 5 ∧ result (.sub tid 1 2 3) (enc 0x02 1 2 3 0 0) = some 9 ∧
    result (.mul tid 1 2 3) (enc 0x03 1 2 3 0 0) = some 0xFFFFFFF2 ∧ result (.mulhs tid 1 2 3) (enc 0x04 1 2 3 0 0) = some 0xFFFFFFFF ∧
    result (.mulhu tid 1 2 3) (enc 0x05 1 2 3 0 0) = some 6 ∧ result (.and tid 1 2 3) (enc 0x06 1 2 3 0 0) = some 6 ∧
    result (.or tid 1 2 3) (enc 0x07 1 2 3 0 0) = some 0xFFFFFFFF ∧ result (.xor tid 1 2 3) (enc 0x08 1 2 3 0 0) = some 0xFFFFFFF9 ∧
    result (.shl tid 1 2 3) (enc 0x09 1 2 3 0 0) = some 0xC0000000 ∧ result (.shr tid 1 3 2) (enc 0x0A 1 3 2 0 0) = some 0x1FFFFFF ∧
    result (.sar tid 1 3 2) (enc 0x0B 1 3 2 0 0) = some 0xFFFFFFFF := by decide +kernel
theorem test_integer_compares :
    result (.mins tid 1 2 3) (enc 0x0C 1 2 3 0 0) = some 0xFFFFFFFE ∧ result (.maxs tid 1 2 3) (enc 0x0D 1 2 3 0 0) = some 7 ∧
    result (.minu tid 1 2 3) (enc 0x0E 1 2 3 0 0) = some 7 ∧ result (.maxu tid 1 2 3) (enc 0x0F 1 2 3 0 0) = some 0xFFFFFFFE ∧
    result (.seq tid 1 2 3) (enc 0x10 1 2 3 0 0) = some 0 ∧ result (.sne tid 1 2 3) (enc 0x11 1 2 3 0 0) = some 1 ∧
    result (.slt tid 1 3 2) (enc 0x12 1 3 2 0 0) = some 1 ∧ result (.sltu tid 1 3 2) (enc 0x13 1 3 2 0 0) = some 0 := by decide +kernel
theorem test_integer_immediates :
    result (.addImm tid 1 2 0xFFFFFFFE) (enc 0x41 1 2 0 0 0xFFFFFFFE) = some 5 ∧ result (.subImm tid 1 2 3) (enc 0x42 1 2 0 0 3) = some 4 ∧
    result (.sltImm tid 1 3 0) (enc 0x52 1 3 0 0 0) = some 1 ∧ result (.sltuImm tid 1 3 0) (enc 0x53 1 3 0 0 0) = some 0 ∧
    result (.shlImm tid 1 2 33) (enc 0x49 1 2 0 0 33) = some 14 := by decide +kernel
theorem test_moves :
    result (.movi tid 1 9) (enc 0x20 1 0 0 0 9) = some 9 ∧ result (.mov tid 1 2) (enc 0x21 1 2 0 0 0) = some 7 ∧
    result (.sel tid 1 2 3 4) (enc 0x22 1 2 3 4 0) = some 0xFFFFFFFE ∧ result (.fabs tid 1 3) (enc 0x2F 1 3 0 0 0) = some 0x7FFFFFFE ∧
    result (.fneg tid 1 2) (enc 0x30 1 2 0 0 0) = some 0x80000007 := by decide +kernel
/-- 1.0 + 1.0 = 2.0 with 0x3F800000 in registers 2 and 3; and 7 converts to the F32 value 7.0, wide and narrow. -/
theorem test_floats :
    gives (.fadd tid 1 2 3) (thr (enc 0x28 1 2 3 0 0) [(2, 0x3F800000), (3, 0x3F800000)]) (fun t => (t.thread 4 0).reg 1 = 0x40000000) = true ∧
    gives (.fmul tid 1 2 3) (thr (enc 0x2A 1 2 3 0 0) [(2, 0x40400000), (3, 0xBF800000)]) (fun t => (t.thread 4 0).reg 1 = 0xC0400000) = true ∧
    gives (.feq tid 1 2 3) (thr (enc 0x2D 1 2 3 0 0) [(3, 0x80000000)]) (fun t => (t.thread 4 0).reg 1 = 1) = true := by decide +kernel
theorem witness_conversions : cvtFmt? 2 = some .i8 ∧ decodes (enc 0x34 1 2 3 0 2) = true ∧ decodes (enc 0x35 1 2 0 0 0x12) = true ∧
    gives (.cvtn tid 1 2 3 0 2) (thr (enc 0x34 1 2 3 0 2) [(2, 300)]) (fun t => (t.thread 4 0).reg 1 = 127) = true ∧
    gives (.cvtw tid 1 2 0x12) (thr (enc 0x35 1 2 0 0 0x12) [(2, 7)]) (fun t => (t.thread 4 0).reg 1 = 0x40E00000) = true := by decide +kernel

/-- The thread's address in registers 2 and 3: 0x100100 of its own scratchpad. -/
def own : Tab Word := [(2, 0x100100), (4, 0x11223344)]
theorem witness_own_load :
    issuesB (thr (enc 0x64 6 2 0 0 4) own) (enc 0x64 6 2 0 0 4) [2, 3, 6] = true ∧ ((thr 0 own).thread 4 0).address 2 4 % 4 = 0 ∧
    ((thr 0 own).threadAddrs 0 0x100104 4 .load).toOption = some (upFrom (scratchAddr 0 4 0x104) 4) ∧
    ownBytes 4 (upFrom (scratchAddr 0 4 0x104) 4) = true ∧ (thr 0 own).islandAt (scratchAddr 0 4 0x104) = none ∧
    (thr 0 own).ivory ((thr 0 own).domainOf (scratchAddr 0 4 0x104)) = true ∧
    gives (.ld32 tid 6 2 4) (lay (thr (enc 0x64 6 2 0 0 4) own) (scratchAddr 0 4 0x104) [1, 2, 3, 4]) (fun t =>
      (t.thread 4 0).outstanding = [⟨6, false, some 0x04030201, false, none, 0⟩] && (t.thread 4 0).pc = 0x100008) = true := by decide +kernel
theorem test_load_widths :
    gives (.ld8s tid 6 2 0) (lay (thr (enc 0x61 6 2 0 0 0) own) (scratchAddr 0 4 0x100) [0x80]) (fun t =>
      (t.thread 4 0).outstanding = [⟨6, false, some 0xFFFFFF80, false, none, 0⟩]) = true ∧
    gives (.ld64 tid 6 2 0) (lay (thr (enc 0x65 6 2 0 0 0) own) (scratchAddr 0 4 0x100) [1, 0, 0, 0, 2, 0, 0, 0]) (fun t =>
      (t.thread 4 0).outstanding = [⟨6, true, some 0x200000001, false, none, 0⟩]) = true := by decide +kernel
theorem witness_load_return : gives (.loadReturn tid 6) ((thr 0 []).onThread 4 0 fun x => { x with outstanding := [⟨6, false, some 9, false, none, 0⟩] }) (fun t =>
    (t.thread 4 0).reg 6 = 9 && (t.thread 4 0).outstanding = []) = true := by decide +kernel
theorem witness_pair_return : gives (.loadReturn tid 6) ((thr 0 []).onThread 4 0 fun x => { x with outstanding := [⟨6, true, some 0x200000001, false, none, 0⟩] }) (fun t =>
    (t.thread 4 0).reg 6 = 1 && (t.thread 4 0).reg 7 = 2 && (t.thread 4 0).outstanding = []) = true := by decide +kernel
theorem witness_own_store : issuesB (thr (enc 0x6A 0 2 4 0 4) own) (enc 0x6A 0 2 4 0 4) [2, 3, 4] = true ∧
    (upFrom (scratchAddr 0 4 0x104) 4).any (thr 0 own).protectedByte = false ∧ (upFrom (scratchAddr 0 4 0x104) 4).any (thr 0 own).busyByte = false ∧
    (thr 0 own).mem.marks = [] ∧
    gives (.st32 tid 2 4 4) (thr (enc 0x6A 0 2 4 0 4) own) (fun t =>
      t.mem.readBytes 0 (scratchAddr 0 4 0x104) 4 = [0x44, 0x33, 0x22, 0x11] && (t.thread 4 0).pc = 0x100008) = true := by decide +kernel
theorem witness_own_atomic : issuesB (thr (enc 0x70 6 2 4 0 4) own) (enc 0x70 6 2 4 0 4) [2, 3, 6, 4] = true ∧
    gives (.atom32 tid 6 2 4 0 4) (lay (thr (enc 0x70 6 2 4 0 4) own) (scratchAddr 0 4 0x104) [1, 0, 0, 0]) (fun t =>
      (t.thread 4 0).outstanding = [⟨6, false, some 1, false, none, 0⟩] && t.mem.readBytes 0 (scratchAddr 0 4 0x104) 4 = [0x45, 0x33, 0x22, 0x11]) = true := by
  decide +kernel

/-- CAS of 1 with 0x11223344, and of 0x11223344 with register 5; and a FADD in Ochre mode. -/
theorem witness_atomic_codes : issuesB (thr (enc 0x70 6 2 4 9 4) own) (enc 0x70 6 2 4 9 4) [2, 3, 6, 4, 5] = true ∧
    gives (.atom32 tid 6 2 4 9 4) (lay (thr (enc 0x70 6 2 4 9 4) ((5, 0x55) :: own)) (scratchAddr 0 4 0x104) [1, 0, 0, 0]) (fun t =>
      t.mem.readBytes 0 (scratchAddr 0 4 0x104) 4 = [1, 0, 0, 0]) = true ∧
    gives (.atom32 tid 6 2 4 9 4) (lay (thr (enc 0x70 6 2 4 9 4) [(2, 0x100100), (4, 0x11223344), (5, 0x55)]) (scratchAddr 0 4 0x104) [0x44, 0x33, 0x22, 0x11])
      (fun t => t.mem.readBytes 0 (scratchAddr 0 4 0x104) 4 = [0x55, 0, 0, 0]) = true ∧
    gives (.atom64 tid 6 2 4 1 0) (lay (thr (enc 0x71 6 2 4 1 0) own) (scratchAddr 0 4 0x100) [0, 0, 0, 0, 0, 0, 0, 0x80]) (fun t =>
      t.mem.readBytes 0 (scratchAddr 0 4 0x100) 8 = [0, 0, 0, 0, 0, 0, 0, 0x80] && (t.thread 4 0).outstanding = [⟨6, true, some 0x8000000000000000, false, none, 0⟩]) = true ∧
    gives (.atom32 tid 6 2 4 10 4) ((lay (thr (enc 0x70 6 2 4 10 4) [(2, 0x100100), (4, 0x3F800000)]) (scratchAddr 0 4 0x104)
      [0, 0, 0x80, 0x3F]).onAux fun a => { a with slateInForce := false }) (fun t =>
      t.mem.readBytes 0 (scratchAddr 0 4 0x104) 4 = [0, 0, 0, 0x40]) = true := by decide +kernel

/-- A store of register 4 to site 0's scratchpad, at VA 0x200. -/
def away : Tab Word := [(2, 0x200), (4, 0x11223344)]
/-- A packet that stores four bytes at 0x200 of site 0's scratchpad. -/
def storePacket : Packet :=
  { src := 4, thread := 0, queue := 0, seq := 0, no := 0, kind := 1, va := 0x200, addrs := upFrom (scratchAddr 0 0 0x200) 4, data := 0x11223344, data2 := 0
    atomic := 0, reg := 0, signed := false }
/-- The send queue of route 2 holds `n` packets. -/
def waitingPackets (s : State) (n : Nat) : State := s.onNoc fun x => { x with queues := [(2, List.replicate n storePacket)] }
theorem witness_remote : issuesB (thr (enc 0x6A 0 2 4 0 0) away) (enc 0x6A 0 2 4 0 0) [2, 3, 4] = true ∧
    ((thr 0 away).threadAddrs 0 0x200 4 .store).toOption = some (upFrom (scratchAddr 0 0 0x200) 4) ∧
    ownBytes 4 (upFrom (scratchAddr 0 0 0x200) 4) = false ∧ (thr 0 away).threadRoute 0 0 4 (scratchAddr 0 0 0x200) true = some 2 ∧
    gives (.st32 tid 2 4 0) (waitingPackets (thr (enc 0x6A 0 2 4 0 0) away) 7) (fun t =>
      (Tab.get [] t.dev.noc.queues 2).length = 8 && (t.thread 4 0).pc = 0x100008) = true ∧
    gives (.st32 tid 2 4 0) (waitingPackets (thr (enc 0x6A 0 2 4 0 0) away) 8) (fun t =>
      (match (t.thread 4 0).state with | .stallSend r _ => r = 2 | _ => false) && (t.thread 4 0).pc = 0x100000) = true := by decide +kernel
theorem witness_route_sends : storePacket.addrs.Nodup ∧ storePacket.addrs.any run.busyByte = false ∧ run.stalledOn 0 2 = none ∧
    (atSlot run 5).occurs 0 2 = true ∧ (atSlot run 5).firstBlock 0 2 = none ∧
    gives (.sendQueueRelease 0 2) (waitingPackets (atSlot run 5) 1) (fun t =>
      t.mem.readBytes 0 (scratchAddr 0 0 0x200) 4 = [0x44, 0x33, 0x22, 0x11] && Tab.get [] t.dev.noc.queues 2 = []) = true := by decide +kernel
/-- Route 4 leaves die 0 over its first bundle to a memory die, which is offline. -/
def crossing : State := (atSlot run 5).onFab fun f => { f with body := { f.body with slots := [⟨0, 1, 0, 0, 5, 0, 5, 0, false, 4⟩] } }
theorem witness_deferral : crossing.occurs 0 4 = true ∧ (crossing.firstBlock 0 4).isSome = true ∧
    gives (.sendQueueRelease 0 4) (crossing.onNoc fun x => { x with queues := [(4, [storePacket])] }) (fun t =>
      t.dev.noc.deferred.map (fun d => (d.key, d.bundle, d.slot)) = [(4, 0, 5)] && Tab.get [] t.dev.noc.queues 4 = []) = true := by decide +kernel

theorem no_trap (w : Nat) (regs : Tab Word) : NoTrap (thr w regs) tid := by
  intro x y h1 h2
  have h : (thr w regs).threadSlot (tidKey tid) tid.th.val = some taskSlot := rfl
  rw [h] at h1
  cases h1
  cases h2
  rfl

/-- The code of the trap that the thread's task has taken. -/
def trapCode (t : State) : Option Code := (t.threadSlot 4 0).bind (fun x => x.run.task.bind (fun y => y.trap.map (·.1)))
theorem witness_misaligned : NoTrap (thr 0 own) tid ∧ ((thr 0 own).thread 4 0).address 2 2 % 4 ≠ 0 ∧
    gives (.ld32 tid 6 2 2) (thr (enc 0x64 6 2 0 0 2) own) (fun t => trapCode t = some Codes.THREAD_ALIGN) = true ∧
    gives (.st32 tid 2 4 2) (thr (enc 0x6A 0 2 4 0 2) own) (fun t => trapCode t = some Codes.THREAD_ALIGN) = true ∧
    gives (.atom32 tid 6 2 4 0 2) (thr (enc 0x70 6 2 4 0 2) own) (fun t => trapCode t = some Codes.THREAD_ALIGN) = true ∧
    gives (.atom32 tid 6 2 4 11 4) (thr (enc 0x70 6 2 4 11 4) own) (fun t => trapCode t = some Codes.THREAD_ILLEGAL) = true :=
  ⟨no_trap 0 own, by decide +kernel, by decide +kernel, by decide +kernel, by decide +kernel, by decide +kernel⟩
theorem witness_undecodable : issuesB (thr 0xFF []) 0xFF [] = true ∧ decodes 0xFF = false ∧
    gives (.undecodableInstruction tid) (thr 0xFF []) (fun t => trapCode t = some Codes.THREAD_ILLEGAL) = true := by decide +kernel
theorem test_branches :
    gives (.threadNop tid) (thr 0 []) (fun t => (t.thread 4 0).pc = 0x100008) = true ∧
    gives (.br tid 0xFFFFFFFF) (thr (enc 0x80 0 0 0 0 0xFFFFFFFF) []) (fun t => (t.thread 4 0).pc = 0xFFFF8) = true ∧
    gives (.brz tid 2 3) (thr (enc 0x81 0 2 0 0 3) []) (fun t => (t.thread 4 0).pc = 0x100018) = true ∧
    gives (.brnz tid 2 3) (thr (enc 0x82 0 2 0 0 3) []) (fun t => (t.thread 4 0).pc = 0x100008) = true ∧
    gives (.jal tid 1 2) (thr (enc 0x83 1 0 0 0 2) []) (fun t => (t.thread 4 0).pc = 0x100010 && (t.thread 4 0).reg 1 = 8) = true := by decide +kernel
theorem test_jump_register :
    gives (.jr tid 2) (thr (enc 0x84 0 2 0 0 0) [(2, 0x40)]) (fun t => (t.thread 4 0).pc = 0x100040) = true ∧
    gives (.jr tid 2) (thr (enc 0x84 0 2 0 0 0) [(2, 0x41)]) (fun t => trapCode t = some Codes.THREAD_ILLEGAL) = true := by decide +kernel
theorem witness_exit : gives (.exit tid) (thr (enc 0x8F 0 0 0 0 0) []) (fun t =>
    (t.thread 4 0).state = .exited && (t.threadSlot 4 0).any (fun x => x.op.state = .latched)) = true := by decide +kernel
theorem witness_fwait : gives (.fwait tid 2 40 1) (thr (enc 0x90 0 2 0 0 (40 + 256)) [(2, 5)]) (fun t => (t.thread 4 0).state = .stallFlag 40 1 5) = true ∧
    condHolds 0 ((thr 0 []).flag 0 40) 0 = true ∧ (thr 0 []).taskRuns 4 0 = true ∧
    gives (.threadFlagRelease tid) ((thr 0 []).onThread 4 0 fun x => { x with state := .stallFlag 40 0 0 }) (fun t =>
      (t.thread 4 0).state = .running && (t.thread 4 0).pc = 0x100008) = true := by decide +kernel
theorem witness_fset : gives (.fset tid 2 40 0) (thr (enc 0x91 0 2 0 0 40) [(2, 5)]) (fun t =>
    (t.region 0).sched.flagUpds.map (fun u => (u.source, u.flag, u.value)) = [(4, 40, 5)] && (t.thread 4 0).pc = 0x100008) = true := by decide +kernel
/-- Queue 1 is fed by threads. -/
def fed (s : State) : State := s.onSched 0 fun g => { g with queues := (1, { enable := true, sizeLog2 := 4, threadFed := true }) :: g.queues }
theorem witness_issue : issuesB (fed (thr (enc 0x92 1 2 0 0 0) own)) (enc 0x92 1 2 0 0 0) [2, 3] = true ∧
    ((fed (thr 0 own)).threadAddrs 0 0x100100 64 .load).toOption = some (upFrom (scratchAddr 0 4 0x100) 64) ∧
    ((fed (thr 0 own)).segOf 0 0x100100 64).map (fun g => ownBytes 4 [g.phys 0x100100] && g.phys 0x100100 % 64 = 0) = some true ∧
    gives (.issue tid 1 2 0) (fed (thr (enc 0x92 1 2 0 0 0) own)) (fun t =>
      match (t.thread 4 0).state with
      | .stallIssue q b => q = 1 && b.length = 64
      | _ => false) = true := by decide +kernel
theorem witness_issue_accept : (fed (thr 0 [])).queueTakes 0 1 = true ∧
    gives (.issueAccept tid) ((fed (thr 0 [])).onThread 4 0 fun x => { x with state := .stallIssue 1 (descBytes [0]) }) (fun t =>
      (t.thread 4 0).state = .running && (t.thread 4 0).pc = 0x100008 && (t.queue 0 1).nextSeq = 1) = true ∧
    gives (.issueAccept tid) ((fed (thr 0 [])).onThread 4 0 fun x => { x with state := .stallIssue 0 (descBytes [0]) }) (fun t =>
      trapCode t = some Codes.QUE_FEEDER) = true := by decide +kernel

/-! ## Witnesses: special functions -/

theorem witness_functions : siteType 4 = .vector ∧ ((thr 0 []).site 4).sfuFault = none ∧ ((thr 0 []).site 4).sfu.holder = none ∧
    (thr 0 []).image.sepia = false ∧ ((thr 0 []).regionDef? 0).map (·.sfuMinimal) = some false ∧
    gives (.recip tid 1 2 true) (thr (enc 0xA2 1 2 0 0 1) [(2, 0x40000000)]) (fun t =>
      (t.thread 4 0).outstanding = [⟨1, false, some 0x3F000000, true, none, 0⟩] && (t.thread 4 0).pc = 0x100008) = true := by decide +kernel
theorem witness_no_unit : siteType 5 = .scalar ∧ gives (.recip ⟨0, 5, 0⟩ 1 2 true) (thrAt 5 (enc 0xA2 1 2 0 0 1) []) (fun t =>
    ((t.threadSlot 5 0).bind (fun x => x.run.task.bind (fun y => y.trap.map (·.1)))) = some Codes.THREAD_ILLEGAL) = true := by decide +kernel
theorem witness_minimal_mode :
    gives (.recip tid 1 2 true) ((thr (enc 0xA2 1 2 0 0 1) []).onFab fun f => { f with image := some { regions := [{ region0 with sfuMinimal := true }] } }) (fun t =>
      trapCode t = some Codes.SFU_MODE_DENIED) = true := by decide +kernel
theorem witness_held_unit :
    gives (.recip tid 1 2 true) ((thr (enc 0xA2 1 2 0 0 1) []).onSite 4 fun x => { x with sfu := { x.sfu with holder := some (1, 0, 0, 0, 0) } }) (fun t =>
      match (t.thread 4 0).state with
      | .stallSfu _ => true
      | _ => false) = true := by decide +kernel
theorem witness_sepia_gelu :
    gives (.geluErf tid 1 2 true) ((thr (enc 0xA6 1 2 0 0 1) []).onFab fun f => { f with image := some { regions := [region0], sepia := true } }) (fun t =>
      trapCode t = some Codes.SFU_UNAVAILABLE) = true := by decide +kernel
theorem witness_sfu_result : gives (.sfuResult tid 6) ((thr 0 []).onThread 4 0 fun x => { x with outstanding := [⟨6, false, some 9, true, none, 0⟩] }) (fun t =>
    (t.thread 4 0).reg 6 = 9 && (t.thread 4 0).outstanding = []) = true := by decide +kernel

/-- A row of one F32 element at 0x100100 to 0x100200, with its record at 0x100240. -/
def rowRegs : Tab Word := [(2, 0x100100), (6, 0x100200), (8, 0x100240)]
def rowWord (n : Nat) : Nat := enc 0xA8 0 2 6 8 (n + 3 * 2 ^ 16)
def rowAreasOf (s : State) (n : Nat) : Option (List Nat × List Nat × List Nat) := (s.rowAreas 4 0 ((s.thread 4 0).row (rowWord n))).toOption
theorem witness_softmax_empty : issuesB (thr (rowWord 0) rowRegs) (rowWord 0) [2, 3, 6, 7, 8, 9] = true ∧
    gives (.softmax tid 2 6 8 0 true true false) (thr (rowWord 0) rowRegs) (fun t => (t.thread 4 0).pc = 0x100008 && (t.site 4).sfu.rows = 1) = true := by
  decide +kernel
theorem witness_softmax_holds :
    rowAreasOf (thr (rowWord 1) rowRegs) 1 = some (upFrom (scratchAddr 0 4 0x100) 4, upFrom (scratchAddr 0 4 0x200) 4, upFrom (scratchAddr 0 4 0x240) 32) ∧
    gives (.softmax tid 2 6 8 1 true true false) (thr (rowWord 1) rowRegs) (fun t =>
      (t.thread 4 0).state = .softmax && (t.site 4).sfu.holder.any (fun h => h.1 = 0 && h.2.1 = 2)) = true := by decide +kernel
/-- The thread's row of one element, 0.0, holds the unit. -/
def rowHeld : State := (((thr (rowWord 1) rowRegs).onThread 4 0 fun x => { x with state := .softmax })).onSite 4 fun x =>
  { x with sfu := { x.sfu with holder := some (0, 2, 6, 8, BitVec.ofNat 32 (1 + 3 * 2 ^ 16)) } }
theorem witness_softmax_completes : rowHeld.taskRuns 4 0 = true ∧
    (upFrom (scratchAddr 0 4 0x200) 4 ++ upFrom (scratchAddr 0 4 0x240) 32).Nodup ∧ (rowHeld.region 0).sched.evt.enable = false ∧
    gives (.softmaxComplete tid) rowHeld (fun t =>
      (t.thread 4 0).state = .running && (t.thread 4 0).pc = 0x100008 && (t.site 4).sfu.holder.isNone &&
        t.mem.readBytes 0 (scratchAddr 0 4 0x200) 4 = [0, 0, 0x80, 0x3F]) = true := by decide +kernel
theorem witness_unit_free :
    ((thr (rowWord 0) rowRegs).onThread 4 0 fun x => { x with state := .stallSfu (BitVec.ofNat 64 (rowWord 0)) }).stalledSfu 4 = [(0, rowWord 0)] ∧
    gives (.sfuUnitFree ⟨0, 4⟩) ((thr (rowWord 0) rowRegs).onThread 4 0 fun x => { x with state := .stallSfu (BitVec.ofNat 64 (rowWord 0)) }) (fun t =>
      (t.thread 4 0).state = .running && (t.thread 4 0).pc = 0x100008) = true := by decide +kernel

/-! ## Witnesses: spin sites -/

theorem cellAt_low (l : List Host.Cell) (lo a : Nat) (h : ∀ c ∈ l, lo ≤ c.1) (ha : a < lo) : cellAt l a = none := by
  induction l with
  | nil => rfl
  | cons c t ih =>
    have := h c (by simp)
    simp only [cellAt]
    rw [if_neg (by omega)]
    exact ih fun x hx => h x (by simp [hx])

/-- Below the listed bytes a scratchpad reads 0. -/
theorem siteBytes_zero (s : State) (k off n lo : Nat) (h : ∀ c ∈ s.mem.cells, lo ≤ c.1) (hl : scratchAddr (k / 256) (k % 256) (off + n) ≤ lo) :
    s.siteBytes k off n = List.replicate n 0 := by
  unfold State.siteBytes Mem.readBytes upFrom
  rw [List.map_map]
  refine List.eq_replicate_iff.mpr ⟨by simp, fun b hb => ?_⟩
  obtain ⟨i, hi, rfl⟩ := List.mem_map.mp hb
  have hi := List.mem_range.mp hi
  simp only [scratchAddr] at hl
  have hz : s.mem.zeroAt (scratchAddr (k / 256) (k % 256) off + i) = true := by
    unfold Mem.zeroAt
    rw [decide_eq_true (show scratchBase ≤ _ by simp only [scratchAddr]; omega), Bool.true_or]
  simp only [Function.comp, Mem.read]
  rw [cellAt_low s.mem.cells lo _ h (by simp only [scratchAddr]; omega), hz]
  rfl

/-- Below the listed bytes every row is empty. -/
theorem spinRow_nil (s : State) (k i : Nat) (hi : i < 4096) (h : ∀ c ∈ s.mem.cells, scratchAddr (k / 256) (k % 256) 0xC2000 ≤ c.1) : s.spinRow k i = [] := by
  unfold State.spinRow
  rw [siteBytes_zero s k _ _ _ h (by simp only [scratchAddr]; omega)]
  decide

theorem bias_zero (s : State) (k i : Nat) (hi : i < 4096) (h : ∀ c ∈ s.mem.cells, scratchAddr (k / 256) (k % 256) 0xC2000 ≤ c.1) : s.bias k i = 0 := by
  unfold State.bias
  rw [siteBytes_zero s k _ _ _ h (by simp only [scratchAddr]; omega)]
  decide

theorem refsOk_zero (s : State) (k m : Nat) (hm : m ≤ 4096) (h : ∀ c ∈ s.mem.cells, scratchAddr (k / 256) (k % 256) 0xC2000 ≤ c.1) : s.refsOk k m = true := by
  unfold State.refsOk
  refine List.all_eq_true.mpr fun i hi => ?_
  rw [spinRow_nil s k i (by have := List.mem_range.mp hi; omega) h]
  rfl

theorem magnitude_zero (s : State) (k m : Nat) (hm : m ≤ 4096) (h : ∀ c ∈ s.mem.cells, scratchAddr (k / 256) (k % 256) 0xC2000 ≤ c.1) : s.magnitude k m = 0 := by
  unfold State.magnitude
  have key : ∀ l : List Nat, (∀ i ∈ l, i < 4096) → l.foldl (fun a i =>
      (s.spinRow k i).foldl (fun a e => if s.ownsTerm k i e.2 then a + e.1.natAbs else a) (a + (s.bias k i).natAbs)) 0 = 0 := by
    intro l
    induction l with
    | nil => intro _; rfl
    | cons i t ih =>
      intro hl
      rw [List.foldl_cons, spinRow_nil s k i (hl i (by simp)) h, bias_zero s k i (hl i (by simp)) h]
      exact ih fun x hx => hl x (by simp [hx])
  exact key _ fun i hi => by have := List.mem_range.mp hi; omega

/-- An ANNEAL of one sweep and one schedule step on the first spin site, and a SAMPLE of one sweep. -/
def annealWords : List Word := [3, 0, 0, 0, 0x100, 0x1E8000, 0, 0, 0xE0000, 0xF0000, 0x1000]
def sampleWords : List Word := [4, 0, 0, 0, 0x100, 0, 0, 0, 0xE0000, 0xF0000, 1]
def annealOp (st : OpState) : State := lay (withOp annealWords st) (scratchAddr 0 0 0xE8000) [0, 0, 0, 0, 1, 0, 0, 0]

/-- The conditions of a start, as checks. -/
def startsB (s : State) (l : List Word) : Bool :=
  s.fabricOn && s.spinFault (s.annealSites 0 (op l .ready)) = none && !s.crossesLinks (s.annealSites 0 (op l .ready)) &&
    s.annealRefused 0 (op l .ready) = none && (s.annealSites 0 (op l .ready)).all (fun k => (s.startUnread (op l .ready) k).isNone) && (s.siteDomains (s.annealSites 0 (op l .ready))).all s.ivory

theorem witness_anneal : Dispatches (annealOp .ready) ref .anneal { op := op annealWords .ready } ∧
    (annealOp .ready).annealSites 0 (op annealWords .ready) = [0] ∧ startsB (annealOp .ready) annealWords = true ∧
    (annealOp .ready).refsOk 0 (op annealWords .ready).spins = true ∧ (annealOp .ready).magnitude 0 (op annealWords .ready).spins = 0 := by
  have h : ∀ c ∈ (annealOp .ready).mem.cells, scratchAddr (0 / 256) (0 % 256) 0xC2000 ≤ c.1 := by decide +kernel
  have hm : (op annealWords .ready).spins ≤ 4096 := by decide +kernel
  exact ⟨⟨by decide +kernel, by decide +kernel, by decide +kernel, by decide +kernel⟩, by decide +kernel, by decide +kernel, refsOk_zero _ _ _ hm h, magnitude_zero _ _ _ hm h⟩
theorem witness_sample : Dispatches (withOp sampleWords .ready) ref .sample { op := op sampleWords .ready } ∧
    (withOp sampleWords .ready).annealSites 0 (op sampleWords .ready) = [0] ∧ startsB (withOp sampleWords .ready) sampleWords = true ∧
    (withOp sampleWords .ready).refsOk 0 (op sampleWords .ready).spins = true ∧ (withOp sampleWords .ready).magnitude 0 (op sampleWords .ready).spins = 0 := by
  have h : ∀ c ∈ (withOp sampleWords .ready).mem.cells, scratchAddr (0 / 256) (0 % 256) 0xC2000 ≤ c.1 := by decide +kernel
  have hm : (op sampleWords .ready).spins ≤ 4096 := by decide +kernel
  exact ⟨⟨by decide +kernel, by decide +kernel, by decide +kernel, by decide +kernel⟩, by decide +kernel, by decide +kernel, refsOk_zero _ _ _ hm h, magnitude_zero _ _ _ hm h⟩
theorem witness_anneal_refused : (withOp [3, 0, 0, 0, 0x10100] .ready).annealRefused 0 (op [3, 0, 0, 0, 0x10100] .ready) = some (Codes.ANL_DESC_INVALID, 0) ∧
    gives (.anneal ref) (withOp [3, 0, 0, 0, 0x10100] .ready) (fun t => lastEnd t = some (0, Codes.ANL_DESC_INVALID, 0)) = true := by decide +kernel

/-- The coupling memory of site 0 holds a word that is not delivered. -/
def annealUnread : State := { annealOp .ready with mem := { (annealOp .ready).mem with marks := [(scratchAddr 0 0 0x40, .crc)] } }
theorem witness_anneal_unread : annealUnread.annealRefused 0 (op annealWords .ready) = none ∧
    (annealUnread.startUnread (op annealWords .ready) 0).isSome = true ∧
    gives (.anneal ref) annealUnread (fun t => lastEnd t = some (0, Codes.MEM_UNCORRECTABLE, 1)) = true := by decide +kernel

/-- Stream tables: site 0 exports spin 5 to ghost slot 0 of site 2. -/
def streamTo (k : Nat) : Stream := { first := 0, count := 1, site := k, die := 0, remote := false, package := 0, route := 0 }
def indexTable (kind k : Nat) (l : List Stream) (spins : List Nat) : IndexTable :=
  { region := 0, kind := kind, site := k, die := 0, base := 0, tableId := 0, streams := l, lists := spins, entries := [], body := [] }

/-- An ANNEAL runs on the sites of `a`, with this work at site 0, and coupled from site 0 to site 2. -/
def annealing (a : AnnealRun) (w : SpinWork) (t : SpinCounts) : State :=
  let s := lay (withSlots [{ op := op annealWords .running, run := { anneal := some a } }]) (scratchAddr 0 0 0xE8000) [0, 0, 0, 0, 1, 0, 0, 0]
  let s := s.onFab fun f => { f with body := { f.body with indexTables := [indexTable 2 0 [streamTo 2] [5], indexTable 1 2 [streamTo 0] []] } }
  let s := s.onSite 0 fun x => { x with spin := { work := w, tally := t, op := some (0, 0, 0) } }
  s.onSite 2 fun x => { x with spin := { op := some (0, 0, 0) } }
def spin0 : SiteRef := ⟨0, 0⟩
def spin2 : SiteRef := ⟨0, 2⟩
def run0 : AnnealRun := { sites := [0], updatesBegan := true }
def slotOf0 (a : AnnealRun) : Slot := { op := op annealWords .running, run := { anneal := some a } }

theorem witness_update_slot : WorksFor (annealing run0 { active := true, lanes := 8 } { positions := [0] }) 0 (0, 0, 0) (slotOf0 run0) run0 ∧
    (annealing run0 { active := true, lanes := 8 } { positions := [0] }).mem.marks = [] ∧ 0 < (annealing run0 {} {}).windowLen ∧ 0 < sweepSlots 8 ∧ 0 < (annealing run0 {} {}).opSweeps 0 (op annealWords .running) ∧
    gives (.updateSlot spin0) (annealing run0 { active := true, lanes := 8 } { positions := [0] }) (fun t =>
      (t.site 0).spin.work.inWindow = 1 && (t.site 0).spin.work.uslot = 1) = true :=
  ⟨⟨by decide +kernel, by decide +kernel⟩, by decide +kernel⟩
theorem witness_window_start : WorksFor (annealing run0 { active := true, committed := true, window := 3 } {}) 0 (0, 0, 0) (slotOf0 run0) run0 ∧
    (annealing run0 { active := true, committed := true, window := 3 } {}).windowMayStart (0, 0, 0) (op annealWords .running) run0 0 = true ∧
    gives (.windowStart spin0) (annealing run0 { active := true, committed := true, window := 3 } {}) (fun t =>
      (t.site 0).spin.work.window = 4 && !(t.site 0).spin.work.committed) = true :=
  ⟨⟨by decide +kernel, by decide +kernel⟩, by decide +kernel⟩

/-- A flip of a state bit in slot 0. -/
def flip (b : Nat) : Flip := { slot := 0, bit := b, dE := -2, cancelled := false, stale := false }
/-- Site 0's window has run all its update slots, with one flip. -/
def claiming : State := annealing run0 { active := true, inWindow := 65536, slotsOver := true, window := 3, flips := [flip 5], cur := 32 } {}
theorem witness_claims_send : WorksFor claiming 0 (0, 0, 0) (slotOf0 run0) run0 ∧ claiming.atBoundary = true ∧
    (claiming.site 0).spin.work.began + (claiming.site 0).spin.work.allotment ≤ claiming.runSlots ∧
    claiming.exports 0 = [streamTo 2] ∧ claiming.takesPart (0, 0, 0) 2 = true ∧ claiming.importOf 0 (streamTo 2) = some (streamTo 0, 0) ∧
    gives (.claimsSend spin0) claiming (fun t => (t.site 0).spin.work.claimsSent && (t.site 2).spin.inbox.map (fun b => (b.stream, b.window, b.claims, b.bits)) = [(0, 3, true, [0])]) = true :=
  ⟨⟨by decide +kernel, by decide +kernel⟩, by decide +kernel⟩
/-- Site 2 with work and something on its way from site 0. -/
def receiving (w : SpinWork) (b : StreamMsg) : State :=
  (annealing { run0 with sites := [0, 2] } {} {}).onSite 2 fun x => { x with spin := { x.spin with work := w, inbox := [b] } }
def run02 : AnnealRun := { run0 with sites := [0, 2] }
theorem witness_claims_arrive : WorksFor (receiving { active := true, window := 3 } { stream := 0, window := 3, claims := true, bits := [0] }) 2 (0, 0, 0) (slotOf0 run02) run02 ∧
    ((receiving { active := true, window := 3 } { stream := 0, window := 3, claims := true, bits := [0] }).imports 2)[0]? = some (streamTo 0) ∧
    (receiving { active := true, window := 3 } { stream := 0, window := 3, claims := true, bits := [0] }).streamLive (0, 0, 0) false (streamTo 0) = true ∧
    gives (.claimsArrive spin2 0) (receiving { active := true, window := 3 } { stream := 0, window := 3, claims := true, bits := [0] }) (fun t =>
      (t.site 2).spin.work.claims = [(3, 0, [0])] && (t.site 2).spin.inbox = []) = true :=
  ⟨⟨by decide +kernel, by decide +kernel⟩, by decide +kernel⟩
theorem witness_values_arrive : (op annealWords .running).reps = 1 ∧
    gives (.ghostValuesArrive spin2 0) (receiving { active := true, window := 3, committed := true } { stream := 0, window := 3, claims := false, bits := [0] }) (fun t =>
      (Tab.get 0 (t.site 2).spin.ghosts 0).getLsbD 0 && (t.site 2).spin.work.valuesIn = [(3, 0)] && (t.site 2).spin.inbox = []) = true := by decide +kernel

/-- Site 0 with one flip and its claims sent. -/
def committing (stale : Bool) : State :=
  annealing run0 { active := true, claimsSent := true, window := 3, flips := [{ flip 5 with stale := stale }], cur := 32 } { energy := [10] }
theorem witness_commit : WorksFor (committing false) 0 (0, 0, 0) (slotOf0 run0) run0 ∧ (committing false).claimsHeld (0, 0, 0) run0 0 = true ∧
    (committing false).atBoundary = true ∧ run0.abandons ((committing false).site 0).spin.work = false ∧
    (∀ i, i < 4096 → (committing false).spinRow 0 i = []) ∧
    gives (.windowCommit spin0) (committing false) (fun t =>
      (t.site 0).spin.committed = 32 && (t.site 0).spin.tally.energy = [8] && (t.site 2).spin.inbox.map (fun b => (b.stream, b.window, b.claims, b.bits)) = [(0, 3, false, [0])]) = true :=
  ⟨⟨by decide +kernel, by decide +kernel⟩, by decide +kernel, by decide +kernel, by decide +kernel, fun i hi => spinRow_nil _ _ _ hi (by decide +kernel), by decide +kernel⟩
/-- Site 2, whose spin 7 is coupled to ghost slot 0, has flipped it while site 0 claims a flip of the spin behind that ghost. -/
def rolling : State :=
  lay ((annealing run02 {} {}).onSite 2 fun x => { x with spin := { x.spin with work :=
    { active := true, claimsSent := true, window := 3, flips := [flip 7], cur := 128, claims := [(3, 0, [0])] }, tally := { energy := [10] } } })
    (scratchAddr 0 2 (0xC0 * 7)) [1, 0, 16]
theorem witness_commit_rolls_back : WorksFor rolling 2 (0, 0, 0) (slotOf0 run02) run02 ∧ rolling.claimsHeld (0, 0, 0) run02 2 = true ∧
    rolling.claimRolled 2 1 4096 (rolling.site 2).spin.work 7 = true ∧
    gives (.windowCommit spin2) rolling (fun t => (t.site 2).spin.committed = 0 && (t.site 2).spin.work.repair = [7] && (t.site 2).spin.tally.c441 = 1) = true :=
  ⟨⟨by decide +kernel, by decide +kernel⟩, by decide +kernel⟩

theorem witness_decision : gives (.exchangeDecisionArrive spin0) (annealing { run0 with decisions := [(2, [0], [])] } {} {}) (fun t =>
    (t.slotAt ref).any (fun x => x.run.anneal.any (fun a => a.decisions = [(2, [0], [0])]))) = true := by decide +kernel
/-- A cancelled ANNEAL in its window 3. -/
def cancelled : State :=
  (annealing run0 { active := true, window := 3 } {}).onSched 0 fun g => { g with slots := g.slots.map fun x => { x with op := { x.op with stopCode := some Codes.CANCELLED_RUNNING } } }
/-- Changes the run of region 0's ANNEAL. -/
def onRun (s : State) (f : AnnealRun → AnnealRun) : State :=
  s.onSched 0 fun g => { g with slots := g.slots.map fun x => { x with run := { x.run with anneal := x.run.anneal.map f } } }
theorem witness_stop : (cancelled.slotAt ref).any (fun x => cancelled.stopStatus 0 x run0 .cancel = some Codes.CANCELLED_RUNNING) = true ∧
    gives (.stopRequest ref .cancel) cancelled (fun t =>
      (t.slotAt ref).any (fun x => x.run.anneal.any (fun a => a.stopWindow = some 4 && a.stopCode = Codes.CANCELLED_RUNNING))) = true ∧
    gives (.stopRequest ref .cancel) ((onRun cancelled fun a => { a with multi := true }).onAux fun b => { b with slateInForce := false }) (fun t =>
      (t.slotAt ref).any (fun x => x.run.anneal.any (fun a => a.stopWindow = none && a.stopAsked))) = true := by decide +kernel

/-- A topology whose region 0 has a package tree: a parent over link routes 7 (up) and 8 (down), or a child. -/
def treeTopo (up : Bool) : Topo :=
  { self := 1, packages := 2, kind := 0, dimX := 0, dimY := 0, dimZ := 0, epochK := 4, systemId := 0, ports := [], links := [], alts := [],
    trees := [{ region := 0, first := 0, leaves := 2, edges := [(0, up, 7, 8)] }] }
def treed (up : Bool) (a : AnnealRun) : State :=
  (annealing a {} {}).onFab fun f => { f with body := { f.body with topo := some (treeTopo up) } }
def runM : AnnealRun := { run0 with multi := true }
theorem witness_mark_send : (treed true runM).nextMark runM = some startMark ∧ (treed true runM).upHeld 0 runM startMark = true ∧
    ((treed true runM).parentEdge 0).isSome = true ∧
    gives (.epochMarkSend ref) (treed true runM) (fun t => (Tab.get [] t.dev.lnk.queues 7).length = 1 &&
      (t.slotAt ref).any (fun x => x.run.anneal.any (fun a => a.epochSent = [startMark]))) = true := by decide +kernel
/-- An up mark of operation tag 0. -/
def upMark : EpochMark := { up := true, stop := false, disturbed := false, tag := 0, window := 3 }
def marked : State := (treed false runM).onLnk fun l => { l with marksIn := [(0, 7, upMark)] }
theorem witness_mark_arrive : (marked.markOp 7).any (fun e => e.1 = 0) = true ∧ (op annealWords .running).field 1 15 0 = 0 ∧
    gives (.epochMarkArrive 0) marked (fun t => t.dev.lnk.marksIn = [] &&
      (t.slotAt ref).any (fun x => x.run.anneal.any (fun a => a.upMarks = [(7, 3, false, false)]))) = true := by decide +kernel
/-- An operation whose start barrier has ended but for SYNC_IN's edge. -/
def runBarrier : AnnealRun := { runM with downStart := true, started := false }
def barrier : State := (annealing runBarrier {} {}).onShared fun h => { h with syncInOwner := 1 }
theorem witness_sync_in : barrier.regionIds = [0] ∧ barrier.slots 0 = [slotOf0 runBarrier] ∧
    gives .syncInEdge barrier (fun t => (t.slotAt ref).any (fun x => x.run.anneal.any (fun a => a.started))) = true ∧
    run.dev.shared.syncInOwner = 0 ∧
    gives .syncInEdge (run.onShared fun h => { h with syncInOwner := 0x20 }) (fun t => (t.region 0).aux.marksDue = [(1, 0, 50000)]) = true := by decide +kernel

/-- Strictly rising addresses. -/
def rising : List Nat → Bool
  | [] => true
  | [_] => true
  | a :: b :: t => decide (a < b) && rising (b :: t)

theorem rising_lt (l : List Nat) : ∀ a, rising (a :: l) = true → ∀ b ∈ l, a < b := by
  induction l with
  | nil => intro a _ b hb; cases hb
  | cons c t ih =>
    intro a h b hb
    simp only [rising, Bool.and_eq_true, decide_eq_true_eq] at h
    cases hb with
    | head => exact h.1
    | tail _ hb => exact Nat.lt_trans h.1 (ih c h.2 b hb)

theorem nodup_of_rising (l : List Nat) : rising l = true → l.Nodup := by
  induction l with
  | nil => intro _; exact List.nodup_nil
  | cons a t ih =>
    intro h
    refine List.nodup_cons.mpr ⟨fun hm => Nat.lt_irrefl _ (rising_lt t a h a hm), ih ?_⟩
    cases t with
    | nil => rfl
    | cons b t =>
      simp only [rising, Bool.and_eq_true] at h
      exact h.2

/-- An ANNEAL of one sweep that has committed it. -/
def ending : State := annealing { run0 with energies := [0], best := [0] } { active := true, committed := true, sweep := 1 } { sweepsDone := 1, energy := [0], windows := 1 }
def runEnd : AnnealRun := { run0 with energies := [0], best := [0] }
def endCells : List (Nat × Byte) := (ending.annealOutput (slotOf0 runEnd) runEnd
  (if (ending.annealEnd (slotOf0 runEnd) runEnd).asymmetric then Codes.ANL_ASYMMETRIC else Codes.OK)).1
theorem witness_anneal_complete : ending.slotAt ref = some (slotOf0 runEnd) ∧
    ending.annealQuiet (0, 0, 0) (op annealWords .running) runEnd = true ∧ ending.epochsSent runEnd = true ∧ ending.mem.marks = [] ∧
    (∀ p ∈ endCells, ending.islandAt p.1 = none ∧ ending.ivory (ending.domainOf p.1) = true ∧ ending.busyByte p.1 = false) := by decide +kernel
theorem witness_anneal_cells : (endCells.map (·.1)).Nodup := nodup_of_rising _ (by decide +kernel)

/-- A background route reaches site 0 in slot 0. -/
def tested : State := run.onFab fun f => { f with body := { f.body with slots := ⟨0, 0, 0, 0, 0, 3, 0, 0, true, 9⟩ :: f.body.slots } }
/-- The words of a correct self-test. -/
def noiseWords : List Word64 := [lmf64 0 0 0 0, lmf64 0 0 1 0, lmf64 0 1 0 0]
theorem witness_noise : tested.isSpin 0 0 = true ∧ tested.siteRegion? 0 0 = some 0 ∧ tested.ivory (tested.siteDomain 0 0) = true ∧ tested.bgHere 0 0 = true ∧
    noiseWords ≠ [0, 0, 0] ∧ EventsOutside tested 0 ∧
    gives (.noiseSelfTest spin0 (lmf64 0 0 0 0) (lmf64 0 0 1 0) (lmf64 0 1 0 0)) tested (fun t => (t.die 0).testsRun = 1 && !(t.die 0).noiseFailed) = true ∧
    gives (.noiseSelfTest spin0 0 0 0) tested (fun t => (t.die 0).testsRun = 1 && (t.die 0).noiseFailed &&
      (t.site 0).noise.any (fun f => f.code = Codes.ANL_NOISE_FAULT)) = true :=
  ⟨by decide +kernel, by decide +kernel, by decide +kernel, by decide +kernel, by decide +kernel, Or.inl (by decide +kernel), by decide +kernel⟩
/-! ## Witnesses: matrix sites -/

/-- A sum of one tile of I8 elements of site 1 into raw outputs, one (axis 3) or 32 (axis 1); and a product of one step. -/
def reduceWords (axis : Nat) : List Word := [5, 0, 0, 0, BitVec.ofNat 32 (1 + 2 * 2 ^ 9 + axis * 2 ^ 22), 1, 0, 0, 0, 0x108000, 256, 0, 0, 0x10000]
def productWords : List Word := [5, 0, 0, 0, 1, 1, 0, 0x1000, 0x200020, 0x108000, 256, 0, 0, 0x10000]
def site1 : SiteRef := ⟨0, 1⟩
/-- The MATRIX of the words runs on site 1, in the array or in the shadow set. -/
def matrixing (l : List Word) (m : MatRun) (shadow : Bool) : State :=
  (withSlots [{ op := op l .running, run := { matrix := some m } }]).onSite 1 fun x =>
    { x with mat := { x.mat with array := if shadow then none else some (0, 0, 0), shadow := if shadow then some (0, 0, 0) else none } }
def matSlot (l : List Word) (m : MatRun) : Slot := { op := op l .running, run := { matrix := some m } }

theorem witness_matrix : Dispatches (withOp (reduceWords 3) .ready) ref .matrix { op := op (reduceWords 3) .ready } ∧
    run.matrixRefused 0 (op (reduceWords 3) .ready) = none ∧ run.matrixBarred (op (reduceWords 3) .ready) = none ∧ (withOp (reduceWords 3) .ready).mem.marks = [] ∧
    gives (.matrix ref) (withOp (reduceWords 3) .ready) (fun t =>
      (t.site 1).mat.array = some (0, 0, 0) && (t.slotAt ref).any (fun x => x.op.state = .running && x.run.matrix.any (fun m => m.banks = [some 0]))) = true :=
  ⟨⟨by decide +kernel, by decide +kernel, by decide +kernel, by decide +kernel⟩, by decide +kernel⟩
theorem witness_matrix_refused : Dispatches (withOp [5, 0, 0, 0, 0, 1] .ready) ref .matrix { op := op [5, 0, 0, 0, 0, 1] .ready } ∧
    run.matrixRefused 0 (op [5, 0, 0, 0, 0, 1] .ready) = some (Codes.MAT_DESC_INVALID, 0) ∧
    gives (.matrix ref) (withOp [5, 0, 0, 0, 0, 1] .ready) (fun t => lastEnd t = some (0, Codes.MAT_DESC_INVALID, 0)) = true :=
  ⟨⟨by decide +kernel, by decide +kernel, by decide +kernel, by decide +kernel⟩, by decide +kernel⟩

/-- The product of one step, with 3 and −2 as the first elements of A and of B. -/
def multiplying : State := lay (lay (matrixing productWords {} false) (scratchAddr 0 1 0) [3]) (scratchAddr 0 1 0x1000) [0xFE]
def productAt (e : Nat) : Int := 0 + shift48 (([0].map (fun t => i8At multiplying 1 0 (t * 32 + e / 32) * i8At multiplying 1 0x1000 (t * 32 + e % 32))).sum) 0
theorem i8_product_small (a b : BitVec 8) : -(2 ^ 47) ≤ 0 + shift48 ([a.toInt * b.toInt].sum) 0 ∧ 0 + shift48 ([a.toInt * b.toInt].sum) 0 < 2 ^ 47 := by
  have ha := BitVec.toInt_lt (x := a)
  have ha' := BitVec.le_toInt (x := a)
  have hb := BitVec.toInt_lt (x := b)
  have hb' := BitVec.le_toInt (x := b)
  have h : (a.toInt * b.toInt).natAbs ≤ 128 * 128 := by
    rw [Int.natAbs_mul]
    exact Nat.mul_le_mul (by omega) (by omega)
  have hs : shift48 ([a.toInt * b.toInt].sum) 0 = a.toInt * b.toInt := by simp [shift48]
  rw [hs]
  omega

theorem witness_promotion : MatrixIn multiplying (multiplying.site 1).mat.array (0, 0, 0) (matSlot productWords {}) {} ∧
    (op productWords .running).matKind = .product ∧ (op productWords .running).kLen = 1 ∧ (op productWords .running).outputs = 1024 ∧
    (∀ t ∈ [0], ∀ i, i < 32 → ∀ a ∈ [multiplying.areaAddr 1 0 (t * 32 + i), multiplying.areaAddr 1 0x1000 (t * 32 + i)],
      multiplying.islandAt a = none ∧ multiplying.ivory (multiplying.domainOf a) = true) ∧
    (∀ e, -(2 ^ 47) ≤ productAt e ∧ productAt e < 2 ^ 47) ∧ productAt 0 = -6 :=
  ⟨⟨by decide +kernel, by decide +kernel, by decide +kernel, by decide +kernel⟩, by decide +kernel, by decide +kernel, by decide +kernel,
    by decide +kernel, fun _ => i8_product_small _ _, by decide +kernel⟩
theorem test_reduce_group : gives (.matrixPromotion site1) (lay (matrixing (reduceWords 3) {} false) (scratchAddr 0 1 0) [3, 0xFE, 7]) (fun t =>
    (t.slotAt ref).any (fun x => x.run.matrix.any (fun m => m.group = 1 && m.banks = [some 8]))) = true := by decide +kernel
theorem witness_accumulation_end : MatrixIn (matrixing (reduceWords 3) { group := 64 } false) (some (0, 0, 0)) (0, 0, 0) (matSlot (reduceWords 3) { group := 64 }) { group := 64 } ∧
    ({ group := 64 } : MatRun).groups (op (reduceWords 3) .running) = 64 ∧
    gives (.matrixAccumulationEnd site1) (matrixing (reduceWords 3) { group := 64 } false) (fun t =>
      (t.site 1).mat.array = none && (t.site 1).mat.shadow = some (0, 0, 0)) = true ∧
    gives (.matrixAccumulationEnd site1) ((matrixing (reduceWords 3) { group := 64 } false).onSite 1 fun x => { x with mat := { x.mat with shadow := some (0, 1, 0) } }) (fun t =>
      (t.site 1).mat.array = some (0, 0, 0) && (t.site 1).mat.shadow = some (0, 1, 0)) = true :=
  ⟨⟨by decide +kernel, by decide +kernel, by decide +kernel, by decide +kernel⟩, by decide +kernel⟩
theorem witness_shadow_free : gives (.shadowSetFree site1) (matrixing (reduceWords 3) { group := 64, accDone := true } false) (fun t =>
    (t.site 1).mat.array = none && (t.site 1).mat.shadow = some (0, 0, 0)) = true := by decide +kernel

/-- A reduce of 32 outputs, the first −6, waits in the shadow set. -/
def draining : MatRun := { group := 2, accDone := true, banks := (List.range 32).map (fun e => some (if e = 0 then -6 else 0)) }
def drains : State := matrixing (reduceWords 1) draining true
theorem witness_drain : MatrixIn drains (drains.site 1).mat.shadow (0, 0, 0) (matSlot (reduceWords 1) draining) draining ∧
    (op (reduceWords 1) .running).outputs = 32 ∧ drains.mem.marks = [] ∧
    ((List.range (32 * 8)).map (fun i => drains.areaAddr 1 0x8000 (i / 256 * 256 + i % 256))).Nodup ∧
    (∀ a ∈ (List.range (32 * 8)).map (fun i => drains.areaAddr 1 0x8000 (i / 256 * 256 + i % 256)),
      drains.islandAt a = none ∧ drains.ivory (drains.domainOf a) = true ∧ drains.busyByte a = false) :=
  ⟨⟨by decide +kernel, by decide +kernel, by decide +kernel, by decide +kernel⟩, by decide +kernel, by decide +kernel,
    nodup_of_rising _ (by decide +kernel), by decide +kernel⟩
theorem test_drain_one : gives (.matrixDrainEnd site1) (matrixing (reduceWords 3) { group := 64, accDone := true, banks := [some (-6)] } true) (fun t =>
    (t.site 1).mat.shadow.isNone && t.mem.readBytes 0 (scratchAddr 0 1 0x8000) 9 = [0xFA, 0xFF, 0xFF, 0xFF, 0xFF, 0xFF, 0, 0, 0] &&
      (t.slotAt ref).any (fun x => x.op.state = .latched && x.rec_.status = Codes.OK)) = true := by decide +kernel
/-! ## Witnesses: vision -/

/-- A plane of 2 × 2 or 1 × 1 pixels, and a list of up to two records, as four words of a parameter block. -/
def plane (base n : Nat) : List Word := [BitVec.ofNat 32 base, 0, BitVec.ofNat 32 (n + n * 2 ^ 13), BitVec.ofNat 32 n]
def recList (base : Nat) : List Word := [BitVec.ofNat 32 base, 0, 2, 0]
def block (k : VisKind) : List Word :=
  match k with
  | .pyramid => plane 0x1000 2 ++ plane 0x2000 1
  | .detect => plane 0x1000 2 ++ recList 0x2000 ++ [0, 0, 0, 0, 0x2400]
  | .describe => plane 0x1000 2 ++ recList 0x2000 ++ recList 0x3000
  | .matching => recList 0x1000 ++ recList 0x2000 ++ recList 0x3000 ++ [256]
  | .stereo => plane 0x1000 2 ++ plane 0x2000 2 ++ plane 0x3000 2 ++ [BitVec.ofNat 32 (1 + 2 ^ 14 + 2 * 2 ^ 20)]
def codeOf (k : VisKind) : Byte :=
  match k with
  | .pyramid => 1 | .detect => 2 | .describe => 3 | .matching => 4 | .stereo => 0x10
/-- A node of this kind whose parameter block lies at 0x40. -/
def node (k : VisKind) : List Byte := [codeOf k, 0, 0, 0, 0x40, 0, 0, 0, 0, 0, 0, 0, 0, 0, 0, 0]
/-- A graph of one node and one frame on an engine of die 0. -/
def graphWords (stereo : Bool) : List Word := [6, 0, 0, 0, if stereo then 0x10005 else 0x10004, 0x20]
def graphRun (k : VisKind) : VisRun := { stereo := k == .stereo, nodes := [node k] }
def graphSlot (k : VisKind) (v : VisRun) (st : OpState) : Slot :=
  { op := op (graphWords (k == .stereo)) st, run := { vis := some v, group := { formed := true } } }
/-- The package of the tests with this slot, the node and its block in scratchpad, the engines' power and routes to them. -/
def visState (k : VisKind) (sl : Slot) : State :=
  let s := lay (lay (withSlots [sl]) (scratchAddr 0 0 0x20) (node k)) (scratchAddr 0 0 0x40) ((words (block k)).flatMap (fun w => leBytes 4 w.toNat))
  s.onFab fun f => { f with image := f.image.map (fun i => { i with powerOwners := List.replicate 64 0 }), body := { f.body with
    slots := f.body.slots ++ slotRoute 3 (0, 3, 0) (0, 0, 0) ++ slotRoute 4 (0, 0, 0) (0, 3, 0) ++ slotRoute 5 (0, 3, 1) (0, 0, 0) ++ slotRoute 6 (0, 0, 0) (0, 3, 1) } }
/-- The graph is at its node. -/
def atNode (k : VisKind) : VisRun := { graphRun k with inFrame := true }
def visiting (k : VisKind) : State := visState k (graphSlot k (atNode k) .running)
def engine (k : VisKind) : Instr :=
  match k with
  | .pyramid => .pyramid 0 | .detect => .detect 0 | .describe => .describe 0 | .matching => .matchNode 0 | .stereo => .stereo 0

/-- The premises of a node start, as a check. -/
def nodeReady (s : State) (k : VisKind) : Bool :=
  s.fabricOn && s.mem.marks.isEmpty && s.graphOn 0 (k == .stereo) = some ((0, 0, 0), graphSlot k (atNode k) .running, atNode k) && nodeKind (atNode k) 0 == some k &&
    (match s.visBlock 0 0x40 with
      | some b => !visEmpty k b && (visOperands k b).all (fun x => s.ivory (s.domainOf (s.visPhys 0 x.base)))
      | none => false)
def nodeCode (s : State) (k : VisKind) : Option Code := (s.visBlock 0 0x40).bind (fun b => s.visRefused 0 0 (k == .stereo) k b false false)

theorem witness_nodes (k : VisKind) : nodeReady (visiting k) k = true ∧ nodeCode (visiting k) k = none ∧
    gives (engine k) (visiting k) (fun t => (t.slotAt ref).any (fun x => x.run.vis.any (fun w => w.nodeState = .busy)) &&
      Tab.get (0, 0) t.dev.shared.visBuf 0 = (0, if k == .stereo then 2 else 1)) = true := by
  cases k <;> decide +kernel
/-- The same with an output buffer that another region owns. -/
theorem witness_node_refused (k : VisKind) : let s := (visiting k).onShared fun h => { h with visBuf := [(0, (3, 1))] }
    nodeReady s k = true ∧ nodeCode s k = some Codes.RESOURCE_OWNED ∧
    gives (engine k) s (fun t => if k == .stereo then (t.die 0).steNodes = 1 && (t.die 0).steStatus = Codes.RESOURCE_OWNED
      else (t.die 0).featNodes = 1 && (t.die 0).featStatus = Codes.RESOURCE_OWNED) = true := by
  cases k <;> decide +kernel

/-- The node's first plane has no pixel, and its end adds 1 to flag 33. -/
def emptyBlock : List Word := plane 0x1000 0 ++ plane 0x2000 0 ++ [0, 0, 0, 0, 0, 0, 0x121]
def emptyNode : State := lay (visiting .pyramid) (scratchAddr 0 0 0x40) ((words emptyBlock).flatMap (fun w => leBytes 4 w.toNat))
theorem witness_node_empty : (emptyNode.visBlock 0 0x40).any (fun b => visEmpty .pyramid b && bitAt (wordAt b 14) 8) = true ∧
    gives (.pyramid 0) emptyNode (fun t => (t.die 0).featNodes = 1 && (t.die 0).featStatus = Codes.OK &&
      (t.region 0).sched.flagUpds.map (fun u => (u.flag, u.op, u.value)) = [(33, 1, 1)]) = true := by decide +kernel

/-- A graph that is ready. -/
def graphReady (l : List Word) : State := visState .matching { op := op l .ready }
theorem witness_graph : Dispatches (graphReady (graphWords false)) ref .visionGraph { op := op (graphWords false) .ready } ∧
    ((graphReady (graphWords false)).graphChecked 0 (op (graphWords false) .ready)).toOption = some [node .matching] ∧
    (graphReady (graphWords false)).engineBarred (op (graphWords false) .ready) = none ∧ (graphReady (graphWords false)).mem.marks = [] ∧
    gives (.visionGraph ref) (graphReady (graphWords false)) (fun t => (t.slotAt ref).any (fun x =>
      x.op.state = .running && x.run.group.formed && x.run.vis.any (fun w => w = graphRun .matching))) = true :=
  ⟨⟨by decide +kernel, by decide +kernel, by decide +kernel, by decide +kernel⟩, by decide +kernel⟩
theorem witness_graph_empty : Dispatches (graphReady [6]) ref .visionGraph { op := op [6] .ready } ∧ (op [6] .ready).nodeCount = 0 ∧
    gives (.visionGraph ref) (graphReady [6]) (fun t => lastEnd t = some (0, Codes.OK, 0)) = true :=
  ⟨⟨by decide +kernel, by decide +kernel, by decide +kernel, by decide +kernel⟩, by decide +kernel⟩
theorem witness_graph_refused : Dispatches (graphReady [6, 0, 0, 0, 0x10084]) ref .visionGraph { op := op [6, 0, 0, 0, 0x10084] .ready } ∧
    (graphReady [6]).graphChecked 0 (op [6, 0, 0, 0, 0x10104] .ready) = .error Codes.VIS_GRAPH_INVALID ∧
    gives (.visionGraph ref) (graphReady [6, 0, 0, 0, 0x10104]) (fun t => lastEnd t = some (0, Codes.VIS_GRAPH_INVALID, 0)) = true :=
  ⟨⟨by decide +kernel, by decide +kernel, by decide +kernel, by decide +kernel⟩, rfl, by decide +kernel⟩
theorem witness_frame_start : (visState .matching (graphSlot .matching (graphRun .matching) .running)).betweenFrames 0 (graphSlot .matching (graphRun .matching) .running) = true ∧
    gives (.visFrameStart 0 false) (visState .matching (graphSlot .matching (graphRun .matching) .running)) (fun t =>
      (t.slotAt ref).any (fun x => x.run.vis.any (·.inFrame))) = true := by decide +kernel

/-- MATCH of one descriptor of all zeros with one that differs in three bits. -/
def matchRun : VisRun := { atNode .matching with nodeState := .busy, params := (words (block .matching)).flatMap (fun w => leBytes 4 w.toNat) }
def matching : State :=
  lay (lay (visState .matching (graphSlot .matching matchRun .running)) (scratchAddr 0 0 0x2000) [1]) (scratchAddr 0 0 0x3000)
    ([1, 0, 0, 0, 0, 0, 0, 0, 0, 0, 0, 0, 0, 0, 0, 0] ++ [7])
def matchBytes : List Byte := listBytes 0 ((List.range (listRecords matching (matching.visPhys 0 0x2000) 2 32).length).map
  (matchRecord (listRecords matching (matching.visPhys 0 0x2000) 2 32) (listRecords matching (matching.visPhys 0 0x3000) 2 32) 256 false))
theorem witness_match_ends : matching.graphOn 0 false = some ((0, 0, 0), graphSlot .matching matchRun .running, matchRun) ∧
    (listAt matchRun.params 4).base = 0x2000 ∧ (listAt matchRun.params 4).cap = 2 ∧ (listAt matchRun.params 8).base = 0x3000 ∧
    (matching.linAddrs (matching.visPhys 0 0x1000) matchBytes.length).Nodup ∧ matching.mem.marks = [] ∧
    (∀ a ∈ matching.linAddrs (matching.visPhys 0 0x1000) matchBytes.length, matching.busyByte a = false) ∧
    (∀ a ∈ matching.linAddrs (matching.visPhys 0 0x1000) matchBytes.length ++ matching.linAddrs (matching.visPhys 0 0x2000) (16 + 2 * 32) ++
        matching.linAddrs (matching.visPhys 0 0x3000) (16 + 2 * 32) ++ matching.linAddrs (matching.visPhys 0 0x2000 + 16) (2 * 32) ++
        matching.linAddrs (matching.visPhys 0 0x3000 + 16) (2 * 32), matching.islandAt a = none ∧ matching.ivory (matching.domainOf a) = true) := by decide +kernel
theorem test_match_ends : gives (.visNodeComplete 0 false) matching (fun t => (t.die 0).featNodes = 1 && t.mem.readBytes 0 (scratchAddr 0 0 0x1000) 4 = [1, 0, 0, 0]) = true := by
  decide +kernel

/-- A DETECT that waits for its first row, which has come. -/
def waitRun : VisRun := { atNode .detect with nodeState := .waitRow, params := (words (block .detect)).flatMap (fun w => leBytes 4 w.toNat) }
theorem witness_row_wait : nodeKind waitRun 0 = some .detect ∧ 0 < (planeAt waitRun.params 0).height ∧
    (visState .detect (graphSlot .detect waitRun .running)).rowReady 0 (op (graphWords false) .running) waitRun (planeAt waitRun.params 0) 0 = true ∧
    gives (.streamRowWaitEnd 0 false) (visState .detect (graphSlot .detect waitRun .running)) (fun t =>
      (t.slotAt ref).any (fun x => x.run.vis.any (fun w => w.taken.length = 2))) = true := by decide +kernel

/-- A graph paced by timer 3, which its region owns for frame marks. -/
def pacedSlot (v : VisRun) : Slot := { op := op [6, 0, 0, 0, 0x10004, 0x20, 0, 2 + 3 * 4] .running, run := { vis := some v, group := { formed := true } } }
def paced (v : VisRun) : State :=
  ((visState .matching (pacedSlot v)).onShared fun h => { h with timers := [(3, (0, 2))] }).onRAux 0 fun a => { a with timerPeriod := [(3, 100)], timerWrite := [(3, 49700)] }
def marked3 (v : VisRun) : State := (paced v).onRAux 0 fun a => { a with marksDue := [(2, 3, 50000)] }
theorem witness_timer_mark : (paced (graphRun .matching)).graphs 0 = [pacedSlot (graphRun .matching)] ∧
    gives (.frameMarkTimer 0 3) (paced (graphRun .matching)) (fun t => (t.region 0).aux.marksDue = [(2, 3, 50000)]) = true ∧
    gives (.frameMarkTimer 0 3) ((paced (graphRun .matching)).onClk fun c => { c with tick := 50001 }) (fun t => (t.region 0).aux.marksDue = []) = true ∧
    ((marked3 (graphRun .matching)).boundaryMarks 0 |>.slotAt ref).any (fun x => x.run.group.mark) = true ∧
    (Tab.get {} (((marked3 (atNode .matching)).boundaryMarks 0).region 0).aux.visGroups 0).marksMissed = 1 := by decide +kernel
theorem witness_timer_write : run.reaches 1 0 = true ∧
    gives (.regionVisTimerWrite 1 0 3 77) (paced (graphRun .matching)) (fun t => Tab.get 0 (t.region 0).aux.timerPeriod 3 = 77 && Tab.get 0 (t.region 0).aux.timerWrite 3 = 50000) = true ∧
    run.dev.shared.timers.contains (3, (0, 2)) = false ∧
    gives .syncOutPulseEnd (run.onPins fun p => { p with syncOutHigh := true }) (fun t => !t.dev.pins.syncOutHigh) = true := by decide +kernel
/-- Two members of group 1 whose group streams are at row 0: one has it, the other waits for it; they have waited twice. -/
def memberRun (die fill : Nat) : VisRun :=
  { inFrame := true, die := die, nodes := [[2, 2, 0, 0, 0x40, 0, 0, 0, 0, 0, 0, 0, 0, 0, 0, 0]], nodeState := .waitRow,
    params := (words (block .detect)).flatMap (fun w => leBytes 4 w.toNat),
    stream := some { fill := fill, release := 60, r0 := 0, height := 2, released := 0 } }
def member (q : Nat) (die : Nat) (fill : Nat) : Slot :=
  { op := { op [6, 0, 0, 0, 0x10004, 0x20, 0, 0x21000, 1] .running with queue := q },
    run := { vis := some (memberRun die fill), group := { formed := true, waits := 2 } } }
def lockstep : State := (visState .detect (member 0 0 50)).onSched 0 fun g => { g with slots := [member 0 0 50, member 1 1 51], flags := [(50, 1)] }
theorem witness_underrun : lockstep.visMembers 0 1 = [member 0 0 50, member 1 1 51] ∧ lockstep.waitingRow 0 1 = some 0 ∧
    (member 0 0 50).op.stallLimit = 1 ∧ (member 0 0 50).op.dropToMark = false ∧ EventsOutside lockstep 0 ∧
    gives (.visGroupUnderrun 0 1) lockstep (fun t => (Tab.get {} (t.region 0).aux.visGroups 1).underruns = 1 &&
      (t.visMembers 0 1).all (fun x => x.run.group.underrun)) = true :=
  ⟨by decide +kernel, by decide +kernel, by decide +kernel, by decide +kernel, Or.inl (by decide +kernel), by decide +kernel⟩
/-! ## Witnesses: the network, the memory dies and the bundles -/

/-- A packet of the task of thread 0 of site 3, in the send queue of route 1 of region 0. -/
def pkt : Packet :=
  { src := 3, thread := 0, queue := 0, seq := 0, no := 0, kind := 0, va := 0, addrs := [], data := 0, data2 := 0, atomic := 0, reg := 1, signed := false }
/-- That task runs, route 1 enters site 1's router by port 1, and route 7 leaves at a channel of memory die 0. -/
def routed : State :=
  let s := (withOp [2] .running).onNoc fun n => { n with queues := [(1, [pkt]), (7, [pkt])] }
  let s := s.onFab fun f => { f with body := { f.body with slots := f.body.slots ++ [⟨0, 1, 2, 0, 5, 3, 5, 0, false, 7⟩] } }
  s.onMemDie 0 fun d => { d with present := true, position := 0 }
theorem witness_link_error : (routed.routeEntries 0 1).any (fun e => e.router = (0, 1, 0) && e.inPort = 1) = true ∧
    routed.routeOp 0 1 = some (0, 0, 0) ∧ EventsOutside routed 0 ∧
    gives (.nocPacketArrive 0 1 0 1 0 1 false) routed (fun t => Tab.get [] t.dev.noc.queues 1 = [] &&
      (t.slotAt ref).any (fun x => x.op.state = .latched && x.rec_.status = Codes.NOC_LINK_ERROR)) = true :=
  ⟨by decide +kernel, by decide +kernel, Or.inl (by decide +kernel), by decide +kernel⟩
theorem witness_refresh : routed.routeChannel 0 7 0 = some 2 ∧ routed.routeOp 0 7 = some (0, 0, 0) ∧
    gives (.dramRefresh 0 true 0 7) routed (fun t => (Tab.get {} t.dev.noc.edges 2).heldOver = 1 &&
      (t.slotAt ref).any (fun x => x.rec_.disturbance = 1)) = true := by decide +kernel
/-- A value of the task's thread comes in on route 7. -/
def comingIn : State :=
  ((routed.onSched 0 fun g => { g with slots := [{ op := op [2] .running, run := { task := some { threads := [(3, 0)] } } }] })).onThread 3 0 fun x =>
    { x with outstanding := [{ reg := 1, pair := false, value := some 9, sfu := false, route := some 7, due := 0x50000 }] }
theorem witness_refresh_inbound : (comingIn.inbound 0 7).isSome = true ∧ comingIn.routeOp 0 7 = some (0, 0, 0) ∧
    gives (.dramRefresh 0 true 0 7) comingIn (fun t => (t.thread 3 0).outstanding.map (·.due) = [0x51000] && t.dev.noc.voids.length = 1) = true := by
  decide +kernel
/-- Memory die 0 is there, so that router 2 has scrub as its task. -/
def starving : State := run.onMemDie 0 fun d => { d with present := true }
theorem witness_background : starving.running = true ∧ starving.bgTaskAt 0 2 .scrub = true ∧ Tab.get 0 starving.dev.noc.bgLast 16 + 16 ≤ starving.frame ∧
    gives (.bgTaskStarved 0 2 .scrub) starving (fun t => t.dev.noc.starved = [16]) = true ∧
    starving.inBgWindow 0 2 = true ∧ Tab.get 0 starving.dev.noc.bgWindowLast 2 ≠ starving.slotCount + 1 ∧
    gives (.bgEscalationWindow 0 2) (starving.onNoc fun n => { n with starved := [16] }) (fun t =>
      t.dev.noc.starved = [] && (Tab.get {} t.dev.noc.edges 2).escalations = 1) = true := by decide +kernel
/-- Memory die 0 is fitted, and word 64 of channel 0 holds a corrected bit. -/
def scrubbing : State := ((at_ .running).onMemDie 0 fun d => { d with present := true }).onPwr fun p => { p with domains := allIvory }
theorem witness_scrub : scrubbing.dieServes 0 = true ∧ scrubbing.bgFree 0 0 scrubbing.slot = true ∧ scrubbing.streamSlot 0 0 scrubbing.slot false = false ∧ scrubbing.mem.marks = [] ∧ isScratch 0 = false ∧
    (∀ i ∈ [1, 2, 3, 4], scrubAddr 0 0 i / 64 ≠ 0) ∧
    gives (.scrubRead 0 0 [(9, .corrected)]) scrubbing (fun t => t.mem.marks = [(72, .corrected)] && (t.memDie 0).corrected = 1) = true ∧
    gives (.scrubRead 0 0 []) (scrubbing.onMem fun m => { m with marks := [(0, .corrected)] }) (fun t =>
      (t.memDie 0).corrected = 1 && (t.memDie 0).writeback = [(0, 0)] && Tab.get 0 (t.memDie 0).scrubPos 0 = 5) = true ∧
    gives (.scrubWriteback 0 0) ((scrubbing.onMem fun m => { m with marks := [(0, .corrected)] }).onMemDie 0 fun d => { d with writeback := [(0, 0)] }) (fun t =>
      t.mem.marks = [] && (t.memDie 0).writeback = []) = true := by decide +kernel

/-- Bundle 12 has all 36 lanes and the full width, and a task runs. -/
def bundled (f : Bundle → Bundle) : State := (withOp [2] .running).onBundle 12 fun _ => f { width := 3 }
theorem witness_packet : (bundled id).bundleOnline 12 = true ∧ 3 ∈ ((bundled id).bundle 12).dataLanes ∧
    gives (.ydiPacketReceive 12 true (1#36 <<< 3) ref) (bundled id) (fun t => Tab.get 0 (t.bundle 12).laneErr 3 = 1 && (t.bundle 12).retired = 0) = true ∧
    gives (.ydiPacketReceive 12 true (1#36 <<< 3) ref) (bundled fun b => { b with laneErr := [(3, 15)] }) (fun t =>
      (t.bundle 12).retired = 8 && (t.bundle 12).pendingLanes = [3] && t.flash.unwritten = [(12, 3)]) = true := by decide +kernel
theorem witness_packet_fails : attemptsOf ((bundled id).bundle 12).retrying (0, 0, 0) + 1 < max 1 (bundled id).dev.ydi.retryBudget.toNat ∧
    gives (.ydiPacketReceive 12 false 0 ref) (bundled id) (fun t => (t.bundle 12).crcFail = 1 && attemptsOf (t.bundle 12).retrying (0, 0, 0) = 1 &&
      (t.slotAt ref).any (fun x => x.rec_.disturbance = 1)) = true ∧
    gives (.ydiPacketReceive 12 false 0 ref) (bundled fun b => { b with retrying := [((0, 0, 0), 7)] }) (fun t =>
      attemptsOf (t.bundle 12).retrying (0, 0, 0) = 0 && (t.slotAt ref).any (fun x => x.rec_.status = Codes.DDI_RETRY_EXHAUSTED)) = true := by decide +kernel
/-- An ANNEAL's stream crosses bundle 12, of 24 lanes, in slot 8, where its packet was blocked in frame 63. -/
def narrow12 : State :=
  (((atSlot (annealing run0 {} {}) 8).onBundle 12 fun b => { b with width := 2 })).onFab fun f => { f with body := { f.body with
    slots := [⟨0, 1, 12, 0, 8, 0, 5, 0, false, 0⟩] } }
/-- A thread's store waits for bundle 12 since frame 63, in slot 5. -/
def deferred12 : State :=
  (atSlot (bundled id) 5).onNoc fun n => { n with deferred := [{ key := 4, bundle := 12, die := 0, slot := 5, since := 63, packet := storePacket }] }
theorem witness_deferred : (bundled id).bundlePresent 12 = true ∧ attemptsOf ((bundled id).bundle 12).retrying (0, 0, 0) = 0 ∧
    attemptsOf ((bundled fun b => { b with retrying := [((0, 0, 0), 7)] }).bundle 12).retrying (0, 0, 0) ≠ 0 ∧
    (bundled id).bundleLocked 12 = true ∧ narrow12.atBoundary = true ∧ narrow12.crossesNow (0, 0, 0) 12 = true ∧
    gives (.ydiDeferredCross 12 ref) narrow12 (fun t => (t.bundle 12).deferrals = 1 && (t.slotAt ref).any (fun x => x.rec_.disturbance = 1)) = true ∧
    (deferred12.bundle 12).width = 3 ∧ deferred12.blocked 12 0 5 deferred12.frame true = false ∧
    gives (.ydiDeferredCross 12 ref) deferred12 (fun t => t.dev.noc.deferred = [] && (t.bundle 12).deferrals = 1 &&
      t.mem.readBytes 0 (scratchAddr 0 0 0x200) 4 = [0x44, 0x33, 0x22, 0x11]) = true ∧
    gives (.bundleSidebandFail 12) (bundled id) (fun t => (t.bundle 12).sidebandPending) = true := by decide +kernel
theorem witness_width : gives (.bundleWidthChange 12) (bundled fun b => { b with retired := 0x1F, pendingLanes := [4] }) (fun t =>
      (t.bundle 12).width = 2 && (t.bundle 12).pendingLanes = []) = true ∧
    gives (.bundleWidthChange 12) (bundled fun b => { b with sidebandPending := true }) (fun t => (t.bundle 12).width = 0 && (t.bundle 12).sideband) = true := by
  decide +kernel
theorem witness_lane_record : gives .laneRecordWrite { State.reset with flash := { State.reset.flash with unwritten := [(12, 3), (13, 0)] } } (fun t =>
      t.flash.unwritten = [(13, 0)] && Tab.get 0 t.flash.retired 12 = 8) = true := by decide +kernel
/-- The same state in frame 0. -/
def frame0 (s : State) : State := s.onNoc fun n => { n with frame := 0 }
theorem witness_ydi_cfg : run.pfReach false = true ∧ gives (.ydiCfgWrite 0x3A20) run (fun t => t.dev.ydi.cfgNext = some 0x3A20) = true ∧
    (frame0 run).frame % 2 ^ run.dev.ydi.windowLog2.toNat = 0 ∧
    gives .ydiErrorWindow ((frame0 (bundled fun b => { b with laneErr := [(3, 15)] })).onYdi fun y => { y with cfgNext := some 0x3A20 }) (fun t =>
      (t.bundle 12).laneErr = [] && t.dev.ydi.errThreshold = 0x20 && t.dev.ydi.windowLog2 = 0xA && t.dev.ydi.retryBudget = 3) = true := by decide +kernel
/-! ## Witnesses: Rincen links -/

/-- Link entries of port 0: route 10 out in slot 0, 11 in to the fabric, 12 forwarded in and out; route 13 is an alternate. -/
def entry (l slot : Nat) (dirIn fwd alt : Bool) : LinkEntry :=
  { linkRoute := l, port := 0, dirIn := dirIn, slot := slot, alternate := alt, forwarded := fwd, fwdPort := 0, region := 0, route := 1, altKey := 0, raw := [] }
def linkTopo : Topo :=
  { self := 1, packages := 2, kind := 0, dimX := 0, dimY := 0, dimZ := 0, epochK := 4, systemId := 9,
    ports := [{ neighbour := 2, farPort := 3, used := true, rate16 := false }],
    links := [entry 10 0 false false false, entry 11 5 true false false, entry 12 6 true true false, entry 12 7 false true false, entry 13 8 false false true],
    alts := [(2, 3)], trees := [] }
/-- A running package in a system, with port 0 in a state. -/
def linked (f : Port → Port) : State :=
  let s := run.onFab fun t => { t with body := { t.body with topo := some linkTopo } }
  (s.onPins fun p => { p with cblpres := 0 }).onPort 0 fun t => f t
def livePort (t : Port) : Port := { t with trained := true, state := .live }
/-- A header that package 2's port 3 sends in its frame 7. -/
def partnerHeader : List Byte :=
  let body := leBytes 4 0x4C46 ++ leBytes 4 7 ++ leBytes 4 0 ++ leBytes 4 (2 + 3 * 2 ^ 17) ++ List.replicate 492 0
  body ++ leBytes 4 (crc32c body).toNat

theorem witness_train : (linked id).portOn 0 = true ∧ (linked id).uncabled 0 = false ∧
    gives (.portTrainAttempt 0 true) (linked id) (fun t => (t.port 0).trained && (t.port 0).state = .training) = true ∧
    gives (.portTrainAttempt 0 false) (linked id) (fun t => !(t.port 0).trained && (t.port 0).trainFailRaised) = true := by decide +kernel
theorem witness_frame_begins : gives (.linkFrameStart 0) (linked livePort) (fun t => (t.port 0).frame = 1 && (t.port 0).header.length = 512 && wordAt (t.port 0).header 1 = 1) = true := by
  decide +kernel
theorem witness_header : partnerHeader.length = 512 ∧ headerValid partnerHeader = true ∧
    gives (.linkHeaderReceive 0 partnerHeader) ((linked fun t => { t with trained := true, state := .training }).onFab fun f => { f with body := { f.body with topo := none } }) (fun t =>
      (t.port 0).state = .up && (t.port 0).rxFrame = 7 && (t.port 0).neighbour = 2) = true ∧
    ((linked id).onFab fun f => { f with body := { f.body with topo := none } }).portUsed 0 = false := by decide +kernel
theorem witness_header_bad : leAt (List.replicate 512 (0 : Byte)) 508 4 ≠ (crc32c ((List.replicate 512 (0 : Byte)).take 508)).toNat ∧
    gives (.linkHeaderReceive 0 (List.replicate 512 0)) (linked livePort) (fun t => (t.port 0).crcFail = 1 && (t.port 0).misses = 1) = true := by decide +kernel
/-- Port 0 is up, and its partner is the one that the image names. -/
def matched : State :=
  let s := linked fun t => { t with trained := true, state := .up, partnerReady := true }
  s.onPort 0 fun t => { t with partner := some { systemId := 9, ordinal := 2, port := 3, digest := s.cableDigest 0 false } }
theorem witness_live : matched.running = true ∧ matched.portUsed 0 = true ∧ matched.partnerMatches 0 = true ∧
    gives (.portLive 0) matched (fun t => (t.port 0).state = .live) = true := by decide +kernel
theorem witness_miss : gives (.heartbeatMiss 0) (linked livePort) (fun t => (t.port 0).misses = 1) = true ∧
    gives (.heartbeatMiss 0) (linked fun t => { livePort t with misses := 2 }) (fun t => (t.port 0).state = .lost && t.dev.lnk.notices = [(1, 0)] && t.dev.faults.count = 1) = true := by
  decide +kernel

/-- A cell of a link route. -/
def cell (l : Nat) (seq : Word) : LinkCell := { route := l, seq := seq, retried := false, packet := List.replicate 320 0, mark := none, op := none }
def sending (l : Nat) : State := (linked livePort).onLnk fun x => { x with queues := [(l, [cell l 0])] }
theorem witness_cell_send : (sending 10).outEntry 0 0 false = some (entry 10 0 false false false) ∧ (sending 12).outEntry 0 7 true = some (entry 12 7 false true false) ∧
    gives (.linkCellSend 0 0) (sending 10) (fun t => Tab.get [] t.dev.lnk.queues 10 = [] && (t.port 0).sent.length = 1 && (t.port 0).cellOut.length = 384) = true ∧
    gives (.cellForward 0 7) (sending 12) (fun t => Tab.get [] t.dev.lnk.queues 12 = [] && (t.port 0).sent.length = 1) = true ∧
    gives (.linkCellSend 0 0) (linked livePort) (fun t => (t.port 0).cellOut = idleCell) = true := by decide +kernel
/-- A cell that waits for its resend. -/
def dueCell : SentCell := { frame := 1, slot := 0, origFrame := 1, origSlot := 0, cell := cell 10 0, fails := 1, due := true }
theorem witness_resend : (livePort { sent := [dueCell] }).nextResend = some dueCell ∧
    gives (.cellResend 0 15) (linked fun t => { livePort t with sent := [dueCell], frame := 4 }) (fun t => (t.port 0).resends = 1 &&
      (t.port 0).sent.map (fun c => (c.frame, c.slot, c.due)) = [(4, 15, false)]) = true := by decide +kernel
def arriving (l : Nat) : List Byte := (cell l 0).bytes 1
theorem witness_cell_bad : (List.replicate 384 (0 : Byte)).length = 384 ∧
    gives (.linkCellReceive 0 5 (List.replicate 384 0)) (linked livePort) (fun t => (t.port 0).crcFail = 1 && (t.port 0).rxBits = []) = true := by decide +kernel
theorem witness_cell_receive : (arriving 11).length = 384 ∧ leAt (arriving 11) 336 4 = (crc32c ((arriving 11).take 336)).toNat ∧
    wordAt (arriving 11) 0 % 8 = 1 ∧ bitAt (wordAt (arriving 11) 2) 0 = false ∧
    (linked livePort).inEntry 0 (wordAt (arriving 11) 0 / 2 ^ 16) = some (entry 11 5 true false false) ∧
    gives (.linkCellReceive 0 5 (arriving 11)) (linked livePort) (fun t => (Tab.get [] t.dev.lnk.fromHub 1).length = 1 && Tab.get 0 t.dev.lnk.seqIn 11 = 1) = true := by
  decide +kernel
theorem witness_cell_forwarded : (linked livePort).inEntry 0 (wordAt (arriving 12) 0 / 2 ^ 16) = some (entry 12 6 true true false) ∧
    gives (.linkCellReceive 0 6 (arriving 12)) (linked livePort) (fun t => (Tab.get [] t.dev.lnk.queues 12).length = 1 && (t.port 0).rxBits = [6]) = true := by
  decide +kernel
theorem witness_notice : (linked livePort).dev.lnk.notices = [] ∧
    gives (.linkDownNotice 0 2 3) (linked livePort) (fun t => t.dev.lnk.notices = [(2, 3)] && t.dev.lnk.broken.contains 10) = true ∧
    gives (.linkDownNotice 0 2 3) ((linked livePort).onLnk fun l => { l with notices := [(2, 3)] }) (fun t => t.dev.lnk.broken = []) = true := by decide +kernel
theorem witness_switch : ((linked livePort).topo?.bind (fun t => t.alts[0]?)) = some (2, 3) ∧ (entry 13 8 false false true) ∈ (linked livePort).links ∧
    gives (.routeSwitch 0) ((linked livePort).onLnk fun l => { l with notices := [(2, 3)], broken := [13] }) (fun t =>
      t.dev.lnk.switched = [0] && t.dev.lnk.broken = [] && t.dev.faults.count = 1) = true := by decide +kernel
/-! ## Witnesses: the host link and the functions -/

/-- The host link's loss does not reset the package. -/
def keepUp : State := run.onHst fun h => { h with linkDownReset := false }
theorem witness_link_down : keepUp.dev.hst.linkUp = true ∧
    gives .hostLinkDown keepUp (fun t => !t.dev.hst.linkUp && t.dev.hst.linkDowns = 1 && t.dev.aux.linkDownPending && t.dev.faults.count = 1 && !(t.func 0).busMaster) = true ∧
    gives .hostLinkDown (run.onHst fun h => { h with linkDownReset := true }) (fun t => t.dev.boot.stage = .rom && t.dev.boot.rcHost && t.dev.clk.tick = 50000) = true ∧
    (at_ .running).dev.hst.linkUp = false := by decide +kernel
/-- The link goes down while an image is fetched. -/
theorem witness_fetch_cut : gives .hostLinkDown ((fetching .load).onHst fun h => { h with linkDownReset := false }) (fun t =>
    t.dev.boot.stage = .awaitImage && t.dev.boot.imageResult = Codes.HST_LINK_DOWN && t.dev.aux.loading = none) = true := by decide +kernel
/-- The physical function's event ring, of sixteen records in host memory. -/
def evented (s : State) : State := s.onHst fun h => { h with pfEvt := { enable := true, sizeLog2 := 4, host := true, base := 0x1000 } }
theorem witness_link_up : gives (.hostLinkUp 5 16 true) (at_ .awaitImage) (fun t => t.dev.hst.linkUp && t.dev.hst.rate = 5 && t.dev.hst.width = 16 && t.dev.hst.flit) = true ∧
    (evented run).dev.hst.pfEvt.full = false ∧
    gives (.hostLinkUp 5 16 true) ((evented run).onAux fun a => { a with linkDownPending := true }) (fun t =>
      t.dev.hst.pfEvt.tail = 1 && !t.dev.aux.linkDownPending) = true := by decide +kernel
theorem witness_vf_enable : run.dev.boot.stage.hostUp = true ∧
    gives (.vfEnableWrite true 2) run (fun t => (t.func 1).enabled && (t.func 2).enabled && !(t.func 3).enabled && t.dev.hst.numVFs = 2) = true ∧
    gives (.vfEnableWrite false 0) run (fun t => !(t.func 1).enabled) = true ∧
    gives (.vfEnableWrite true 2) (run.onBoot fun b => { b with stage := .awaitImage }) (fun t => !(t.func 2).enabled) = true := by decide +kernel
theorem witness_vf_flr : (run.func 1).enabled = true ∧ (run.region 0).aux.resetBusy = false ∧
    gives (.vfFlr 0) run (fun t => (t.func 1).enabled && !(t.func 1).busMaster && (t.region 0).aux.resetAsked) = true := by decide +kernel
theorem witness_pf_flr : gives .pfFlr run (fun t => t.fab.image.isNone && t.dev.boot.stage = .awaitImage && !(t.func 1).enabled && !(t.func 0).busMaster) = true ∧
    gives .pfFlr (run.onBoot fun b => { b with stage := .recovery }) (fun t => t.fab.image.isSome) = true := by decide +kernel
/-- Function 1 holds a message of its unmasked vector 3. -/
def heldMessage (f : Func → Func) : State :=
  run.onFunc 1 fun _ => f { enabled := true, busMaster := true, msix := [(3, [0, 0, 0, 0])], pba := 8 }
theorem witness_d3_d0 : gives (.functionD3hot 1) run (fun t => (t.func 1).d3hot && !(t.func 0).d3hot) = true ∧
    gives (.powerStateD0 1) (heldMessage fun f => { f with d3hot := true }) (fun t => !(t.func 1).d3hot && (t.func 1).pba = 0 && Tab.get 0 (t.func 1).sentMsgs 3 = 1) = true ∧
    gives (.busMasterEnableWrite 1 true) (heldMessage fun f => { f with busMaster := false }) (fun t => (t.func 1).pba = 0 && Tab.get 0 (t.func 1).sentMsgs 3 = 1) = true ∧
    gives (.busMasterEnableWrite 1 false) run (fun t => !(t.func 1).busMaster) = true := by decide +kernel
/-- Queue 0 of region 0 has a completion to announce with vector 3 of function 1. -/
def announcing (msix : Tab (List Word)) : State :=
  (run.onSched 0 fun g => { g with irqs := [(0, { vector := 3, enable := true, count := 1, pending := 1 })] }).onFunc 1 fun f => { f with msix := msix }
theorem witness_message : ((announcing []).irqOf (.queue 0 0)).1.due (announcing []).tick = true ∧ ((announcing []).irqOf (.queue 0 0)).2 = 1 ∧
    gives (.msixMessage (.queue 0 0)) (announcing []) (fun t => (t.func 1).pba = 8 && Tab.get 0 (t.func 1).sentMsgs 3 = 0 && (t.irqOf (.queue 0 0)).1.pending = 0) = true ∧
    gives (.msixMessage (.queue 0 0)) (announcing [(3, [0, 0, 0, 0])]) (fun t => (t.func 1).pba = 0 && Tab.get 0 (t.func 1).sentMsgs 3 = 1) = true ∧
    (run.irqOf (.queue 0 0)).1.due run.tick = false := by decide +kernel
theorem witness_unmask : run.hubReach 1 = true ∧
    gives (.msixUnmask 1 3) (run.onFunc 1 fun f => { f with pba := 8 }) (fun t => !(t.func 1).masked 3 && (t.func 1).pba = 0 && Tab.get 0 (t.func 1).sentMsgs 3 = 1) = true ∧
    gives (.msixUnmask 1 3) (run.onFunc 1 fun f => { f with pba := 8, busMaster := false }) (fun t => !(t.func 1).masked 3 && (t.func 1).pba = 8) = true := by decide +kernel
/-- A fetch from queue 0's host ring is on its way. -/
def fetchingHost : State := (hostRing.onQueue 0 0 fun c => { c with head := 3 }).onSched 0 fun g => { g with fetches := [{ queue := 0, bytes := none }] }
theorem witness_fetch_error : (fetchingHost.region 0).sched.fetches = [{ queue := 0, bytes := none }] ∧ EventsOutside fetchingHost 0 ∧
    gives (.hostReadError ref true) fetchingHost (fun t => !(t.queue 0 0).enable && (t.queue 0 0).head = 2 && (t.region 0).sched.fetches = [] && (t.region 0).rev.lastFaultCode = Codes.HST_HOST_ERROR) = true :=
  ⟨by decide +kernel, Or.inl (by decide +kernel), by decide +kernel⟩
/-- A copy of four bytes from host memory to host memory. -/
def hostCopy : List Word := copyWords 4 0x200 12
theorem witness_copy_error : (op hostCopy .running).srcHost = true ∧ (op hostCopy .running).dstHost = true ∧ (op hostCopy .running).desc? = some .copy ∧
    gives (.hostReadError ref false) (withOp hostCopy .running) (fun t => (t.slotAt ref).any (fun x => x.op.state = .latched && x.rec_.status = Codes.HST_HOST_ERROR)) = true := by
  decide +kernel
theorem witness_bad_access : run.hubReach 0 = true ∧
    gives (.badRegisterAccess 0 0x102) ((evented run).onDbg fun d => { d with readAnswer := 7 }) (fun t => t.dev.dbg.readAnswer = 0 && t.dev.hst.pfEvt.tail = 1) = true := by
  decide +kernel
/-! ## Witnesses: registers, determinism, security and attestation -/

theorem witness_register_write : run.pfReach true = true ∧ run.reaches 0 0 = true ∧ run.dev.boot.stage ≠ .recovery ∧
    gives (.registerWrite 0 0x98 false 0x1234) run (fun t => t.dev.boot.imageLen = 0x1234) = true ∧
    gives (.registerWrite 0 0x90 true 0x123456789A) run (fun t => t.dev.boot.imageSrc = 0x123456789A) = true ∧
    gives (.registerWrite 0 0x84 false 1) (run.onBoot fun b => { b with rcPowerOn := true, rcHost := true }) (fun t => !t.dev.boot.rcPowerOn && t.dev.boot.rcHost) = true ∧
    gives (.registerWrite 0 0x88 false 1) run (fun t => t.dev.boot.recoveryNext) = true := by decide +kernel
theorem witness_register_write_more :
    gives (.registerWrite 0 0x10000 false 0) run (fun t => !t.dev.hst.linkDownReset) = true ∧
    gives (.registerWrite 0 0x200204 false 77) run (fun t => Tab.get 0 t.dev.sec.keyData 1 = 77) = true ∧
    gives (.registerWrite 0 0x800658 false 5) run (fun t => (t.region 0).sched.dig.head = 5) = true ∧
    gives (.registerWrite 0 0x92 false 5) (evented run) (fun t => t.dev.hst.pfEvt.tail = 1 && t.dev.boot.imageSrc = 0) = true := by decide +kernel
/-- The telemetry block's domain is in Pewter. -/
def pewterTel : State := evented (run.onPwr fun p => { p with domains := Tab.set p.domains 45 { target := 2, state := .pewter } })
theorem witness_register_held : pewterTel.writableHeld telBase = true ∧ pewterTel.domState (holdDomain telBase) = .pewter ∧ pewterTel.pfReach true = true ∧
    telBase % 4 = 0 ∧ telBase < 2 ^ 26 ∧
    gives (.registerWrite 0 (BitVec.ofNat 26 telBase) false 1) pewterTel (fun t => t.dev.hst.pfEvt.tail = 1 && t.dev.tel = run.dev.tel) = true := by decide +kernel
theorem witness_virtual : (1 : FnId) ≠ 0 ∧ gives (.registerWrite 1 0x98 false 0x1234) run (fun t => t.dev.boot.imageLen = 0) = true := by decide +kernel

theorem witness_det : gives (.hubDetCtlWrite 1) (run.onBoot fun b => { b with stage := .awaitImage }) (fun t => t.dev.aux.slateCtl) = true ∧
    (run.onBoot fun b => { b with stage := .awaitImage }).pfReach true = true ∧
    gives (.hubDetCtlWrite 1) (evented run) (fun t => t.dev.hst.pfEvt.tail = 1) = true ∧
    run.reaches 1 0 = true ∧ (run.region 0).aux.weightsLock = false ∧
    gives (.detWeightsWrite 1 0 2 7) run (fun t => (t.region 0).aux.weightsNext = some (7 <<< 64)) = true ∧
    gives (.detInputWrite 1 0 2 7) run (fun t => (t.region 0).aux.inputNext = some (7 <<< 64)) = true ∧
    gives (.weightsLockSet 0 0) run (fun t => (t.region 0).aux.weightsLock) = true := by decide +kernel
theorem witness_weights_locked : ((run.onRAux 0 fun a => { a with weightsLock := true }).region 0).aux.weightsLock = true ∧
    gives (.detWeightsWrite 1 0 2 7) (run.onRAux 0 fun a => { a with weightsLock := true }) (fun t => (t.region 0).aux.weightsNext = none) = true := by decide +kernel

/-- Fuses with image key 2 provisioned. -/
def fused (f : Fuses → Fuses) (s : State) : State := s.onFuses fun x => f { x with imgHash := [(2, 5)], imgValid := 4 }
theorem secTakes_run : SecTakes run ∧ SecTakes (fused id run) ∧ SecTakes (fused (fun f => { f with lock := true }) run) ∧
    SecTakes ((fused id run).onBoot fun b => { b with stage := .awaitImage }) :=
  ⟨⟨by decide, by decide, by decide⟩, ⟨by decide, by decide, by decide⟩, ⟨by decide, by decide, by decide⟩, ⟨by decide, by decide, by decide⟩⟩
theorem witness_provision : (fused id run).fuses.slotFresh 3 = true ∧ (fused id run).fuses.slotFresh 2 = false ∧
    gives (.provisionImageKey 3 .blown) (fused id run) (fun t => t.fuses.provisioned 3 && t.fuses.provisioned 2 && t.dev.sec.busy && t.dev.sec.result = Codes.OK) = true ∧
    gives (.provisionImageKey 3 (.failed 4)) (fused id run) (fun t => !t.fuses.provisioned 3 && t.fuses.spoiled 3 && t.dev.sec.result = Codes.SEC_FUSE_FAIL) = true := by
  decide +kernel
theorem witness_provision_refused :
    gives (.provisionImageKey 2 .blown) (fused id run) (fun t => t.dev.sec.result = Codes.SEC_SLOT_USED) = true ∧
    gives (.provisionImageKey 3 .blown) (fused (fun f => { f with lock := true }) run) (fun t => t.dev.sec.result = Codes.SEC_LOCKED) = true ∧
    gives (.provisionImageKey 3 .blown) (run.onBoot fun b => { b with stage := .imageLoad }) (fun t => t.dev.sec.result = Codes.SEC_CMD_DENIED) = true ∧
    (run.onBoot fun b => { b with stage := .imageLoad }).pfReach false = true ∧
    gives (.provisionImageKey 3 .blown) (run.onSec fun c => { c with busy := true }) (fun t => t.fuses = run.fuses) = true := by decide +kernel
theorem witness_revoke : (fused id run).fuses.lock = false ∧
    gives (.revokeImageKey 2 .blown) (fused id run) (fun t => t.fuses.imgRevoked = 4 && t.dev.sec.result = Codes.OK) = true ∧
    (fused (fun f => { f with lock := true }) run).fuses.liveSlots = [2] ∧
    gives (.revokeImageKey 2 .blown) (fused (fun f => { f with lock := true }) run) (fun t => t.fuses.imgRevoked = 0 && t.dev.sec.result = Codes.SEC_REVOKE_LAST) = true := by
  decide +kernel
/-- A running package with these firmware copies. -/
def firmware (a b : Option FwCopy) : State := { run with flash := { run.flash with copyA := a, copyB := b } }
theorem witness_firmware_key : gives (.revokeFirmwareKey 1 .blown) (firmware (some goodCopy) none) (fun t => t.fuses.fwRevoked = 2 && t.dev.sec.result = Codes.OK) = true ∧
    gives (.revokeFirmwareKey 0 .blown) (firmware (some goodCopy) none) (fun t => t.fuses.fwRevoked = 0 && t.dev.sec.result = Codes.SEC_REVOKE_LAST) = true := by decide +kernel
/-- The running image has security version 6. -/
def versioned (n : Nat) : State := (run.onFab fun f => { f with image := f.image.map fun i => { i with securityVersion := 6 } }).onFuses fun f => { f with imgRollback := n }
theorem witness_image_rollback : (versioned 2).fuses.imgRollback < min 64 (versioned 2).image.securityVersion.toNat ∧
    gives (.advanceImageRollback .blown) (versioned 2) (fun t => t.fuses.imgRollback = 6 && t.dev.sec.result = Codes.OK) = true ∧
    gives (.advanceImageRollback (.failed 1)) (versioned 2) (fun t => t.fuses.imgRollback = 3 && t.dev.sec.result = Codes.SEC_FUSE_FAIL) = true ∧
    gives (.advanceImageRollback .blown) (versioned 6) (fun t => t.fuses.imgRollback = 6 && !t.dev.sec.busy && t.dev.sec.result = Codes.OK) = true ∧
    gives (.advanceImageRollback .blown) (run.onBoot fun b => { b with stage := .awaitImage }) (fun t => t.dev.sec.result = Codes.SEC_CMD_DENIED) = true := by decide +kernel
theorem witness_firmware_rollback : (firmware (some goodCopy) (some goodCopy)).fuses.fwRollback < min 64 (firmware (some goodCopy) (some goodCopy)).lowerVersion ∧
    gives (.advanceFirmwareRollback .blown) (firmware (some goodCopy) (some goodCopy)) (fun t => t.fuses.fwRollback = 3 && t.dev.sec.result = Codes.OK) = true ∧
    gives (.advanceFirmwareRollback .blown) ((firmware (some goodCopy) (some goodCopy)).onFuses fun f => { f with fwRollback := 3 }) (fun t => t.fuses.fwRollback = 3 && t.dev.sec.result = Codes.OK) = true ∧
    gives (.advanceFirmwareRollback .blown) (firmware (some goodCopy) none) (fun t => t.fuses.fwRollback = 0 && t.dev.sec.result = Codes.SEC_ROLLBACK_DENIED) = true := by decide +kernel
theorem witness_lock : (fused id run).fuses.liveSlots = [2] ∧ run.fuses.liveSlots = [] ∧
    gives (.blowProvisioningLock .blown) (fused id run) (fun t => t.fuses.lock) = true ∧
    gives (.blowProvisioningLock .blown) run (fun t => !t.fuses.lock && t.dev.sec.result = Codes.SEC_REVOKE_LAST) = true := by decide +kernel

/-- An attestation of queue 0 of region 0 waits. -/
def attesting (q : Queue) : State := ((withQueue q).onRAux 0 fun a => { a with attestBusy := true }).onSec fun c => { c with attests := [(0, 7)] }
theorem witness_attest : (run.region 0).aux.attestBusy = false ∧ run.dev.sec.attests = [] ∧
    gives (.attestGo 1 0 3) run (fun t => t.dev.sec.attests = [(0, 50000)] && (t.region 0).aux.attestQueue = 1 && (t.region 0).aux.attestBusy) = true ∧
    gives (.attestGo 1 0 3) (attesting {}) (fun t => t.dev.sec.attests = [(0, 7)]) = true ∧
    ((attesting {}).queue 0 0).lastDigest = none ∧ ((attesting { lastDigest := some (9, 1) }).queue 0 0).lastDigest.isSome = true ∧
    gives .attestComplete (attesting {}) (fun t => t.dev.sec.attests = [] && (t.region 0).aux.attestResult = Codes.SEC_NO_DIGEST && !(t.region 0).aux.attestBusy) = true ∧
    gives .attestComplete (attesting { lastDigest := some (9, 1) }) (fun t => t.dev.sec.attests = [] && (t.region 0).aux.attestResult = Codes.OK) = true := by decide +kernel
/-! ## Witnesses: revocation, telemetry, trace, test port and debug access -/

/-- An image with a window at site 0 and a stream slot at an edge router, both of region 0. -/
def revocable : State :=
  run.onFab fun f => { f with body := { f.body with
    windows := [{ region := 0, die := 0, site := 0, num := 1, base := 0, length := 64, elemLog2 := 0 }],
    edges := [{ region := 0, die := 0, router := 2, slot := 7, dirIn := true, cls := 0, route := 1 }] } }
/-- The value that asks for a revocation. -/
def revokeWord (kind arg : Nat) : Word64 := BitVec.ofNat 64 (kind + arg * 256)
theorem witness_revoke_asked : revocable.reaches 1 0 = true ∧ (revocable.region 0).rev.busy = false ∧
    gives (.revokeQueueLock 1 0 (revokeWord 0 3)) revocable (fun t => (t.region 0).rev.busy && (t.region 0).rev.pending = some { kind := 0, arg := 3 }) = true ∧
    gives (.revokeWindow 1 0 (revokeWord 1 512)) revocable (fun t => (t.region 0).rev.pending = some { kind := 1, arg := 512 }) = true ∧
    gives (.revokeFlag 1 0 (revokeWord 2 9)) revocable (fun t => (t.region 0).rev.pending = some { kind := 2, arg := 9 }) = true ∧
    gives (.revokeTaskSlot 1 0 (revokeWord 3 64)) revocable (fun t => (t.region 0).rev.pending = some { kind := 3, arg := 64 }) = true := by decide +kernel
theorem witness_revoke_asked_more :
    gives (.revokeStreamSlot 1 0 (revokeWord 4 (2 * 2 + 7 * 64 + 2 ^ 18))) revocable (fun t => (t.region 0).rev.busy) = true ∧
    gives (.revokeRegion 1 0 (revokeWord 5 0)) revocable (fun t => (t.region 0).rev.pending = some { kind := 5, arg := 0 }) = true ∧
    gives (.revokeQueueLock 1 0 (revokeWord 0 8)) revocable (fun t => !(t.region 0).rev.busy && (t.region 0).rev.result = Codes.REVOKE_BAD_ARG) = true ∧
    gives (.revokeRegion 1 0 (revokeWord 5 1)) revocable (fun t => (t.region 0).rev.result = Codes.REVOKE_BAD_ARG) = true ∧
    gives (.revokeFlag 1 0 (revokeWord 2 9)) (revocable.onRev 0 fun x => { x with busy := true }) (fun t => (t.region 0).rev.pending = none) = true := by decide +kernel
/-- An applied revocation whose old operations have ended, or one of which is still there. -/
def applied (kind arg : Nat) (old : List (Nat × Word)) : State :=
  ((withSlots [{ op := { op [0] .running with seq := 4 } }]).onSched 0 fun g => { g with flags := [(9, 7), (10, 8)] }).onRev 0 fun x =>
    { x with busy := true, pending := some { kind := kind, arg := arg, applied := true, old := old } }
theorem witness_revoked : (applied 2 9 [(0, 3)]).slotOf 0 0 3 = none ∧ EventsOutside (applied 2 9 [(0, 3)]) 0 ∧
    gives (.revokeDone 0) (applied 2 9 [(0, 3)]) (fun t => t.flag 0 9 = 0 && t.flag 0 10 = 8 && !(t.region 0).rev.busy) = true ∧
    gives (.revokeDone 0) (applied 0 0 []) (fun t => !(t.queue 0 0).enable && t.flag 0 9 = 7) = true ∧
    gives (.revokeDone 0) (applied 5 0 []) (fun t => !(t.queue 0 0).enable && t.flag 0 9 = 0) = true ∧
    gives (.revokeDone 0) (applied 3 0 []) (fun t => (t.queue 0 0).enable && t.flag 0 9 = 7 && !(t.region 0).rev.busy) = true ∧
    gives (.revokeDone 0) (applied 2 9 [(0, 4)]) (fun t => (t.region 0).rev.busy) = true :=
  ⟨by decide +kernel, Or.inl (by decide +kernel), by decide +kernel⟩

/-- The sampler runs at frame 0 with source 3 enabled on HUB_RESET_CAUSE, offset 0x80. -/
def sampler (f : Tel → Tel) : State :=
  (frame0 run).onTel fun t => f { t with sources := [(3, 0x80000080)], ring := { enable := true, sizeLog2 := 4, host := true, base := 0x2000 } }
theorem witness_period : (sampler id).sampling = true ∧ (sampler id).frame % 2 ^ (sampler id).dev.tel.periodLog2.toNat = 0 ∧ (sampler id).dev.tel.unread = [] ∧
    gives .telSamplePeriod (sampler id) (fun t => t.dev.tel.unread = [3]) = true ∧
    gives .telSamplePeriod (sampler fun t => { t with unread := [3] }) (fun t => t.dev.tel.late = 1 && t.dev.tel.unread = [3] && t.dev.tel.ring.tail = 1) = true := by decide +kernel
theorem witness_sample_order : (sampler id).sampleNow ((sampler id).sourceOffset 3) = true ∧ (∀ m ∈ (sampler fun t => { t with unread := [3] }).dev.tel.unread, ¬ m < 3) := by
  decide +kernel
theorem witness_sample_record : (sampler fun t => { t with unread := [3] }).dev.tel.ring.full = false ∧ (sampler id).pfHostAllowed = true ∧
    samplePermitted 0x80 = true ∧ (sampler id).sampleReached 0x80 = true ∧
    gives (.telSampleRead 3) (sampler fun t => { t with unread := [3] }) (fun t => t.dev.tel.unread = [] && t.dev.tel.ring.tail = 1 &&
      cellAt t.hostMem 0x2000 = some 67) = true ∧
    gives (.telSampleRead 3) (sampler fun t => { t with unread := [3], ring := { t.ring with tail := 16 } }) (fun t =>
      t.dev.tel.unread = [] && t.dev.tel.lostSince = 1 && t.dev.tel.ring.lost = 1 && t.dev.tel.ring.tail = 16) = true := by decide +kernel
theorem witness_trace : run.pfReach false = true ∧ run.domState 45 ≠ .pewter ∧ run.traceOpen 0 = true ∧
    gives (.dbgTraceCtlWrite 1) run (fun t => t.dev.dbg.armed && t.dev.dbg.ctl = 1) = true ∧
    gives (.dbgTraceCtlWrite 0) (run.onDbg fun d => { d with running := true, ctl := 1 }) (fun t => !t.dev.dbg.running && t.dev.dbg.ctl = 0) = true ∧
    gives (.dbgTraceCtlWrite 1) ((evented run).onFuses fun f => { f with lock := true }) (fun t => !t.dev.dbg.armed && t.dev.hst.pfEvt.tail = 1) = true := by decide +kernel
theorem witness_consent : run.reaches 1 0 = true ∧ gives (.regionDbgConsentWrite 1 0 1) run (fun t => (t.region 0).aux.dbgConsent) = true ∧
    gives (.regionDbgConsentWrite 1 0 0) ((run.onRAux 0 fun a => { a with dbgConsent := true }).onDbg fun d => { d with running := true, ctl := 1 }) (fun t =>
      !(t.region 0).aux.dbgConsent && t.dev.dbg.ending) = true ∧
    gives (.regionDbgConsentWrite 0 0 1) run (fun t => !(t.region 0).aux.dbgConsent) = true := by decide +kernel

theorem witness_test_load (p : Instr × Byte)
    (h : p ∈ [(Instr.testLogicReset, (0x01 : Byte)), (.extest, 0x03), (.clamp, 0x04), (.highz, 0x05), (.dbgAccess, 0x10), (.bypass 0xFF, 0xFF)]) :
    (at_ .running).dev.boot.causeRail = false ∧ gives p.1 (at_ .running) (fun t => t.dev.dbg.ir = p.2 && t.dev.boot.stage = .running) = true := by
  revert h p
  decide +kernel
theorem witness_test_in_reset :
    gives .extest ((at_ .reset).onDbg fun d => { d with boundary := 0x600 }) (fun t => t.dev.boot.stage = .reset && t.syncOutBall = .high) = true ∧
    gives .clamp ((at_ .reset).onDbg fun d => { d with boundary := 0x200 }) (fun t => t.dev.boot.stage = .reset && t.syncOutBall = .floats) = true ∧
    gives .highz ((at_ .reset).onDbg fun d => { d with boundary := 0x600 }) (fun t => t.dev.boot.stage = .reset && t.syncOutBall = .floats && t.alertBall = .floats) = true ∧
    gives .testLogicReset ((at_ .reset).onDbg fun d => { d with ir := 0x03 }) (fun t => t.dev.boot.stage = .rom && t.dev.dbg.ir = 1) = true := by decide +kernel
theorem witness_test_read : (at_ .running).dev.boot.stage ≠ .reset ∧
    gives .idcode (at_ .running) (fun t => t.dev.dbg.readAnswer = 0x1AE7056B && t.dev.dbg.ir = 1) = true ∧
    gives (.samplePreload 5) (at_ .running) (fun t => t.dev.dbg.boundary = 5 && t.dev.dbg.ir = 2) = true ∧
    gives (.bypass 0x03) (at_ .running) (fun t => t.dev.dbg.ir = (at_ .running).dev.dbg.ir) = true ∧ namedOpcode 0x03 = true := by decide +kernel

/-- The debug access register is selected. -/
def debugging (f : Fuses → Fuses) : State := ((evented run).onDbg fun d => { d with ir := 0x10 }).onFuses f
theorem witness_debug : (debugging id).debugOpen 0x98 false = true ∧ (debugging id).pfReach true = true ∧
    gives (.dbgAccessUpdate 0x98) ((debugging id).onBoot fun b => { b with imageLen := 0x1234 }) (fun t => t.dev.dbg.access = 0x98 + 0x1234 * 2 ^ 28) = true ∧
    gives (.dbgAccessUpdate (0x4000098 + 0x1234 * 2 ^ 28)) ((debugging id).onAux fun a => { a with slateInForce := false }) (fun t => t.dev.boot.imageLen = 0x1234) = true ∧
    gives (.dbgAccessUpdate 0x4000098) (debugging fun f => { f with lock := true }) (fun t =>
      t.dev.dbg.access = 0x4000098 + 2 ^ 60 && t.dev.hst.pfEvt.tail = 1) = true ∧ debugClosed 0x200000 = true := by decide +kernel

/-! ## Tables and ciphers: published values -/

/-- FIPS-197, C.3: AES-256 of 00112233...EEFF under 000102...1F. -/
theorem test_aes_256 : aesBlock (keySchedule (List.range 32)) ((List.range 16).map (· * 17)) =
    [0x8E, 0xA2, 0xB7, 0xCA, 0x51, 0x67, 0x45, 0xBF, 0xEA, 0xFC, 0x49, 0x90, 0x4B, 0x49, 0x60, 0x89] := by decide +kernel
/-- The spot values of 15 R581. -/
theorem test_tables : fnEntry 40 8 .exp2 128 = 0x16A09E667F4 ∧ fnEntry 40 8 .log2r 0 = 0x171547652B8 ∧ fnEntry 40 9 .recip 512 = 0x8000000000 ∧
    fnEntry 40 9 .rsqrt 512 = 0x8000000000 ∧ sepiaEntry .exp2 64 = 0x5A82799A ∧ sepiaEntry .log2r 0 = 0x5C551D95 := by decide +kernel
/-- CRC-8 of the digits 1 to 9, the check value of the SMBus polynomial. -/
theorem test_pec : pec [0x31, 0x32, 0x33, 0x34, 0x35, 0x36, 0x37, 0x38, 0x39] = 0xF4 := by decide +kernel
end Sys2Proof.Tests
end

section
/-!
SUPPORT. Little-endian fields: what is read back from a structure built of fields.
-/
namespace Sys2Proof.Machine

@[simp] theorem length_leBytes (n v : Nat) : (leBytes n v).length = n := by simp [leBytes]

theorem leBytes_succ (n v : Nat) : leBytes (n + 1) v = BitVec.ofNat 8 v :: leBytes n (v / 256) := by
  simp [leBytes, List.range_succ_eq_map, Nat.pow_succ', Nat.div_div_eq_div_mul]

/-- The number of `n` little-endian bytes is the value's low `n` bytes. -/
theorem leNat_leBytes (n v : Nat) : leNat (leBytes n v) = v % 256 ^ n := by
  induction n generalizing v with
  | zero => simp [leBytes, leNat, Nat.mod_one]
  | succ n ih => rw [leBytes_succ, leNat, ih, Nat.pow_succ', Nat.mod_mul, BitVec.toNat_ofNat]

theorem take_leBytes {m n : Nat} (v : Nat) (h : m ≤ n) : (leBytes n v).take m = leBytes m v := by
  simp [leBytes, ← List.map_take, List.take_range, h]

/-- A field of a structure reads as it was put there, and so do its low bytes. -/
theorem leAt_field {a b : List Byte} {off m n : Nat} (v : Nat) (ha : a.length = off) (hm : m ≤ n) :
    leAt (a ++ (leBytes n v ++ b)) off m = v % 256 ^ m := by
  have slice : (leBytes n v ++ b).take m = leBytes m v := by
    rw [List.take_append_of_le_length (by simpa using hm), take_leBytes v hm]
  simp [leAt, sliceBytes, ← ha, slice, leNat_leBytes]

end Sys2Proof.Machine
end

section
/-!
SUPPORT. Events of a device without stored errors: the writes of their ring entries meet none, so that raising them assigns no fault.
-/
namespace Sys2Proof.Machine

/-- Where memory holds no stored error in `s`, it holds none in `t`, and no fault was assigned on the way. -/
def State.KeepsClean (s t : State) : Prop := s.mem.marks = [] → t.mem.marks = [] ∧ t.dev.faults = s.dev.faults

theorem State.KeepsClean.of_eq {s t : State} (hm : t.mem = s.mem) (hf : t.dev.faults = s.dev.faults) : s.KeepsClean t :=
  fun h => ⟨hm ▸ h, hf⟩

theorem State.KeepsClean.trans {s t u : State} (h : s.KeepsClean t) (k : t.KeepsClean u) : s.KeepsClean u := by
  intro hs
  obtain ⟨ht, hf⟩ := h hs
  obtain ⟨hu, hg⟩ := k ht
  exact ⟨hu, hg.trans hf⟩

theorem State.onSched_clean (s : State) (r : Nat) (f : RegionSched → RegionSched) : s.KeepsClean (s.onSched r f) := .of_eq rfl rfl

/-- A write to memory without stored errors leaves none and meets none. -/
theorem Mem.writeCells_clean (m : Mem) (l : List (Nat × Byte)) (h : m.marks = []) :
    (m.writeCells l).1.marks = [] ∧ (m.writeCells l).2 = none := by
  have marks : ∀ (g : List (Nat × Byte)) (m : Mem), (g.foldl (fun m p => m.write p.1 p.2) m).marks = m.marks := by
    intro g
    induction g with
    | nil => exact fun _ => rfl
    | cons p g ih => exact fun m => ih (m.write p.1 p.2)
  simp [Mem.writeCells, marks, h]

theorem State.countMerged_clean (s : State) (l : List Nat) (h : s.mem.marks = []) : s.countMerged l = s := by
  simp [State.countMerged, State.countCorrected, h]

theorem State.ringStore_clean (s : State) (r v : Nat) (bs : List Byte) :
    s.KeepsClean (s.ringStore r v bs).1 ∧ (s.mem.marks = [] → (s.ringStore r v bs).2 = none) := by
  have stays : s.KeepsClean s := .of_eq rfl rfl
  unfold State.ringStore
  repeat' split
  · exact ⟨stays, fun _ => rfl⟩
  · exact ⟨stays, fun _ => rfl⟩
  · exact ⟨stays, fun _ => rfl⟩
  · exact ⟨stays, fun _ => rfl⟩
  · dsimp only
    refine ⟨fun h => ?_, fun h => ?_⟩
    · rw [State.countMerged_clean _ _ h]
      exact ⟨(Mem.writeCells_clean _ _ h).1, rfl⟩
    · rw [State.countMerged_clean _ _ h]
      exact (Mem.writeCells_clean _ _ h).2

theorem State.regionRingStore_clean (s : State) (r : Nat) (host : Bool) (a : Nat) (bs : List Byte) :
    s.KeepsClean (s.regionRingStore r host a bs).1 ∧ (s.mem.marks = [] → (s.regionRingStore r host a bs).2 = none) := by
  unfold State.regionRingStore
  split
  · refine ⟨?_, fun _ => rfl⟩
    unfold State.hostStore
    split <;> exact .of_eq rfl rfl
  · exact s.ringStore_clean _ _ _

theorem State.trace_clean (s : State) (r kind key queue status value item : Nat) :
    s.KeepsClean (s.trace r kind key queue status value item) := by
  unfold State.trace
  dsimp only
  split <;> exact .of_eq rfl rfl

theorem State.eventPut_clean (s : State) (r kind : Nat) (c : Code) (d : Nat) : s.KeepsClean (s.eventPut r kind c d) := by
  intro h
  unfold State.eventPut
  dsimp only
  split
  · exact ⟨h, rfl⟩
  · split
    · exact ⟨h, rfl⟩
    · obtain ⟨stored, unfailed⟩ := s.regionRingStore_clean r (s.region r).sched.evt.host
        ((s.region r).sched.evt.base.toNat + (s.region r).sched.evt.offset 16) (eventBytes kind c d s.stamp)
      rw [unfailed h]
      exact (((stored.trans (State.onSched_clean _ _ _)).trans (State.trace_clean _ _ _ _ _ _ _ _)).trans (State.onSched_clean _ _ _)) h

theorem State.wmCross_clean (s : State) (r n : Nat) : s.KeepsClean (s.wmCross r n) := by
  unfold State.wmCross
  dsimp only
  split
  · split
    · exact State.onSched_clean _ _ _
    · exact (State.onSched_clean _ _ _).trans (State.eventPut_clean _ _ _ _ _)
  · split <;> exact .of_eq rfl rfl

theorem State.wmStep_clean (s : State) (r n : Nat) : s.KeepsClean (s.wmStep r n) := by
  unfold State.wmStep
  split
  · exact s.wmCross_clean r 1
  · exact (s.wmCross_clean r n).trans (State.wmCross_clean _ r 1)

/-- Events raised where memory holds no stored error assign no fault. -/
theorem State.eventAll_clean (s : State) (rs : List Nat) (kind : Nat) (c : Code) (d : Nat) : s.KeepsClean (s.eventAll rs kind c d) :=
  List.foldlRecOn rs _ (.of_eq (State.pfEvent_mem ..) (State.pfEvent_faults ..))
    fun _ h _ _ => h.trans ((State.eventPut_clean _ _ _ _ _).trans (State.wmStep_clean _ _ _))

end Sys2Proof.Machine
end

section
/-!
SUPPORT. Rincen ports: what changes one port alone, the header that a port sends and takes, and what a declared loss writes.
-/
namespace Sys2Proof.Machine

/-! ## Changes of one port alone -/

theorem onlyPort_refl (s : State) (p : Nat) : OnlyPort s s p := ⟨fun _ _ => rfl, rfl⟩

theorem onlyPort_onPort (s : State) (p : Nat) (f : Port → Port) : OnlyPort s (s.onPort p f) p :=
  ⟨fun _ h => s.port_onPort_other f (Ne.symm h), rfl⟩

theorem onlyPort_trans {s t u : State} {p : Nat} (h : OnlyPort s t p) (k : OnlyPort t u p) : OnlyPort s u p := by
  obtain ⟨hq, ht⟩ := h
  obtain ⟨kq, hu⟩ := k
  refine ⟨fun q hne => (kq q hne).trans (hq q hne), ?_⟩
  rw [hu, ht]

/-- A change of one port alone lies within the mask of an effect. -/
theorem State.effect_of_onlyPort {s : State} {f : State → State} {p : Nat} (h : OnlyPort s (f s) p) : s.effect f = f s := by
  obtain ⟨-, hf⟩ := h
  rw [State.effect, hf]

theorem State.devEffect_of_onlyPort {s : State} {f : State → State} {p : Nat} (h : OnlyPort s (f s) p) : s.devEffect f = f s := by
  obtain ⟨-, hf⟩ := h
  rw [State.devEffect, hf]

theorem portUsed_of_onlyPort {s t : State} {p : Nat} (h : OnlyPort s t p) (q : Nat) : t.portUsed q = s.portUsed q := by
  obtain ⟨-, ht⟩ := h
  rw [ht]
  rfl

/-! ## What an event leaves -/

@[simp] theorem State.assignFault_lnk (s : State) (c : Code) (r : Option Nat) (d : Nat) (x : Option Nat) :
    (s.assignFault c r d x).dev.lnk = s.dev.lnk := by rw [State.assignFault_frame]

@[simp] theorem State.assignFault_body (s : State) (c : Code) (r : Option Nat) (d : Nat) (x : Option Nat) :
    (s.assignFault c r d x).fab.body = s.fab.body := by rw [State.assignFault_frame]

@[simp] theorem State.eventAll_lnk (s : State) (rs : List Nat) (kind : Nat) (c : Code) (d : Nat) :
    (s.eventAll rs kind c d).dev.lnk = s.dev.lnk := by rw [s.eventAll_only rs kind c d]

@[simp] theorem State.eventAll_body (s : State) (rs : List Nat) (kind : Nat) (c : Code) (d : Nat) :
    (s.eventAll rs kind c d).fab.body = s.fab.body := by rw [s.eventAll_only rs kind c d]

theorem State.port_congr {s t : State} (h : t.dev.lnk = s.dev.lnk) (q : Nat) : t.port q = s.port q := by rw [State.port, h, State.port]

/-! ## What an effect on one port gives -/

/-- What a served command gives follows from the device registers of its effect and from what every effect leaves. -/
theorem completes_effect {i : Instr} {s t : State} {c : State → Bool} {f : State → State} {P : State → Prop}
    (run : exec i s = .next (s.effect fun s => s.whenP (c s) f)) (hc : c s = true) (step : f s = t)
    (hP : ∀ u, u.dev = t.dev → s.KeepsStore u → P u) : Completes i s P := by
  refine ⟨_, run, hP _ ?_ ⟨rfl, rfl, rfl⟩⟩
  rw [State.effect_dev, s.whenP_pos f hc, step]

/-- A command that changes one port alone gives what that change gives, under either mask. -/
theorem completes_onPort {i : Instr} {s : State} {c : State → Bool} {f : State → State} {P : State → Prop} {p : Nat}
    (run : exec i s = .next (s.effect fun s => s.whenP (c s) f) ∨ exec i s = .next (s.devEffect fun s => s.whenP (c s) f))
    (hc : c s = true) (only : OnlyPort s (f s) p) (hP : P (f s)) : Completes i s P := by
  have served : s.whenP (c s) f = f s := s.whenP_pos f hc
  rw [← served] at only hP
  rcases run with run | run
  · exact ⟨_, run, by rwa [State.effect_of_onlyPort (f := fun s => s.whenP (c s) f) only]⟩
  · exact ⟨_, run, by rwa [State.devEffect_of_onlyPort (f := fun s => s.whenP (c s) f) only]⟩

/-! ## Training (20 R731, R732) -/

section Training
variable {s : State} {p : PortId} (on : s.portOn p.val = true) (cabled : s.uncabled p.val = false)
  (untrained : (s.port p.val).trained = false) (kept : (s.port p.val).state ≠ .lost)
include on cabled untrained kept

theorem portTrainAttempt_trains : Completes (.portTrainAttempt p true) s fun u =>
    u.port p.val = { s.port p.val with trained := true, state := .training, misses := 0, trainFailRaised := false, rxBits := [], ackBits := [] } ∧
    OnlyPort s u p.val := by
  refine completes_onPort (.inl rfl) (by simp [on, cabled, untrained]) (onlyPort_onPort s p.val _) ⟨?_, onlyPort_onPort s p.val _⟩
  simp [kept]

/-- A failed attempt raises its event once in a sequence of attempts, and events leave the link block. -/
theorem portTrainAttempt_fails : Completes (.portTrainAttempt p false) s fun u =>
    u.port p.val = { s.port p.val with state := .training, trainFailRaised := true } ∧ (∀ q, q ≠ p.val → u.port q = s.port q) ∧
    ((s.port p.val).trainFailRaised = true → OnlyPort s u p.val) ∧ s.KeepsStore u := by
  have guard : (s.portOn p.val && !s.uncabled p.val && !((s.port p.val).trained && (s.port p.val).heard)) = true := by
    simp [on, cabled, untrained]
  by_cases raised : (s.port p.val).trainFailRaised = true
  · refine completes_onPort (.inl rfl) guard (p := p.val) ?_ ?_ <;> simp only [raised, Bool.false_eq_true, if_true, if_false]
    · exact onlyPort_onPort _ _ _
    · exact ⟨by simp [kept, untrained], fun q hq => s.port_onPort_other _ (Ne.symm hq), fun _ => onlyPort_onPort _ _ _, rfl, rfl, rfl⟩
  · refine completes_effect rfl guard (by simp only [raised, Bool.false_eq_true, if_false]; rfl) fun u dev store => ?_
    have lnk := (congrArg Dev.lnk dev).trans (State.eventAll_lnk ..)
    refine ⟨(State.port_congr lnk _).trans ?_, fun q hq => (State.port_congr lnk q).trans ?_, fun h => absurd h raised, store⟩
    · simp [kept, untrained]
    · exact s.port_onPort_other _ (Ne.symm hq)

end Training

/-! ## The header that a port sends (20 R735) -/

/-- A header is 508 bytes and the CRC over them; the first word holds the magic, the second the number of the port's frame. -/
theorem frameHeader_form (s : State) (p : Nat) : ∃ (body rest : List Byte) (w : Nat),
    s.frameHeader p = body ++ leBytes 4 (crc32c body).toNat ∧ body.length = 508 ∧ w % 2 ^ 16 = 0x4C46 ∧
    body = leBytes 4 w ++ (leBytes 4 (s.port p).frame.toNat ++ rest) := by
  refine ⟨_, _, _, rfl, ?_, ?_, by simp only [List.append_assoc]; rfl⟩
  · simp only [List.length_append, length_leBytes, List.length_replicate]
  · omega

theorem length_frameHeader (s : State) (p : Nat) : (s.frameHeader p).length = 512 := by
  obtain ⟨body, rest, w, hh, hlen, -⟩ := frameHeader_form s p
  simp [hh, hlen]

theorem headerValid_frameHeader (s : State) (p : Nat) : headerValid (s.frameHeader p) = true := by
  obtain ⟨body, rest, w, hh, hlen, hw, hbody⟩ := frameHeader_form s p
  have crc : leAt (s.frameHeader p) 508 4 = (crc32c body).toNat := by
    have h := leAt_field (b := []) (m := 4) (n := 4) (crc32c body).toNat hlen (Nat.le_refl 4)
    rw [List.append_nil, ← hh] at h
    rw [h]
    omega
  have magic : leAt (s.frameHeader p) 0 2 = 0x4C46 := by
    rw [hh, hbody, List.append_assoc, ← hw]
    exact leAt_field (a := []) (m := 2) (n := 4) w rfl (by decide)
  have covered : (s.frameHeader p).take 508 = body := by rw [hh, List.take_left' hlen]
  simp [headerValid, crc, magic, covered]

theorem wordAt_frameHeader_one (s : State) (p : Nat) : wordAt (s.frameHeader p) 1 = (s.port p).frame.toNat := by
  obtain ⟨body, rest, w, hh, -, -, hbody⟩ := frameHeader_form s p
  have number := leAt_field (m := 4) (n := 4) (b := rest ++ leBytes 4 (crc32c body).toNat) (s.port p).frame.toNat
    (length_leBytes 4 w) (Nat.le_refl 4)
  simp only [← List.append_assoc] at number hbody
  rw [← hbody, ← hh] at number
  rw [wordAt, number]
  omega

theorem linkFrameStart_sends {s : State} {p : PortId} (on : s.portOn p.val = true) (trained : (s.port p.val).trained = true) :
    Completes (.linkFrameStart p) s fun u =>
      (u.port p.val).frame = (s.port p.val).frame + 1 ∧ headerValid (u.port p.val).header = true ∧ (u.port p.val).header.length = 512 ∧
      wordAt (u.port p.val).header 1 = ((s.port p.val).frame + 1).toNat ∧ (u.port p.val).state = (s.port p.val).state ∧ OnlyPort s u p.val := by
  have only (f g : Port → Port) : OnlyPort s ((s.onPort p.val f).onPort p.val g) p.val :=
    onlyPort_trans (onlyPort_onPort _ _ _) (onlyPort_onPort _ _ _)
  refine completes_onPort (.inr rfl) (by simp [on, trained]) (only _ _) ?_
  simp only [State.port_onPort, headerValid_frameHeader, length_frameHeader, wordAt_frameHeader_one, true_and]
  exact only _ _

/-! ## Headers received (20 R738, R744-R750) -/

/-- Without cells that wait for their acknowledgement, an acknowledgement leaves the port as it is. -/
theorem takeAck_idle (s : State) (p : Nat) (frame : Word) (bits : Nat) (idle : (s.port p).sent = []) :
    (s.takeAck p frame bits).port p = s.port p ∧ OnlyPort s (s.takeAck p frame bits) p := by
  have ack : s.takeAck p frame bits = s.onPort p fun t => { t with sent := t.sent.filter (fun c => !(c.frame = frame && !c.due)) } := by
    simp [State.takeAck, idle]
  rw [ack]
  refine ⟨?_, onlyPort_onPort _ _ _⟩
  rw [State.port_onPort, idle, List.filter_nil, ← idle]

/-- Only the partner of a used port is held against the image. -/
theorem checkPartner_unused (s : State) (p : Nat) (unused : s.portUsed p = false) : s.checkPartner p = s := by
  simp [State.checkPartner, unused]

theorem headerMissed_unheard (s : State) (p : Nat) (unheard : (s.port p).heard = false) : s.headerMissed p = s := by
  simp [State.headerMissed, unheard]

theorem headerMissed_counts (s : State) (p : Nat) (heard : (s.port p).heard = true) (early : (s.port p).misses.toNat < 2) :
    s.headerMissed p = s.onPort p fun t => { t with misses := t.misses + 1 } := by
  simp [State.headerMissed, heard, early]

/-- Before the third miss, a missed header is at most counted. -/
theorem headerMissed_early (s : State) (p : Nat) (early : (s.port p).misses.toNat < 2) :
    (∃ n, (s.headerMissed p).port p = { s.port p with misses := n }) ∧ OnlyPort s (s.headerMissed p) p := by
  by_cases heard : (s.port p).heard = true
  · rw [headerMissed_counts s p heard early]
    exact ⟨⟨_, s.port_onPort p _⟩, onlyPort_onPort s p _⟩
  · rw [headerMissed_unheard s p (by simpa only [Bool.not_eq_true] using heard)]
    exact ⟨⟨_, rfl⟩, onlyPort_refl s p⟩

theorem headerMissed_third (s : State) (p : Nat) (heard : (s.port p).heard = true) (late : 2 ≤ (s.port p).misses.toNat) :
    s.headerMissed p = (s.onPort p fun t => { t with misses := 3 }).declareLoss p := by
  simp [State.headerMissed, heard, Nat.not_lt.2 late]

section Received
variable {s : State} {p : PortId} {h : List Byte} (on : s.portOn p.val = true) (trained : (s.port p.val).trained = true) (whole : h.length = 512)
include on trained whole

theorem linkHeaderReceive_valid (valid : headerValid h = true) (unused : s.portUsed p.val = false) (idle : (s.port p.val).sent = []) :
    Completes (.linkHeaderReceive p h) s fun u =>
      (u.port p.val).misses = 0 ∧ (u.port p.val).rxFrame = BitVec.ofNat 32 (wordAt h 1) ∧
      (u.port p.val).neighbour = BitVec.ofNat 17 (wordAt h 3 % 2 ^ 17) ∧
      (u.port p.val).state = (match (s.port p.val).state with
        | .training => .up | .down => .up | .lost => .returned | x => x) ∧ OnlyPort s u p.val := by
  have taken : OnlyPort s (s.takeHeader p.val h) p.val := onlyPort_onPort _ _ _
  obtain ⟨same, acked⟩ := takeAck_idle (s.takeHeader p.val h) p.val (BitVec.ofNat 32 (wordAt h 2)) (leAt h 32 172)
    (by rw [State.takeHeader, State.port_onPort]; exact idle)
  have only := onlyPort_trans taken acked
  have unchecked := checkPartner_unused _ p.val ((portUsed_of_onlyPort only p.val).trans unused)
  refine completes_onPort (.inl (if_pos whole)) (by simp [on, trained]) (p := p.val) ?_ ?_
  · simpa only [valid, if_true, unchecked] using only
  · simp only [valid, if_true, unchecked, same]
    simp only [State.takeHeader, State.port_onPort, true_and]
    refine ⟨?_, only⟩
    cases (s.port p.val).state <;> rfl

theorem linkHeaderReceive_badCrc (bad : leAt h 508 4 ≠ (crc32c (h.take 508)).toNat) (early : (s.port p.val).misses.toNat < 2) :
    Completes (.linkHeaderReceive p h) s fun u =>
      (u.port p.val).crcFail = satAdd (s.port p.val).crcFail 1 ∧ (u.port p.val).state = (s.port p.val).state ∧ OnlyPort s u p.val := by
  have invalid : headerValid h = false := by simp [headerValid, bad]
  obtain ⟨⟨n, missed⟩, only⟩ := headerMissed_early (s.onPort p.val fun t => { t with crcFail := satAdd t.crcFail 1 }) p.val
    (by rw [State.port_onPort]; exact early)
  have only := onlyPort_trans (onlyPort_onPort s p.val _) only
  refine completes_onPort (.inl (if_pos whole)) (by simp [on, trained]) (p := p.val) ?_ ?_
  · simpa [invalid, bad] using only
  · simp only [invalid, bad, Bool.false_eq_true, if_false, if_true, ne_eq, not_false_eq_true, missed, State.port_onPort, true_and]
    exact only

end Received

/-! ## Live ports (20 R768) -/

theorem portLive_matched {s : State} {p : PortId} (on : s.portOn p.val = true) (running : s.running = true) (used : s.portUsed p.val = true)
    (trained : (s.port p.val).trained = true) (up : (s.port p.val).state = .up) (ready : (s.port p.val).partnerReady = true)
    (agrees : s.partnerMatches p.val = true) :
    Completes (.portLive p) s fun u => u.port p.val = { s.port p.val with state := .live } ∧ OnlyPort s u p.val :=
  completes_onPort (.inl rfl) (by simp [on, running, used, trained, up, ready, agrees]) (onlyPort_onPort _ _ _)
    ⟨by simp, onlyPort_onPort _ _ _⟩

theorem heartbeatMiss_counts {s : State} {p : PortId} (on : s.portOn p.val = true) (heard : (s.port p.val).heard = true)
    (early : (s.port p.val).misses.toNat < 2) : Completes (.heartbeatMiss p) s fun u =>
      u.port p.val = { s.port p.val with misses := (s.port p.val).misses + 1 } ∧ OnlyPort s u p.val := by
  have counted := headerMissed_counts s p.val heard early
  refine completes_onPort (.inl rfl) on (p := p.val) ?_ ?_
  · rw [counted]
    exact onlyPort_onPort _ _ _
  · rw [counted]
    exact ⟨by simp, onlyPort_onPort _ _ _⟩

/-! ## Losses -/

/-- Only the regions' records differ. -/
def State.RegionsOnly (s t : State) : Prop := t = { s with fab := { s.fab with regions := t.fab.regions } }

theorem State.RegionsOnly.refl (s : State) : s.RegionsOnly s := rfl

theorem State.RegionsOnly.trans {s t u : State} (h : s.RegionsOnly t) (k : t.RegionsOnly u) : s.RegionsOnly u := by
  unfold State.RegionsOnly at *
  rw [k, h]

theorem State.retryEnd_regionsOnly (s : State) (k : OpKey) : s.RegionsOnly (s.retryEnd k) := rfl

theorem State.stopBroken_regionsOnly (s : State) (ls : List Nat) (fault : BitVec 16) (r : Nat) : s.RegionsOnly (s.stopBroken ls fault r) := by
  unfold State.stopBroken
  split
  · rfl
  · exact List.foldlRecOn _ _ rfl fun _ h _ _ => h.trans rfl

@[simp] theorem State.breakRoutes_dev (s : State) (ls : List Nat) (fault : BitVec 16) :
    (s.breakRoutes ls fault).dev = { s.dev with lnk := { s.dev.lnk with broken := dedupNat (s.dev.lnk.broken ++ ls) } } := by
  have only : (s.onLnk fun l => { l with broken := dedupNat (l.broken ++ ls) }).RegionsOnly (s.breakRoutes ls fault) :=
    List.foldlRecOn _ _ rfl fun _ h _ _ => h.trans (State.stopBroken_regionsOnly _ _ _ _)
  rw [only]
  rfl

/-- Beside the retries that it ends, an abandoned port forgets its cells. -/
theorem State.abandonResends_form (s : State) (p : Nat) :
    ∃ t, s.RegionsOnly t ∧ s.abandonResends p = t.onPort p fun t => { t with sent := [] } := by
  refine ⟨_, List.foldlRecOn _ _ (State.RegionsOnly.refl s) fun t h c _ => ?_, rfl⟩
  split
  · exact h.trans (State.retryEnd_regionsOnly _ _)
  · exact h

@[simp] theorem State.abandonResends_dev (s : State) (p : Nat) :
    (s.abandonResends p).dev = (s.onPort p fun t => { t with sent := [] }).dev := by
  obtain ⟨t, ht, h⟩ := s.abandonResends_form p
  rw [h, ht]
  rfl

@[simp] theorem State.abandonResends_body (s : State) (p : Nat) : (s.abandonResends p).fab.body = s.fab.body := by
  obtain ⟨t, ht, h⟩ := s.abandonResends_form p
  rw [h, ht]
  rfl

/-- The lost port keeps its counters, and nothing waits there. -/
theorem State.declareLoss_port (s : State) (p : Nat) :
    (s.declareLoss p).port p = { s.port p with state := .lost, partnerReady := false, partnerHeld := false, sent := [] } := by
  simp [State.declareLoss, State.sendNotice, State.port]

theorem State.declareLoss_notices (s : State) (p : Nat) :
    (s.declareLoss p).dev.lnk.notices = s.dev.lnk.notices ++ [(s.package, p)] := by
  simp [State.declareLoss, State.sendNotice, State.package]

theorem State.declareLoss_lossFault (s : State) (p : Nat) : Tab.get 0 (s.declareLoss p).dev.lnk.lossFault p = s.dev.faults.next := by
  simp [State.declareLoss, State.sendNotice]

/-- One fault is assigned, where the loss's events meet no stored error. -/
theorem State.declareLoss_count (s : State) (p : Nat) (clean : s.mem.marks = []) :
    (s.declareLoss p).dev.faults.count = satAdd s.dev.faults.count 1 := by
  obtain ⟨-, told⟩ := State.eventAll_clean (s.assignFault Codes.PARTNER_LOST none 0 none)
    ((s.assignFault Codes.PARTNER_LOST none 0 none).portRegions p) 6 Codes.PARTNER_LOST
    ((s.assignFault Codes.PARTNER_LOST none 0 none).linkDetailWord p 0) (by rwa [State.assignFault_mem])
  simp [State.declareLoss, State.sendNotice, told]

theorem heartbeatMiss_third {s : State} {p : PortId} (on : s.portOn p.val = true) (heard : (s.port p.val).heard = true)
    (late : 2 ≤ (s.port p.val).misses.toNat) : Completes (.heartbeatMiss p) s fun u =>
      (u.port p.val).state = .lost ∧ (u.port p.val).sent = [] ∧ (s.package, p.val) ∈ u.dev.lnk.notices ∧
      (s.mem.marks = [] → u.dev.faults.count = satAdd s.dev.faults.count 1) ∧ Tab.get 0 u.dev.lnk.lossFault p.val = s.dev.faults.next ∧
      s.KeepsStore u := by
  have lost := headerMissed_third s p.val heard late
  refine completes_effect rfl on lost fun u dev store => ?_
  have port := State.port_congr (congrArg Dev.lnk dev) p.val
  rw [State.declareLoss_port] at port
  rw [port, dev, State.declareLoss_notices, State.declareLoss_lossFault]
  have count := State.declareLoss_count (s.onPort p.val fun t => { t with misses := 3 }) p.val
  exact ⟨rfl, rfl, List.mem_append_right _ (List.mem_singleton_self _), count, rfl, store⟩

end Sys2Proof.Machine
end

section
/-!
CERTIFICATE. What Rincen ports do while they train, beat, go live and lose their partner.
-/
namespace Sys2Proof.Machine

/-- Settles O44: one lemma for each command of a port; the loss rests on the assignment of one fault and on events that, without stored
errors, assign none. -/
theorem portsTrainBeatAndGoLive : Obligations.PortsTrainBeatAndGoLive := by
  intro s p h on
  refine ⟨portTrainAttempt_trains on, portTrainAttempt_fails on, linkFrameStart_sends on, ?_, ?_, ?_, heartbeatMiss_counts on, heartbeatMiss_third on⟩
  · exact linkHeaderReceive_valid on
  · exact linkHeaderReceive_badCrc on
  · exact portLive_matched on

end Sys2Proof.Machine
end

section
/-!
SUPPORT. What an assigned fault and raised events leave of clocks and sites, and what a command gives whose effect is known.
-/
namespace Sys2Proof.Machine

theorem Tab.mem_set {α : Type} (t : Tab α) (k : Nat) (v : α) : (k, v) ∈ Tab.set t k v := by
  induction t with
  | nil => simp [Tab.set]
  | cons e t ih =>
    obtain ⟨j, a⟩ := e
    unfold Tab.set
    repeat' split
    · exact List.mem_cons_self
    · exact List.mem_cons_self
    · exact List.mem_cons_of_mem _ ih

/-- The log holds an entry of the code that was assigned last. -/
theorem State.assignFault_logged (s : State) (c : Code) (r : Option Nat) (d : Nat) (x : Option Nat) :
    (s.assignFault c r d x).dev.faults.log.any (fun e => e.2.code == c) = true := by
  have logged : ∃ k e, e.code = c ∧ (s.assignFault c r d x).dev.faults.log = Tab.set s.dev.faults.log k e := by
    cases r <;> exact ⟨_, _, rfl, rfl⟩
  obtain ⟨k, e, code, log⟩ := logged
  rw [log, List.any_eq_true]
  exact ⟨(k, e), Tab.mem_set _ _ _, by simp [code]⟩

@[simp] theorem State.assignFault_clk (s : State) (c : Code) (r : Option Nat) (d : Nat) (x : Option Nat) :
    (s.assignFault c r d x).dev.clk = s.dev.clk := by rw [State.assignFault_frame]

@[simp] theorem State.assignFault_stamp (s : State) (c : Code) (r : Option Nat) (d : Nat) (x : Option Nat) :
    (s.assignFault c r d x).stamp = s.stamp := by
  rw [State.assignFault_frame]
  rfl

@[simp] theorem State.assignFault_site (s : State) (c : Code) (r : Option Nat) (d : Nat) (x : Option Nat) (k : Nat) :
    (s.assignFault c r d x).site k = s.site k := by
  rw [State.assignFault_frame]
  rfl

@[simp] theorem State.eventAll_clk (s : State) (rs : List Nat) (kind : Nat) (c : Code) (d : Nat) :
    (s.eventAll rs kind c d).dev.clk = s.dev.clk := by rw [s.eventAll_only rs kind c d]

@[simp] theorem State.eventAll_site (s : State) (rs : List Nat) (kind : Nat) (c : Code) (d k : Nat) :
    (s.eventAll rs kind c d).site k = s.site k := by
  rw [s.eventAll_only rs kind c d]
  rfl

theorem State.RegionsOnly.site {s t : State} (h : s.RegionsOnly t) (k : Nat) : t.site k = s.site k := by
  rw [h]
  rfl

/-- What a command gives holds of the registers and memories that its effect leaves. -/
theorem completes_of_effect {i : Instr} {s t : State} {f : State → State} {P : State → Prop}
    (run : exec i s = .next (s.effect f)) (step : f s = t) (given : P (s.effect fun _ => t)) : Completes i s P := by
  subst step
  exact ⟨_, run, given⟩

/-- What a command of the hub gives holds of the registers that its effect leaves. -/
theorem completes_of_devEffect {i : Instr} {s t : State} {f : State → State} {P : State → Prop}
    (run : exec i s = .next (s.devEffect f)) (step : f s = t) (given : P (s.devEffect fun _ => t)) : Completes i s P := by
  subst step
  exact ⟨_, run, given⟩

end Sys2Proof.Machine
end

section
/-!
SUPPORT. What the end of operations and the closing of their domains write.
-/
namespace Sys2Proof.Machine

/-- `t` differs from `s` by what ending operations and closing their domains write and by nothing else: bytes, rings and interrupt sources,
the trace, the fault log, packets of freed threads, the domains' records, and the records of regions, sites, memory dies and copy engines. -/
def State.EndingOnly (s t : State) : Prop :=
  t = { s with mem := t.mem, hostMem := t.hostMem, free := t.free
               dev := { s.dev with hst := { s.dev.hst with pfEvt := t.dev.hst.pfEvt, pfIrq := t.dev.hst.pfIrq }
                                   dbg := t.dev.dbg, faults := t.dev.faults
                                   noc := { s.dev.noc with queues := t.dev.noc.queues, deferred := t.dev.noc.deferred }
                                   pwr := { s.dev.pwr with domains := t.dev.pwr.domains } }
               fab := { s.fab with regions := t.fab.regions, sites := t.fab.sites, memDies := t.fab.memDies, engines := t.fab.engines } }

theorem State.EndingOnly.refl (s : State) : s.EndingOnly s := rfl

theorem State.EndingOnly.trans {s t u : State} (h : s.EndingOnly t) (k : t.EndingOnly u) : s.EndingOnly u := by
  unfold State.EndingOnly at *
  rw [k, h]

theorem State.EventOnly.ending {s t : State} (h : s.EventOnly t) : s.EndingOnly t := by
  unfold State.EndingOnly
  rw [h]

theorem State.EndingOnly.foldl {α : Type} {f : State → α → State} (step : ∀ (s : State) (a : α), s.EndingOnly (f s a))
    (l : List α) (s : State) : s.EndingOnly (l.foldl f s) :=
  List.foldlRecOn l f (.refl s) fun t h a _ => h.trans (step t a)

theorem State.EndingOnly.clk {s t : State} (h : s.EndingOnly t) : t.dev.clk = s.dev.clk := by rw [h]

theorem State.EndingOnly.noc {s t : State} (h : s.EndingOnly t) : ∃ q d, t.dev.noc = { s.dev.noc with queues := q, deferred := d } :=
  ⟨_, _, congrArg (·.dev.noc) h⟩

theorem State.EndingOnly.pwr {s t : State} (h : s.EndingOnly t) : ∃ d, t.dev.pwr = { s.dev.pwr with domains := d } :=
  ⟨_, congrArg (·.dev.pwr) h⟩

theorem State.onSched_ending (s : State) (r : Nat) (f : RegionSched → RegionSched) : s.EndingOnly (s.onSched r f) := rfl

theorem State.onSite_ending (s : State) (k : Nat) (f : Site → Site) : s.EndingOnly (s.onSite k f) := rfl

theorem State.memFault_only (s : State) (r a : Nat) : s.EventOnly (s.memFault r a) :=
  (s.memCount_only r a).trans (State.eventAll_only _ _ _ _ _)

theorem State.ringPut_only (s : State) (r : Nat) (host : Bool) (a : Nat) (bs : List Byte) : s.EventOnly (s.ringPut r host a bs) := by
  have stored := s.regionRingStore_only r host a bs
  unfold State.ringPut
  extract_lets written
  split
  · exact stored.trans (State.memFault_only _ _ _)
  · exact stored

theorem State.wmPass_only (s : State) (r : Nat) : s.EventOnly (s.wmPass r) :=
  (s.wmStep_only r 0).trans (State.wmStep_only _ r 2)

theorem State.countEnded_only (s : State) (id : BitVec 16) : s.EventOnly (s.countEnded id) := by
  unfold State.countEnded
  extract_lets entry
  split <;> rfl

theorem State.digestPut_only (s : State) (r : Nat) (sl : Slot) (status : Code) (mark : Bool) (fold n : Nat) :
    s.EventOnly (s.digestPut r sl status mark fold n) := by
  unfold State.digestPut
  extract_lets ring
  split
  · rfl
  · split
    · rfl
    · exact (s.ringPut_only r _ _ _).trans rfl

theorem State.recordPut_only (s : State) (r : Nat) (sl : Slot) (status : Code) (result : Word) (fault : BitVec 16) :
    s.EventOnly (s.recordPut r sl status result fault) :=
  (s.ringPut_only r _ _ _).trans rfl

theorem State.putDue_only (s : State) (r : Nat) (d : Due) : s.EventOnly (s.putDue r d) := by
  unfold State.putDue
  extract_lets entered
  have entry : s.EventOnly entered := by
    unfold entered
    split
    · exact s.digestPut_only ..
    · exact .refl s
  split
  · exact (entry.trans (State.recordPut_only ..)).trans (State.wmPass_only _ r)
  · exact entry

theorem State.flushDues_ending (s : State) (r : Nat) : s.EndingOnly (s.flushDues r) :=
  (s.onSched_ending r _).trans
    (.foldl (fun s d => (s.putDue_only r d).ending) _ _)

theorem State.closeAnneal_ending (s : State) (r q : Nat) (seq : Word) (status : Code) : s.EndingOnly (s.closeAnneal r q seq status) := by
  unfold State.closeAnneal State.bumpSums
  repeat' split
  all_goals rfl

theorem State.doneUpdate_ending (s : State) (r : Nat) (sl : Slot) : s.EndingOnly (s.doneUpdate r sl) := by
  unfold State.doneUpdate
  split <;> rfl

theorem State.countMatrix_ending (s : State) (sl : Slot) (status : Code) : s.EndingOnly (s.countMatrix sl status) := by
  unfold State.countMatrix
  split <;> rfl

theorem State.freeThreads_ending (s : State) (ts : List (Nat × Nat)) : s.EndingOnly (s.freeThreads ts) :=
  (State.EndingOnly.foldl (fun s _ => s.onSite_ending _ _) ts s).trans rfl

theorem State.releaseUnits_ending (s : State) (r : Nat) (sl : Slot) : s.EndingOnly (s.releaseUnits r sl) := by
  unfold State.releaseUnits
  extract_lets key freed left
  have threads : s.EndingOnly freed := by
    unfold freed
    split
    · exact s.freeThreads_ending _
    · exact .refl s
  have spins : s.EndingOnly left := by
    unfold left
    split
    · exact threads.trans (.foldl (fun s _ => s.onSite_ending _ _) _ _)
    · exact threads
  split
  · exact spins.trans (State.onSite_ending _ _ _)
  · exact spins

theorem State.stopGroup_ending (s : State) (r : Nat) (sl : Slot) (fault : BitVec 16) : s.EndingOnly (s.stopGroup r sl fault) := by
  unfold State.stopGroup
  split
  · split
    · refine .foldl (fun s m => ?_) _ s
      split <;> rfl
    · rfl
  · rfl

theorem State.onEngine_ending (s : State) (die e : Nat) (f : CopyEngine → CopyEngine) : s.EndingOnly (s.onEngine die e f) := by
  unfold State.onEngine
  split <;> rfl

theorem State.finish_ending (s : State) (r q : Nat) (seq : Word) (status : Code) (result : Word) (fault : BitVec 16) :
    s.EndingOnly (s.finish r q seq status result fault) := by
  unfold State.finish State.finishMark
  extract_lets closed
  have closing : s.EndingOnly closed := (s.onSched_ending r _).trans (State.closeAnneal_ending ..)
  split
  · exact closing
  · next sl _ =>
    extract_lets result owed counted kept here traced released engines ended
    have owing : s.EndingOnly owed := (closing.trans (State.doneUpdate_ending _ r sl)).trans (State.onSched_ending _ r _)
    have counting : s.EndingOnly counted := (owing.trans (owed.countEnded_only fault).ending).trans (State.countMatrix_ending _ sl status)
    have tracing : s.EndingOnly traced := (counting.trans (State.onSched_ending _ r _)).trans (State.trace_only ..).ending
    have releasing : s.EndingOnly released := tracing.trans (traced.releaseUnits_ending r sl)
    have enginesEnding : s.EndingOnly engines := by
      unfold engines
      split
      · exact releasing.trans (State.onEngine_ending ..)
      · exact releasing
    have stopping : s.EndingOnly ended := (enginesEnding.trans (State.onSched_ending _ r _)).trans (State.stopGroup_ending ..)
    exact stopping.trans (ended.wmPass_only r).ending

theorem State.finishAll_ending (s : State) (r : Nat) (l : List Slot) (status : Code) (fault : BitVec 16) :
    s.EndingOnly (s.finishAll r l status fault) := by
  unfold State.finishAll
  refine State.EndingOnly.trans (.foldl (fun s sl => ?_) _ s) (State.flushDues_ending _ r)
  exact s.finish_ending r sl.op.queue sl.op.seq status 0 fault

theorem State.evacuate_ending (s : State) (r : Nat) (code : Code) (fault : BitVec 16) : s.EndingOnly (s.evacuate r code fault) := by
  unfold State.evacuate
  extract_lets ended closed
  have ending : s.EndingOnly ended := s.finishAll_ending r _ code fault
  have closing : s.EndingOnly closed := by
    refine ending.trans (.foldl (fun s n => ?_) _ ended)
    split <;> rfl
  exact closing.trans (closed.onSched_ending r _)

theorem State.evacuateLost_ending (s : State) : s.EndingOnly s.evacuateLost := by
  refine .foldl (fun s m => ?_) _ s
  split
  · exact .foldl (fun s r => s.evacuate_ending r _ _) _ s
  · exact .refl s

end Sys2Proof.Machine
end

section
/-!
SUPPORT. The beginning of a frame (07 R221, R222; 03 R84; 04 R117, R129).
-/
namespace Sys2Proof.Machine

/-- Whether the frame is held is noted in the network block alone. -/
theorem State.setHeld_dev (s : State) :
    ∃ h l n, s.setHeld.dev = { s.dev with noc := { s.dev.noc with held := h, heldLog := l, heldCount := n } } := by
  have disturbed (t : State) : t.RegionsOnly (s.regionIds.foldl (fun s r => s.disturbAll r) t) :=
    List.foldlRecOn _ _ (.refl t) fun _ h _ _ => h.trans rfl
  unfold State.setHeld
  extract_lets held log noted
  refine ⟨noted.dev.noc.held, noted.dev.noc.heldLog, noted.dev.noc.heldCount, ?_⟩
  split
  · rw [disturbed noted]
    rfl
  · rfl

/-- The sensor that a reading stands for is its place in the list. -/
theorem Tab.get_zipIdx {α : Type} (d : α) (l : List α) (n i : Nat) :
    Tab.get d ((l.zipIdx n).map fun q => (q.2, q.1)) (n + i) = l.getD i d := by
  induction l generalizing n i with
  | nil => rfl
  | cons a l ih =>
    cases i with
    | zero => simp [Tab.get]
    | succ i =>
      have later := ih (n + 1) i
      rw [Nat.add_right_comm] at later
      simpa [Tab.get, Nat.add_assoc] using later

/-- No reading of the list is above the value of the pair, which is that of the sensor beside it. -/
structure GreatestOf (l : List (BitVec 10)) (b : Nat × Nat) : Prop where
  above : ∀ x ∈ l, x.toNat ≤ b.1
  shown : (l.getD b.2 0).toNat = b.1
  within : b.2 ≤ l.length - 1

theorem GreatestOf.empty : GreatestOf [] (0, 0) := ⟨nofun, rfl, Nat.le_refl 0⟩

theorem getD_append_left {α : Type} {l : List α} {i : Nat} (m : List α) (d : α) (inside : i < l.length) : (l ++ m).getD i d = l.getD i d := by
  rw [List.getD_eq_getElem?_getD, List.getElem?_append_left inside, List.getD_eq_getElem?_getD]

/-- One more reading is the greatest where it is above those before it. -/
theorem GreatestOf.concat {l : List (BitVec 10)} {b : Nat × Nat} (h : GreatestOf l b) (x : BitVec 10) :
    GreatestOf (l ++ [x]) (if b.1 < x.toNat then (x.toNat, l.length) else b) := by
  obtain ⟨above, shown, within⟩ := h
  have both (v : Nat) (old : ∀ y ∈ l, y.toNat ≤ v) (new : x.toNat ≤ v) : ∀ y ∈ l ++ [x], y.toNat ≤ v := by
    intro y hy
    rcases List.mem_append.1 hy with hy | hy
    · exact old y hy
    · exact List.mem_singleton.1 hy ▸ new
  split
  · next hotter =>
    have old (y : BitVec 10) (hy : y ∈ l) : y.toNat ≤ x.toNat := Nat.le_trans (above y hy) (Nat.le_of_lt hotter)
    exact ⟨both _ old (Nat.le_refl _), by simp, by simp⟩
  · next cooler =>
    have new := Nat.not_lt.1 cooler
    refine ⟨both _ above new, ?_, ?_⟩
    · cases l with
      | nil =>
        have first : b.2 = 0 := Nat.eq_zero_of_le_zero within
        have zero : b.1 = 0 := shown.symm
        rw [zero] at new
        rw [first, zero]
        exact Nat.eq_zero_of_le_zero new
      | cons y l => exact (congrArg BitVec.toNat (getD_append_left [x] 0 (Nat.lt_succ_of_le within))).trans shown
    · rw [List.length_append, List.length_singleton]
      omega

theorem GreatestOf.foldl (l : List (BitVec 10)) {p : List (BitVec 10)} {b : Nat × Nat} (h : GreatestOf p b) :
    GreatestOf (p ++ l) ((l.zipIdx p.length).foldl (fun b q => if b.1 < q.1.toNat then (q.1.toNat, q.2) else b) b) := by
  induction l generalizing p b with
  | nil => rwa [List.append_nil]
  | cons x l ih =>
    have later := ih (h.concat x)
    rwa [List.append_assoc, List.length_append] at later

theorem greatestOf_hottestOf (l : List (BitVec 10)) : GreatestOf l (hottestOf l) := GreatestOf.empty.foldl l

/-- What the beginning of a frame writes to the clock, network and power blocks. -/
theorem State.frameStart_blocks (s : State) (temps : List (BitVec 10)) (inputPower avgMv lowMv : BitVec 16) {u : State}
    (begun : s.frameStart temps inputPower avgMv lowMv = u) :
    u.dev.clk = { s.dev.clk with trim := s.dev.clk.trimPending.getD s.dev.clk.trim, trimPending := none } ∧
    (∃ h l n e q d, u.dev.noc = { s.dev.noc with
      frame := if s.dev.noc.counting then s.dev.noc.frame + 1 else s.dev.noc.frame
      bootFrame := if s.dev.noc.counting then s.dev.noc.bootFrame else s.dev.noc.bootFrame + 1
      frameTick := s.dev.clk.tick, held := h, heldLog := l, heldCount := n, linkErr := e, queues := q, deferred := d }) ∧
    (∃ g d, u.dev.pwr = { s.dev.pwr with
      sensors := temps.zipIdx.map (fun q => (q.2, q.1))
      hottest := BitVec.ofNat 10 (hottestOf temps).1, hottestId := BitVec.ofNat 6 (hottestOf temps).2
      inputPower := inputPower, avgRail := avgMv, droopGoodFrames := g, domains := d }) := by
  subst begun
  unfold State.frameStart
  extract_lets hottest counted cleared trimmed shown
  obtain ⟨errors, clearing⟩ : ∃ e, cleared.dev = { counted.dev with noc := { counted.dev.noc with linkErr := e } } := by
    unfold cleared
    split <;> exact ⟨_, rfl⟩
  have clk : shown.dev.clk = { cleared.dev.clk with
    trim := cleared.dev.clk.trimPending.getD cleared.dev.clk.trim, trimPending := none } := rfl
  have noc : shown.dev.noc = cleared.dev.noc := rfl
  have pwr : shown.dev.pwr = { cleared.dev.pwr with
    sensors := temps.zipIdx.map (fun q => (q.2, q.1)), hottest := BitVec.ofNat 10 hottest.1, hottestId := BitVec.ofNat 6 hottest.2
    inputPower := inputPower, avgRail := avgMv, droopGoodFrames := shown.dev.pwr.droopGoodFrames, domains := shown.dev.pwr.domains } := rfl
  obtain ⟨held, log, count, holding⟩ := shown.setHeld_dev
  have ended := shown.setHeld.evacuateLost_ending
  obtain ⟨queues, deferred, left⟩ := ended.noc
  obtain ⟨domains, closed⟩ := ended.pwr
  refine ⟨?_, ⟨held, log, count, errors, queues, deferred, ?_⟩, ⟨shown.dev.pwr.droopGoodFrames, domains, ?_⟩⟩
  · rw [ended.clk, holding, clk, clearing]
    rfl
  · rw [left, holding, noc, clearing]
    rfl
  · rw [closed, holding, pwr, clearing]
    rfl

/-- Of readings that fill the sensors' registers, the one shown as the hottest is above none, and its sensor is shown with it. -/
theorem hottest_shown {temps : List (BitVec 10)} (whole : temps.length = 46) :
    (∀ i, i < 46 → (temps.getD i 0).toNat ≤ (BitVec.ofNat 10 (hottestOf temps).1).toNat) ∧
    temps.getD (BitVec.ofNat 6 (hottestOf temps).2).toNat 0 = BitVec.ofNat 10 (hottestOf temps).1 := by
  obtain ⟨above, shown, within⟩ := greatestOf_hottestOf temps
  have sensor : (BitVec.ofNat 6 (hottestOf temps).2).toNat = (hottestOf temps).2 := by
    rw [BitVec.toNat_ofNat]
    omega
  have reading : BitVec.ofNat 10 (hottestOf temps).1 = temps.getD (hottestOf temps).2 0 := by
    rw [← shown, BitVec.ofNat_toNat, BitVec.setWidth_eq]
  rw [sensor, reading, shown]
  refine ⟨fun i hi => ?_, rfl⟩
  have listed : i < temps.length := whole ▸ hi
  rw [List.getD_eq_getElem?_getD, List.getElem?_eq_getElem listed]
  exact above _ (List.getElem_mem listed)

theorem frameBoundary_startsFrame : FrameBoundaryStartsFrame := by
  intro s temps watts reads whole on
  refine completes_effect (if_neg (· whole)) (by simpa using on) rfl fun t dev store => ?_
  obtain ⟨clk, ⟨h, l, n, e, q, d, noc⟩, g, doms, pwr⟩ := State.frameStart_blocks _ temps watts reads.avgMv reads.lowMv rfl
  obtain ⟨above, shown⟩ := hottest_shown whole
  rw [dev, clk, noc, pwr]
  have sensors (i : Nat) : Tab.get 0 (temps.zipIdx.map fun q => (q.2, q.1)) i = temps.getD i 0 := by
    simpa using Tab.get_zipIdx 0 temps 0 i
  exact ⟨rfl, fun c => by simp [c], fun c => by simp [c], rfl, rfl, rfl, fun i hi => ⟨sensors i, above i hi⟩, shown, rfl, rfl, rfl, store⟩

end Sys2Proof.Machine
end

section
/-!
SUPPORT. Faults of the clocks (03 R84-R86).
-/
namespace Sys2Proof.Machine

/-! ## The resonators (03 R84, R85) -/

theorem resonatorCheck_disagrees {s : State} (powered : s.powered = true) (first : s.dev.clk.resFault = false) :
    Completes (.resonatorCheck true) s fun t =>
      t.dev.clk.resFault = true ∧ t.dev.aux.fabricStopped = true ∧ t.dev.faults.count = satAdd s.dev.faults.count 1 ∧
      t.dev.faults.next = nextFaultId s.dev.faults.next ∧ (t.dev.faults.log.any (fun e => e.2.code == Codes.RES_FAULT)) = true ∧
      t.dev.clk.tick = s.dev.clk.tick ∧ t.mem = s.mem ∧ s.KeepsStore t := by
  refine completes_of_effect rfl (s.whenP_pos _ (by simp [powered, first])) ?_
  have logged := s.assignFault_logged Codes.RES_FAULT none 0 none
  refine ⟨rfl, rfl, ?_, ?_, ?_, ?_, ?_, rfl, rfl, rfl⟩ <;> simp [State.stopFabric, logged]

theorem resonatorCheck_agrees (s : State) : exec (.resonatorCheck false) s = .next s := rfl

theorem resonatorCalibration_waits {s : State} {step : BitVec 16} (powered : s.powered = true) (on : s.dev.boot.stage ≠ .reset)
    (idle : s.dev.clk.trimPending = none) (free : s.bgFree 0 12 s.slot = true) (low : -50 ≤ step.toInt) (high : step.toInt ≤ 50) :
    Completes (.resonatorCalibration step) s fun t =>
      t = { s with dev := { s.dev with clk := { s.dev.clk with trimPending := some (s.dev.clk.trim + step) }
                                       noc := (s.bgServed 0 12 .calibration).dev.noc } } :=
  completes_of_devEffect rfl (s.whenP_pos _ (by simp [powered, on, idle, free, low, high])) rfl

/-! ## The loss of a site's island (03 R86) -/

/-- The state in which the events of a lost island are raised, but for the operations that it ends: the fault is assigned, the loss counted, and
the site out of service. -/
def State.islandOut (s : State) (n key : Nat) : State :=
  ((s.assignFault Codes.ISLAND_LOCK_LOST (s.islandRegion n true key) (key / 256) (some (key % 256))).onClk fun c =>
    { c with lockLost := true, lostCount := satAdd c.lostCount 1, unlocked := (n, some key) :: c.unlocked }).onSite key fun x =>
    { x with island := some (x.island.getD { code := Codes.ISLAND_LOCK_LOST, faultId := s.dev.faults.next, tick := s.stamp }) }

/-- Beside its events, the loss of a site's island ends operations, which changes the regions' records alone. -/
theorem State.loseIsland_site (s : State) (n key : Nat) : ∃ t rs kind detail,
    (s.islandOut n key).RegionsOnly t ∧ s.loseIsland n true key = t.eventAll rs kind Codes.ISLAND_LOCK_LOST detail := by
  unfold State.loseIsland
  extract_lets region site assigned id out noted keys lost engines ended
  have outOfService : out = { code := Codes.ISLAND_LOCK_LOST, faultId := s.dev.faults.next, tick := s.stamp } := by
    simp [out, id, assigned]
  have same : engines = s.islandOut n key := by
    rw [State.islandOut, ← outOfService]
    exact if_neg (by simp)
  refine ⟨ended, _, _, _, ?_, rfl⟩
  rw [← same]
  refine List.foldlRecOn _ _ (.refl engines) fun t h r _ => h.trans ?_
  exact List.foldlRecOn _ _ (.refl t) fun _ k _ _ => k.trans rfl

theorem State.islandOut_site (s : State) (n key : Nat) : ((s.islandOut n key).site key).island =
    some ((s.site key).island.getD { code := Codes.ISLAND_LOCK_LOST, faultId := s.dev.faults.next, tick := s.stamp }) := by
  rw [State.islandOut, State.site_onSite]
  exact congrArg (fun x : Site => some (x.island.getD _)) (State.assignFault_site ..)

theorem State.islandOut_clk (s : State) (n key : Nat) : (s.islandOut n key).dev.clk =
    { s.dev.clk with lockLost := true, lostCount := satAdd s.dev.clk.lostCount 1, unlocked := (n, some key) :: s.dev.clk.unlocked } := by
  simp [State.islandOut]

theorem islandLockLost_site {s : State} (dom : BitVec 6) {x : SiteRef} (on : s.dev.boot.stage ≠ .reset)
    (ivory : s.ivory (s.siteDomain x.die.val x.site.val) = true) (running : (s.site (siteRefKey x)).island = none) :
    Completes (.islandLockLost dom true x) s fun t =>
      (t.site (siteRefKey x)).island = some { code := Codes.ISLAND_LOCK_LOST, faultId := s.dev.faults.next, tick := s.stamp } ∧
      t.dev.clk.lockLost = true ∧ t.dev.clk.lostCount = satAdd s.dev.clk.lostCount 1 ∧
      (s.mem.marks = [] → t.dev.faults.count = satAdd s.dev.faults.count 1) ∧ s.KeepsStore t := by
  obtain ⟨t, rs, kind, detail, ended, lost⟩ := s.loseIsland_site (s.siteDomain x.die.val x.site.val) (siteRefKey x)
  refine completes_of_effect rfl ((s.whenP_pos _ (by simp [on, ivory])).trans lost) ?_
  have clk : (t.eventAll rs kind Codes.ISLAND_LOCK_LOST detail).dev.clk = _ := (State.eventAll_clk ..).trans (congrArg (·.dev.clk) ended)
  have site := (State.eventAll_site t rs kind Codes.ISLAND_LOCK_LOST detail (siteRefKey x)).trans (ended.site _)
  refine ⟨?_, ?_, ?_, fun clean => ?_, rfl, rfl, rfl⟩
  · refine (congrArg Site.island site).trans ?_
    rw [State.islandOut_site, running]
    rfl
  · rw [State.effect_dev, clk, State.islandOut_clk]
  · rw [State.effect_dev, clk, State.islandOut_clk]
  · obtain ⟨-, told⟩ := State.eventAll_clean t rs kind Codes.ISLAND_LOCK_LOST detail (by rw [ended]; simpa [State.islandOut] using clean)
    rw [State.effect_dev, told, ended]
    simp [State.islandOut]

end Sys2Proof.Machine
end

section
/-!
CERTIFICATE. The passing of an idle hub tick, the faults of the clocks, and the beginning of a frame.
-/
namespace Sys2Proof.Machine

/-- Settles O2: an idle step is the hub tick, of which `hubTick_form` says everything. -/
theorem emptyQueueStepIsOneTick : Obligations.EmptyQueueStepIsOneTick := by
  intro s idle
  have ticks : step s = .next (hubTick s) := by rw [step, idle]
  refine ⟨hubTick s, ticks, ?_⟩
  rw [hubTick_form]
  exact ⟨rfl, rfl⟩

/-- Settles O13: one lemma for each command of the clocks; a frame boundary evacuates regions too, which leaves what the frame began with. -/
theorem clockFaultsAndFrames : Obligations.ClockFaultsAndFrames :=
  ⟨fun s _ dom _ => ⟨resonatorCheck_disagrees, resonatorCheck_agrees s, resonatorCalibration_waits, islandLockLost_site dom⟩,
    frameBoundary_startsFrame⟩

end Sys2Proof.Machine
end

section
/-!
SUPPORT. Power domains: what an effect leaves, what changes one domain alone, what entering a state writes, and what a cleared scratchpad
reads (04 R94-R96).
-/
namespace Sys2Proof.Machine

/-! ## What an effect leaves -/

/-- No effect on registers and memories changes the store. -/
theorem State.effect_keepsStore (s : State) (f : State → State) : s.KeepsStore (s.effect f) := ⟨rfl, rfl, rfl⟩

theorem State.effect_domain (s : State) (f : State → State) (n : Nat) : (s.effect f).domain n = (f s).domain n := rfl

/-- A command whose effect leaves the state answers that state. -/
theorem exec_stays {i : Instr} {s : State} {f : State → State} (run : exec i s = .next (s.effect f)) (stays : f s = s) :
    exec i s = .next s := by
  rw [run, State.effect, stays]

/-- A command of the hub whose effect leaves the state answers that state. -/
theorem exec_devStays {i : Instr} {s : State} {f : State → State} (run : exec i s = .next (s.devEffect f)) (stays : f s = s) :
    exec i s = .next s := by
  rw [run, State.devEffect, stays]

/-! ## Changes of one domain alone -/

/-- `t` differs from `s` in the record of domain `n` and in nothing else. -/
def State.OnlyDomain (s t : State) (n : Nat) : Prop :=
  (∀ m, m ≠ n → t.domain m = s.domain m) ∧
  t = { s with dev := { s.dev with pwr := { s.dev.pwr with domains := t.dev.pwr.domains } } }

theorem State.onDomain_onlyDomain (s : State) (n : Nat) (f : Domain → Domain) : s.OnlyDomain (s.onDomain n f) n :=
  ⟨fun _ h => s.domain_onDomain_other f (Ne.symm h), rfl⟩

theorem State.OnlyDomain.trans {s t u : State} {n : Nat} (h : s.OnlyDomain t n) (k : t.OnlyDomain u n) : s.OnlyDomain u n := by
  obtain ⟨hm, ht⟩ := h
  obtain ⟨km, hu⟩ := k
  refine ⟨fun m hne => (km m hne).trans (hm m hne), ?_⟩
  rw [hu, ht]

theorem State.domain_congr {s t : State} (h : t.dev.pwr = s.dev.pwr) (n : Nat) : t.domain n = s.domain n := by
  rw [State.domain, h, State.domain]

theorem State.EventOnly.pwr {s t : State} (h : s.EventOnly t) : t.dev.pwr = s.dev.pwr := by rw [h]

/-! ## Entering a state -/

/-- `t` differs from `s` by what entering a power state loses or restores and by nothing else: bytes, ports, and the sites' records. -/
def State.EntryOnly (s t : State) : Prop :=
  t = { s with mem := t.mem, dev := { s.dev with lnk := t.dev.lnk }, fab := { s.fab with sites := t.fab.sites } }

theorem State.EntryOnly.refl (s : State) : s.EntryOnly s := rfl

theorem State.EntryOnly.trans {s t u : State} (h : s.EntryOnly t) (k : t.EntryOnly u) : s.EntryOnly u := by
  unfold State.EntryOnly at *
  rw [k, h]

theorem State.EntryOnly.foldl {α : Type} {f : State → α → State} (step : ∀ (s : State) (a : α), s.EntryOnly (f s a))
    (l : List α) (s : State) : s.EntryOnly (l.foldl f s) :=
  List.foldlRecOn l f (.refl s) fun t h a _ => h.trans (step t a)

theorem State.EntryOnly.pwr {s t : State} (h : s.EntryOnly t) : t.dev.pwr = s.dev.pwr := by rw [h]

theorem State.onSite_entry (s : State) (k : Nat) (f : Site → Site) : s.EntryOnly (s.onSite k f) := rfl

/-- Silencing ports changes the link block alone. -/
theorem State.silencePorts_form (l : List Nat) (s : State) :
    ∃ k, l.foldl (fun s p => s.onPort p Port.silence) s = { s with dev := { s.dev with lnk := k } } :=
  List.foldlRecOn l _ (motive := fun t => ∃ k, t = { s with dev := { s.dev with lnk := k } }) ⟨_, rfl⟩
    fun _ ⟨_, h⟩ _ _ => ⟨_, by rw [h]; rfl⟩

theorem State.silencePorts_entry (l : List Nat) (s : State) : s.EntryOnly (l.foldl (fun s p => s.onPort p Port.silence) s) := by
  obtain ⟨k, silenced⟩ := State.silencePorts_form l s
  rw [silenced]
  rfl

theorem State.writeTables_entry (s : State) (p : IndexTable → Bool) : s.EntryOnly (s.writeTables p) := by
  refine .foldl (fun s t => ?_) _ s
  unfold State.writeTable
  extract_lets
  repeat' split
  all_goals rfl

theorem State.losePower_entry (s : State) (n : Nat) (ash : Bool) : s.EntryOnly (s.losePower n ash) := by
  unfold State.losePower
  extract_lets keep keys cleared emptied position forgotten
  have sites : s.EntryOnly emptied := by
    unfold emptied
    split
    · exact .trans (t := cleared) rfl (.foldl (fun s k => s.onSite_entry k _) _ _)
    · exact .refl s
  have dram : s.EntryOnly forgotten := by
    unfold forgotten
    split
    · exact sites.trans rfl
    · exact sites
  exact dram.trans (State.silencePorts_entry _ _)

/-- Beside the domain's record, entering a state writes what the state loses or restores. -/
theorem State.enter_entry (s : State) (n : Nat) (p : PState) : (s.onDomain n fun d => { d with state := p }).EntryOnly (s.enter n p) := by
  unfold State.enter
  extract_lets was entered keep cleared
  cases p with
  | ash => exact entered.losePower_entry n true
  | charcoal => exact entered.losePower_entry n false
  | pewter => exact State.silencePorts_entry _ entered
  | closing => exact .refl entered
  | ivory =>
    dsimp only
    split
    · exact .trans (t := cleared) rfl (cleared.writeTables_entry _)
    · exact .refl entered

theorem State.enter_pwr (s : State) (n : Nat) (p : PState) : (s.enter n p).dev.pwr = (s.onDomain n fun d => { d with state := p }).dev.pwr :=
  (s.enter_entry n p).pwr

theorem State.domain_enter (s : State) (n : Nat) (p : PState) : (s.enter n p).domain n = { s.domain n with state := p } :=
  (State.domain_congr (s.enter_pwr n p) n).trans (s.domain_onDomain n _)

theorem State.domain_enter_other (s : State) {n m : Nat} (p : PState) (h : n ≠ m) : (s.enter n p).domain m = s.domain m :=
  (State.domain_congr (s.enter_pwr n p) m).trans (s.domain_onDomain_other _ h)

/-- Entering Pewter silences the domain's ports, and loses nothing. -/
theorem State.enter_pewter_stays (s : State) (n : Nat) : (s.enter n .pewter).mem = s.mem ∧ (s.enter n .pewter).fab = s.fab := by
  obtain ⟨k, silenced⟩ := State.silencePorts_form (domPorts n) (s.onDomain n fun d => { d with state := .pewter })
  have mem := congrArg State.mem silenced
  have fab := congrArg State.fab silenced
  exact ⟨mem, fab⟩

/-! ## Cleared scratchpads -/

/-- What one element of a list makes hold, and every element keeps, holds after a fold over the list. -/
theorem foldl_holds {α β : Type} {P : β → Prop} {f : β → α → β} {l : List α} {a : α} (listed : a ∈ l)
    (made : ∀ b, P (f b a)) (kept : ∀ b x, P b → P (f b x)) (b : β) : P (l.foldl f b) := by
  obtain ⟨before, after, rfl⟩ := List.append_of_mem listed
  rw [List.foldl_append, List.foldl_cons]
  exact List.foldlRecOn after f (made _) fun b h x _ => kept b x h

/-- Clearing a range makes no scratchpad byte that reads 0 read otherwise. -/
theorem Mem.clearRange_keeps_zero {m : Mem} (lo hi : Nat) {c a : Nat} (scratch : scratchBase ≤ a) (zero : m.read c a = 0) :
    (m.clearRange lo hi).read c a = 0 := by
  by_cases inside : lo ≤ a ∧ a < hi
  · exact m.read_clearRange_scratch c lo hi a inside.1 inside.2 scratch
  · rw [m.read_clearRange_other c lo hi a inside, zero]

theorem Mem.clearBanks_keeps_zero {m : Mem} (key : Nat) (keep : BitVec 16) {c a : Nat} (scratch : scratchBase ≤ a) (zero : m.read c a = 0) :
    (m.clearBanks key keep).read c a = 0 := by
  refine List.foldlRecOn (motive := fun m : Mem => m.read c a = 0) _ _ zero fun m h b _ => ?_
  split
  · exact h
  · exact Mem.clearRange_keeps_zero _ _ scratch h

theorem scratchBase_le_scratchAddr (die site off : Nat) : scratchBase ≤ scratchAddr die site off := by
  unfold scratchAddr
  omega

/-- A site without retained banks reads 0 throughout its scratchpad. -/
theorem Mem.read_clearBanks (m : Mem) (key c : Nat) {off : Nat} (inside : off < 2 ^ 20) :
    (m.clearBanks key 0).read c (scratchAddr (key / 256) (key % 256) off) = 0 := by
  have scratch := scratchBase_le_scratchAddr (key / 256) (key % 256) off
  have bank : off / 0x10000 ∈ List.range 16 := List.mem_range.2 (by omega)
  refine foldl_holds (P := fun m : Mem => m.read c (scratchAddr (key / 256) (key % 256) off) = 0) bank (fun m => ?_) (fun m b h => ?_) m
  · rw [if_neg (by simp)]
    exact m.read_clearRange_scratch _ _ _ _ (by unfold scratchAddr; omega) (by unfold scratchAddr; omega) scratch
  · split
    · exact h
    · exact Mem.clearRange_keeps_zero _ _ scratch h

theorem noDram_noPorts_of_isBlock {n : Nat} (block : isBlock n = true) : isMemDomain n = false ∧ domPorts n = [] := by
  simp only [isBlock, Bool.or_eq_true, Bool.and_eq_true, decide_eq_true_eq] at block
  constructor
  · simp only [isMemDomain, Bool.and_eq_false_imp, decide_eq_true_eq, decide_eq_false_iff_not]
    omega
  · unfold domPorts
    rw [if_neg (by omega), if_neg (by omega)]

theorem State.losePower_mem_of_isBlock (s : State) {n : Nat} (block : isBlock n = true) :
    (s.losePower n false).mem = (s.blockKeys n).foldl (fun m k => m.clearBanks k 0) s.mem := by
  obtain ⟨noDram, noPorts⟩ := noDram_noPorts_of_isBlock block
  unfold State.losePower
  extract_lets keep keys cleared emptied position forgotten
  have sites : emptied.mem = cleared.mem := by
    unfold emptied
    rw [if_pos block]
    exact List.foldlRecOn (motive := fun u : State => u.mem = cleared.mem) _ _ rfl fun _ h _ _ => h
  have dram : forgotten = emptied := if_neg (by simp [noDram])
  rw [noPorts, List.foldl_nil, dram, sites]
  rfl

theorem State.enter_charcoal (s : State) (n : Nat) :
    s.enter n .charcoal = (s.onDomain n fun d => { d with state := .charcoal }).losePower n false := rfl

/-- A site block in Charcoal has lost its sites' scratchpads. -/
theorem State.read_enter_charcoal (s : State) {n k off : Nat} (c : Nat) (block : isBlock n = true) (listed : k ∈ s.blockKeys n)
    (inside : off < 2 ^ 20) : (s.enter n .charcoal).mem.read c (scratchAddr (k / 256) (k % 256) off) = 0 := by
  rw [s.enter_charcoal, State.losePower_mem_of_isBlock _ block]
  have scratch := scratchBase_le_scratchAddr (k / 256) (k % 256) off
  refine foldl_holds (P := fun m : Mem => m.read c (scratchAddr (k / 256) (k % 256) off) = 0) listed (fun m => ?_) (fun m x h => ?_) _
  · exact m.read_clearBanks k c inside
  · exact Mem.clearBanks_keeps_zero x 0 scratch h

end Sys2Proof.Machine
end

section
/-!
SUPPORT. Power requests, closings and transitions (04 R91-R93, R101-R111).
-/
namespace Sys2Proof.Machine

/-! ## Requests -/

/-- Where none waits, a request is latched. -/
theorem State.domain_latchPower (s : State) (n : Nat) (q : PwrReq) (free : (s.domain n).request = none) :
    (s.latchPower n q).domain n = { s.domain n with request := some q, target := BitVec.ofNat 3 q.target } := by
  rw [State.latchPower, State.domain_onDomain, free]

theorem State.powerFails_only (s : State) (n : Nat) (q : PwrReq) (c : Code) : s.EventOnly (s.powerFails n q c) := by
  unfold State.powerFails
  split
  · exact s.regionEvent_only _ _ _ _
  · exact .refl s

/-- A domain that a region owns is a site block or an engine, and those are present on every part. -/
theorem State.domPresent_of_owner {s : State} {n : Nat} {r : RegionId} (owned : s.domOwner n = r.val) : s.domPresent n = true := by
  have region := r.isLt
  have fabric : isBlock n = true ∨ isEngine n = true := by
    refine Classical.byContradiction fun other => ?_
    simp only [not_or, Bool.not_eq_true] at other
    simp only [State.domOwner, other, Bool.or_self, Bool.false_eq_true, if_false] at owned
    split at owned <;> omega
  simp only [isBlock, isEngine, Bool.or_eq_true, Bool.and_eq_true, decide_eq_true_eq] at fabric
  have low : n < 46 := by omega
  have fitted : ¬ (decide (46 ≤ n) && decide (n ≤ 51)) = true := by
    simp only [Bool.and_eq_true, decide_eq_true_eq]
    omega
  rw [State.domPresent, if_neg fitted, decide_eq_true (by omega), Bool.true_or]

/-- What the latching of a request gives under the mask of its command. -/
theorem completes_latch {i : Instr} {s : State} {n : Nat} {f : State → State} (q : PwrReq) (free : (s.domain n).request = none)
    (run : exec i s = .next (s.effect f)) (latched : f s = s.latchPower n q) : Completes i s fun t =>
      t.domain n = { s.domain n with request := some q, target := BitVec.ofNat 3 q.target } ∧
      (∀ m, m ≠ n → t.domain m = s.domain m) ∧ t = { s with dev := { s.dev with pwr := t.dev.pwr } } :=
  completes_of_effect run latched ⟨s.domain_latchPower n q free, fun _ h => s.domain_onDomain_other _ (Ne.symm h), rfl⟩

theorem regionPwrReq_latched {s : State} {f : FnId} {r : RegionId} {n : Fin 64} {v : Word} (reach : s.reaches f.val r.val = true)
    (named : bitsOf v.toNat 5 0 = n.val) (owned : s.domOwner n.val = r.val) (free : (s.domain n.val).request = none) :
    Completes (.regionPwrReq f r v) s fun t =>
      t.domain n.val = { s.domain n.val with request := some ⟨some r.val, bitsOf v.toNat 10 8, s.dev.clk.tick, some (v.extractLsb' 16 16)⟩
                                             target := BitVec.ofNat 3 (bitsOf v.toNat 10 8) } ∧
      (∀ m, m ≠ n.val → t.domain m = s.domain m) ∧ t = { s with dev := { s.dev with pwr := t.dev.pwr } } := by
  refine completes_latch ⟨some r.val, bitsOf v.toNat 10 8, s.dev.clk.tick, some (v.extractLsb' 16 16)⟩ free rfl ?_
  dsimp only
  rw [State.whenP_pos _ _ reach, named, State.whenP_pos _ _ (State.domPresent_of_owner owned), if_neg (fun other => other owned)]
  rfl

theorem regionPwrReq_notOwner {s : State} {f : FnId} {r : RegionId} {n : Fin 64} {v : Word} (reach : s.reaches f.val r.val = true)
    (named : bitsOf v.toNat 5 0 = n.val) (other : s.domOwner n.val ≠ r.val) :
    Completes (.regionPwrReq f r v) s fun t => t.dev.pwr = s.dev.pwr ∧ s.KeepsStore t := by
  refine completes_of_effect rfl (s.whenP_pos _ reach) ⟨?_, s.effect_keepsStore _⟩
  dsimp only [State.effect_dev]
  rw [named]
  cases s.domPresent n.val with
  | true =>
    rw [State.whenP_true, if_pos other]
    exact (s.powerFails_only _ _ _).pwr
  | false => rfl

theorem regionPwrReq_absent {s : State} (f : FnId) (r : RegionId) {v : Word} (absent : s.domPresent (bitsOf v.toNat 5 0) = false) :
    exec (.regionPwrReq f r v) s = .next s := by
  refine exec_stays rfl ?_
  dsimp only
  cases s.reaches f.val r.val with
  | true => rw [State.whenP_true, State.whenP_neg _ _ absent]
  | false => rfl

theorem pwrDomainTargetWrite_latched {s : State} {n : Fin 64} (v : Word) (reach : s.pfReach false = true) (switched : switchable n.val = true)
    (present : s.domPresent n.val = true) (free : (s.domain n.val).request = none) :
    Completes (.pwrDomainTargetWrite n v) s fun t =>
      t.domain n.val = { s.domain n.val with request := some ⟨none, bitsOf v.toNat 2 0, s.dev.clk.tick, none⟩
                                             target := BitVec.ofNat 3 (bitsOf v.toNat 2 0) } ∧
      (∀ m, m ≠ n.val → t.domain m = s.domain m) ∧ t = { s with dev := { s.dev with pwr := t.dev.pwr } } :=
  completes_latch ⟨none, bitsOf v.toNat 2 0, s.dev.clk.tick, none⟩ free rfl (s.whenP_pos _ (by simp [reach, switched, present]))

/-! ## Requests acted on -/

theorem reachable_from_ivory (p : PState) : reachable .ivory p = true := by cases p <;> rfl

/-- The dependencies rest on the domains' states and moves alone. -/
theorem State.dependencyOk_congr {s t : State} (same : ∀ m, (t.domain m).state = (s.domain m).state ∧ (t.domain m).moving = (s.domain m).moving)
    (n : Nat) (p : PState) : t.dependencyOk n p = s.dependencyOk n p := by
  have ivory (e : Nat) : t.ivory e = s.ivory e := by rw [State.ivory, State.domState, (same e).1, State.ivory, State.domState]
  have leans (m : Nat) : (t.domain m).leansOnEdge m = (s.domain m).leansOnEdge m := by
    rw [Domain.leansOnEdge, (same m).1, (same m).2, Domain.leansOnEdge]
  simp only [State.dependencyOk, ivory, leans]

/-- Once it is acted on, a request no longer waits. -/
abbrev State.takeRequest (s : State) (n : Nat) : State := s.onDomain n fun d => { d with request := none }

theorem State.domain_takeRequest (s : State) (n : Nat) : (s.takeRequest n).domain n = { s.domain n with request := none } :=
  s.domain_onDomain n _

theorem State.takeRequest_dependencyOk (s : State) (n : Nat) (p : PState) : (s.takeRequest n).dependencyOk n p = s.dependencyOk n p := by
  refine State.dependencyOk_congr (fun m => ?_) n p
  by_cases here : n = m
  · rw [← here, s.domain_takeRequest]
    exact ⟨rfl, rfl⟩
  · rw [State.takeRequest, s.domain_onDomain_other _ here]
    exact ⟨rfl, rfl⟩

/-- A request that passes its checks begins its chain; what came with it changes the domain's record alone. -/
theorem State.actPower_begins {s : State} {n : Nat} {q : PwrReq} {p : PState} (hold : s.dev.aux.tripHold = false)
    (target : pstate? q.target = some p) (supported : supports n p = true) (reached : reachable (s.domain n).state p = true)
    (kept : s.dependencyOk n p = true) :
    ∃ u, s.actPower n q = u.begin_ n p ∧ s.OnlyDomain u n ∧ (u.domain n).request = none ∧ (u.domain n).state = (s.domain n).state := by
  have taken := s.domain_takeRequest n
  have only : s.OnlyDomain (s.takeRequest n) n := s.onDomain_onlyDomain n _
  have valid : (!supports n p || !reachable ((s.takeRequest n).domain n).state p) = false := by
    rw [taken, supported, reached]
    rfl
  have depends : (!(s.takeRequest n).dependencyOk n p) = false := by
    rw [s.takeRequest_dependencyOk, kept]
    rfl
  have standing : (s.takeRequest n).dev.aux.tripHold = false := hold
  unfold State.actPower
  simp only [target]
  rw [valid, if_neg Bool.false_ne_true, depends, if_neg Bool.false_ne_true, standing, if_neg Bool.false_ne_true]
  have ready : ((s.takeRequest n).domain n).request = none ∧ ((s.takeRequest n).domain n).state = (s.domain n).state := by
    rw [taken]
    exact ⟨rfl, rfl⟩
  refine ⟨_, rfl, ?_⟩
  repeat' split
  · refine ⟨only.trans (State.onDomain_onlyDomain _ n _), ?_⟩
    rw [State.domain_onDomain]
    exact ready
  · exact ⟨only, ready⟩
  · exact ⟨only, ready⟩

theorem State.begin_from_ivory {s : State} {n : Nat} {p : PState} (on : (s.domain n).state = .ivory) (deeper : p ≠ .ivory) :
    s.begin_ n p = s.shut n p := by
  rw [State.begin_, on]
  exact if_neg deeper

/-- A request for a state that the domain does not support fails, and no longer waits. -/
theorem State.actPower_unsupported {s : State} {n : Nat} {q : PwrReq} (refused : ∀ p, pstate? q.target = some p → supports n p = false) :
    s.actPower n q = (s.takeRequest n).powerFails n q Codes.PWR_STATE_INVALID := by
  unfold State.actPower
  split
  · rfl
  · next p target =>
    rw [refused p target]
    exact if_pos rfl

section Acting
variable {s : State} {n : Fin 64} {q : PwrReq} (boundary : s.atFrame = true) (waiting : (s.domain n.val).request = some q)
  (later : q.tick ≠ s.dev.clk.tick)
include boundary waiting later

/-- A request latched at an earlier tick is acted on at a frame boundary. -/
theorem completes_pwrRequestAct {P : State → Prop} (given : P (s.effect fun _ => s.actPower n.val q)) : Completes (.pwrRequestAct n) s P := by
  refine completes_of_effect rfl ((s.whenP_pos _ boundary).trans ?_) given
  rw [waiting]
  exact s.whenP_pos _ (decide_eq_true later)

theorem pwrRequestAct_closes {p : PState} (hold : s.dev.aux.tripHold = false) (target : pstate? q.target = some p)
    (supported : supports n.val p = true) (deeper : p ≠ .ivory) (on : (s.domain n.val).state = .ivory) (kept : s.dependencyOk n.val p = true) :
    Completes (.pwrRequestAct n) s fun t =>
      (t.domain n.val).state = .closing ∧ (t.domain n.val).goal = some p ∧ (t.domain n.val).request = none ∧
      (∀ m, m ≠ n.val → t.domain m = s.domain m) ∧
      t = { s with dev := { s.dev with pwr := t.dev.pwr }, fab := { s.fab with regions := t.fab.regions } } := by
  obtain ⟨u, begun, ⟨others, only⟩, free, ivory⟩ := State.actPower_begins hold target supported (on ▸ reachable_from_ivory p) kept
  have acted := begun.trans (State.begin_from_ivory (ivory.trans on) deeper)
  have shut : (u.shut n.val p).domain n.val = { u.domain n.val with
      state := .closing, goal := some p, moving := none, closingFrames := 0, drainRaised := false } := State.domain_onDomain _ _ _
  refine completes_pwrRequestAct boundary waiting later ?_
  rw [acted]
  refine ⟨congrArg Domain.state shut, congrArg Domain.goal shut, (congrArg Domain.request shut).trans free, fun m other => ?_, ?_⟩
  · exact (State.domain_onDomain_other _ _ (Ne.symm other)).trans (others m other)
  · rw [only]
    rfl

theorem pwrRequestAct_unsupported (refused : ∀ p, pstate? q.target = some p → supports n.val p = false) :
    Completes (.pwrRequestAct n) s fun t =>
      (t.domain n.val).state = (s.domain n.val).state ∧ (t.domain n.val).moving = (s.domain n.val).moving ∧ (t.domain n.val).request = none ∧
      s.KeepsStore t := by
  refine completes_pwrRequestAct boundary waiting later ?_
  rw [State.actPower_unsupported refused]
  have taken := (State.domain_congr ((s.takeRequest n.val).powerFails_only n.val q Codes.PWR_STATE_INVALID).pwr n.val).trans
    (s.domain_takeRequest n.val)
  exact ⟨(congrArg Domain.state taken :), (congrArg Domain.moving taken :), (congrArg Domain.request taken :), s.effect_keepsStore _⟩

end Acting

/-! ## Closings and transitions -/

/-- The states below Pewter are one frame away from it. -/
theorem frames_from_pewter {p : PState} (off : p ≠ .ivory) : frames .pewter p = 1 := by
  cases p with
  | ivory => exact absurd rfl off
  | pewter | ash | charcoal | closing => rfl

theorem closingDrained_enters {s : State} {n : Fin 64} {p : PState} (boundary : s.atFrame = true) (closing : (s.domain n.val).state = .closing)
    (begun : 1 ≤ (s.domain n.val).closingFrames) (drained : s.domainBusy n.val = false) (goal : (s.domain n.val).goal = some p)
    (deeper : p ≠ .pewter) (off : p ≠ .ivory) : Completes (.closingDrained n) s fun t =>
      (t.domain n.val).state = .pewter ∧ (t.domain n.val).goal = none ∧ (t.domain n.val).moving = some (p, 1) ∧
      (∀ m, m ≠ n.val → t.domain m = s.domain m) ∧ t.mem = s.mem ∧ t.fab = s.fab ∧ s.KeepsStore t := by
  obtain ⟨mem, fab⟩ := s.enter_pewter_stays n.val
  refine completes_of_effect rfl (s.whenP_pos _ (by simp [boundary, closing, begun, drained])) ?_
  have drainedTo (f : Domain → Domain) : ((s.enter n.val .pewter).onDomain n.val f).domain n.val = f { s.domain n.val with state := .pewter } := by
    rw [State.domain_onDomain, State.domain_enter]
  refine ⟨congrArg Domain.state (drainedTo _), congrArg Domain.goal (drainedTo _), (congrArg Domain.moving (drainedTo _)).trans ?_,
    fun m other => ?_, mem, fab, s.effect_keepsStore _⟩
  · simp only [goal, deeper, if_false, frames_from_pewter off]
  · exact (State.domain_onDomain_other _ _ (Ne.symm other)).trans (s.domain_enter_other _ (Ne.symm other))

theorem pwrTransitionComplete_enters {s : State} {n : Fin 64} {p : PState} (boundary : s.atFrame = true)
    (elapsed : (s.domain n.val).moving = some (p, 0)) : Completes (.pwrTransitionComplete n) s fun t =>
      (t.domain n.val).state = p ∧ (t.domain n.val).moving = none ∧ (∀ m, m ≠ n.val → t.domain m = s.domain m) ∧ s.KeepsStore t ∧
      (p = .charcoal → isBlock n.val = true → ∀ k ∈ s.blockKeys n.val, k < 512 → ∀ off c, off < 2 ^ 20 →
        t.mem.read c (scratchAddr (k / 256) (k % 256) off) = 0) := by
  refine completes_of_effect (t := (s.onDomain n.val fun d => { d with moving := none }).enter n.val p) rfl
    ((s.whenP_pos _ boundary).trans ?_) ?_
  · simp only [elapsed]
  · have entered := State.domain_enter (s.onDomain n.val fun d => { d with moving := none }) n.val p
    rw [State.domain_onDomain] at entered
    refine ⟨congrArg Domain.state entered, congrArg Domain.moving entered, fun m other => ?_, s.effect_keepsStore _, ?_⟩
    · exact (State.domain_enter_other _ p (Ne.symm other)).trans (s.domain_onDomain_other _ (Ne.symm other))
    · rintro rfl block k listed - off c inside
      exact State.read_enter_charcoal _ c block listed inside

theorem pwrDrainLong_reported {s : State} {n : Fin 64} (closing : (s.domain n.val).state = .closing) (long : 64 ≤ (s.domain n.val).closingFrames)
    (first : (s.domain n.val).drainRaised = false) : Completes (.pwrDrainLong n) s fun t =>
      t.domain n.val = { s.domain n.val with drainRaised := true } ∧ (∀ m, m ≠ n.val → t.domain m = s.domain m) ∧ s.KeepsStore t := by
  refine completes_of_effect rfl (s.whenP_pos _ (by simp [closing, long, first])) ?_
  have told (rs : List Nat) (m : Nat) := State.domain_congr
    ((s.onDomain n.val fun d => { d with drainRaised := true }).eventAll_only rs 5 Codes.PWR_DRAIN_LONG n.val).pwr m
  exact ⟨(told _ _).trans (s.domain_onDomain n.val _), fun m other => (told _ m).trans (s.domain_onDomain_other _ (Ne.symm other)),
    s.effect_keepsStore _⟩

end Sys2Proof.Machine
end

section
/-!
SUPPORT. Throttling, the thermal trip and supply droop (04 R117-R128; 26 R910-R913).
-/
namespace Sys2Proof.Machine

/-! ## The throttle level (04 R117, R118, R129) -/

section Level
variable {p : Pwr}

theorem Pwr.newLevel_at_trip (hot : 4 * p.trip.toNat ≤ p.hottest.toNat) : p.newLevel = 4 := if_pos hot

theorem Pwr.newLevel_at_throttle (hot : 4 * p.throttle.toNat ≤ p.hottest.toNat) (below : p.hottest.toNat < 4 * p.trip.toNat) :
    p.newLevel = min 4 (1 + (p.hottest.toNat - 4 * p.throttle.toNat) / 8) := by
  rw [Pwr.newLevel, if_neg (Nat.not_le.2 below), if_pos hot, Nat.add_comm]

theorem Pwr.newLevel_at_release (warm : 4 * p.release.toNat ≤ p.hottest.toNat) (cooler : p.hottest.toNat < 4 * p.throttle.toNat)
    (below : p.hottest.toNat < 4 * p.trip.toNat) : p.newLevel = if p.level = 0 then 0 else 1 := by
  rw [Pwr.newLevel, if_neg (Nat.not_le.2 below), if_neg (Nat.not_le.2 cooler)]
  by_cases idle : p.level = 0 <;> simp [warm, idle]

theorem Pwr.newLevel_below_release (cold : p.hottest.toNat < 4 * p.release.toNat) (cooler : p.hottest.toNat < 4 * p.throttle.toNat)
    (below : p.hottest.toNat < 4 * p.trip.toNat) : p.newLevel = 0 := by
  rw [Pwr.newLevel, if_neg (Nat.not_le.2 below), if_neg (Nat.not_le.2 cooler), if_neg (by simp [Nat.not_le.2 cold])]

end Level

theorem Pwr.newLevel_le_four (p : Pwr) : p.newLevel ≤ 4 := by
  unfold Pwr.newLevel
  extract_lets t
  repeat' split
  · exact Nat.le_refl 4
  · exact Nat.min_le_left 4 _
  · decide
  · decide

/-- A new throttle level is written, with an event where it differs from the old one. -/
theorem State.throttleTo_form (s : State) (lv : Nat) : s.throttleTo lv = (s.onPwr fun p => { p with level := BitVec.ofNat 3 lv }) ∨
    ∃ d, s.throttleTo lv = (s.onPwr fun p => { p with level := BitVec.ofNat 3 lv }).pfEvent 5 Codes.THERM_THROTTLE d := by
  unfold State.throttleTo
  split
  · next same =>
    rw [same, BitVec.ofNat_toNat, BitVec.setWidth_eq]
    exact .inl rfl
  · exact .inr ⟨_, rfl⟩

@[simp] theorem State.throttleTo_pwr (s : State) (lv : Nat) : (s.throttleTo lv).dev.pwr = { s.dev.pwr with level := BitVec.ofNat 3 lv } := by
  rcases s.throttleTo_form lv with h | ⟨d, h⟩ <;> simp [h]

@[simp] theorem State.throttleTo_faults (s : State) (lv : Nat) : (s.throttleTo lv).dev.faults = s.dev.faults := by
  rcases s.throttleTo_form lv with h | ⟨d, h⟩ <;> simp [h]

@[simp] theorem State.throttleTo_mem (s : State) (lv : Nat) : (s.throttleTo lv).mem = s.mem := by
  rcases s.throttleTo_form lv with h | ⟨d, h⟩ <;> simp [h]

theorem throttleRecompute_otherFrame {s : State} (other : s.frame % 64 ≠ 0) : exec .throttleRecompute s = .next s :=
  exec_stays rfl (s.whenP_neg _ (by simp [other]))

theorem throttleRecompute_follows {s : State} (boundary : s.atFrame = true) (due : s.frame % 64 = 0) (hold : s.dev.aux.tripHold = false)
    (on : s.dev.boot.stage ≠ .reset) : Completes .throttleRecompute s fun t =>
      (4 * s.dev.pwr.trip.toNat ≤ s.dev.pwr.hottest.toNat → t.dev.pwr.level = 4) ∧
      (4 * s.dev.pwr.throttle.toNat ≤ s.dev.pwr.hottest.toNat → s.dev.pwr.hottest.toNat < 4 * s.dev.pwr.trip.toNat →
        t.dev.pwr.level.toNat = min 4 (1 + (s.dev.pwr.hottest.toNat - 4 * s.dev.pwr.throttle.toNat) / 8)) ∧
      (4 * s.dev.pwr.release.toNat ≤ s.dev.pwr.hottest.toNat → s.dev.pwr.hottest.toNat < 4 * s.dev.pwr.throttle.toNat →
        s.dev.pwr.hottest.toNat < 4 * s.dev.pwr.trip.toNat → t.dev.pwr.level.toNat = if s.dev.pwr.level = 0 then 0 else 1) ∧
      (s.dev.pwr.hottest.toNat < 4 * s.dev.pwr.release.toNat → s.dev.pwr.hottest.toNat < 4 * s.dev.pwr.throttle.toNat →
        s.dev.pwr.hottest.toNat < 4 * s.dev.pwr.trip.toNat → t.dev.pwr.level = 0) ∧
      t.dev.pwr.domains = s.dev.pwr.domains ∧ t.mem = s.mem ∧ s.KeepsStore t := by
  refine completes_of_effect rfl (s.whenP_pos _ (by simp [boundary, due, hold, on])) ?_
  have pwr := s.throttleTo_pwr s.dev.pwr.newLevel
  have level : (s.throttleTo s.dev.pwr.newLevel).dev.pwr.level = BitVec.ofNat 3 s.dev.pwr.newLevel := congrArg Pwr.level pwr
  have number : (s.throttleTo s.dev.pwr.newLevel).dev.pwr.level.toNat = s.dev.pwr.newLevel := by
    rw [level, BitVec.toNat_ofNat]
    exact Nat.mod_eq_of_lt (Nat.lt_of_le_of_lt s.dev.pwr.newLevel_le_four (by decide))
  refine ⟨fun hot => ?_, fun hot below => ?_, fun warm cooler below => ?_, fun cold cooler below => ?_,
    (congrArg Pwr.domains pwr :), s.throttleTo_mem _, s.effect_keepsStore _⟩
  · exact level.trans (congrArg (BitVec.ofNat 3) (Pwr.newLevel_at_trip hot))
  · exact number.trans (Pwr.newLevel_at_throttle hot below)
  · exact number.trans (Pwr.newLevel_at_release warm cooler below)
  · exact level.trans (congrArg (BitVec.ofNat 3) (Pwr.newLevel_below_release cold cooler below))

/-- The thresholds are written where they are in order, the trip at most 110 °C. -/
theorem pwrThermCtlWrite_sets {s : State} {v : Word} (reach : s.pfReach false = true) (released : v.extractLsb' 8 8 < v.extractLsb' 0 8)
    (throttled : v.extractLsb' 0 8 < v.extractLsb' 16 8) (tripped : v.extractLsb' 16 8 ≤ 110) : Completes (.pwrThermCtlWrite v) s fun t =>
      t = { s with dev := { s.dev with pwr :=
        { s.dev.pwr with throttle := v.extractLsb' 0 8, release := v.extractLsb' 8 8, trip := v.extractLsb' 16 8 } } } :=
  completes_of_devEffect rfl (s.whenP_pos _ (by simp only [reach, released, throttled, tripped, decide_true, Bool.and_self])) rfl

theorem pwrThermCtlWrite_ignored (s : State) {v : Word}
    (disordered : v.extractLsb' 0 8 ≤ v.extractLsb' 8 8 ∨ v.extractLsb' 16 8 ≤ v.extractLsb' 0 8 ∨ 110 < v.extractLsb' 16 8) :
    exec (.pwrThermCtlWrite v) s = .next s := by
  have unset : (s.pfReach false && v.extractLsb' 8 8 < v.extractLsb' 0 8 && v.extractLsb' 0 8 < v.extractLsb' 16 8 &&
      v.extractLsb' 16 8 ≤ 110) = false := by
    simp only [Bool.and_eq_false_iff, decide_eq_false_iff_not, BitVec.not_lt, BitVec.not_le]
    rcases disordered with slow | close | hot
    · exact .inl (.inl (.inr slow))
    · exact .inl (.inr close)
    · exact .inr hot
  exact exec_devStays rfl (s.whenP_neg _ unset)

/-! ## The thermal trip (04 R125, R126) -/

@[simp] theorem State.assignFault_pwr (s : State) (c : Code) (r : Option Nat) (d : Nat) (x : Option Nat) :
    (s.assignFault c r d x).dev.pwr = s.dev.pwr := (s.assignFault_only c r d x).pwr

theorem thermTrip_trips {s : State} (hot : 4 * s.dev.pwr.trip.toNat ≤ s.dev.pwr.hottest.toNat) (first : s.dev.aux.tripHold = false)
    (on : s.dev.boot.stage ≠ .reset) : Completes .thermTrip s fun t =>
      t.dev.aux.tripHold = true ∧ t.dev.pwr.tripped = true ∧ t.dev.pwr.tripPending = true ∧ t.dev.pwr.level = 4 ∧
      t.dev.faults.count = satAdd s.dev.faults.count 1 ∧ t.dev.pwr.domains = s.dev.pwr.domains ∧ t.mem = s.mem ∧ s.KeepsStore t := by
  refine completes_of_effect rfl (s.whenP_pos _ (by simp [hot, first, on])) ⟨rfl, rfl, rfl, ?_, ?_, ?_, ?_, s.effect_keepsStore _⟩ <;> simp

/-- What a trip does to one domain. -/
def State.tripTo (p : PState) (s : State) (n : Nat) : State :=
  (s.onDomain n fun d => { d with
    target := BitVec.ofNat 3 p.code, request := none, goal := none, moving := none, closingFrames := 0, drainRaised := false }).enter n p

theorem State.state_tripTo (p : PState) (s : State) (n : Nat) : ((s.tripTo p n).domain n).state = p :=
  congrArg Domain.state (State.domain_enter _ n p)

theorem State.domain_tripTo_other (p : PState) (s : State) {n m : Nat} (h : n ≠ m) : (s.tripTo p n).domain m = s.domain m :=
  (State.domain_enter_other _ p h).trans (s.domain_onDomain_other _ h)

theorem State.tripPending_tripTo (p : PState) (s : State) (n : Nat) : (s.tripTo p n).dev.pwr.tripPending = s.dev.pwr.tripPending :=
  (congrArg Pwr.tripPending (State.enter_pwr (s.onDomain n _) n p) :)

/-- A domain that a trip has brought to a state is in it, whichever domains the trip brings there too. -/
theorem State.tripTo_listed (p : PState) (s : State) {l : List Nat} {n : Nat} (listed : n ∈ l) :
    ((l.foldl (State.tripTo p) s).domain n).state = p := by
  refine foldl_holds (P := fun s : State => (s.domain n).state = p) listed (fun s => s.state_tripTo p n) (fun s m h => ?_) s
  by_cases here : m = n
  · rw [here, State.state_tripTo]
  · rw [State.domain_tripTo_other p s here, h]

theorem State.tripTo_unlisted (p : PState) (s : State) {l : List Nat} {n : Nat} (unlisted : n ∉ l) :
    (l.foldl (State.tripTo p) s).domain n = s.domain n :=
  List.foldlRecOn (motive := fun t : State => t.domain n = s.domain n) l _ rfl fun t h _ listed =>
    (State.domain_tripTo_other p t (ne_of_mem_of_not_mem listed unlisted)).trans h

theorem State.tripPending_foldl_tripTo (p : PState) (l : List Nat) (s : State) :
    (l.foldl (State.tripTo p) s).dev.pwr.tripPending = s.dev.pwr.tripPending :=
  List.foldlRecOn (motive := fun t : State => t.dev.pwr.tripPending = s.dev.pwr.tripPending) l _ rfl fun t h n _ =>
    (t.tripPending_tripTo p n).trans h

/-- What a trip makes of the domains. -/
def State.tripDomains (s : State) : State := tripPewter.foldl (State.tripTo .pewter) (tripOff.foldl (State.tripTo .charcoal) s)

theorem State.tripDomains_off (s : State) {n : Nat} (switched : n < 52)
    (other : n ≠ 19 ∧ n ≠ 39 ∧ n ≠ 40 ∧ n ≠ 43 ∧ n ≠ 44 ∧ n ≠ 45) : (s.tripDomains.domain n).state = .charcoal := by
  have off : n ∈ tripOff := by
    simp only [tripOff, List.mem_filter, List.mem_range, Bool.or_eq_true, Bool.and_eq_true, decide_eq_true_eq]
    omega
  have unedged : n ∉ tripPewter := by simp [tripPewter, other]
  rw [State.tripDomains, State.tripTo_unlisted _ _ unedged, State.tripTo_listed _ _ off]

theorem State.tripDomains_pewter (s : State) {n : Nat} (edge : n = 19 ∨ n = 39 ∨ n = 45) : (s.tripDomains.domain n).state = .pewter :=
  State.tripTo_listed _ _ (by simpa [tripPewter] using edge)

theorem State.tripPending_tripDomains (s : State) : s.tripDomains.dev.pwr.tripPending = s.dev.pwr.tripPending :=
  (State.tripPending_foldl_tripTo ..).trans (State.tripPending_foldl_tripTo ..)

theorem State.endAll_ending (s : State) (code : Code) (fault : BitVec 16) : s.EndingOnly (s.endAll code fault) :=
  .foldl (fun s r => s.finishAll_ending r _ code fault) _ s

theorem State.stopFabric_domain (s : State) (n : Nat) : s.stopFabric.domain n = s.domain n := rfl

theorem State.stopFabric_pwr (s : State) : s.stopFabric.dev.pwr = s.dev.pwr := rfl

theorem State.stopFabric_aux (s : State) : s.stopFabric.dev.aux = { s.dev.aux with fabricStopped := true } := rfl

theorem thermTripApply_turnsOff {s : State} (boundary : s.atFrame = true) (pending : s.dev.pwr.tripPending = true) :
    Completes .thermTripApply s fun t =>
      (∀ n, n < 52 → n ≠ 19 → n ≠ 39 → n ≠ 40 → n ≠ 43 → n ≠ 44 → n ≠ 45 → (t.domain n).state = .charcoal) ∧
      (∀ n, n = 19 ∨ n = 39 ∨ n = 45 → (t.domain n).state = .pewter) ∧ t.dev.aux.fabricStopped = true ∧ t.dev.pwr.tripPending = false ∧
      s.KeepsStore t := by
  have ending := (s.onPwr fun p => { p with tripPending := false }).endAll_ending Codes.THERM_TRIP (s.faultIdOf Codes.THERM_TRIP)
  obtain ⟨domains, pwr⟩ := ending.pwr
  refine completes_of_effect (t := (((s.onPwr fun p => { p with tripPending := false }).endAll Codes.THERM_TRIP
    (s.faultIdOf Codes.THERM_TRIP)).tripDomains).stopFabric) rfl (s.whenP_pos _ (by simp [boundary, pending]))
    ⟨fun n switched h19 h39 h40 h43 h44 h45 => ?_, fun n edge => ?_, ?_, ?_, s.effect_keepsStore _⟩
  · rw [State.effect_domain, State.stopFabric_domain, State.tripDomains_off _ switched ⟨h19, h39, h40, h43, h44, h45⟩]
  · rw [State.effect_domain, State.stopFabric_domain, State.tripDomains_pewter _ edge]
  · rw [State.effect_dev, State.stopFabric_aux]
  · rw [State.effect_dev, State.stopFabric_pwr, State.tripPending_tripDomains]
    exact congrArg Pwr.tripPending pwr

/-! ## Supply droop (04 R128; 26 R910-R913) -/

theorem railDroop_latched {s : State} {mv : BitVec 16} (low : mv.toNat < 11200) (powered : s.powered = true) : Completes (.railDroop mv) s fun t =>
    t = { s with dev := { s.dev with pins := { s.dev.pins with railMv := mv }
                                     pwr := { s.dev.pwr with droopLatched := true, droopGoodFrames := 0 } } } := by
  have seen : (s.onPins fun p => { p with railMv := mv }).powered = true := powered
  exact completes_of_effect rfl (State.whenP_pos _ _ (by simp [low, seen])) rfl

theorem supplyDroopBegin_begins {s : State} (boundary : s.atFrame = true) (latched : s.dev.pwr.droopLatched = true) :
    Completes .supplyDroopBegin s fun t =>
      t.dev.pwr = { s.dev.pwr with droopLatched := false, droop := true, droopGoodFrames := 0 } ∧ t.mem = s.mem ∧ s.KeepsStore t := by
  refine completes_of_effect rfl (s.whenP_pos _ (by simp [boundary, latched])) ?_
  dsimp only [State.effect_dev, State.effect_mem]
  split
  · exact ⟨rfl, rfl, s.effect_keepsStore _⟩
  · exact ⟨State.pfEvent_pwr .., State.pfEvent_mem .., s.effect_keepsStore _⟩

theorem supplyDroopEnd_ends {s : State} (boundary : s.atFrame = true) (droop : s.dev.pwr.droop = true) (good : 64 ≤ s.dev.pwr.droopGoodFrames) :
    Completes .supplyDroopEnd s fun t =>
      t.dev.pwr = { s.dev.pwr with droop := false, droopGoodFrames := 0 } ∧ t.mem = s.mem ∧ s.KeepsStore t :=
  completes_of_effect rfl (s.whenP_pos _ (by simp [boundary, droop, good])) ⟨State.pfEvent_pwr .., State.pfEvent_mem .., s.effect_keepsStore _⟩

end Sys2Proof.Machine
end

section
/-!
CERTIFICATE. Power domains, throttling, the thermal trip and supply droop (04 R91-R111, R117-R128; 26 R910-R913).
-/
namespace Sys2Proof.Machine

/-- Settles O14: one lemma for each command of the power domains. -/
theorem powerDomainsFollowRequests : Obligations.PowerDomainsFollowRequests := by
  refine ⟨fun s f r n v q p => ⟨regionPwrReq_latched, regionPwrReq_notOwner, regionPwrReq_absent f r, pwrDomainTargetWrite_latched v, ?_, ?_⟩,
    fun s n p => ⟨closingDrained_enters, pwrTransitionComplete_enters, pwrDrainLong_reported⟩⟩
  · exact fun boundary hold waiting later => pwrRequestAct_closes boundary waiting later hold
  · exact fun boundary _ waiting later => pwrRequestAct_unsupported boundary waiting later

/-- Settles O15: one lemma for each command of the throttle, the trip and the supply. -/
theorem heatAndDroopAreHandled : Obligations.HeatAndDroopAreHandled :=
  ⟨⟨fun _ => throttleRecompute_otherFrame, fun _ => throttleRecompute_follows⟩,
    fun s _ => ⟨thermTrip_trips, thermTripApply_turnsOff, pwrThermCtlWrite_sets, pwrThermCtlWrite_ignored s⟩,
    fun _ _ => ⟨railDroop_latched, supplyDroopBegin_begins, supplyDroopEnd_ends⟩⟩

end Sys2Proof.Machine
end

section
/-!
SUPPORT. What applying an image at the domains and the memories writes, what taking it back restores, what dropping it leaves, and what the
self-tests of a start count (06 R207, R208; 04 R99; 11 R431).
-/
namespace Sys2Proof.Machine

/-! ## What the loader and the chains of domains write -/

/-- `t` differs from `s` by what the loader and the chains of domains write and by nothing else: bytes, ports, the domains' records, and the
records of sites and regions. A table without regions stays without. -/
def State.ApplyOnly (s t : State) : Prop :=
  (s.fab.regions = [] → t.fab.regions = []) ∧
  t = { s with mem := t.mem
               dev := { s.dev with lnk := t.dev.lnk, pwr := { s.dev.pwr with domains := t.dev.pwr.domains } }
               fab := { s.fab with regions := t.fab.regions, sites := t.fab.sites } }

theorem State.ApplyOnly.refl (s : State) : s.ApplyOnly s := ⟨id, rfl⟩

theorem State.ApplyOnly.trans {s t u : State} (h : s.ApplyOnly t) (k : t.ApplyOnly u) : s.ApplyOnly u := by
  obtain ⟨bare, frame⟩ := h
  obtain ⟨bare', frame'⟩ := k
  refine ⟨bare' ∘ bare, ?_⟩
  rw [frame', frame]

theorem State.ApplyOnly.foldl {α : Type} {f : State → α → State} (step : ∀ (s : State) (a : α), s.ApplyOnly (f s a))
    (l : List α) (s : State) : s.ApplyOnly (l.foldl f s) :=
  List.foldlRecOn l f (.refl s) fun t h a _ => h.trans (step t a)

theorem State.EntryOnly.apply {s t : State} (h : s.EntryOnly t) : s.ApplyOnly t := by
  unfold State.EntryOnly at h
  constructor
  · rw [h]
    exact id
  · rw [h]

theorem State.onDomain_apply (s : State) (n : Nat) (f : Domain → Domain) : s.ApplyOnly (s.onDomain n f) := ⟨id, rfl⟩

theorem State.onMem_apply (s : State) (f : Mem → Mem) : s.ApplyOnly (s.onMem f) := ⟨id, rfl⟩

theorem State.enter_apply (s : State) (n : Nat) (p : PState) : s.ApplyOnly (s.enter n p) :=
  (s.onDomain_apply n _).trans (s.enter_entry n p).apply

theorem State.ApplyOnly.saved {s t : State} (h : s.ApplyOnly t) : t.dev.pwr.saved = s.dev.pwr.saved := by rw [h.2]

theorem State.ApplyOnly.boot {s t : State} (h : s.ApplyOnly t) : t.dev.boot = s.dev.boot := by rw [h.2]

theorem State.ApplyOnly.aux {s t : State} (h : s.ApplyOnly t) : t.dev.aux = s.dev.aux := by rw [h.2]

theorem State.ApplyOnly.clk {s t : State} (h : s.ApplyOnly t) : t.dev.clk = s.dev.clk := by rw [h.2]

theorem State.ApplyOnly.planCode {s t : State} (h : s.ApplyOnly t) : t.dev.pwr.planCode = s.dev.pwr.planCode := by rw [h.2]

theorem State.ApplyOnly.image {s t : State} (h : s.ApplyOnly t) : t.fab.image = s.fab.image := by rw [h.2]

theorem State.ApplyOnly.flash {s t : State} (h : s.ApplyOnly t) : t.flash = s.flash := by rw [h.2]

/-! ## What a chain keeps of its domain -/

/-- The chain of domain `n` leads from `s` to `t`: it leaves the domain's target and retention, and the records of the other domains. -/
structure State.ChainOf (s t : State) (n : Nat) : Prop where
  writes : s.ApplyOnly t
  target : (t.domain n).target = (s.domain n).target
  retain : (t.domain n).retain = (s.domain n).retain
  others : ∀ m, n ≠ m → t.domain m = s.domain m

theorem State.ChainOf.refl (s : State) (n : Nat) : s.ChainOf s n := ⟨.refl s, rfl, rfl, fun _ _ => rfl⟩

theorem State.ChainOf.trans {s t u : State} {n : Nat} (h : s.ChainOf t n) (k : t.ChainOf u n) : s.ChainOf u n :=
  ⟨h.writes.trans k.writes, k.target.trans h.target, k.retain.trans h.retain, fun m other => (k.others m other).trans (h.others m other)⟩

theorem State.onDomain_chain (s : State) (n : Nat) (f : Domain → Domain) (target : (f (s.domain n)).target = (s.domain n).target)
    (retain : (f (s.domain n)).retain = (s.domain n).retain) : s.ChainOf (s.onDomain n f) n :=
  ⟨s.onDomain_apply n f, by rw [s.domain_onDomain, target], by rw [s.domain_onDomain, retain], fun _ other => s.domain_onDomain_other f other⟩

theorem State.enter_chain (s : State) (n : Nat) (p : PState) : s.ChainOf (s.enter n p) n :=
  ⟨s.enter_apply n p, by rw [s.domain_enter], by rw [s.domain_enter], fun _ other => s.domain_enter_other p other⟩

/-- A closing rewrites the regions' slots one by one, and then the domain's record. -/
theorem State.shut_chain (s : State) (n : Nat) (p : PState) : s.ChainOf (s.shut n p) n := by
  unfold State.shut
  extract_lets keep fenced
  have slots : s.ApplyOnly fenced := ⟨fun bare => by simp [fenced, State.onFab, bare], rfl⟩
  exact .trans (t := fenced) ⟨slots, rfl, rfl, fun _ _ => rfl⟩ (fenced.onDomain_chain n _ rfl rfl)

/-- Each step that begins a chain, from any state of the domain, changes neither its target nor its retention. -/
theorem State.begin_chain (s : State) (n : Nat) (p : PState) : s.ChainOf (s.begin_ n p) n := by
  unfold State.begin_
  extract_lets d
  split
  · split
    · exact s.onDomain_chain n _ rfl rfl
    · exact s.onDomain_chain n _ rfl rfl
  · split
    · exact .refl s n
    · exact s.shut_chain n p
  · split
    · exact s.onDomain_chain n _ rfl rfl
    · split
      · exact (s.onDomain_chain n _ rfl rfl).trans (State.enter_chain _ n p)
      · split
        · exact .refl s n
        · exact s.onDomain_chain n _ rfl rfl

/-! ## Taking hold of an image -/

theorem State.toIvory_apply (s : State) (l : List Nat) : s.ApplyOnly (s.toIvory l) := .foldl (fun s n => s.onDomain_apply n _) l s

theorem State.acceptDomains_apply (s : State) : s.ApplyOnly s.acceptDomains := by
  unfold State.acceptDomains
  split
  · exact .refl s
  · exact (s.toIvory_apply _).trans (.foldl (fun s n => (s.onDomain_apply n _).trans (State.begin_chain _ n _).writes) _ _)

theorem State.writePayload_apply (s : State) (p : Payload) : s.ApplyOnly (s.writePayload p) := by
  refine .foldl (fun s q => ?_) _ s
  split
  · exact s.onMem_apply _
  · exact .refl s

/-- Taking hold of an image sets its settings and its tables first; domains, memories, ports and shared resources follow them, and leave the
image, an empty table of regions, the boot block and the flash. -/
theorem State.acceptImage_holds (s : State) (img : List Byte) :
    (s.acceptImage img).fab.image = some (parseImage img (parseDir img)) ∧ (s.acceptImage img).dev.aux.starting = true ∧
    (s.acceptImage img).fab.regions = [] ∧ (s.acceptImage img).dev.boot = s.dev.boot ∧ (s.acceptImage img).flash = s.flash := by
  unfold State.acceptImage
  extract_lets dir header powered clocked profiled tabled switched wiped loaded linked owners shared
  have applied : tabled.ApplyOnly linked :=
    (((tabled.acceptDomains_apply.trans (t := switched) (switched.onMem_apply _)).trans (State.onMem_apply _ _)).trans
      (t := wiped) (wiped.writeTables_entry _).apply).trans (t := loaded) ⟨id, rfl⟩
  have written : shared.ApplyOnly (shared.fab.body.payloads.foldl (fun s p => s.writePayload p) shared) :=
    .foldl State.writePayload_apply _ _
  refine ⟨written.image.trans applied.image, ?_, written.1 (applied.1 rfl), written.boot.trans applied.boot, written.flash.trans applied.flash⟩
  rw [written.aux]
  exact congrArg BootAux.starting applied.aux

/-! ## Taking an image back -/

/-- A domain brought back has the target and the retention of its record before the load, and no other domain is touched. -/
theorem State.restoreDomain_chain (s : State) (n : Nat) (d : Domain) :
    (s.onDomain n fun e => { e with target := d.target, retain := d.retain }).ChainOf (s.restoreDomain n d) n := by
  unfold State.restoreDomain
  extract_lets back given
  split
  · exact given.begin_chain n back
  · exact given.onDomain_chain n _ rfl rfl

theorem State.restoreDomain_apply (s : State) (n : Nat) (d : Domain) : s.ApplyOnly (s.restoreDomain n d) :=
  (s.onDomain_apply n _).trans (s.restoreDomain_chain n d).writes

theorem State.restoreDomain_target (s : State) (n : Nat) (d : Domain) :
    ((s.restoreDomain n d).domain n).target = d.target ∧ ((s.restoreDomain n d).domain n).retain = d.retain := by
  have chain := s.restoreDomain_chain n d
  rw [chain.target, chain.retain, State.domain_onDomain]
  exact ⟨rfl, rfl⟩

theorem State.domain_restoreDomain_other (s : State) {n m : Nat} (d : Domain) (h : n ≠ m) : (s.restoreDomain n d).domain m = s.domain m :=
  ((s.restoreDomain_chain n d).others m h).trans (s.domain_onDomain_other _ h)

/-- Domains brought back to their saved records. -/
def State.restoreDomains (s : State) (l : List Nat) : State :=
  l.foldl (fun s n => s.restoreDomain n (Tab.get {} s.dev.pwr.saved n)) s

theorem State.restoreDomains_apply (s : State) (l : List Nat) : s.ApplyOnly (s.restoreDomains l) :=
  .foldl (fun s n => s.restoreDomain_apply n _) l s

/-- Whether domain `n` has the target and the retention of its saved record. -/
def State.Restored (s : State) (n : Nat) : Prop :=
  (s.domain n).target = (Tab.get {} s.dev.pwr.saved n).target ∧ (s.domain n).retain = (Tab.get {} s.dev.pwr.saved n).retain

theorem State.restoreDomain_restored (s : State) (n : Nat) : (s.restoreDomain n (Tab.get {} s.dev.pwr.saved n)).Restored n := by
  rw [State.Restored, (s.restoreDomain_apply n _).saved]
  exact s.restoreDomain_target n _

theorem State.restoreDomains_restored (s : State) {l : List Nat} {n : Nat} (listed : n ∈ l) : (s.restoreDomains l).Restored n := by
  refine foldl_holds (P := fun s : State => s.Restored n) listed (fun s => s.restoreDomain_restored n) (fun s m h => ?_) s
  by_cases here : m = n
  · rw [here]
    exact s.restoreDomain_restored n
  · rw [State.Restored, s.domain_restoreDomain_other _ here, (s.restoreDomain_apply m _).saved]
    exact h

theorem State.restorePlans_given {s : State} {c : BitVec 8} {w : BitVec 4} {p : BitVec 8} {m : Bool}
    (saved : s.dev.pwr.savedPlans = some (c, w, p, m)) :
    s.restorePlans.dev.clk.planCode = c ∧ s.restorePlans.dev.clk.window = w ∧ s.restorePlans.dev.pwr.planCode = p ∧
    s.restorePlans.dev.aux.slateInForce = m := by
  rw [State.restorePlans, saved]
  exact ⟨rfl, rfl, rfl, rfl⟩

theorem State.restorePlans_saved (s : State) : s.restorePlans.dev.pwr.saved = s.dev.pwr.saved := by
  unfold State.restorePlans
  split <;> rfl

/-! ## Rejecting and dropping an image -/

/-- A rejected load leaves its code and its place, and boot frames begin anew. -/
theorem State.backToAwait_rejectImage (s : State) (e : Reject) : (s.rejectImage e).backToAwait = { s with dev := { s.dev with
    boot := { s.dev.boot with stage := .awaitImage, imageBusy := false, imageResult := e.code }
    aux := { s.dev.aux with loading := none, loadDeferred := false, detailStep := BitVec.ofNat 8 e.step, detailSection := BitVec.ofNat 8 e.sec
                            detailEntry := BitVec.ofNat 32 e.entry }
    noc := s.bootFrames.dev.noc } } := rfl

theorem State.syncOutRest_frame (s : State) : s.syncOutRest = { s with dev := { s.dev with pins := s.syncOutRest.dev.pins } } := by
  unfold State.syncOutRest
  split <;> rfl

@[simp] theorem State.dropImage_leaves (s : State) :
    s.dropImage.dev.boot = { s.dev.boot with stage := .awaitImage } ∧
    s.dropImage.dev.aux = { s.dev.aux with detProfile := 0, starting := false } ∧
    s.dropImage.dev.clk = { s.dev.clk with unlocked := [] } ∧ s.dropImage.dev.pwr = s.dev.pwr ∧ s.dropImage.fab.image = none := by
  simp only [State.dropImage]
  rw [State.syncOutRest_frame]
  exact ⟨rfl, rfl, rfl, rfl, rfl⟩

@[simp] theorem State.imageEnd_dev (s : State) (c : Code) : (s.imageEnd c).dev = { s.dev with
    boot := { s.dev.boot with imageBusy := false, imageResult := c }, aux := { s.dev.aux with loading := none, loadDeferred := false } } := rfl

@[simp] theorem State.imageEnd_fab (s : State) (c : Code) : (s.imageEnd c).fab = s.fab := rfl

/-! ## The self-tests of a start -/

/-- `t` differs from `s` in the count of self-tests of its dies and in nothing else. -/
def State.TestsOnly (s t : State) : Prop :=
  (∀ d, t.die d = { s.die d with testsRun := (t.die d).testsRun }) ∧ t = { s with fab := { s.fab with dies := t.fab.dies } }

theorem State.TestsOnly.refl (s : State) : s.TestsOnly s := ⟨fun _ => rfl, rfl⟩

theorem State.TestsOnly.trans {s t u : State} (h : s.TestsOnly t) (k : t.TestsOnly u) : s.TestsOnly u := by
  obtain ⟨dies, frame⟩ := h
  obtain ⟨dies', frame'⟩ := k
  refine ⟨fun d => ?_, ?_⟩
  · rw [dies' d, dies d]
  · rw [frame', frame]

theorem State.TestsOnly.foldl {α : Type} {f : State → α → State} (step : ∀ (s : State) (a : α), s.TestsOnly (f s a))
    (l : List α) (s : State) : s.TestsOnly (l.foldl f s) :=
  List.foldlRecOn l f (.refl s) fun t h a _ => h.trans (step t a)

theorem State.die_onDie_other (s : State) {d e : Nat} (f : DieRegs → DieRegs) (h : d ≠ e) : (s.onDie d f).die e = s.die e :=
  Tab.get_modify_other _ _ _ h

/-- A self-test without a difference is counted alone. -/
theorem State.noiseTest_passes (s : State) (r die k : Nat) : s.TestsOnly (s.noiseTest r die k true) := by
  refine ⟨fun d => ?_, rfl⟩
  rw [State.noiseTest, if_pos rfl]
  by_cases here : die = d
  · rw [here, State.die_onDie]
  · rw [s.die_onDie_other _ here]

theorem State.checkNoise_passes (s : State) (r : Nat) : s.TestsOnly (s.checkNoise r []) := .foldl (fun s _ => s.noiseTest_passes r _ _) _ s

/-- `t` differs from `s` by what the start of the regions writes and by nothing else: the boot, power, network and bundle blocks, and the
registers of the dies. -/
def State.StartOnly (s t : State) : Prop :=
  t = { s with fab := { s.fab with dies := t.fab.dies }
               dev := { s.dev with boot := t.dev.boot, aux := t.dev.aux, pwr := t.dev.pwr, noc := t.dev.noc, ydi := t.dev.ydi } }

theorem State.StartOnly.trans {s t u : State} (h : s.StartOnly t) (k : t.StartOnly u) : s.StartOnly u := by
  unfold State.StartOnly at *
  rw [k, h]

theorem State.TestsOnly.start {s t : State} (h : s.TestsOnly t) : s.StartOnly t := by
  obtain ⟨-, frame⟩ := h
  unfold State.StartOnly
  rw [frame]

theorem State.StartOnly.effect {s t : State} (h : s.StartOnly t) : s.StartOnly (s.effect fun _ => t) := by
  unfold State.StartOnly State.effect
  rw [h]

end Sys2Proof.Machine
end

section
/-!
SUPPORT. The commands that end an image fetch, start the regions of an image that is taken hold of, or drop it (06 R202-R209; 05 R150-R153).
-/
namespace Sys2Proof.Machine

/-! ## The bytes have arrived -/

/-- Where the whole image has arrived while the link is up, the command gives what the validation of its bytes leaves. -/
theorem completes_imageFetchDone {s : State} {bytes : List Byte} {k : LoadKind} {P : State → Prop} (loading : s.dev.aux.loading = some k)
    (up : s.dev.hst.linkUp = true) (whole : bytes.length = s.dev.boot.imageLen.toNat) (given : P (s.flashEffect fun _ => s.fetchDone k bytes)) :
    Completes (.imageFetchDone bytes) s P := by
  refine ⟨_, rfl, ?_⟩
  rw [State.flashEffect, loading]
  dsimp only
  rw [s.whenP_pos _ (by simp [up, whole])]
  exact given

section Fetched
variable {s : State} {bytes : List Byte} (up : s.dev.hst.linkUp = true) (whole : bytes.length = s.dev.boot.imageLen.toNat)
include up whole

theorem imageFetchDone_accepts (loading : s.dev.aux.loading = some .load) (valid : validateImage s bytes = none) :
    Completes (.imageFetchDone bytes) s fun t =>
      t.fab.image = some (parseImage bytes (parseDir bytes)) ∧ t.dev.aux.starting = true ∧ t.dev.aux.loading = none ∧ t.fab.regions = [] ∧
      t.dev.boot.stage = s.dev.boot.stage ∧ s.KeepsStore t := by
  obtain ⟨image, starting, regions, boot, flash⟩ := s.acceptImage_holds bytes
  have accepted : s.fetchDone .load bytes = (s.acceptImage bytes).onAux fun a => { a with loading := none } := by
    simp [State.fetchDone, valid]
  refine completes_imageFetchDone loading up whole ?_
  rw [accepted]
  exact ⟨image, starting, rfl, regions, congrArg Boot.stage boot, rfl, rfl, flash⟩

theorem imageFetchDone_rejects {e : Reject} (loading : s.dev.aux.loading = some .load) (invalid : validateImage s bytes = some e) :
    Completes (.imageFetchDone bytes) s fun t =>
      t.dev.boot.stage = .awaitImage ∧ t.dev.boot.imageResult = e.code ∧ t.dev.boot.imageBusy = false ∧
      t.dev.aux.detailStep = BitVec.ofNat 8 e.step ∧ t.dev.aux.detailSection = BitVec.ofNat 8 e.sec ∧
      t.dev.aux.detailEntry = BitVec.ofNat 32 e.entry ∧ s.KeepsStore t ∧ s.KeepsFabric t := by
  have rejected : s.fetchDone .load bytes = (s.rejectImage e).backToAwait := by simp [State.fetchDone, invalid]
  refine completes_imageFetchDone loading up whole ?_
  rw [rejected, s.backToAwait_rejectImage]
  exact ⟨rfl, rfl, rfl, rfl, rfl, rfl, ⟨rfl, rfl, rfl⟩, rfl, rfl, rfl⟩

theorem imageFetchDone_stores (loading : s.dev.aux.loading = some .store) (valid : validateImage s bytes = none) :
    Completes (.imageFetchDone bytes) s fun t =>
      t.flash = { s.flash with autoload := some bytes } ∧ t.dev.boot.autoloadBit = true ∧ t.dev.boot.imageResult = Codes.OK ∧
      t = { s with flash := t.flash, dev := { s.dev with boot := t.dev.boot, aux := t.dev.aux } } := by
  have stored : s.fetchDone .store bytes =
      (({ s with flash := { s.flash with autoload := some bytes } }.onBoot fun b => { b with autoloadBit := true }).onAux
        fun a => { a with autoloadTried := false }).imageEnd Codes.OK := by
    simp [State.fetchDone, valid]
  refine completes_imageFetchDone loading up whole ?_
  rw [stored]
  exact ⟨rfl, rfl, rfl, rfl⟩

end Fetched

/-! ## The fetch fails -/

section Failed
variable {s : State} (loading : s.dev.aux.loading = some .load)
include loading

theorem State.fetchEnds_load (c : Code) : s.fetchEnds c = (s.rejectImage { step := 0, code := c }).backToAwait := by
  rw [State.fetchEnds, loading]
  rfl

theorem imageFetchError_ends {why : FetchFailure} (other : why ≠ .hostError) : Completes (.imageFetchError why) s fun t =>
    t.dev.boot.stage = .awaitImage ∧ t.dev.boot.imageResult = fetchCode why ∧ t.dev.boot.imageBusy = false ∧ t.dev.aux.loading = none ∧
    t = { s with dev := { s.dev with boot := t.dev.boot, aux := t.dev.aux, noc := t.dev.noc } } := by
  refine completes_of_effect (t := (s.rejectImage { step := 0, code := fetchCode why }).backToAwait) rfl ?_ ⟨rfl, rfl, rfl, rfl, ?_⟩
  · rw [s.whenP_pos _ (by simp [loading]), if_neg other, State.fetchEnds_load loading]
  · rw [State.backToAwait_rejectImage]
    rfl

theorem imageFetchError_faults : Completes (.imageFetchError .hostError) s fun t =>
    t.dev.boot.stage = .awaitImage ∧ t.dev.boot.imageResult = Codes.HST_HOST_ERROR ∧
    t.dev.faults.count = satAdd s.dev.faults.count 1 ∧ t.dev.faults.next = nextFaultId s.dev.faults.next := by
  have faulted : (s.assignFault Codes.HST_HOST_ERROR none 0 none).dev.aux.loading = some .load := loading
  refine completes_of_effect (t := ((s.assignFault Codes.HST_HOST_ERROR none 0 none).rejectImage
    { step := 0, code := Codes.HST_HOST_ERROR }).backToAwait) rfl ?_ ⟨rfl, rfl, rfl, rfl⟩
  rw [s.whenP_pos _ (by simp [loading]), if_pos rfl, State.fetchEnds_load faulted]
  rfl

end Failed

/-! ## The image starts, or is dropped -/

section Starting
variable {s : State} (starting : s.dev.aux.starting = true)
include starting

/-- Without a site at fault, the start of the regions counts their self-tests and changes the hub's blocks. -/
theorem regionsStart_starts : Completes (.regionsStart ⟨[], []⟩) s fun t =>
    t.dev.boot.stage = .running ∧ t.dev.boot.imageResult = Codes.OK ∧ t.dev.boot.imageBusy = false ∧ t.dev.aux.starting = false ∧
    t.dev.noc.counting = true ∧ t.dev.noc.frame = 0 ∧ t.dev.noc.frameTick = s.dev.clk.tick ∧
    (∀ d, t.die d = { s.die d with testsRun := (t.die d).testsRun }) ∧
    t = { s with
      fab := { s.fab with dies := t.fab.dies }
      dev := { s.dev with boot := t.dev.boot, aux := t.dev.aux, pwr := t.dev.pwr, noc := t.dev.noc, ydi := t.dev.ydi } } := by
  refine completes_of_effect rfl (s.whenP_pos _ starting) ?_
  extract_lets released unsaved counting unchanged tested
  have tests : unchanged.TestsOnly tested := .foldl (fun s r => s.checkNoise_passes r) _ _
  clear_value tested
  have dev : tested.dev = unchanged.dev := by rw [tests.2]
  have only : s.StartOnly tested := .trans (t := unchanged) rfl tests.start
  have ended : tested.StartOnly ((tested.onBoot fun b => { b with stage := .running }).imageEnd Codes.OK) := rfl
  refine ⟨rfl, rfl, rfl, ?_, ?_, ?_, ?_, tests.1, (only.trans ended).effect⟩
  · simp [dev, unchanged, counting, unsaved, released]
  · exact congrArg (·.noc.counting) dev
  · exact congrArg (·.noc.frame) dev
  · exact congrArg (·.noc.frameTick) dev

theorem imageApplyFault_drops {step : Fin 7} (applied : step ≠ 0) : Completes (.imageApplyFault step) s fun t =>
    t.dev.boot.stage = .awaitImage ∧ t.dev.boot.imageResult = Codes.IMAGE_APPLY_FAULT ∧ t.fab.image = none ∧
    (∀ n, n < 52 → (t.domain n).target = (Tab.get {} s.dev.pwr.saved n).target ∧
      (t.domain n).retain = (Tab.get {} s.dev.pwr.saved n).retain) ∧
    (∀ c w p m, s.dev.pwr.savedPlans = some (c, w, p, m) →
      t.dev.clk.planCode = c ∧ t.dev.clk.window = w ∧ t.dev.pwr.planCode = p ∧ t.dev.aux.slateInForce = m) ∧
    s.KeepsStore t := by
  refine completes_of_effect rfl (s.whenP_pos _ (by simp [starting, applied])) ?_
  extract_lets planned restored unsaved wiped
  have back : planned.ApplyOnly restored := planned.restoreDomains_apply _
  have domains (n : Nat) (present : n < 52) : restored.Restored n := planned.restoreDomains_restored (List.mem_range.2 present)
  clear_value restored
  have dev : wiped.dev = { restored.dev with pwr := { restored.dev.pwr with saved := [] } } := rfl
  refine ⟨by simp, by simp, by simp, fun n present => ?_, fun c w p m saved => ?_, State.effect_keepsStore _ _⟩
  · have returned := domains n present
    rw [State.Restored, back.saved, s.restorePlans_saved] at returned
    simpa [State.domain, dev] using returned
  · have returned := State.restorePlans_given saved
    rw [← back.clk, ← back.planCode, ← back.aux] at returned
    simpa [dev] using returned

end Starting

end Sys2Proof.Machine
end

section
/-!
CERTIFICATE. The end of an image fetch, the start of an image's regions and the fault that stops it (06 R202-R209).
-/
namespace Sys2Proof.Machine

/-- Settles O10: one lemma for each way in which a fetch, or the image that it brought, ends. -/
theorem imageFetchEnds : Obligations.ImageFetchEnds := by
  intro s bytes e why step
  exact ⟨fun loading up whole => imageFetchDone_accepts up whole loading, fun loading up whole => imageFetchDone_rejects up whole loading,
    fun loading up whole => imageFetchDone_stores up whole loading, fun loading other => imageFetchError_ends loading other,
    imageFetchError_faults, regionsStart_starts, fun starting applied => imageApplyFault_drops starting applied⟩

end Sys2Proof.Machine
end

section
/-!
SUPPORT. Operations in their task slots: what reading a slot gives after an update of it, and what depends only on which operations stand
there, in which state and on which units.
-/
namespace Sys2Proof.Machine

/-! ## Slots after an update -/

/-- An update that keeps a slot's name maps what the name finds. -/
theorem State.slotOf_onSlot (s : State) (r q : Nat) (seq : Word) {f : Slot → Slot} (named : ∀ sl, (f sl).is q seq = sl.is q seq) :
    (s.onSlot r q seq f).slotOf r q seq = (s.slotOf r q seq).map f := by
  simp only [State.slotOf, State.slots, State.onSlot, State.region_onSched]
  induction (s.region r).sched.slots with
  | nil => rfl
  | cons sl l ih => by_cases h : sl.is q seq = true <;> simp [h, named, ih]

/-- The regions' records alone are written by an update of a slot. -/
theorem State.onSlot_regionsOnly (s : State) (r q : Nat) (seq : Word) (f : Slot → Slot) : s.RegionsOnly (s.onSlot r q seq f) := rfl

/-! ## Who stands in the slots -/

/-- An operation's name, its state, and what it holds of its units. -/
def Slot.standing (sl : Slot) : Nat × Word × OpState × UnitRun := (sl.op.queue, sl.op.seq, sl.op.state, sl.run)

/-- In every region the same operations stand in the slots, in the same states and on the same units. -/
def State.SameStanding (s t : State) : Prop := ∀ r, (t.slots r).map Slot.standing = (s.slots r).map Slot.standing

theorem State.SameStanding.of_regions {s t : State} (h : t.fab.regions = s.fab.regions) : s.SameStanding t := fun r => by
  rw [State.slots, State.region, h]
  rfl

theorem State.SameStanding.trans {s t u : State} (h : s.SameStanding t) (k : t.SameStanding u) : s.SameStanding u :=
  fun r => (k r).trans (h r)

theorem State.onSlot_sameStanding (s : State) (r q : Nat) (seq : Word) {f : Slot → Slot} (kept : ∀ sl, (f sl).standing = sl.standing) :
    s.SameStanding (s.onSlot r q seq f) := by
  intro p
  by_cases h : r = p
  · subst h
    simp only [State.slots, State.onSlot, State.region_onSched, List.map_map]
    refine List.map_congr_left fun sl _ => ?_
    by_cases hs : sl.is q seq = true <;> simp [hs, kept]
  · rw [State.slots, State.onSlot, State.region_onSched_other _ _ h]
    rfl

section Standing
variable {s t : State} (h : s.SameStanding t)
include h

theorem State.SameStanding.any_slot (v : Nat × Word × OpState × UnitRun → Bool) (r : Nat) :
    (t.slots r).any (fun sl => v sl.standing) = (s.slots r).any (fun sl => v sl.standing) := by
  have viewed : ∀ l : List Slot, l.any (fun sl => v sl.standing) = (l.map Slot.standing).any v := fun l => by
    rw [List.any_map]
    rfl
  rw [viewed, viewed, h r]

theorem State.SameStanding.slotOf_any (v : Nat × Word × OpState × UnitRun → Bool) (r q : Nat) (seq : Word) :
    (t.slotOf r q seq).any (fun sl => v sl.standing) = (s.slotOf r q seq).any (fun sl => v sl.standing) := by
  have viewed : ∀ l : List Slot, (l.find? (fun sl => sl.is q seq)).any (fun sl => v sl.standing) =
      ((l.map Slot.standing).find? (fun x => decide (x.1 = q) && decide (x.2.1 = seq))).any v := fun l => by
    rw [List.find?_map, Option.any_map]
    rfl
  rw [State.slotOf, State.slotOf, viewed, viewed, h r]

theorem State.SameStanding.taskThreads (r : Nat) : t.taskThreads r = s.taskThreads r := by
  have viewed : ∀ u : State, u.taskThreads r = ((u.slots r).map Slot.standing).flatMap (fun x =>
      if x.2.2.1 = .running then (x.2.2.2.task.map (·.threads)).getD [] else []) := fun u => by
    rw [List.flatMap_map]
    rfl
  rw [viewed, viewed, h r]

theorem State.SameStanding.busySite (sites : t.fab.sites = s.fab.sites) (image : t.fab.image = s.fab.image) (k : Nat) :
    t.busySite k = s.busySite k := by
  have held := h.any_slot fun x => x.2.2.1 = .preempted && x.2.2.2.anneal.any (fun a => a.sites.contains k)
  simp only [State.busySite, State.site, State.regionIds, State.image, sites, image]
  exact congrArg (_ || ·) (congrArg (List.any _) (funext held))

theorem State.SameStanding.taskRuns (sites : t.fab.sites = s.fab.sites) (clk : t.dev.clk = s.dev.clk) (k th : Nat) :
    t.taskRuns k th = s.taskRuns k th := by
  have next : t.vecNext k = s.vecNext k := by
    simp only [State.vecNext, State.vecFirst, State.tick, State.plan, State.site, sites, clk]
  have viewed : ∀ u : State, u.taskRuns k th = (u.threadSlot k th).any (fun sl =>
      sl.op.state = .running && sl.run.task.any (fun x => x.trap.all (fun p => u.vecNext k ≤ p.2.2))) := fun u => by
    unfold State.taskRuns
    cases u.threadSlot k th <;> rfl
  rw [viewed, viewed, next, State.threadSlot, State.threadSlot, State.thread, State.site, sites]
  exact h.slotOf_any (fun x => x.2.2.1 = .running && x.2.2.2.task.any (fun y => y.trap.all (fun p => s.vecNext k ≤ p.2.2))) _ _ _

theorem State.SameStanding.stalledOn (sites : t.fab.sites = s.fab.sites) (clk : t.dev.clk = s.dev.clk) (r route : Nat) :
    t.stalledOn r route = s.stalledOn r route := by
  simp only [State.stalledOn, h.taskThreads, h.taskRuns sites clk, State.thread, State.site, sites]

end Standing

end Sys2Proof.Machine
end

section
/-!
SUPPORT. Accesses that travel on a route: what a clean write leaves in memory, a store that reaches its bytes, and what an occurrence of a
route does with the oldest packet of its send queue (07 R228, R229; 19 R719).
-/
namespace Sys2Proof.Machine

/-! ## Bytes written where no error is stored -/

theorem Mem.writeCells_of_clean (m : Mem) (l : List (Nat × Byte)) (clean : m.marks = []) :
    (m.writeCells l).1 = l.foldl (fun m p => m.write p.1 p.2) m := by
  have marks : (l.foldl (fun m p => m.write p.1 p.2) m).marks = [] :=
    List.foldlRecOn (motive := fun m : Mem => m.marks = []) l _ clean fun _ h _ _ => h
  have whole : l.filter (fun p => !(!coversUnit (l.map (·.1)) p.1 &&
      m.marks.any (fun q => q.2 != .corrected && q.1 / checkUnit p.1 == p.1 / checkUnit p.1))) = l := by simp [clean]
  simp only [Mem.writeCells, whole, marks, List.filter_nil]
  exact (congrArg (fun x => { l.foldl (fun m p => m.write p.1 p.2) m with marks := x }) marks.symm)

/-- A byte that is written once reads as it was written. -/
theorem Mem.read_writeCells_same {m : Mem} {l : List (Nat × Byte)} (clean : m.marks = []) (once : (l.map (·.1)).Nodup) {a : Nat} {v : Byte}
    (listed : (a, v) ∈ l) (n : Nat) : (m.writeCells l).1.read n a = v := by
  induction l generalizing m with
  | nil => cases listed
  | cons p l ih =>
    obtain ⟨fresh, once⟩ := List.nodup_cons.1 once
    have first : (m.writeCells (p :: l)).1 = ((m.write p.1 p.2).writeCells l).1 := by
      rw [Mem.writeCells_of_clean _ _ clean, Mem.writeCells_of_clean (m.write p.1 p.2) _ clean, List.foldl_cons]
    rw [first]
    rcases List.mem_cons.1 listed with rfl | later
    · rw [Mem.read_writeCells_other _ _ _ _ fun q hq he => fresh (List.mem_map.2 ⟨q, hq, he⟩), Mem.read_write_same]
    · exact ih (m := m.write p.1 p.2) clean once later

theorem leBytes_getD {n i : Nat} (v : Nat) (h : i < n) : (leBytes n v).getD i 0 = BitVec.ofNat 8 (v / 256 ^ i) := by
  simp [leBytes, h]

section Stored
variable {m : Mem} {l : List Nat} (clean : m.marks = []) (v : Nat)
include clean

/-- The bytes of a value at listed addresses, lowest first. -/
theorem Mem.read_stored (once : l.Nodup) (short : l.length ≤ 8) {i : Nat} (inside : i < l.length) (n : Nat) :
    (m.writeCells (l.zip (leBytes l.length v))).1.read n (l.getD i 0) = (leBytes 8 v).getD i 0 := by
  refine Mem.read_writeCells_same clean ?_ ?_ n
  · rwa [List.map_fst_zip (by simp)]
  · rw [leBytes_getD v (Nat.lt_of_lt_of_le inside short), ← leBytes_getD v inside]
    have listed : (l.zip (leBytes l.length v))[i]'(by simpa using inside) ∈ l.zip (leBytes l.length v) := List.getElem_mem _
    simpa [List.getElem_zip, inside] using listed

omit clean in
theorem Mem.read_stored_other {a : Nat} (outside : a ∉ l) (n : Nat) :
    (m.writeCells (l.zip (leBytes l.length v))).1.read n a = m.read n a :=
  Mem.read_writeCells_other _ _ _ _ fun _ hp he => outside (he ▸ (List.of_mem_zip hp).1)

end Stored

/-! ## A packet that reaches its domain -/

/-- A domain that accepts an operation notes itself in the operation's record. -/
theorem State.accept_form (s : State) (k : OpKey) (n : Nat) : s.accept k n = s ∨
    s.accept k n = s.onOp k.1 k.2.1 k.2.2 fun o => { o with accepted := (n, s.slotCount) :: o.accepted } := by
  unfold State.accept State.acceptAt
  split
  · exact .inr rfl
  · exact .inl rfl

theorem State.accept_regionsOnly (s : State) (k : OpKey) (n : Nat) : s.RegionsOnly (s.accept k n) := by
  rcases s.accept_form k n with h | h <;> rw [h]
  · exact .refl s
  · exact s.onSlot_regionsOnly _ _ _ _

theorem State.accept_sameStanding (s : State) (k : OpKey) (n : Nat) : s.SameStanding (s.accept k n) := by
  rcases s.accept_form k n with h | h <;> rw [h]
  · exact .of_regions rfl
  · exact s.onSlot_sameStanding _ _ _ fun _ => rfl

/-- The same stands behind every address: the map, the memory dies, the image and the power domains are the same, and every site is as much in
service; the records of regions and of sites' work may differ. -/
structure State.SamePlaces (s t : State) : Prop where
  fab : t.fab = { s.fab with regions := t.fab.regions, sites := t.fab.sites }
  island : ∀ k, (t.site k).island = (s.site k).island
  power : t.dev.pwr = s.dev.pwr

theorem State.RegionsOnly.samePlaces {s t : State} (h : s.RegionsOnly t) : s.SamePlaces t :=
  ⟨by rw [h], fun k => by rw [h.site], by rw [h]⟩

section Places
variable {s t : State} (h : s.SamePlaces t)
include h

theorem State.SamePlaces.fabric : t.fab.memDies = s.fab.memDies ∧ t.fab.siteMap = s.fab.siteMap ∧ t.fab.image = s.fab.image ∧
    t.fab.body = s.fab.body ∧ t.fab.dual0 = s.fab.dual0 ∧ t.fab.dual1 = s.fab.dual1 := by
  rw [h.fab]
  exact ⟨rfl, rfl, rfl, rfl, rfl, rfl⟩

theorem State.SamePlaces.memDie : t.memDie = s.memDie := funext fun _ => by rw [State.memDie, State.memDie, h.fabric.1]

theorem State.SamePlaces.dramDie (a : Nat) : t.dramDie a = s.dramDie a := by
  rw [State.dramDie, State.dramDie, State.dieAt, State.dieAt, h.memDie]

theorem State.SamePlaces.islandAt (a : Nat) : t.islandAt a = s.islandAt a := by
  rw [State.islandAt, State.islandAt, h.island, h.dramDie, h.memDie]

theorem State.SamePlaces.domainOf (a : Nat) : t.domainOf a = s.domainOf a := by
  simp only [State.domainOf, State.siteDomain, h.dramDie, h.fabric]

theorem State.SamePlaces.ivory (n : Nat) : t.ivory n = s.ivory n := by
  have state : t.domState n = s.domState n := by simp only [State.domState, State.domain, h.power]
  rw [State.ivory, State.ivory, state]

theorem State.SamePlaces.isSpin (die k : Nat) : t.isSpin die k = s.isSpin die k := by
  obtain ⟨_, _, _, _, dual0, dual1⟩ := h.fabric
  rw [State.isSpin, State.isSpin, dual0, dual1]

theorem State.SamePlaces.busyByte (sites : t.fab.sites = s.fab.sites) (standing : s.SameStanding t) (a : Nat) :
    t.busyByte a = s.busyByte a := by
  obtain ⟨_, _, image, _⟩ := h.fabric
  unfold State.busyByte
  rw [standing.busySite sites image, h.isSpin]

theorem State.SamePlaces.protectedByte (a : Nat) : t.protectedByte a = s.protectedByte a := by
  obtain ⟨_, _, _, body, _⟩ := h.fabric
  unfold State.protectedByte
  dsimp only
  rw [h.isSpin, body]

theorem State.SamePlaces.threadRoute (r die k a : Nat) (store : Bool) : t.threadRoute r die k a store = s.threadRoute r die k a store := by
  obtain ⟨_, _, _, body, _⟩ := h.fabric
  have shaped : t.findRoute r = s.findRoute r := funext fun p => by simp only [State.findRoute, State.routeIds, State.routeEntries, body]
  have path : t.pathRoute r = s.pathRoute r := by
    unfold State.pathRoute
    rw [shaped]
  have dram : ∀ x, t.dramRoute r die x a = s.dramRoute r die x a := fun x => by
    rw [State.dramRoute, State.dramRoute, State.dramRouter, State.dramRouter, h.dramDie, shaped]
  rw [State.threadRoute, State.threadRoute, path, dram]

end Places

/-- Where the island has its lock and the domain is on, a byte is reached. -/
theorem State.reachFails_none {s : State} (k : OpKey) {a : Nat} (lock : s.islandAt a = none) (on : s.ivory (s.domainOf a) = true) :
    s.reachFails k a = none := by
  simp [State.reachFails, lock, State.serves, on]

/-- A store that is reached, and meets neither a busy site nor a stored error, writes its bytes; its domain accepts the task. -/
theorem State.perform_store {s : State} (r : Nat) {p : Packet} (route : Option Nat) (store : p.kind = 1)
    (lock : s.islandAt (p.addrs.headD 0) = none) (on : s.ivory (s.domainOf (p.addrs.headD 0)) = true)
    (free : p.addrs.any s.busyByte = false) (clean : s.mem.marks = []) :
    s.perform r p route = { s.accept (r, p.queue, p.seq) (s.domainOf (p.addrs.headD 0)) with
      mem := (s.mem.writeCells (p.addrs.zip (leBytes p.addrs.length p.data.toNat))).1 } := by
  have only := s.accept_regionsOnly (r, p.queue, p.seq) (s.domainOf (p.addrs.headD 0))
  have standing := s.accept_sameStanding (r, p.queue, p.seq) (s.domainOf (p.addrs.headD 0))
  unfold State.perform
  dsimp only
  generalize s.accept (r, p.queue, p.seq) (s.domainOf (p.addrs.headD 0)) = t at only standing
  have places := only.samePlaces
  have sites : t.fab.sites = s.fab.sites := by rw [only]
  have reached : t.reachFails (r, p.queue, p.seq) (p.addrs.headD 0) = none :=
    State.reachFails_none _ ((places.islandAt _).trans lock) (by rw [places.domainOf, places.ivory, on])
  have idle : p.addrs.any t.busyByte = false := by rwa [funext (places.busyByte sites standing)]
  have mem : t.mem = s.mem := by rw [only]
  have unmet : (s.mem.writeCells (p.addrs.zip (leBytes p.addrs.length p.data.toNat))).2 = none := (Mem.writeCells_clean _ _ clean).2
  simp only [reached, idle, store, Bool.false_eq_true, and_false, if_false, if_true, State.threadWrite,
    State.countMerged_clean t _ (mem ▸ clean), mem, unmet]

/-! ## The occurrence of a route -/

/-- The occurrence has taken the oldest packet of its send queue, of which the packets `q` remain. -/
def State.dequeued (s : State) (r route : Nat) (q : List Packet) : State :=
  (s.occurred r route).onNoc fun n => { n with queues := Tab.set n.queues (routeKey r route) q }

/-- A packet of a route waits at the crossing that blocks it. -/
def State.deferAt (s : State) (r route : Nat) (p : Packet) (c : Nat × Nat × Nat × Bool) : State :=
  s.onNoc fun n => { n with deferred := n.deferred ++
    [{ key := routeKey r route, bundle := c.1, die := c.2.1, slot := c.2.2.1, since := s.crossFrame c.2.2.1, packet := p }] }

theorem State.retrySend_idle {s : State} {r route : Nat} (idle : s.stalledOn r route = none) : s.retrySend r route = s := by
  simp [State.retrySend, idle]

section Occurrence
variable {s : State} {r route : Nat} {p : Packet} {q : List Packet} (queued : Tab.get [] s.dev.noc.queues (routeKey r route) = p :: q)
include queued

theorem State.drainRoute_blocked {c : Nat × Nat × Nat × Bool} (blocked : s.firstBlock r route = some c) :
    s.drainRoute r route = ((s.dequeued r route q).deferAt r route p c).retrySend r route := by
  have waiting : Tab.get [] (s.occurred r route).dev.noc.queues (routeKey r route) = p :: q := queued
  have way : (s.dequeued r route q).firstBlock r route = some c := blocked
  simp only [State.dequeued] at way
  simp only [State.drainRoute, waiting, way]
  rfl

theorem State.drainRoute_unblocked (unblocked : s.firstBlock r route = none) :
    s.drainRoute r route = ((s.dequeued r route q).launch r route p).retrySend r route := by
  have waiting : Tab.get [] (s.occurred r route).dev.noc.queues (routeKey r route) = p :: q := queued
  have way : (s.dequeued r route q).firstBlock r route = none := unblocked
  simp only [State.dequeued] at way
  simp only [State.drainRoute, waiting, way]
  rfl

end Occurrence

/-! ## SEND_QUEUE_RELEASE -/

theorem State.dequeued_samePlaces (s : State) (r route : Nat) (q : List Packet) : s.SamePlaces (s.dequeued r route q) := ⟨rfl, fun _ => rfl, rfl⟩

theorem State.dequeued_sameStanding (s : State) (r route : Nat) (q : List Packet) : s.SameStanding (s.dequeued r route q) := .of_regions rfl

@[simp] theorem State.dequeued_queue (s : State) (r route : Nat) (q : List Packet) :
    Tab.get [] (s.dequeued r route q).dev.noc.queues (routeKey r route) = q := Tab.get_set_same _ _ _ _

theorem sendQueueRelease_drains {s t : State} {r : RegionId} {route : BitVec 16} {P : State → Prop} (on : s.fabricOn = true)
    (occurs : s.occurs r.val route.toNat = true) (drained : s.drainRoute r.val route.toNat = t) (given : P (s.effect fun _ => t)) :
    Completes (.sendQueueRelease r route) s P :=
  completes_of_effect rfl ((s.whenP_pos _ (by simp [on, occurs])).trans drained) given

section Release
variable {s : State} {r route : Nat} {p : Packet} {q : List Packet} (queued : Tab.get [] s.dev.noc.queues (routeKey r route) = p :: q)
  (idle : s.stalledOn r route = none)
include queued idle

theorem State.drainRoute_defers {c : Nat × Nat × Nat × Bool} (blocked : s.firstBlock r route = some c) :
    s.drainRoute r route = (s.dequeued r route q).deferAt r route p c := by
  have still : ((s.dequeued r route q).deferAt r route p c).stalledOn r route = none :=
    ((s.dequeued_sameStanding r route q).trans (.of_regions rfl) |>.stalledOn rfl rfl r route).trans idle
  rw [State.drainRoute_blocked queued blocked, State.retrySend_idle still]

/-- An unblocked store leaves its bytes where they lie, and its domain accepts the task. -/
theorem State.drainRoute_stores (unblocked : s.firstBlock r route = none) (store : p.kind = 1) (lock : s.islandAt (p.addrs.headD 0) = none)
    (on : s.ivory (s.domainOf (p.addrs.headD 0)) = true) (free : p.addrs.any s.busyByte = false) (clean : s.mem.marks = []) :
    ∃ t, s.drainRoute r route = { t with mem := (s.mem.writeCells (p.addrs.zip (leBytes p.addrs.length p.data.toNat))).1 } ∧
      (s.dequeued r route q).RegionsOnly t := by
  have places := s.dequeued_samePlaces r route q
  have standing := s.dequeued_sameStanding r route q
  have sent := State.perform_store r (some route) store ((places.islandAt _).trans lock)
    (by rw [places.domainOf, places.ivory, on]) (by rwa [funext (places.busyByte rfl standing)]) clean
  have only := (s.dequeued r route q).accept_regionsOnly (r, p.queue, p.seq) ((s.dequeued r route q).domainOf (p.addrs.headD 0))
  have accepted := (s.dequeued r route q).accept_sameStanding (r, p.queue, p.seq) ((s.dequeued r route q).domainOf (p.addrs.headD 0))
  generalize (s.dequeued r route q).accept (r, p.queue, p.seq) ((s.dequeued r route q).domainOf (p.addrs.headD 0)) = t at sent only accepted
  refine ⟨t, ?_, only⟩
  have launched : (s.dequeued r route q).launch r route p = (s.dequeued r route q).perform r p (some route) := by
    simp [State.launch, store]
  rw [State.drainRoute_unblocked queued unblocked, launched, sent]
  refine State.retrySend_idle (.trans (State.SameStanding.stalledOn ((standing.trans accepted).trans (.of_regions rfl)) ?_ ?_ r route) idle)
  · rw [only]
    rfl
  · rw [only]
    rfl

end Release

theorem routeOccurrenceSendsOldest : RouteOccurrenceSendsOldest := by
  intro s r route p q on queued store once _ short lock domain free clean idle occurs
  refine ⟨fun unblocked => ?_, fun c blocked => ?_⟩
  · obtain ⟨t, drained, only⟩ := State.drainRoute_stores queued idle unblocked store lock domain free clean
    refine sendQueueRelease_drains on occurs drained ⟨?_, fun i inside n => ?_, fun n a outside => ?_, s.effect_keepsStore _⟩
    · rw [State.effect_dev, only]
      exact s.dequeued_queue r.val route.toNat q
    · exact Mem.read_stored clean _ once short inside n
    · exact Mem.read_stored_other _ outside n
  · refine sendQueueRelease_drains on occurs (State.drainRoute_defers queued idle blocked) ⟨?_, ?_, ?_, ?_, s.effect_keepsStore _⟩
    · exact s.dequeued_queue r.val route.toNat q
    all_goals rfl

end Sys2Proof.Machine
end

section
/-!
SUPPORT. Stores beyond the own scratchpad: they join the send queue of their route, or stall their thread (07 R229, R230; 09 R305).
-/
namespace Sys2Proof.Machine

/-! ## The issue of a store of four bytes -/

/-- What an issued instruction finds is what its thread found before: the issue is noted at the site, beside its threads. -/
theorem State.issued_samePlaces (s : State) (k th : Nat) : s.SamePlaces (s.issued k th) := by
  refine ⟨rfl, fun j => ?_, rfl⟩
  unfold State.issued
  by_cases h : k = j
  · subst h
    simp
  · rw [State.site_onSite_other _ _ h]

section Words
variable (ra rb : Reg) (imm : Word)

theorem fields_st32 : wOp (enc 0x6A 0 ra.toNat rb.toNat 0 imm.toNat) = 0x6A ∧ wRa (enc 0x6A 0 ra.toNat rb.toNat 0 imm.toNat) = ra.toNat ∧
    wRb (enc 0x6A 0 ra.toNat rb.toNat 0 imm.toNat) = rb.toNat ∧ wImm (enc 0x6A 0 ra.toNat rb.toNat 0 imm.toNat) = imm.toNat :=
  ⟨wOp_enc (by omega), wRa_enc (by omega) (by omega) ra.isLt, wRb_enc (by omega) (by omega) ra.isLt rb.isLt,
    wImm_enc (by omega) (by omega) ra.isLt rb.isLt (by omega) imm.isLt⟩

theorem memRegs_st32 : memRegs (enc 0x6A 0 ra.toNat rb.toNat 0 imm.toNat) = [ra.toNat, ra.toNat + 1, rb.toNat] := by
  obtain ⟨hop, ha, hb, _⟩ := fields_st32 ra rb imm
  simp [memRegs, hop, ha, hb, memKindOf, pairRegs]

theorem memLegal_st32 (even : ra.toNat % 2 = 0) : memLegal (enc 0x6A 0 ra.toNat rb.toNat 0 imm.toNat) = true := by
  obtain ⟨hop, ha, _, _⟩ := fields_st32 ra rb imm
  simp [memLegal, hop, ha, even]

end Words

/-- An aligned store that translates goes on to its access. -/
theorem State.mem1_st32 {s : State} {t : Tid} {ra rb : Reg} {imm : Word} {l : List Nat}
    (issues : Issues s t (enc 0x6A 0 ra.toNat rb.toNat 0 imm.toNat) [ra.toNat, ra.toNat + 1, rb.toNat]) (even : ra.toNat % 2 = 0)
    (aligned : (s.thread (tidKey t) t.th.val).address ra.toNat imm.toNat % 4 = 0)
    (translated : s.threadAddrs (s.thread (tidKey t) t.th.val).region ((s.thread (tidKey t) t.th.val).address ra.toNat imm.toNat) 4 .store = .ok l) :
    s.mem1 t (enc 0x6A 0 ra.toNat rb.toNat 0 imm.toNat) = (s.issued (tidKey t) t.th.val).access (tidKey t) t.th.val
      (enc 0x6A 0 ra.toNat rb.toNat 0 imm.toNat) ((s.thread (tidKey t) t.th.val).address ra.toNat imm.toNat) l := by
  obtain ⟨ready, ⟨a, fetched, whole, word⟩, unawaited⟩ := issues
  obtain ⟨hop, ha, _, himm⟩ := fields_st32 ra rb imm
  have found : (s.issued (tidKey t) t.th.val).threadAddrs (s.thread (tidKey t) t.th.val).region
      ((s.thread (tidKey t) t.th.val).address ra.toNat imm.toNat) 4 .store = .ok l := translated
  have size : memSize 0x6A = 4 := by simp [memSize]
  have kind : accessKindOf (memKindOf 0x6A) = .store := rfl
  rw [State.mem1, memLegal_st32 ra rb imm even, memRegs_st32, State.issueAs_runs _ ready fetched whole word unawaited]
  simp [State.memOp, hop, ha, himm, size, kind, aligned, found]

/-! ## The access -/

/-- A thread's store joins the send queue of its route, and its term the task's fold digest. -/
def State.sendStore (s : State) (k th w va : Nat) (l : List Nat) (route : Nat) : State :=
  let x := s.thread k th
  let key := routeKey x.region route
  let sent := s.onNoc fun n => { n with
    serial := n.serial + 1
    queues := Tab.set n.queues key (Tab.get [] s.dev.noc.queues key ++ [x.packet k th w n.serial va l]) }
  (sent.foldStore x.key va l.length (x.packet k th w 0 va l).data.toNat false).advance k th

/-- A store on a route stalls its thread where the send queue holds eight. -/
theorem State.access_store_routed {s : State} {k th w va route : Nat} {l : List Nat} (store : memKindOf (wOp w) = 1)
    (unprotected : l.any s.protectedByte = false) (away : ownBytes k l = false)
    (routed : s.threadRoute (s.thread k th).region (k / 256) (k % 256) (l.headD 0) true = some route)
    (reached : s.reachFails (s.thread k th).key (l.headD 0) = none) :
    s.access k th w va l =
      if 8 ≤ (Tab.get [] s.dev.noc.queues (routeKey (s.thread k th).region route)).length then
        s.onThread k th fun x => { x with state := .stallSend route (BitVec.ofNat 64 w) }
      else s.sendStore k th w va l route := by
  simp [-List.headD_eq_head?_getD, State.access, store, unprotected, away, routed, reached, State.sendStore]

section Sent
variable (s : State) (k th w va : Nat) (l : List Nat) (route : Nat)

theorem State.queue_sendStore : Tab.get [] (s.sendStore k th w va l route).dev.noc.queues (routeKey (s.thread k th).region route) =
    Tab.get [] s.dev.noc.queues (routeKey (s.thread k th).region route) ++ [(s.thread k th).packet k th w s.dev.noc.serial va l] :=
  Tab.get_set_same _ _ _ _

theorem State.pc_sendStore : ((s.sendStore k th w va l route).thread k th).pc = (s.thread k th).pc + 8 := by
  rw [State.sendStore, State.advance, State.thread_onThread]
  rfl

end Sent

theorem Thread.packet_st32 (x : Thread) (k th no va : Nat) (l : List Nat) (ra rb : Reg) (imm : Word) :
    (x.packet k th (enc 0x6A 0 ra.toNat rb.toNat 0 imm.toNat) no va l).kind = 1 ∧
      (x.packet k th (enc 0x6A 0 ra.toNat rb.toNat 0 imm.toNat) no va l).data = (x.reg rb.toNat).setWidth 64 := by
  obtain ⟨hop, _, hb, _⟩ := fields_st32 ra rb imm
  refine ⟨by simp [Thread.packet, hop, memKindOf], BitVec.eq_of_toNat_eq ?_⟩
  simp [Thread.packet, hop, hb]

theorem remoteAccessesTakeTheirRoute : RemoteAccessesTakeTheirRoute := by
  intro s t ra rb imm l id issues even aligned translated away unprotected routed lock on
  have thread := s.thread_issued (tidKey t) (tidKey t) t.th.val t.th.val
  have places := s.issued_samePlaces (tidKey t) t.th.val
  have dev : (s.issued (tidKey t) t.th.val).dev = s.dev := rfl
  have mem : (s.issued (tidKey t) t.th.val).mem = s.mem := rfl
  have run := State.mem1_st32 issues even aligned translated
  have store : memKindOf (wOp (enc 0x6A 0 ra.toNat rb.toNat 0 imm.toNat)) = 1 := by rw [(fields_st32 ra rb imm).1]; rfl
  generalize s.issued (tidKey t) t.th.val = i at thread places run dev mem
  rw [State.access_store_routed store (by rwa [funext places.protectedByte]) away (by rwa [thread, places.threadRoute])
    (State.reachFails_none _ ((places.islandAt _).trans lock) (by rw [places.domainOf, places.ivory, on])), thread, dev, routeKey] at run
  refine ⟨fun room => ?_, fun full => ?_⟩
  · rw [if_neg (Nat.not_le.2 room)] at run
    obtain ⟨kind, data⟩ := (s.thread (tidKey t) t.th.val).packet_st32 (tidKey t) t.th.val s.dev.noc.serial
      ((s.thread (tidKey t) t.th.val).address ra.toNat imm.toNat) l ra rb imm
    refine completes_of_effect rfl run ⟨⟨_, ?_, rfl, kind, data, rfl, rfl⟩, ?_, mem⟩
    · have sent := i.queue_sendStore (tidKey t) t.th.val (enc 0x6A 0 ra.toNat rb.toNat 0 imm.toNat)
        ((s.thread (tidKey t) t.th.val).address ra.toNat imm.toNat) l id
      rwa [thread, dev] at sent
    · exact (i.pc_sendStore ..).trans (by rw [thread])
  · rw [if_pos full] at run
    have stalled := i.thread_onThread (tidKey t) t.th.val fun x =>
      { x with state := .stallSend id (BitVec.ofNat 64 (enc 0x6A 0 ra.toNat rb.toNat 0 imm.toNat)) }
    refine completes_of_effect rfl run ⟨⟨_, congrArg Thread.state stalled⟩, congrArg (·.noc.queues) dev, ?_, mem⟩
    exact (congrArg Thread.pc stalled).trans (by rw [thread])

end Sys2Proof.Machine
end

section
/-!
The statement of accesses beyond the own scratchpad.
-/
namespace Sys2Proof.Machine

/-- Settles O27. -/
theorem remoteAccessesTravel : Obligations.RemoteAccessesTravel := ⟨remoteAccessesTakeTheirRoute, routeOccurrenceSendsOldest⟩

end Sys2Proof.Machine
end

section
/-!
SUPPORT. Events and the operations in their slots; a packet whose check fails (07 R238; 09 R929; 23 R859).
-/
namespace Sys2Proof.Machine

/-! ## What raising an event leaves of the regions -/

/-- Every slot of every region holds what it held. -/
def State.KeepsSlots (s t : State) : Prop := ∀ r, t.slots r = s.slots r

theorem State.KeepsSlots.trans {s t u : State} (h : s.KeepsSlots t) (k : t.KeepsSlots u) : s.KeepsSlots u := fun r => (k r).trans (h r)

theorem State.KeepsSlots.of_regions {s t : State} (h : t.fab.regions = s.fab.regions) : s.KeepsSlots t := fun r => by
  rw [State.slots, State.slots, State.region, State.region, h]

theorem State.KeepsSlots.slotOf {s t : State} (h : s.KeepsSlots t) (r q : Nat) (seq : Word) : t.slotOf r q seq = s.slotOf r q seq := by
  rw [State.slotOf, State.slotOf, h]

/-- Where the region's events lie outside device memory they go on lying there, and no byte of it is written. -/
def State.StaysOutside (s t : State) (r : Nat) : Prop := EventsOutside s r → EventsOutside t r ∧ t.mem = s.mem

theorem State.StaysOutside.trans {s t u : State} {r : Nat} (h : s.StaysOutside t r) (k : t.StaysOutside u r) : s.StaysOutside u r := by
  intro outside
  obtain ⟨ht, mt⟩ := h outside
  obtain ⟨hu, mu⟩ := k ht
  exact ⟨hu, mu.trans mt⟩

/-- The updates that keep a region's event ring where it is, and the memory. -/
theorem State.StaysOutside.of_evt {s t : State} {r : Nat} (enable : (t.region r).sched.evt.enable = (s.region r).sched.evt.enable)
    (host : (t.region r).sched.evt.host = (s.region r).sched.evt.host) (mem : t.mem = s.mem) : s.StaysOutside t r := by
  intro h
  rw [EventsOutside, enable, host]
  exact ⟨h, mem⟩

theorem State.StaysOutside.of_regions {s t : State} {r : Nat} (h : t.fab.regions = s.fab.regions) (mem : t.mem = s.mem) :
    s.StaysOutside t r := by
  have region : t.region r = s.region r := by rw [State.region, State.region, h]
  exact .of_evt (by rw [region]) (by rw [region]) mem

/-- An update of a region's scheduler that leaves its slots, and its event ring where it is. -/
theorem State.onSched_keepsSlots (s : State) (r : Nat) {f : RegionSched → RegionSched} (slots : ∀ g, (f g).slots = g.slots := by exact fun _ => rfl) :
    s.KeepsSlots (s.onSched r f) := by
  intro p
  by_cases h : r = p
  · subst h
    rw [State.slots, State.region_onSched]
    exact slots _
  · rw [State.slots, State.region_onSched_other _ _ h]
    rfl

theorem State.onSched_staysOutside (s : State) (r : Nat) {f : RegionSched → RegionSched}
    (evt : ∀ g, (f g).evt.enable = g.evt.enable ∧ (f g).evt.host = g.evt.host := by exact fun _ => ⟨rfl, rfl⟩) : s.StaysOutside (s.onSched r f) r := by
  refine .of_evt ?_ ?_ rfl <;> rw [State.region_onSched]
  · exact (evt _).1
  · exact (evt _).2

theorem State.assignFault_sched (s : State) (c : Code) (o : Option Nat) (d : Nat) (x : Option Nat) (p : Nat) :
    ((s.assignFault c o d x).region p).sched = (s.region p).sched := by
  cases o with
  | none => rfl
  | some r =>
    by_cases h : r = p
    · subst h
      simp only [State.assignFault, State.region_onRev]
      rfl
    · simp only [State.assignFault, State.region_onRev_other _ _ h]
      rfl

theorem State.assignFault_keepsSlots (s : State) (c : Code) (o : Option Nat) (d : Nat) (x : Option Nat) :
    s.KeepsSlots (s.assignFault c o d x) := fun p => by rw [State.slots, State.slots, s.assignFault_sched]

theorem State.assignFault_staysOutside (s : State) (c : Code) (o : Option Nat) (d : Nat) (x : Option Nat) (r : Nat) :
    s.StaysOutside (s.assignFault c o d x) r :=
  .of_evt (by rw [s.assignFault_sched]) (by rw [s.assignFault_sched]) (s.assignFault_mem c o d x)

theorem State.trace_regions (s : State) (r kind key queue status value item : Nat) :
    (s.trace r kind key queue status value item).fab.regions = s.fab.regions := by
  unfold State.trace
  dsimp only
  split <;> rfl

theorem State.trace_mem (s : State) (r kind key queue status value item : Nat) : (s.trace r kind key queue status value item).mem = s.mem := by
  unfold State.trace
  dsimp only
  split <;> rfl

theorem State.hostStore_fab (s : State) (b : Bool) (a : Nat) (bs : List Byte) : (s.hostStore b a bs).fab = s.fab := by cases b <;> rfl

theorem State.hostStore_mem (s : State) (b : Bool) (a : Nat) (bs : List Byte) : (s.hostStore b a bs).mem = s.mem := by cases b <;> rfl

theorem State.countCorrected_regions (s : State) (l : List Nat) : (s.countCorrected l).fab.regions = s.fab.regions :=
  List.foldlRecOn (motive := fun t : State => t.fab.regions = s.fab.regions) _ _ rfl fun _ h _ _ => h

theorem State.regionRingStore_regions (s : State) (r : Nat) (host : Bool) (a : Nat) (bs : List Byte) :
    (s.regionRingStore r host a bs).1.fab.regions = s.fab.regions := by
  unfold State.regionRingStore
  split
  · exact congrArg Fabric.regions (s.hostStore_fab _ _ _)
  · rcases s.ringStore_form r (va48 a) bs with e | ⟨l, e⟩ <;> rw [e]
    exact s.countCorrected_regions _

theorem State.memCount_keepsSlots (s : State) (r a : Nat) : s.KeepsSlots (s.memCount r a) := by
  unfold State.memCount
  dsimp only
  split
  · exact s.assignFault_keepsSlots _ _ _ _
  · exact (s.assignFault_keepsSlots _ _ _ _).trans (.of_regions rfl)

theorem State.eventPut_keepsSlots (s : State) (r kind : Nat) (c : Code) (d : Nat) : s.KeepsSlots (s.eventPut r kind c d) := by
  unfold State.eventPut
  dsimp only
  split
  · exact s.onSched_keepsSlots r
  · split
    · exact s.onSched_keepsSlots r
    · refine ((State.KeepsSlots.trans ?_ (State.onSched_keepsSlots _ r)).trans (.of_regions (State.trace_regions ..))).trans
        (State.onSched_keepsSlots _ r)
      have stored := State.KeepsSlots.of_regions (s.regionRingStore_regions r (s.region r).sched.evt.host
        ((s.region r).sched.evt.base.toNat + (s.region r).sched.evt.offset 16) (eventBytes kind c d s.stamp))
      split
      · exact (stored.trans (State.memCount_keepsSlots _ _ _)).trans (.of_regions (by rw [State.pfEvent_fab]))
      · exact stored

theorem State.eventPut_staysOutside (s : State) (r kind : Nat) (c : Code) (d : Nat) : s.StaysOutside (s.eventPut r kind c d) r := by
  unfold State.eventPut
  dsimp only
  split
  · exact s.onSched_staysOutside r
  · next enabled =>
    split
    · exact s.onSched_staysOutside r
    · intro outside
      have host : (s.region r).sched.evt.host = true := outside.resolve_left (by simpa using enabled)
      simp only [State.regionRingStore, host, if_true]
      refine State.StaysOutside.trans (((State.StaysOutside.of_regions ?_ ?_).trans (State.onSched_staysOutside _ r)).trans
        (.of_regions (State.trace_regions ..) (State.trace_mem ..))) (State.onSched_staysOutside _ r) outside
      · exact congrArg Fabric.regions (s.hostStore_fab _ _ _)
      · exact s.hostStore_mem _ _ _

theorem State.wmCross_keepsSlots (s : State) (r n : Nat) : s.KeepsSlots (s.wmCross r n) := by
  unfold State.wmCross
  dsimp only
  split
  · split
    · exact s.onSched_keepsSlots r
    · exact (s.onSched_keepsSlots r).trans (State.eventPut_keepsSlots _ _ _ _ _)
  · split
    · exact .of_regions rfl
    · exact s.onSched_keepsSlots r

theorem State.wmCross_staysOutside (s : State) (r n : Nat) : s.StaysOutside (s.wmCross r n) r := by
  unfold State.wmCross
  dsimp only
  split
  · split
    · exact s.onSched_staysOutside r
    · exact (s.onSched_staysOutside r).trans (State.eventPut_staysOutside _ _ _ _ _)
  · split
    · exact .of_regions rfl rfl
    · exact s.onSched_staysOutside r

theorem State.regionEvent_keepsSlots (s : State) (r kind : Nat) (c : Code) (d : Nat) : s.KeepsSlots (s.regionEvent r kind c d) :=
  (s.eventPut_keepsSlots r kind c d).trans (State.wmCross_keepsSlots _ r 1)

theorem State.regionEvent_staysOutside (s : State) (r kind : Nat) (c : Code) (d : Nat) : s.StaysOutside (s.regionEvent r kind c d) r :=
  (s.eventPut_staysOutside r kind c d).trans (State.wmCross_staysOutside _ r 1)

theorem State.eventAll_keepsSlots (s : State) (rs : List Nat) (kind : Nat) (c : Code) (d : Nat) : s.KeepsSlots (s.eventAll rs kind c d) :=
  List.foldlRecOn rs _ (.of_regions (by rw [State.pfEvent_fab])) fun _ h _ _ => h.trans (State.regionEvent_keepsSlots _ _ _ _ _)

/-- An event of one region is stored by that region's ring alone. -/
theorem State.eventAll_staysOutside (s : State) (r kind : Nat) (c : Code) (d : Nat) : s.StaysOutside (s.eventAll [r] kind c d) r :=
  State.StaysOutside.trans (.of_regions (by rw [State.pfEvent_fab]) (s.pfEvent_mem kind c d)) (State.regionEvent_staysOutside _ r kind c d)

/-! ## The end of an operation -/

/-- An operation that has not ended latches the status and the fault of its end. -/
theorem State.latch_ends {s : State} {k : OpKey} {sl : Slot} (found : s.slotOf k.1 k.2.1 k.2.2 = some sl) (open_ : sl.op.state ≠ .latched)
    (code : Code) (result : Word) (fault : BitVec 16) : EndLatched (s.latch k.1 k.2.1 k.2.2 code result fault) k code fault := by
  refine ⟨{ sl with op := { sl.op with state := .latched }, rec_ := { sl.rec_ with status := code, result := result, faultId := fault } },
    ?_, rfl, rfl, rfl⟩
  rw [State.latch, State.slotOf_onSlot, found, Option.map_some, if_neg open_]
  intro sl
  split <;> rfl

/-! ## A packet that fails its check -/

theorem State.dropPacket_form (s : State) (r route : Nat) : ∃ q d x, s.dropPacket r route =
    { s with dev := { s.dev with noc := { s.dev.noc with queues := q, deferred := d } }, fab := { s.fab with sites := x } } := by
  unfold State.dropPacket
  split
  · exact ⟨_, _, _, rfl⟩
  · exact ⟨_, _, _, rfl⟩
  · exact ⟨_, _, _, rfl⟩

theorem State.dropPacket_leaves (s : State) (r route : Nat) : (s.dropPacket r route).fab.regions = s.fab.regions ∧
    (s.dropPacket r route).mem = s.mem ∧ (s.dropPacket r route).dev.faults = s.dev.faults ∧
    (s.dropPacket r route).dev.noc.linkErr = s.dev.noc.linkErr := by
  obtain ⟨q, d, y, form⟩ := s.dropPacket_form r route
  rw [form]
  exact ⟨rfl, rfl, rfl, rfl⟩

theorem Tab.get_map_tail (t : Tab (List Packet)) (k : Nat) :
    Tab.get [] (t.map (fun e => if e.1 = k then (e.1, e.2.tail) else e)) k = (Tab.get [] t k).tail := by
  induction t with
  | nil => rfl
  | cons e t ih => by_cases h : e.1 = k <;> simp [Tab.get, h, ih]

/-- A request that has not left its send queue is dropped from it. -/
theorem State.dropPacket_queue {s : State} {r route : Nat} (inbound : s.inbound r route = none) (deferred : s.dev.noc.deferred = []) :
    Tab.get [] (s.dropPacket r route).dev.noc.queues (routeKey r route) = (Tab.get [] s.dev.noc.queues (routeKey r route)).tail := by
  simp only [State.dropPacket, inbound, deferred, List.find?_nil]
  exact Tab.get_map_tail _ _

theorem State.countEdge_form (s : State) (x : Router) : ∃ e, s.countEdge x = s.onNoc fun n => { n with edges := e } := by
  unfold State.countEdge
  split
  · exact ⟨_, rfl⟩
  · exact ⟨s.dev.noc.edges, rfl⟩

/-- An error that is not the fourth of its link's window is counted, and makes the link no suspect (23 R859). -/
theorem State.countLink_form {s : State} {x : Router} {port : Nat} (early : Tab.get 0 s.dev.noc.linkErr (linkKey x port) ≠ 3) :
    s.countLink x port = s.onNoc fun n => { n with
      linkErr := Tab.set n.linkErr (linkKey x port) (Tab.get 0 s.dev.noc.linkErr (linkKey x port) + 1) } := by
  have below : Tab.get 0 s.dev.noc.linkErr (linkKey x port) + 1 ≠ 4 := by omega
  exact if_neg below

@[simp] theorem State.eventAll_noc (s : State) (rs : List Nat) (kind : Nat) (c : Code) (d : Nat) :
    (s.eventAll rs kind c d).dev.noc = s.dev.noc := by rw [s.eventAll_only rs kind c d]

@[simp] theorem State.assignFault_noc (s : State) (c : Code) (r : Option Nat) (d : Nat) (x : Option Nat) :
    (s.assignFault c r d x).dev.noc = s.dev.noc := by rw [State.assignFault_frame]

/-- The failed check of a link's packet: the fault and its event. -/
def State.linkFault (s : State) (x : Router) (port : Nat) (region : Option Nat) : State :=
  (s.assignFault Codes.NOC_LINK_ERROR region x.1 (if x.2.1 = 0 then some x.2.2 else none)).eventAll region.toList (linkKind x)
    Codes.NOC_LINK_ERROR (linkDetail x port)

/-- The same, counted at its link; `e` holds the counters at the link's ends. -/
def State.linkCounted (s : State) (x : Router) (port : Nat) (region : Option Nat) (e : Tab EdgeStat) : State :=
  (s.linkFault x port region).onNoc fun n => { n with
    edges := e
    linkErr := Tab.set n.linkErr (linkKey x port) (Tab.get 0 s.dev.noc.linkErr (linkKey x port) + 1) }

theorem State.linkFault_noc (s : State) (x : Router) (port : Nat) (region : Option Nat) : (s.linkFault x port region).dev.noc = s.dev.noc := by
  simp [State.linkFault]

/-- An error that makes no link suspect is a fault, and is counted at the link and at its ends (07 R257). -/
theorem State.linkFails_form {s : State} {x : Router} {port : Nat} (region : Option Nat)
    (early : Tab.get 0 s.dev.noc.linkErr (linkKey x port) ≠ 3) : ∃ e, s.linkFails x port region = s.linkCounted x port region e := by
  have counted : ∀ e, ((s.linkFault x port region).onNoc fun n => { n with edges := e }).countLink x port = s.linkCounted x port region e :=
    fun e => by
      have same : Tab.get 0 ((s.linkFault x port region).onNoc fun n => { n with edges := e }).dev.noc.linkErr (linkKey x port) =
          Tab.get 0 s.dev.noc.linkErr (linkKey x port) := by rw [State.onNoc_dev, State.linkFault_noc]
      rw [State.countLink_form (same ▸ early), same]
      rfl
  obtain ⟨e, near⟩ := (s.linkFault x port region).countEdge_form x
  unfold State.linkFails
  dsimp only
  rw [← State.linkFault, near]
  split
  · next y _ =>
    obtain ⟨e', far⟩ := ((s.linkFault x port region).onNoc fun n => { n with edges := e }).countEdge_form y
    exact ⟨e', by rw [far]; exact counted e'⟩
  · exact ⟨e, counted e⟩

theorem State.linkCounted_keepsSlots (s : State) (x : Router) (port : Nat) (region : Option Nat) (e : Tab EdgeStat) :
    s.KeepsSlots (s.linkCounted x port region e) := by
  have raised : s.KeepsSlots (s.linkFault x port region) := (s.assignFault_keepsSlots _ _ _ _).trans (State.eventAll_keepsSlots _ _ _ _ _)
  exact raised.trans (.of_regions (by rw [State.linkCounted, State.onNoc_fab]))

theorem State.linkCounted_staysOutside (s : State) (x : Router) (port r : Nat) (e : Tab EdgeStat) :
    s.StaysOutside (s.linkCounted x port (some r) e) r := by
  have raised : s.StaysOutside (s.linkFault x port (some r)) r := by
    rw [State.linkFault, Option.toList_some]
    exact (s.assignFault_staysOutside _ _ _ _ r).trans (State.eventAll_staysOutside _ r _ _ _)
  exact raised.trans (.of_regions (by rw [State.linkCounted, State.onNoc_fab]) (by rw [State.linkCounted, State.onNoc_mem]))

theorem State.linkCounted_count {s : State} (x : Router) (port : Nat) (region : Option Nat) (e : Tab EdgeStat) (clean : s.mem.marks = []) :
    (s.linkCounted x port region e).dev.faults.count = satAdd s.dev.faults.count 1 := by
  have raised : (s.linkFault x port region).dev.faults.count = satAdd s.dev.faults.count 1 := by
    rw [State.linkFault, (State.eventAll_clean _ _ _ _ _ ((congrArg Mem.marks (s.assignFault_mem _ _ _ _)).trans clean)).2,
      State.assignFault_count]
  rw [State.linkCounted, State.onNoc_dev, raised]

theorem State.linkCounted_noc (s : State) (x : Router) (port : Nat) (region : Option Nat) (e : Tab EdgeStat) :
    (s.linkCounted x port region e).dev.noc = { s.dev.noc with
      edges := e, linkErr := Tab.set s.dev.noc.linkErr (linkKey x port) (Tab.get 0 s.dev.noc.linkErr (linkKey x port) + 1) } := by
  rw [State.linkCounted, State.onNoc_dev, State.linkFault_noc]

section LinkError
variable {s : State} {x : Router} {port r route : Nat} {k : OpKey}

variable (owner : s.routeOp r route = some k) (early : Tab.get 0 s.dev.noc.linkErr (linkKey x port) ≠ 3)
include owner early

/-- What a packet that fails its check leaves: it is dropped, the error is a fault that its link counts, and its operation ends. -/
theorem State.linkError_form : ∃ e, s.linkError x port r route =
    ((s.dropPacket r route).linkCounted x port (some r) e).latch k.1 k.2.1 k.2.2 Codes.NOC_LINK_ERROR 0 s.dev.faults.next := by
  obtain ⟨_, _, faults, linkErr⟩ := s.dropPacket_leaves r route
  obtain ⟨e, fails⟩ := State.linkFails_form (s := s.dropPacket r route) (port := port) (some r) (linkErr ▸ early)
  refine ⟨e, ?_⟩
  unfold State.linkError
  simp only [owner, State.lastFault_assign, fails, faults]

theorem State.linkError_ends {sl : Slot} (found : s.slotOf k.1 k.2.1 k.2.2 = some sl) (runs : sl.op.state = .running) :
    EndLatched (s.linkError x port r route) k Codes.NOC_LINK_ERROR s.dev.faults.next := by
  obtain ⟨e, form⟩ := State.linkError_form owner early
  have kept := (State.KeepsSlots.of_regions (s.dropPacket_leaves r route).1).trans (State.linkCounted_keepsSlots _ x port (some r) e)
  rw [form]
  exact State.latch_ends ((kept.slotOf _ _ _).trans found) (by simp [runs]) _ _ _

theorem State.linkError_count (clean : s.mem.marks = []) :
    (s.linkError x port r route).dev.faults.count = satAdd s.dev.faults.count 1 := by
  obtain ⟨e, form⟩ := State.linkError_form owner early
  obtain ⟨_, mem, faults, _⟩ := s.dropPacket_leaves r route
  rw [form, State.latch, State.onSlot, State.onSched_dev, State.linkCounted_count _ _ _ _ ((congrArg Mem.marks mem).trans clean), faults]

theorem State.linkError_noc : ∃ e, (s.linkError x port r route).dev.noc = { (s.dropPacket r route).dev.noc with
    edges := e, linkErr := Tab.set s.dev.noc.linkErr (linkKey x port) (Tab.get 0 s.dev.noc.linkErr (linkKey x port) + 1) } := by
  obtain ⟨e, form⟩ := State.linkError_form owner early
  obtain ⟨_, _, _, linkErr⟩ := s.dropPacket_leaves r route
  exact ⟨e, by rw [form, State.latch, State.onSlot, State.onSched_dev, State.linkCounted_noc, linkErr]⟩

theorem State.linkError_mem (outside : EventsOutside s r) : (s.linkError x port r route).mem = s.mem := by
  obtain ⟨e, form⟩ := State.linkError_form owner early
  obtain ⟨regions, mem, _, _⟩ := s.dropPacket_leaves r route
  have stays := (State.StaysOutside.of_regions (r := r) regions mem).trans (State.linkCounted_staysOutside _ x port r e)
  rw [form, State.latch, State.onSlot, State.onSched_mem]
  exact (stays outside).2

end LinkError

end Sys2Proof.Machine
end

section
/-!
SUPPORT. The commands of the network: a packet's arrival, a refresh of a memory die, and the background tasks (07 R226, R238, R248-R256).
-/
namespace Sys2Proof.Machine

/-! ## NOC_PACKET_ARRIVE -/

section Arrival
variable {s : State} {d : DieId} {kind : Fin 4} {index : Byte} {port : Fin 6} {r : RegionId} {route : BitVec 16}

theorem nocPacketArrive_passes (s : State) (d : DieId) (kind : Fin 4) (index : Byte) (port : Fin 6) (r : RegionId) (route : BitVec 16) :
    Completes (.nocPacketArrive d kind index port r route true) s (fun u => u = s) := ⟨_, exec_stays rfl rfl, rfl⟩

/-- Where the route enters the router by the port, its packet's failed check is an error of that link. -/
theorem nocPacketArrive_errs {P : State → Prop} (on : s.fabricOn = true)
    (enters : (s.routeEntries r.val route.toNat).any
      (fun e => e.router = (d.val, kind.val, index.toNat) && e.inPort = port.val) = true)
    (given : P (s.effect fun _ => s.linkError (d.val, kind.val, index.toNat) port.val r.val route.toNat)) :
    Completes (.nocPacketArrive d kind index port r route false) s P := by
  obtain ⟨e, listed, here⟩ := List.any_eq_true.1 enters
  have bears : e.route = route.toNat := by
    have shaped := (List.mem_filter.1 listed).2
    simp only [Bool.and_eq_true, decide_eq_true_eq] at shaped
    exact shaped.2
  refine completes_of_effect rfl (if_pos ?_) given
  simp only [Bool.not_false, on, Bool.true_and, List.any_eq_true]
  exact ⟨e, listed, by simpa [bears] using here⟩

theorem nocPacketArrive_fails {k : OpKey} {sl : Slot} {n : Nat} (on : s.fabricOn = true)
    (enters : (s.routeEntries r.val route.toNat).any
      (fun e => e.router = (d.val, kind.val, index.toNat) && e.inPort = port.val) = true)
    (owner : s.routeOp r.val route.toNat = some k) (found : s.slotOf k.1 k.2.1 k.2.2 = some sl) (runs : sl.op.state = .running)
    (link : n = linkKey (d.val, kind.val, index.toNat) port.val) (early : Tab.get 0 s.dev.noc.linkErr n ≠ 3) :
    Completes (.nocPacketArrive d kind index port r route false) s fun u =>
      EndLatched u k Codes.NOC_LINK_ERROR s.dev.faults.next ∧ (s.mem.marks = [] → u.dev.faults.count = satAdd s.dev.faults.count 1) ∧
      (s.inbound r.val route.toNat = none → s.dev.noc.deferred = [] →
        Tab.get [] u.dev.noc.queues (r.val * 65536 + route.toNat) = (Tab.get [] s.dev.noc.queues (r.val * 65536 + route.toNat)).tail) ∧
      Tab.get 0 u.dev.noc.linkErr n = Tab.get 0 s.dev.noc.linkErr n + 1 ∧ (EventsOutside s r.val → u.mem = s.mem) ∧ s.KeepsStore u := by
  subst link
  obtain ⟨e, noc⟩ := State.linkError_noc owner early
  refine nocPacketArrive_errs on enters ⟨State.linkError_ends owner early found runs, State.linkError_count owner early,
    fun inbound deferred => ?_, ?_, State.linkError_mem owner early, s.effect_keepsStore _⟩
  · rw [State.effect_dev, noc]
    exact State.dropPacket_queue inbound deferred
  · rw [State.effect_dev, noc]
    exact Tab.get_set_same _ _ _ _

end Arrival

/-! ## DRAM_REFRESH -/

theorem mem_insertBefore {α : Type} {lt : α → α → Bool} {x a : α} {l : List α} (h : a ∈ sortBy.insertBefore lt x l) : a = x ∨ a ∈ l := by
  induction l with
  | nil => simpa [sortBy.insertBefore] using h
  | cons y l ih =>
    unfold sortBy.insertBefore at h
    split at h
    · rcases List.mem_cons.1 h with h | h
      · exact .inr (h ▸ List.mem_cons_self)
      · exact (ih h).imp_right (List.mem_cons_of_mem y)
    · exact List.mem_cons.1 h

theorem mem_of_mem_sortBy {α : Type} {lt : α → α → Bool} {a : α} {l : List α} (h : a ∈ sortBy lt l) : a ∈ l := by
  induction l with
  | nil => exact h
  | cons x l ih =>
    rcases mem_insertBefore h with rfl | h
    · exact List.mem_cons_self
    · exact List.mem_cons_of_mem x (ih h)

/-- A value that comes in on a route is awaited by its thread. -/
theorem State.outstanding_of_inbound {s : State} {r route a th : Nat} {p : Pending} (h : s.inbound r route = some (a, th, p)) :
    p ∈ (s.thread a th).outstanding := by
  have listed := mem_of_mem_sortBy (List.mem_of_mem_head? h)
  simp only [List.mem_flatMap, List.mem_map, List.mem_filter] at listed
  obtain ⟨t, _, q, ⟨awaited, _⟩, same⟩ := listed
  cases same
  exact awaited

/-- The value that comes in on a route, if any, comes one frame later. -/
def State.heldBack (s : State) (r route : Nat) : State :=
  match s.inbound r route with
  | some (a, th, p) => s.onThread a th fun x =>
      { x with outstanding := x.outstanding.map (fun q => if q = p then { q with due := q.due + 4096 } else q) }
  | none => s

theorem State.heldBack_frame (s : State) (r route : Nat) :
    s.heldBack r route = { s with fab := { s.fab with sites := (s.heldBack r route).fab.sites } } := by
  unfold State.heldBack
  split <;> rfl

theorem State.heldBack_due {s : State} {r route a th : Nat} {p : Pending} (h : s.inbound r route = some (a, th, p)) :
    { p with due := p.due + 4096 } ∈ ((s.heldBack r route).thread a th).outstanding := by
  simp only [State.heldBack, h, State.thread_onThread, List.mem_map]
  exact ⟨p, State.outstanding_of_inbound h, if_pos rfl⟩

theorem State.holdResponse_noc (s : State) (r route m e : Nat) (k : OpKey) : (s.holdResponse r route m e k).dev.noc = { s.dev.noc with
    voids := s.dev.noc.voids ++ [(routeKey r route, s.voidFrame r route (edgeRouter (m / 3) e))]
    edges := Tab.modify {} s.dev.noc.edges (m / 3 * 24 + e) fun t => { t with heldOver := satAdd t.heldOver 1 } } := rfl

theorem State.holdResponse_disturbs (s : State) (r route m e : Nat) (k : OpKey) : Disturbed s (s.holdResponse r route m e k) k := by
  intro sl found
  refine ⟨{ sl with rec_ := { sl.rec_ with disturbance := satAdd sl.rec_.disturbance 1 } }, ?_, rfl, rfl⟩
  rw [State.holdResponse, State.disturb, State.onRec, State.slotOf_onSlot]
  · exact congrArg _ found
  · exact fun _ => rfl

section Refresh
variable {s : State} {m : Fin 6} {r : RegionId} {route : BitVec 16} {k : OpKey} {e : Nat}

theorem dramRefresh_free (s : State) (m : Fin 6) (r : RegionId) (route : BitVec 16) :
    Completes (.dramRefresh m false r route) s (fun u => u = s) := by
  refine ⟨_, exec_stays rfl ?_, rfl⟩
  simp [State.whenP]

/-- A response that a refresh holds. -/
theorem dramRefresh_step (on : s.fabricOn = true) (present : (s.memDie m.val).present = true)
    (channel : s.routeChannel r.val route.toNat m.val = some e) (owner : s.routeOp r.val route.toNat = some k) {P : State → Prop}
    (given : P (s.effect fun _ => (s.heldBack r.val route.toNat).holdResponse r.val route.toNat m.val e k)) :
    Completes (.dramRefresh m true r route) s P := by
  refine completes_of_effect rfl ((s.whenP_pos _ (by simp [on, present])).trans ?_) given
  rw [channel, owner]
  unfold State.heldBack
  cases inbound : s.inbound r.val route.toNat with
  | none => rfl
  | some x =>
    obtain ⟨a, th, p⟩ := x
    have key : (s.thread a th).key = k := by
      simpa [State.routeOp, inbound] using owner
    dsimp only
    rw [State.thread_onThread]
    exact congrArg (State.holdResponse _ _ _ _ _) key

theorem dramRefresh_holds (on : s.fabricOn = true) (present : (s.memDie m.val).present = true)
    (channel : s.routeChannel r.val route.toNat m.val = some e) (owner : s.routeOp r.val route.toNat = some k) (a th : Nat) (p : Pending) :
    Completes (.dramRefresh m true r route) s fun u =>
      Disturbed s u k ∧
      u.dev.noc.voids = s.dev.noc.voids ++ [(r.val * 65536 + route.toNat, s.voidFrame r.val route.toNat (edgeRouter (m.val / 3) e))] ∧
      (s.inbound r.val route.toNat = some (a, th, p) → { p with due := p.due + 4096 } ∈ (u.thread a th).outstanding) ∧
      Tab.get {} u.dev.noc.edges (m.val / 3 * 24 + e) =
        { Tab.get {} s.dev.noc.edges (m.val / 3 * 24 + e) with heldOver := satAdd (Tab.get {} s.dev.noc.edges (m.val / 3 * 24 + e)).heldOver 1 } ∧
      u.mem = s.mem ∧ s.KeepsStore u := by
  have due := fun inbound => State.heldBack_due (s := s) (r := r.val) (route := route.toNat) (a := a) (th := th) (p := p) inbound
  have frame := s.heldBack_frame r.val route.toNat
  have run := dramRefresh_step on present channel owner (P := fun u => u = s.effect fun _ =>
    (s.heldBack r.val route.toNat).holdResponse r.val route.toNat m.val e k) rfl
  generalize s.heldBack r.val route.toNat = t at due frame run
  have dev : t.dev = s.dev := by rw [frame]
  have noc := t.holdResponse_noc r.val route.toNat m.val e k
  have void : t.voidFrame r.val route.toNat (edgeRouter (m.val / 3) e) = s.voidFrame r.val route.toNat (edgeRouter (m.val / 3) e) := by
    rw [frame]
    rfl
  have regions : t.fab.regions = s.fab.regions := by rw [frame]
  have mem : t.mem = s.mem := by rw [frame]
  rw [dev, void] at noc
  obtain ⟨_, ran, rfl⟩ := run
  refine ⟨_, ran, fun sl found => ?_, ?_, due, ?_, mem, s.effect_keepsStore _⟩
  · exact t.holdResponse_disturbs r.val route.toNat m.val e k sl (((State.KeepsSlots.of_regions regions).slotOf _ _ _).trans found)
  · rw [State.effect_dev, noc]
    rfl
  · rw [State.effect_dev, noc]
    dsimp only
    rw [Tab.get_modify_same]

end Refresh

/-! ## Background tasks -/

theorem bgCode_lt (t : BgTask) : bgCode t < 8 := by cases t <;> decide

section Background
variable {s : State} {d : DieId} {index : Byte} {task : BgTask} {n : Nat}

theorem bgTaskStarved_starves (named : n = (d.val * 256 + index.toNat) * 8 + bgCode task) (running : s.running = true)
    (served : s.bgTaskAt d.val index.toNat task = true) (fed : n ∉ s.dev.noc.starved) (late : Tab.get 0 s.dev.noc.bgLast n + 16 ≤ s.frame) :
    Completes (.bgTaskStarved d index task) s fun u =>
      u.dev.noc.starved = s.dev.noc.starved ++ [n] ∧
        u = { s with dev := { s.dev with noc := { s.dev.noc with starved := u.dev.noc.starved } } } := by
  subst named
  exact completes_of_devEffect rfl (s.whenP_pos _ (by simp [running, served, fed, late])) ⟨rfl, rfl⟩

/-- A slot of the escalation window serves the one starved task of its router (07 R256). -/
theorem bgEscalationWindow_serves (named : n = (d.val * 256 + index.toNat) * 8 + bgCode task) (running : s.running = true)
    (flows : s.dev.aux.fabricStopped = false) (window : s.inBgWindow d.val index.toNat = true)
    (unserved : Tab.get 0 s.dev.noc.bgWindowLast (d.val * 256 + index.toNat) ≠ s.slotCount + 1) (alone : s.dev.noc.starved = [n]) :
    Completes (.bgEscalationWindow d index) s fun u =>
      u.dev.noc.starved = [] ∧ Tab.get 0 u.dev.noc.bgLast n = s.frame ∧ u.dev.noc.edges = Tab.modify {} s.dev.noc.edges (d.val * 24 + index.toNat)
        (fun t => { t with escalations := satAdd t.escalations 1 }) ∧ u.mem = s.mem ∧ u.fab = s.fab ∧ s.KeepsStore u := by
  have router : n / 8 = d.val * 256 + index.toNat := by
    have := bgCode_lt task
    omega
  have step : (match s.dev.noc.starved.find? (fun k => k / 8 = d.val * 256 + index.toNat) with
      | some k => s.serveStarved d.val index.toNat k
      | none => s) = s.serveStarved d.val index.toNat n := by simp [alone, router]
  refine completes_of_effect rfl ((s.whenP_pos _ (by simp [running, flows, window, unserved])).trans step) ⟨?_, ?_, ?_, ?_, ?_, s.effect_keepsStore _⟩
  all_goals simp [State.serveStarved, alone]

end Background

end Sys2Proof.Machine
end

section
/-!
SUPPORT. Scrub: what a scrubbed word can change, and the two commands in which scrub has its background slot (08 R262-R269).
-/
namespace Sys2Proof.Machine

/-! ## What a scrubbed word changes -/

/-- The memory dies' registers alone may differ. -/
def State.MemDiesOnly (s t : State) : Prop := t = { s with fab := { s.fab with memDies := t.fab.memDies } }

theorem State.MemDiesOnly.trans {s t u : State} (h : s.MemDiesOnly t) (k : t.MemDiesOnly u) : s.MemDiesOnly u := by
  unfold State.MemDiesOnly at *
  rw [k, h]

theorem State.onMemDie_memDiesOnly (s : State) (m : Nat) (f : MemDie → MemDie) : s.MemDiesOnly (s.onMemDie m f) := rfl

theorem State.MemDiesOnly.mem {s t : State} (h : s.MemDiesOnly t) : t.mem = s.mem := by rw [h]

theorem State.MemDiesOnly.dev {s t : State} (h : s.MemDiesOnly t) : t.dev = s.dev := by rw [h]

theorem State.memDie_onMemDie_other (s : State) {m j : Nat} (f : MemDie → MemDie) (h : m ≠ j) : (s.onMemDie m f).memDie j = s.memDie j := by
  simp [State.memDie, State.onMemDie, State.onFab, Tab.get_modify_other _ _ _ h]

/-- A stored error in a DRAM word. -/
def Mem.marksIn (t : Mem) (a : Nat) : List (Nat × Mark) := t.marks.filter (fun p => p.1 / 64 = a / 64 && !isScratch p.1)

theorem State.scrubWord_unmarked {s : State} (m ch : Nat) {a : Nat} (none_ : s.mem.marksIn a = []) : s.scrubWord m ch a = s := if_pos none_

/-- A word whose errors are all corrected is counted, and waits for its writeback. -/
theorem State.scrubWord_corrected {s : State} (m ch : Nat) {a : Nat} {l : List (Nat × Mark)} (found : s.mem.marksIn a = l) (some_ : l ≠ [])
    (mild : ∀ p ∈ l, p.2 = .corrected) : s.scrubWord m ch a = s.onMemDie m fun d =>
      { d with corrected := satAdd d.corrected l.length, writeback := d.writeback ++ [(ch, a)] } := by
  have unhurt : l.any (fun p => p.2 != .corrected) = false := List.any_eq_false.2 fun p listed => by simp [mild p listed]
  unfold State.scrubWord
  dsimp only
  rw [← Mem.marksIn, found, if_neg some_, unhurt]
  rfl

theorem State.scrubWord_memDiesOnly {s : State} (m ch a : Nat) (mild : ∀ p ∈ s.mem.marks, p.2 = .corrected) :
    s.MemDiesOnly (s.scrubWord m ch a) := by
  by_cases none_ : s.mem.marksIn a = []
  · rw [State.scrubWord_unmarked m ch none_]
    rfl
  · rw [State.scrubWord_corrected m ch rfl none_ fun p listed => mild p (List.mem_filter.1 listed).1]
    exact s.onMemDie_memDiesOnly m _

/-- Scrub reads the words `l` of a channel. -/
def State.scrubWords (s : State) (m ch q : Nat) (l : List Nat) : State := l.foldl (fun s w => s.scrubWord m ch (scrubAddr q ch w)) s

theorem State.scrubWords_unmarked {s : State} {m ch q : Nat} {l : List Nat} (none_ : ∀ w ∈ l, s.mem.marksIn (scrubAddr q ch w) = []) :
    s.scrubWords m ch q l = s := by
  induction l with
  | nil => rfl
  | cons w l ih =>
    rw [State.scrubWords, List.foldl_cons, State.scrubWord_unmarked _ _ (none_ w List.mem_cons_self)]
    exact ih fun v listed => none_ v (List.mem_cons_of_mem w listed)

theorem State.scrubWords_memDiesOnly {s : State} (m ch q : Nat) (l : List Nat) (mild : ∀ p ∈ s.mem.marks, p.2 = .corrected) :
    s.MemDiesOnly (s.scrubWords m ch q l) :=
  List.foldlRecOn (motive := fun t : State => s.MemDiesOnly t) l _ rfl
    fun _ h w _ => h.trans (State.scrubWord_memDiesOnly m ch (scrubAddr q ch w) (h.mem ▸ mild))

/-- A channel's scrub has read five words on from the word `at_`. -/
def State.scrubOn (s : State) (m ch at_ : Nat) : State :=
  s.onMemDie m fun d => { d with
    scrubPos := Tab.set d.scrubPos ch (at_ + 5)
    passes := BitVec.ofNat 32 { d with scrubPos := Tab.set d.scrubPos ch (at_ + 5) }.passesDone }

theorem State.scrubPos_scrubOn (s : State) (m ch at_ : Nat) : Tab.get 0 ((s.scrubOn m ch at_).memDie m).scrubPos ch = at_ + 5 := by
  rw [State.scrubOn, State.memDie_onMemDie]
  exact Tab.get_set_same _ _ _ _

theorem State.memDie_scrubOn (s : State) (m ch at_ : Nat) : ((s.scrubOn m ch at_).memDie m).corrected = (s.memDie m).corrected ∧
    ((s.scrubOn m ch at_).memDie m).writeback = (s.memDie m).writeback := by
  rw [State.scrubOn, State.memDie_onMemDie]
  exact ⟨rfl, rfl⟩

/-- An error that is found in memory without one is listed at its group. -/
theorem Mem.mark_clean {t : Mem} (clean : t.marks = []) (a : Nat) (k : Mark) : t.mark a k = { t with marks := [(a / 8 * 8, k)] } := by
  simp [Mem.mark, clean]

/-! ## SCRUB_READ -/

section Read
variable {s : State} {m : Fin 6} {ch : Fin 4} {at_ q a : Nat} (flows : s.dev.aux.fabricStopped = false) (unheld : s.dev.noc.held = false)
  (serves : s.dieServes m.val = true) (first : at_ = Tab.get 0 (s.memDie m.val).scrubPos ch.val) (place : q = (s.memDie m.val).position.toNat)
  (free : s.bgFree (m.val / 3) (dieEdge m.val ch.val) s.slot = true)
include flows unheld serves first place free

/-- What a read of scrub gives: its errors are noted, its five words read, and its place goes on. -/
theorem scrubRead_reads {found : List (Fin 40 × Mark)} {t : State} {P : State → Prop}
    (marked : ((s.bgServed (m.val / 3) (dieEdge m.val ch.val) .scrub).onMem fun t =>
      found.foldl (fun t g => t.mark (scrubAddr q ch.val (at_ + g.1.val / 8) + g.1.val % 8 * 8) g.2) t) = t)
    (given : P (s.effect fun _ => (t.scrubWords m.val ch.val q (upFrom at_ 5)).scrubOn m.val ch.val at_)) :
    Completes (.scrubRead m ch found) s P := by
  subst marked first place
  exact completes_of_effect rfl (s.whenP_pos _ (by simp [flows, unheld, serves, free])) given

theorem scrubRead_clean (clean : s.mem.marks = []) : Completes (.scrubRead m ch []) s fun u =>
    Tab.get 0 (u.memDie m.val).scrubPos ch.val = at_ + 5 ∧ (u.memDie m.val).corrected = (s.memDie m.val).corrected ∧
    (∀ j, j ≠ m.val → u.memDie j = s.memDie j) ∧ BgServed s u (m.val / 3) (dieEdge m.val ch.val) .scrub ∧
    u = { s with fab := { s.fab with memDies := u.fab.memDies }, dev := u.dev } := by
  have read : (s.bgServed (m.val / 3) (dieEdge m.val ch.val) .scrub).scrubWords m.val ch.val q (upFrom at_ 5) =
      s.bgServed (m.val / 3) (dieEdge m.val ch.val) .scrub :=
    State.scrubWords_unmarked fun _ _ => congrArg (List.filter _) clean
  refine scrubRead_reads flows unheld serves first place free (t := s.bgServed (m.val / 3) (dieEdge m.val ch.val) .scrub) rfl ?_
  rw [read]
  exact ⟨State.scrubPos_scrubOn _ _ _ _, (State.memDie_scrubOn _ _ _ _).1,
    fun j other => State.memDie_onMemDie_other _ _ (Ne.symm other), rfl, rfl⟩

theorem scrubRead_corrects (mark : s.mem.marks = [(a, .corrected)]) (dram : isScratch a = false)
    (here : a / 64 = scrubAddr q ch.val at_ / 64) (alone : ∀ i, 0 < i → i < 5 → scrubAddr q ch.val (at_ + i) / 64 ≠ a / 64) :
    Completes (.scrubRead m ch []) s fun u =>
      (u.memDie m.val).corrected = satAdd (s.memDie m.val).corrected 1 ∧
      (u.memDie m.val).writeback = (s.memDie m.val).writeback ++ [(ch.val, scrubAddr q ch.val at_)] ∧
      Tab.get 0 (u.memDie m.val).scrubPos ch.val = at_ + 5 ∧ u.mem = s.mem ∧ BgServed s u (m.val / 3) (dieEdge m.val ch.val) .scrub ∧
      s.KeepsStore u := by
  have five : upFrom at_ 5 = at_ :: [1, 2, 3, 4].map (at_ + ·) := rfl
  have hit : s.mem.marksIn (scrubAddr q ch.val at_) = [(a, .corrected)] := by simp [Mem.marksIn, mark, here, dram]
  have missed : ∀ w ∈ [1, 2, 3, 4].map (at_ + ·), s.mem.marksIn (scrubAddr q ch.val w) = [] := by
    intro w listed
    obtain ⟨i, among, rfl⟩ := List.mem_map.1 listed
    have inside : 0 < i ∧ i < 5 := by
      simp only [List.mem_cons, List.not_mem_nil, or_false] at among
      omega
    simp [Mem.marksIn, mark, Ne.symm (alone i inside.1 inside.2)]
  have read : (s.bgServed (m.val / 3) (dieEdge m.val ch.val) .scrub).scrubWords m.val ch.val q (upFrom at_ 5) =
      (s.bgServed (m.val / 3) (dieEdge m.val ch.val) .scrub).onMemDie m.val fun d =>
        { d with corrected := satAdd d.corrected 1, writeback := d.writeback ++ [(ch.val, scrubAddr q ch.val at_)] } := by
    have word := State.scrubWord_corrected (s := s.bgServed (m.val / 3) (dieEdge m.val ch.val) .scrub) m.val ch.val hit (by simp) (by simp)
    rw [five, State.scrubWords, List.foldl_cons, word]
    exact State.scrubWords_unmarked missed
  refine scrubRead_reads flows unheld serves first place free (t := s.bgServed (m.val / 3) (dieEdge m.val ch.val) .scrub) rfl ?_
  rw [read]
  refine ⟨?_, ?_, State.scrubPos_scrubOn _ _ _ _, rfl, rfl, s.effect_keepsStore _⟩
  · refine (State.memDie_scrubOn _ _ _ _).1.trans ?_
    rw [State.memDie_onMemDie]
    rfl
  · refine (State.memDie_scrubOn _ _ _ _).2.trans ?_
    rw [State.memDie_onMemDie]
    rfl

/-- Where no word is beyond correction, scrub leaves memory as its found errors are noted in it. -/
theorem scrubRead_notes {found : List (Fin 40 × Mark)} {t : State}
    (marked : ((s.bgServed (m.val / 3) (dieEdge m.val ch.val) .scrub).onMem fun t =>
      found.foldl (fun t g => t.mark (scrubAddr q ch.val (at_ + g.1.val / 8) + g.1.val % 8 * 8) g.2) t) = t)
    (mild : ∀ p ∈ t.mem.marks, p.2 = .corrected) : Completes (.scrubRead m ch found) s fun u =>
      u.mem = t.mem ∧ Tab.get 0 (u.memDie m.val).scrubPos ch.val = at_ + 5 ∧ u.dev = t.dev ∧ s.KeepsStore u := by
  have only := State.scrubWords_memDiesOnly m.val ch.val q (upFrom at_ 5) mild
  refine scrubRead_reads flows unheld serves first place free marked ?_
  generalize t.scrubWords m.val ch.val q (upFrom at_ 5) = v at only
  exact ⟨only.mem, State.scrubPos_scrubOn v _ _ _, only.dev, s.effect_keepsStore _⟩

theorem scrubRead_finds (g : Fin 40) (clean : s.mem.marks = []) : Completes (.scrubRead m ch [(g, .corrected)]) s fun u =>
    (∃ e ∈ u.mem.marks, e.1 / 8 = (scrubAddr q ch.val (at_ + g.val / 8) + g.val % 8 * 8) / 8 ∧ e.2 = .corrected) ∧
    (∀ n b, u.mem.read n b = s.mem.read n b) ∧ Tab.get 0 (u.memDie m.val).scrubPos ch.val = at_ + 5 ∧
    BgServed s u (m.val / 3) (dieEdge m.val ch.val) .scrub ∧ s.KeepsStore u := by
  have marked := Mem.mark_clean clean (scrubAddr q ch.val (at_ + g.val / 8) + g.val % 8 * 8) .corrected
  obtain ⟨u, run, mem, pos, dev, keeps⟩ := scrubRead_notes flows unheld serves first place free (found := [(g, .corrected)])
    (congrArg (fun t => (s.bgServed (m.val / 3) (dieEdge m.val ch.val) .scrub).onMem fun _ => t) marked)
    fun p listed => by rw [List.mem_singleton.1 listed]
  have noted : u.mem = { s.mem with marks := [((scrubAddr q ch.val (at_ + g.val / 8) + g.val % 8 * 8) / 8 * 8, .corrected)] } := mem
  refine ⟨u, run, ⟨((scrubAddr q ch.val (at_ + g.val / 8) + g.val % 8 * 8) / 8 * 8, .corrected), ?_, ?_, rfl⟩, fun n b => ?_, pos, dev, keeps⟩
  · rw [noted]
    exact List.mem_singleton_self _
  · exact Nat.mul_div_cancel _ (by decide)
  · rw [noted]
    rfl

end Read

/-! ## SCRUB_WRITEBACK -/

/-- The write of a corrected word back to its place. -/
def State.writeBack (s : State) (m : Nat) (p : Nat × Nat) : State :=
  (s.onMem fun t => { t with marks := t.marks.filter (fun e => !(e.1 / 64 = p.2 / 64 && e.2 == .corrected && !isScratch e.1)) }).onMemDie m
    fun d => { d with writeback := d.writeback.erase p }

theorem scrubWriteback_writes {s : State} {m : Fin 6} {ch : Fin 4} {a : Nat} (flows : s.dev.aux.fabricStopped = false)
    (unheld : s.dev.noc.held = false) (serves : s.dieServes m.val = true)
    (free : s.streamSlot (m.val / 3) (dieEdge m.val ch.val) s.slot false = false) (mark : s.mem.marks = [(a, .corrected)])
    (dram : isScratch a = false) (waits : (s.memDie m.val).writeback = [(ch.val, a / 64 * 64)]) : Completes (.scrubWriteback m ch) s fun u =>
      u.mem.marks = [] ∧ (∀ n b, u.mem.read n b = s.mem.read n b) ∧ (u.memDie m.val).writeback = [] ∧
      (∀ j, j ≠ m.val → u.memDie j = s.memDie j) ∧ BgServed s u (m.val / 3) (dieEdge m.val ch.val) .scrub ∧ s.KeepsStore u := by
  have oldest : ((s.bgServed (m.val / 3) (dieEdge m.val ch.val) .scrub).memDie m.val).writeback.find? (fun p => p.1 = ch.val) =
      some (ch.val, a / 64 * 64) := by
    have same : ((s.bgServed (m.val / 3) (dieEdge m.val ch.val) .scrub).memDie m.val).writeback = [(ch.val, a / 64 * 64)] := waits
    simp [same]
  have served : (!s.dev.aux.fabricStopped && !s.dev.noc.held && s.dieServes m.val &&
      !s.streamSlot (m.val / 3) (dieEdge m.val ch.val) s.slot false) = true := by simp [flows, unheld, serves, free]
  have word : a / 64 * 64 / 64 = a / 64 := by omega
  have step : (match ((s.bgServed (m.val / 3) (dieEdge m.val ch.val) .scrub).memDie m.val).writeback.find? (fun p => p.1 = ch.val) with
      | some p => (s.bgServed (m.val / 3) (dieEdge m.val ch.val) .scrub).writeBack m.val p
      | none => s.bgServed (m.val / 3) (dieEdge m.val ch.val) .scrub) =
      (s.bgServed (m.val / 3) (dieEdge m.val ch.val) .scrub).writeBack m.val (ch.val, a / 64 * 64) := by rw [oldest]
  refine completes_of_effect rfl ((s.whenP_pos _ served).trans step)
    ⟨?_, fun n b => rfl, ?_, fun j other => State.memDie_onMemDie_other _ _ (Ne.symm other), rfl, s.effect_keepsStore _⟩
  · have fixed : (s.mem.marks.filter fun e => !(e.1 / 64 = a / 64 * 64 / 64 && e.2 == .corrected && !isScratch e.1)) = [] := by
      simp [mark, word, dram]
    exact fixed
  · refine (congrArg MemDie.writeback (State.memDie_onMemDie _ _ _)).trans ?_
    refine (congrArg (List.erase · _) waits).trans ?_
    exact List.erase_cons_head _ _

end Sys2Proof.Machine
end

section
/-!
SUPPORT. The statement of the network's failures, background tasks and scrub.
-/
namespace Sys2Proof.Machine

theorem networkFailuresAndBackground : NetworkFailuresAndBackground := by
  intro s d kind index port r route k sl m e n task a th p
  refine ⟨nocPacketArrive_passes s d kind index port r route, ?_, dramRefresh_free s m r route, ?_, ?_⟩
  · intro on enters owner found runs link early
    exact nocPacketArrive_fails on enters owner found runs link early
  · intro on present channel owner
    exact dramRefresh_holds on present channel owner a th p
  · intro named running served fed late
    refine ⟨bgTaskStarved_starves named running served fed late, fun flows window unserved => ?_⟩
    exact bgEscalationWindow_serves (s := { s with dev := { s.dev with noc := { s.dev.noc with starved := [n] } } })
      named running flows window unserved rfl

theorem scrubReadsFiveWords : ScrubReadsFiveWords := by
  intro s m ch at_ q a flows unheld serves first place
  refine ⟨fun free clean => ?_, fun free mark dram here alone => ?_, fun g free clean => ?_, fun free mark dram waits => ?_⟩
  · exact scrubRead_clean flows unheld serves first place free clean
  · exact scrubRead_corrects flows unheld serves first place free mark dram here alone
  · exact scrubRead_finds flows unheld serves first place free g clean
  · exact scrubWriteback_writes flows unheld serves free mark dram waits

/-- Settles O42: what each command of the network's failures, of the background slots and of scrub does, put together. -/
theorem networkAndScrub : Obligations.NetworkAndScrub := ⟨networkFailuresAndBackground, scrubReadsFiveWords⟩

end Sys2Proof.Machine
end

section
/-!
SUPPORT. What is kept of the regions' schedulers while operations end: the slots, what the queues remember, and the copy engines.
-/
namespace Sys2Proof.Machine

/-! ## A view of the schedulers -/

/-- A view of every region's scheduler shows the same in both states, and so do the copy engines. -/
structure State.Keeps {α : Type} (v : RegionSched → α) (s t : State) : Prop where
  sched : ∀ r, v (t.region r).sched = v (s.region r).sched
  engines : t.fab.engines = s.fab.engines

/-- The slots through `u`, and of each queue the final statuses that it remembers and the sequence that comes next. -/
def RegionSched.seen {α : Type} (u : Slot → α) (g : RegionSched) : List α × (Nat → List (Word × Code × BitVec 16) × Word) :=
  (g.slots.map u, fun q => ((Tab.get {} g.queues q).history, (Tab.get {} g.queues q).nextSeq))

/-- The scheduler without what raising an event writes: the event ring, the watermarks and the interrupt sources. -/
def RegionSched.quiet (g : RegionSched) : RegionSched := { g with evt := {}, wms := [], irqs := [] }

/-- The name of the operation in a slot. -/
def Slot.name (sl : Slot) : Nat × Word := (sl.op.queue, sl.op.seq)

section View
variable {α β : Type} {v : RegionSched → α}

theorem State.Keeps.refl (s : State) : s.Keeps v s := ⟨fun _ => rfl, rfl⟩

theorem State.Keeps.trans {s t u : State} (h : s.Keeps v t) (k : t.Keeps v u) : s.Keeps v u :=
  ⟨fun r => (k.sched r).trans (h.sched r), k.engines.trans h.engines⟩

theorem State.Keeps.of_fab {s t : State} (regions : t.fab.regions = s.fab.regions) (engines : t.fab.engines = s.fab.engines) : s.Keeps v t :=
  ⟨fun r => by rw [State.region, State.region, regions], engines⟩

/-- What a view shows is shown by every view of it. -/
theorem State.Keeps.mono {s t : State} (h : s.Keeps v t) (w : α → β) : s.Keeps (fun g => w (v g)) t :=
  ⟨fun r => congrArg w (h.sched r), h.engines⟩

theorem State.Keeps.foldl {γ : Type} {f : State → γ → State} (step : ∀ (s : State) (a : γ), s.Keeps v (f s a)) (l : List γ) (s : State) :
    s.Keeps v (l.foldl f s) :=
  List.foldlRecOn l f (.refl s) fun _ h a _ => h.trans (step _ a)

theorem State.onSched_keeps (s : State) (r : Nat) {f : RegionSched → RegionSched} (kept : ∀ g, v (f g) = v g := by exact fun _ => rfl) :
    s.Keeps v (s.onSched r f) := by
  refine ⟨fun p => ?_, rfl⟩
  by_cases h : r = p
  · subst h
    rw [State.region_onSched]
    exact kept _
  · rw [State.region_onSched_other _ _ h]

end View

/-! ## What is read from a view -/

section Seen
variable {α : Type} {u : Slot → α} {s t : State} (h : s.Keeps (RegionSched.seen u) t)
include h

theorem State.Keeps.slots_map (r : Nat) : (t.slots r).map u = (s.slots r).map u := congrArg Prod.fst (h.sched r)

theorem State.Keeps.history (r q : Nat) : (t.queue r q).history = (s.queue r q).history :=
  congrArg (fun x => (x.2 q).1) (h.sched r)

theorem State.Keeps.nextSeq (r q : Nat) : (t.queue r q).nextSeq = (s.queue r q).nextSeq :=
  congrArg (fun x => (x.2 q).2) (h.sched r)

theorem State.Keeps.seen_comp {β : Type} (w : α → β) : s.Keeps (RegionSched.seen fun sl => w (u sl)) t := by
  refine ⟨fun r => Prod.ext ?_ (congrArg Prod.snd (h.sched r) :), h.engines⟩
  have slots := congrArg (List.map w) (h.slots_map r)
  rwa [List.map_map, List.map_map] at slots

/-- Where a view tells the names of slots, the slot that a name finds looks as before. -/
theorem State.Keeps.slotOf_map {q : Nat} {seq : Word} (p : α → Bool) (named : ∀ sl, sl.is q seq = p (u sl)) (r : Nat) :
    (t.slotOf r q seq).map u = (s.slotOf r q seq).map u := by
  have viewed : ∀ l : List Slot, (l.find? (fun sl => sl.is q seq)).map u = (l.map u).find? p := fun l => by
    rw [List.find?_map]
    simp only [named]
    rfl
  rw [State.slotOf, State.slotOf, viewed, viewed, h.slots_map]

end Seen

/-- An update of one slot, through a view that shows none of what it changes. -/
theorem State.onSlot_keeps {α : Type} {u : Slot → α} (s : State) (r q : Nat) (seq : Word) {f : Slot → Slot}
    (kept : ∀ sl, u (f sl) = u sl := by exact fun _ => rfl) : s.Keeps (RegionSched.seen u) (s.onSlot r q seq f) :=
  s.onSched_keeps r fun g => Prod.ext
    (by
      simp only [RegionSched.seen, List.map_map]
      refine List.map_congr_left fun sl _ => ?_
      by_cases hs : sl.is q seq = true <;> simp [hs, kept]) rfl

/-! ## The oldest operation of a queue -/

theorem sortBy_map {α β : Type} (f : α → β) {lt : α → α → Bool} {lt' : β → β → Bool} (same : ∀ a b, lt a b = lt' (f a) (f b)) (l : List α) :
    (sortBy lt l).map f = sortBy lt' (l.map f) := by
  have inserted : ∀ (x : α) (l : List α), (sortBy.insertBefore lt x l).map f = sortBy.insertBefore lt' (f x) (l.map f) := by
    intro x l
    induction l with
    | nil => rfl
    | cons y l ih =>
      rw [List.map_cons, sortBy.insertBefore, sortBy.insertBefore, ← same]
      split
      · rw [List.map_cons, ih]
      · rfl
  induction l with
  | nil => rfl
  | cons x l ih => rw [List.map_cons, sortBy, sortBy, inserted, ih]

/-- Ascending queue, then sequence, of names. -/
def nameBefore (a b : Nat × Word) : Bool := a.1 < b.1 || (a.1 = b.1 && (b.2 - a.2).toNat < 2 ^ 31 && a.2 ≠ b.2)

theorem State.oldestSeq_names (s : State) (r q : Nat) : s.oldestSeq r q =
    (((sortBy nameBefore (((s.slots r).map Slot.name).filter (fun n => n.1 = q))).head?).map (·.2)).getD (s.queue r q).nextSeq := by
  rw [List.filter_map, ← sortBy_map Slot.name (lt := slotBefore) (fun _ _ => rfl), List.head?_map, Option.map_map]
  rfl

theorem State.Keeps.oldestSeq {s t : State} (h : s.Keeps (RegionSched.seen Slot.name) t) (r q : Nat) : t.oldestSeq r q = s.oldestSeq r q := by
  rw [State.oldestSeq_names, State.oldestSeq_names, h.slots_map, h.nextSeq]

/-- What a queue remembers of one more final status depends on the names in the slots and on what it remembered. -/
theorem State.Keeps.remembered {s t : State} (h : s.Keeps (RegionSched.seen Slot.name) t) (r q : Nat) (seq : Word) (status : Code)
    (fault : BitVec 16) : ((t.queue r q).remember (t.oldestSeq r q) seq status fault).history =
      ((s.queue r q).remember (s.oldestSeq r q) seq status fault).history := by
  simp only [Queue.remember, h.oldestSeq, h.history, h.nextSeq]

/-! ## Events -/

theorem State.assignFault_keeps (s : State) (c : Code) (o : Option Nat) (d : Nat) (x : Option Nat) :
    s.Keeps RegionSched.quiet (s.assignFault c o d x) :=
  ⟨fun p => by rw [s.assignFault_sched], by rw [State.assignFault_frame]⟩

theorem State.pfEvent_keeps (s : State) (kind : Nat) (c : Code) (d : Nat) : s.Keeps RegionSched.quiet (s.pfEvent kind c d) :=
  .of_fab (by rw [State.pfEvent_fab]) (by rw [State.pfEvent_fab])

theorem State.EventOnly.engines {s t : State} (h : s.EventOnly t) : t.fab.engines = s.fab.engines := by rw [h]

theorem State.memCount_keeps (s : State) (r a : Nat) : s.Keeps RegionSched.quiet (s.memCount r a) := by
  unfold State.memCount
  dsimp only
  split
  · exact s.assignFault_keeps _ _ _ _
  · exact (s.assignFault_keeps _ _ _ _).trans (.of_fab rfl rfl)

theorem State.regionRingStore_keeps {α : Type} {v : RegionSched → α} (s : State) (r : Nat) (host : Bool) (a : Nat) (bs : List Byte) :
    s.Keeps v (s.regionRingStore r host a bs).1 :=
  .of_fab (s.regionRingStore_regions r host a bs) (s.regionRingStore_only r host a bs).engines

theorem State.trace_keeps {α : Type} {v : RegionSched → α} (s : State) (r kind key queue status value item : Nat) :
    s.Keeps v (s.trace r kind key queue status value item) :=
  .of_fab (s.trace_regions ..) (s.trace_only ..).engines

theorem State.eventPut_keeps (s : State) (r kind : Nat) (c : Code) (d : Nat) : s.Keeps RegionSched.quiet (s.eventPut r kind c d) := by
  unfold State.eventPut
  extract_lets ring written stored counted traced
  split
  · exact s.onSched_keeps r
  · split
    · exact s.onSched_keeps r
    · have put : s.Keeps RegionSched.quiet written.1 := s.regionRingStore_keeps r _ _ _
      have told : s.Keeps RegionSched.quiet stored := by
        unfold stored
        split
        · exact (put.trans (State.memCount_keeps _ _ _)).trans (State.pfEvent_keeps _ _ _ _)
        · exact put
      have counting : s.Keeps RegionSched.quiet counted := told.trans (stored.onSched_keeps r)
      exact (counting.trans (counted.trace_keeps ..)).trans (traced.onSched_keeps r)

theorem State.wmCross_keeps (s : State) (r n : Nat) : s.Keeps RegionSched.quiet (s.wmCross r n) := by
  unfold State.wmCross
  extract_lets mark up crossed
  split
  · have crossing : s.Keeps RegionSched.quiet crossed := s.onSched_keeps r
    split
    · exact crossing
    · exact crossing.trans (State.eventPut_keeps _ _ _ _ _)
  · split
    · exact .refl s
    · exact s.onSched_keeps r

theorem State.wmStep_keeps (s : State) (r n : Nat) : s.Keeps RegionSched.quiet (s.wmStep r n) := by
  unfold State.wmStep
  split
  · exact s.wmCross_keeps r 1
  · exact (s.wmCross_keeps r n).trans (State.wmCross_keeps _ r 1)

theorem State.wmPass_keeps (s : State) (r : Nat) : s.Keeps RegionSched.quiet (s.wmPass r) :=
  (s.wmStep_keeps r 0).trans (State.wmStep_keeps _ r 2)

theorem State.eventAll_keeps (s : State) (rs : List Nat) (kind : Nat) (c : Code) (d : Nat) :
    s.Keeps RegionSched.quiet (s.eventAll rs kind c d) :=
  (s.pfEvent_keeps kind c d).trans
    (.foldl (fun s r => (s.eventPut_keeps r kind c d).trans (State.wmStep_keeps _ r 1)) rs _)

theorem State.ringPut_keeps (s : State) (r : Nat) (host : Bool) (a : Nat) (bs : List Byte) :
    s.Keeps RegionSched.quiet (s.ringPut r host a bs) := by
  unfold State.ringPut
  extract_lets written
  have put : s.Keeps RegionSched.quiet written.1 := s.regionRingStore_keeps r host a bs
  split
  · exact (put.trans (State.memCount_keeps _ _ _)).trans (State.eventAll_keeps _ _ _ _ _)
  · exact put

/-! ## What a boundary owes its rings -/

/-- An event leaves the slots, and what the queues remember. -/
theorem State.Keeps.seen {α : Type} {u : Slot → α} {s t : State} (h : s.Keeps RegionSched.quiet t) : s.Keeps (RegionSched.seen u) t :=
  h.mono (RegionSched.seen u)

/-- An update of a queue that leaves what it remembers. -/
theorem State.onQueue_keeps {α : Type} {u : Slot → α} (s : State) (r q : Nat) {f : Queue → Queue}
    (kept : ∀ x, (f x).history = x.history ∧ (f x).nextSeq = x.nextSeq) : s.Keeps (RegionSched.seen u) (s.onQueue r q f) :=
  s.onSched_keeps r fun g => Prod.ext rfl <| funext fun p => by
    by_cases h : q = p
    · subst h
      simp only [RegionSched.seen, Tab.get_modify_same, kept]
    · simp only [RegionSched.seen, Tab.get_modify_other _ _ _ h]

section Dues
variable {α : Type} {u : Slot → α} (s : State) (r : Nat)

theorem State.irqEntry_keeps (k : Nat) : s.Keeps (RegionSched.seen u) (s.irqEntry r k) := s.onSched_keeps r

theorem State.recordPut_keeps (sl : Slot) (status : Code) (result : Word) (fault : BitVec 16) :
    s.Keeps (RegionSched.seen u) (s.recordPut r sl status result fault) := by
  unfold State.recordPut
  extract_lets queue entry written counted
  have put : s.Keeps (RegionSched.seen u) written := (s.ringPut_keeps r _ _ _).seen
  have counting : s.Keeps (RegionSched.seen u) counted := put.trans (written.onQueue_keeps r _ fun _ => ⟨rfl, rfl⟩)
  exact counting.trans (counted.irqEntry_keeps r _)

theorem State.digestPut_keeps (sl : Slot) (status : Code) (mark : Bool) (fold n : Nat) :
    s.Keeps (RegionSched.seen u) (s.digestPut r sl status mark fold n) := by
  unfold State.digestPut
  extract_lets ring written counted
  split
  · exact .refl s
  · split
    · exact s.onSched_keeps r
    · have put : s.Keeps (RegionSched.seen u) written := (s.ringPut_keeps r _ _ _).seen
      exact (put.trans (written.onSched_keeps r)).trans (counted.irqEntry_keeps r _)

theorem State.putDue_keeps (d : Due) : s.Keeps (RegionSched.seen u) (s.putDue r d) := by
  unfold State.putDue
  extract_lets entered
  have entry : s.Keeps (RegionSched.seen u) entered := by
    unfold entered
    split
    · exact s.digestPut_keeps r _ _ _ _ _
    · exact .refl s
  split
  · exact (entry.trans (State.recordPut_keeps _ r _ _ _ _)).trans (State.wmPass_keeps _ r).seen
  · exact entry

/-- Writing what a boundary owes leaves the slots, and what the queues remember. -/
theorem State.flushDues_keeps : s.Keeps (RegionSched.seen u) (s.flushDues r) :=
  (s.onSched_keeps r).trans (.foldl (fun s d => s.putDue_keeps r d) _ _)

end Dues

/-- Where nothing is owed, nothing is written. -/
theorem State.flushDues_idle {s : State} {r : Nat} (none_ : (s.region r).sched.dues = []) :
    s.flushDues r = s.onSched r fun g => { g with dues := [] } := by
  rw [State.flushDues, none_]
  rfl

end Sys2Proof.Machine
end

section
/-!
SUPPORT. The end of an operation (09 R353, R371): its slot is free, its queue remembers its status, and a copy is counted at its engine.
-/
namespace Sys2Proof.Machine

/-! ## What is done beside the slots -/

theorem State.capture_keeps (s : State) (r q : Nat) (seq : Word) : s.Keeps (RegionSched.seen Slot.op) (s.capture r q seq) :=
  s.onSlot_keeps r q seq

theorem State.onRec_keeps (s : State) (r q : Nat) (seq : Word) (f : OpRec → OpRec) :
    s.Keeps (RegionSched.seen Slot.op) (s.onRec r q seq f) := s.onSlot_keeps r q seq

theorem State.onRun_keeps (s : State) (r q : Nat) (seq : Word) (f : UnitRun → UnitRun) :
    s.Keeps (RegionSched.seen Slot.op) (s.onRun r q seq f) := s.onSlot_keeps r q seq

theorem State.bumpSums_keeps {α : Type} {v : RegionSched → α} (s : State) (a : AnnealRun) : s.Keeps v (s.bumpSums a) := by
  unfold State.bumpSums
  split
  · exact .of_fab rfl rfl
  · exact .refl s

theorem State.closeAnneal_keeps (s : State) (r q : Nat) (seq : Word) (status : Code) :
    s.Keeps (RegionSched.seen Slot.op) (s.closeAnneal r q seq status) := by
  unfold State.closeAnneal
  split
  · split
    · split
      · extract_lets out written summed
        have writing : s.Keeps (RegionSched.seen Slot.op) written := .of_fab rfl rfl
        have summing : s.Keeps (RegionSched.seen Slot.op) summed := writing.trans (written.onRec_keeps r q seq _)
        exact (summing.trans (summed.onRun_keeps r q seq _)).trans (State.bumpSums_keeps _ _)
      · exact .refl s
    · exact .refl s
  · exact .refl s

theorem State.latch_keeps (s : State) (r q : Nat) (seq : Word) (status : Code) (result : Word) (fault : BitVec 16) :
    s.Keeps (RegionSched.seen Slot.name) (s.latch r q seq status result fault) :=
  s.onSlot_keeps r q seq fun sl => by split <;> rfl

theorem State.stopGroup_keeps (s : State) (r : Nat) (sl : Slot) (fault : BitVec 16) :
    s.Keeps (RegionSched.seen Slot.name) (s.stopGroup r sl fault) := by
  unfold State.stopGroup
  split
  · split
    · refine .foldl (fun s m => ?_) _ s
      split
      · exact .refl s
      · exact s.latch_keeps r _ _ _ _ _
    · exact .refl s
  · exact .refl s

section Beside
variable {α : Type} {v : RegionSched → α} (s : State)

theorem State.onSite_keeps (k : Nat) (f : Site → Site) : s.Keeps v (s.onSite k f) := .of_fab rfl rfl

theorem State.doneUpdate_keeps {α : Type} {u : Slot → α} (r : Nat) (sl : Slot) : s.Keeps (RegionSched.seen u) (s.doneUpdate r sl) := by
  unfold State.doneUpdate
  split
  · exact s.onSched_keeps r
  · exact .refl s

theorem State.countEnded_keeps (id : BitVec 16) : s.Keeps v (s.countEnded id) := by
  unfold State.countEnded
  extract_lets entry
  split
  · exact .of_fab rfl rfl
  · exact .refl s

theorem State.countMatrix_keeps (sl : Slot) (status : Code) : s.Keeps v (s.countMatrix sl status) := by
  unfold State.countMatrix
  split
  · exact s.onSite_keeps _ _
  · exact .refl s

theorem State.freeThreads_keeps (ts : List (Nat × Nat)) : s.Keeps v (s.freeThreads ts) :=
  (State.Keeps.foldl (fun s _ => s.onSite_keeps _ _) ts s).trans (.of_fab rfl rfl)

theorem State.releaseUnits_keeps (r : Nat) (sl : Slot) : s.Keeps v (s.releaseUnits r sl) := by
  unfold State.releaseUnits
  extract_lets key freed left
  have threads : s.Keeps v freed := by
    unfold freed
    split
    · exact s.freeThreads_keeps _
    · exact .refl s
  have spins : s.Keeps v left := by
    unfold left
    split
    · exact threads.trans (.foldl (fun s _ => s.onSite_keeps _ _) _ _)
    · exact threads
  split
  · exact spins.trans (State.onSite_keeps _ _ _)
  · exact spins

end Beside

/-! ## The end -/

/-- A code above 0x17 names no engine (08 R299). -/
theorem State.onEngine_engines (s : State) (die e : Nat) (f : CopyEngine → CopyEngine) :
    (s.onEngine die e f).fab.engines = if e < 24 then Tab.modify {} s.fab.engines (die * 24 + e) f else s.fab.engines := by
  unfold State.onEngine
  split <;> rfl

/-- The engine's count of its copies, where the operation that ends is a copy that has dispatched (08 R299). -/
def State.countCopy (s : State) (o : Op) : State :=
  if o.type = 1 && o.dispatched then s.onEngine (o.field 14 9 9) (o.field 14 8 4) fun e => { e with completed := e.completed + 1 } else s

theorem State.countCopy_regions (s : State) (o : Op) : (s.countCopy o).fab.regions = s.fab.regions := by
  unfold State.countCopy
  split
  · exact s.onEngine_regions _ _ _
  · rfl

/-- The count depends on the engines alone. -/
theorem State.countCopy_congr {s t : State} (h : t.fab.engines = s.fab.engines) (o : Op) :
    (t.countCopy o).fab.engines = (s.countCopy o).fab.engines := by
  unfold State.countCopy
  split
  · rw [State.onEngine_engines, State.onEngine_engines, h]
  · exact h

/-- Where the slots of a name are dropped, none of that name is left. -/
theorem State.slotOf_dropped (s : State) (r q : Nat) (seq : Word) :
    (s.onSched r fun g => { g with slots := g.slots.filter (fun x => !x.is q seq) }).slotOf r q seq = none := by
  simp only [State.slotOf, State.slots, State.region_onSched, List.find?_eq_none, List.mem_filter]
  rintro x ⟨-, other⟩
  simpa using other

/-- What the end of the operation of a slot leaves of its slot, its queue's memory and the copy engines. -/
theorem State.finish_ends {s : State} {r q : Nat} {seq : Word} {sl : Slot} (found : s.slotOf r q seq = some sl) (status : Code) (result : Word)
    (fault : BitVec 16) :
    (s.finish r q seq status result fault).slotOf r q seq = none ∧
    ((s.finish r q seq status result fault).queue r q).history = ((s.queue r q).remember (s.oldestSeq r q) seq status fault).history ∧
    (s.finish r q seq status result fault).fab.engines = (s.countCopy sl.op).fab.engines := by
  unfold State.finish State.finishMark
  extract_lets closed
  have closing : s.Keeps (RegionSched.seen Slot.op) closed := (s.capture_keeps r q seq).trans (State.closeAnneal_keeps ..)
  have same := closing.slotOf_map (fun o => o.queue = q && o.seq = seq) (fun _ => rfl) r
  rw [found] at same
  split
  · next lost => rw [lost] at same; cases same
  · next sl' here =>
    rw [here] at same
    have op : sl'.op = sl.op := Option.some.inj same
    extract_lets result owed counted kept now traced released engines ended
    have owing : s.Keeps (RegionSched.seen Slot.op) owed := (closing.trans (closed.doneUpdate_keeps r sl')).trans (State.onSched_keeps _ r)
    have counting : s.Keeps (RegionSched.seen Slot.op) counted :=
      (owing.trans (owed.countEnded_keeps fault)).trans (State.countMatrix_keeps _ sl' status)
    have remembered : (kept.queue r q).history = ((s.queue r q).remember (s.oldestSeq r q) seq status fault).history := by
      rw [← (counting.seen_comp fun o => (o.queue, o.seq)).remembered]
      unfold kept
      rw [State.queue_onQueue]
      split <;> rfl
    have releasing : kept.Keeps (RegionSched.seen Slot.op) released := (kept.trace_keeps ..).trans (traced.releaseUnits_keeps r sl')
    have regions : engines.fab.regions = released.fab.regions := released.countCopy_regions sl'.op
    have stopping : (engines.onSched r fun g => { g with slots := g.slots.filter (fun x => !x.is q seq) }).Keeps (RegionSched.seen Slot.name)
        (ended.wmPass r) := (State.stopGroup_keeps _ r sl' fault).trans (ended.wmPass_keeps r).seen
    refine ⟨?_, ?_, ?_⟩
    · have dropped := stopping.slotOf_map (fun n => n.1 = q && n.2 = seq) (fun _ => rfl) r
      rw [State.slotOf_dropped] at dropped
      exact Option.map_eq_none_iff.1 dropped
    · rw [stopping.history, ← remembered, ← releasing.history, State.queue, State.region_onSched, State.queue, State.region, regions]
      rfl
    · rw [stopping.engines, ← op]
      exact State.countCopy_congr (releasing.engines.trans counting.engines) sl'.op

end Sys2Proof.Machine
end

section
/-!
SUPPORT. The dispatch of an operation (09 R353): it runs from its slot, or ends where it dispatches.
-/
namespace Sys2Proof.Machine

/-- A command that dispatches gives what the dispatch of the operation gives, with what is owed then written to the rings. -/
theorem completes_dispatch {i : Instr} {s : State} {o : OpRef} {d : DescType} {sl : Slot} {f : State → Nat → Slot → State} {t : State}
    {P : State → Prop} (run : exec i s = .next (s.dispatchCmd o d f)) (may : Dispatches s o d sl) (step : f s o.region.val sl = t)
    (given : P (s.effect fun _ => t.flushDues o.region.val)) : Completes i s P := by
  obtain ⟨on, found, type, may⟩ := may
  refine completes_of_effect run ?_ given
  rw [s.whenP_pos _ on, found, ← step]
  exact s.whenP_pos _ (by simp [type, may])

theorem Dispatches.found {s : State} {o : OpRef} {d : DescType} {sl : Slot} (may : Dispatches s o d sl) : s.slotAt o = some sl := by
  obtain ⟨-, found, -, -⟩ := may
  exact found

/-- The slot that a name finds has that name. -/
theorem State.name_of_slotOf {s : State} {r q : Nat} {seq : Word} {sl : Slot} (found : s.slotOf r q seq = some sl) :
    sl.op.queue = q ∧ sl.op.seq = seq := by
  simpa [Slot.is] using List.find?_some found

/-! ## The mark of a dispatch -/

section Mark
variable (s : State) (r : Nat) (sl : Slot) (doms : List Nat)

theorem State.dispatchMark_keeps : s.Keeps (RegionSched.seen Slot.name) (s.dispatchMark r sl doms) := by
  unfold State.dispatchMark
  extract_lets q seq captured marked
  have capturing : s.Keeps (RegionSched.seen Slot.name) captured := (s.capture_keeps r q seq).seen_comp fun o => (o.queue, o.seq)
  have marking : captured.Keeps (RegionSched.seen Slot.name) marked := captured.onSlot_keeps r q seq fun x => by
    simp only [Slot.name]
    split <;> rfl
  exact (capturing.trans marking).trans (marked.trace_keeps ..)

theorem State.dispatchMark_keeps_dues : s.Keeps RegionSched.dues (s.dispatchMark r sl doms) :=
  ((s.onSched_keeps r).trans (State.onSched_keeps _ r)).trans (State.trace_keeps ..)

theorem State.dispatchMark_mem : (s.dispatchMark r sl doms).mem = s.mem := State.trace_mem ..

end Mark

/-- An operation that runs where `o` stood: its descriptor is the same, and a first dispatch is noted with its frame, slot and tick. -/
structure Op.RunsFrom (s : State) (o x : Op) : Prop where
  running : x.state = .running
  dispatched : x.dispatched = true
  words : x.words = o.words
  first : o.dispatched = false → x.dispatchFrame = s.frame ∧ x.dispatchSlot = s.slot ∧ x.timeoutTick = s.dev.clk.tick

theorem State.dispatchMark_runs {s : State} {r q : Nat} {seq : Word} {sl : Slot} (found : s.slotOf r q seq = some sl) (doms : List Nat) :
    ∃ x, (s.dispatchMark r sl doms).slotOf r q seq = some x ∧ sl.op.RunsFrom s x.op := by
  obtain ⟨rfl, rfl⟩ := State.name_of_slotOf found
  unfold State.dispatchMark
  extract_lets q seq captured marked
  have capturing : captured.slotOf r q seq = _ := State.slotOf_onSlot s r q seq fun _ => rfl
  have marking : marked.slotOf r q seq = _ := State.slotOf_onSlot captured r q seq fun x => by
    simp only [Slot.is]
    split <;> rfl
  rw [found, Option.map_some] at capturing
  rw [capturing, Option.map_some] at marking
  refine ⟨_, ((State.KeepsSlots.of_regions (marked.trace_regions ..)).slotOf r q seq).trans marking, ?_⟩
  by_cases first : sl.op.dispatched = true
  · exact ⟨rfl, by simp [first], by simp [first], by simp [first]⟩
  · exact ⟨rfl, by simp [first], by simp [first], fun _ => by simp only [first]; exact ⟨rfl, rfl, rfl⟩⟩

/-! ## An operation that ends where it dispatches -/

/-- What the end of an operation at its dispatch leaves of its slot, its queue's memory and the copy engines. -/
theorem State.finishNow_ends {s : State} {r q : Nat} {seq : Word} {sl : Slot} (found : s.slotOf r q seq = some sl) (status : Code)
    (fault : BitVec 16) :
    ((s.finishNow r sl status fault).flushDues r).slotOf r q seq = none ∧
    (((s.finishNow r sl status fault).flushDues r).queue r q).history =
      ((s.queue r q).remember (s.oldestSeq r q) seq status fault).history ∧
    ∃ x, sl.op.RunsFrom s x ∧ ((s.finishNow r sl status fault).flushDues r).fab.engines = (s.countCopy x).fab.engines := by
  obtain ⟨rfl, rfl⟩ := State.name_of_slotOf found
  have mark := s.dispatchMark_keeps r sl []
  obtain ⟨x, marked, runs⟩ := State.dispatchMark_runs found []
  obtain ⟨free, history, engines⟩ := State.finish_ends marked status 0 fault
  unfold State.finishNow
  generalize (s.dispatchMark r sl []).finish r sl.op.queue sl.op.seq status 0 fault = t at free history engines
  have flush := t.flushDues_keeps (u := Slot.name) r
  refine ⟨?_, (flush.history _ _).trans (history.trans (mark.remembered _ _ _ _ _)), x.op, runs, ?_⟩
  · have gone := flush.slotOf_map (fun n => n.1 = sl.op.queue && n.2 = sl.op.seq) (fun _ => rfl) r
    rw [free] at gone
    exact Option.map_eq_none_iff.1 gone
  · exact flush.engines.trans (engines.trans (State.countCopy_congr mark.engines x.op))

/-- An operation that ends at its dispatch has ended; registers beside the regions' records, such as an engine's, may have changed before. -/
theorem endedWith_finishNow {s t : State} {o : OpRef} {sl : Slot} (same : t.fab.regions = s.fab.regions) (found : s.slotAt o = some sl)
    (status : Code) (fault : BitVec 16) :
    EndedWith s (s.effect fun _ => (t.finishNow o.region.val sl status fault).flushDues o.region.val) o status fault := by
  have kept : s.KeepsSlots t := .of_regions same
  have queue : t.queue = s.queue := funext fun r => by
    funext q
    rw [State.queue, State.region, same, State.queue, State.region]
  have oldest : t.oldestSeq = s.oldestSeq := funext fun r => by
    funext q
    rw [State.oldestSeq, State.oldestSeq, kept, queue]
  obtain ⟨free, history, -⟩ := State.finishNow_ends ((kept.slotOf _ _ _).trans found) status fault
  rw [queue, oldest] at history
  generalize (t.finishNow o.region.val sl status fault).flushDues o.region.val = u at free history
  exact ⟨free, history, s.effect_keepsStore _⟩

/-! ## An operation that runs -/

/-- Domains that accept an operation note themselves in its record alone. -/
theorem State.acceptAt_form (s : State) (k : OpKey) (n a : Nat) : s.acceptAt k n a = s ∨
    s.acceptAt k n a = s.onOp k.1 k.2.1 k.2.2 fun o => { o with accepted := (n, a) :: o.accepted } := by
  unfold State.acceptAt
  split
  · exact .inr rfl
  · exact .inl rfl

/-- A slot without the domains that have accepted its operation. -/
def Slot.unaccepted (sl : Slot) : Slot := { sl with op := { sl.op with accepted := [] } }

theorem State.acceptAt_keeps (s : State) (k : OpKey) (n a : Nat) : s.Keeps (RegionSched.seen Slot.unaccepted) (s.acceptAt k n a) := by
  rcases s.acceptAt_form k n a with h | h <;> rw [h]
  · exact .refl s
  · exact s.onSlot_keeps _ _ _

theorem State.onSlot_keeps_dues (s : State) (r q : Nat) (seq : Word) (f : Slot → Slot) : s.Keeps RegionSched.dues (s.onSlot r q seq f) :=
  s.onSched_keeps r

theorem State.acceptAt_keeps_dues (s : State) (k : OpKey) (n a : Nat) : s.Keeps RegionSched.dues (s.acceptAt k n a) := by
  rcases s.acceptAt_form k n a with h | h <;> rw [h]
  · exact .refl s
  · exact s.onSlot_keeps_dues _ _ _ _

theorem State.acceptAt_regionsOnly (s : State) (k : OpKey) (n a : Nat) : s.RegionsOnly (s.acceptAt k n a) := by
  rcases s.acceptAt_form k n a with h | h <;> rw [h]
  · exact .refl s
  · rfl

/-- Where the acceptance of a running operation is all that has changed, it runs on in its slot. -/
theorem State.Keeps.runsFrom {s t : State} (h : s.Keeps (RegionSched.seen Slot.unaccepted) t) {u : State} {o : Op} {r q : Nat} {seq : Word}
    {x : Slot} (found : s.slotOf r q seq = some x) (runs : o.RunsFrom u x.op) : ∃ y, t.slotOf r q seq = some y ∧ o.RunsFrom u y.op := by
  have same := h.slotOf_map (fun y => y.is q seq) (fun _ => rfl) r
  rw [found, Option.map_some, Option.map_eq_some_iff] at same
  obtain ⟨y, here, alike⟩ := same
  obtain ⟨running, dispatched, words, first⟩ := runs
  have state : y.op.state = x.op.state := congrArg (·.op.state) alike
  have marked : y.op.dispatched = x.op.dispatched := congrArg (·.op.dispatched) alike
  have descriptor : y.op.words = x.op.words := congrArg (·.op.words) alike
  have frame : y.op.dispatchFrame = x.op.dispatchFrame := congrArg (·.op.dispatchFrame) alike
  have slot : y.op.dispatchSlot = x.op.dispatchSlot := congrArg (·.op.dispatchSlot) alike
  have tick : y.op.timeoutTick = x.op.timeoutTick := congrArg (·.op.timeoutTick) alike
  exact ⟨y, here, state.trans running, marked.trans dispatched, descriptor.trans words, by rwa [frame, slot, tick]⟩

/-- An operation whose dispatch only domains have accepted runs, with what was owed written to the rings. -/
theorem runsNow_of_keeps {s t : State} {o : OpRef} {sl : Slot} {doms : List Nat} (found : s.slotAt o = some sl)
    (accepted : (s.dispatchMark o.region.val sl doms).Keeps (RegionSched.seen Slot.unaccepted) t) :
    RunsNow s (s.effect fun _ => t.flushDues o.region.val) o := by
  obtain ⟨x, marked, runs⟩ := State.dispatchMark_runs found doms
  obtain ⟨y, here, runs⟩ := (accepted.trans (t.flushDues_keeps o.region.val)).runsFrom marked runs
  refine ⟨y, here, runs.running, runs.dispatched, fun z same => ?_, s.effect_keepsStore _⟩
  obtain rfl := Option.some.inj (found.symm.trans same)
  exact ⟨runs.words, runs.first⟩

/-- Where nothing was owed and nothing is owed now, the rings are not written. -/
theorem memoryStays_of_keeps {s t : State} {r : Nat} (dues : s.Keeps RegionSched.dues t) (mem : t.mem = s.mem) :
    MemoryStays s (s.effect fun _ => t.flushDues r) r := by
  intro none_
  rw [State.effect_mem, State.flushDues_idle ((dues.sched r).trans none_), State.onSched_mem, mem]

end Sys2Proof.Machine
end

section
/-!
SUPPORT. The dispatch of a copy (08 R295, R299).
-/
namespace Sys2Proof.Machine

theorem Op.type_of_copy {o : Op} (copy : o.desc? = some .copy) : o.type = 1 := by
  unfold Op.desc? descType? at copy
  split at copy
  case h_2 type => exact type
  all_goals cases copy

theorem State.engine_lt_of_copyFieldsOk {s : State} {o : Op} (fields : s.copyFieldsOk o = true) : o.engine < 24 := by
  simp only [State.copyFieldsOk, hasBundle, Bool.and_eq_true, decide_eq_true_eq] at fields
  obtain ⟨⟨⟨-, code, -⟩, -⟩, -⟩ := fields
  exact code

/-- The engine that a copy names, as its rejection and its completion leave it (08 R299). -/
theorem State.engine_copyReject_countCopy (s : State) {o x : Op} (words : x.words = o.words) (type : o.type = 1) (dispatched : x.dispatched = true)
    (exists_ : o.engine < 24) (c : Code) :
    Tab.get {} ((s.copyReject o c).countCopy x).fab.engines (o.engineDie * 24 + o.engine) =
      { Tab.get {} s.fab.engines (o.engineDie * 24 + o.engine) with
        rejected := satAdd (Tab.get {} s.fab.engines (o.engineDie * 24 + o.engine)).rejected 1, lastReject := c
        completed := (Tab.get {} s.fab.engines (o.engineDie * 24 + o.engine)).completed + 1 } := by
  have field : ∀ i hi lo, x.field i hi lo = o.field i hi lo := fun i hi lo => by simp only [Op.field, Op.word, words]
  have counted : (s.copyReject o c).countCopy x =
      (s.copyReject o c).onEngine o.engineDie o.engine fun e => { e with completed := e.completed + 1 } := by
    simp only [State.countCopy, Op.type, field, dispatched]
    exact if_pos (by simpa [Op.type] using type)
  rw [counted, State.onEngine_engines, if_pos exists_, Tab.get_modify_same, State.copyReject, State.onEngine_engines, if_pos exists_,
    Tab.get_modify_same]

theorem State.hostSide_none {s : State} {r : Nat} {o : Op} (src : o.srcHost = false) (dst : o.dstHost = false) : s.hostSide r o = none := by
  simp [State.hostSide, src, dst]

section Accept
variable (s : State) (r : Nat) (o : Op) (sp dp : Option Placed)

theorem State.copyAccept_keeps : s.Keeps (RegionSched.seen Slot.unaccepted) (s.copyAccept r o sp dp) :=
  .foldl (fun s _ => s.acceptAt_keeps _ _ _) _ s

theorem State.copyAccept_keeps_dues : s.Keeps RegionSched.dues (s.copyAccept r o sp dp) :=
  .foldl (fun s _ => s.acceptAt_keeps_dues _ _ _) _ s

theorem State.copyAccept_mem : (s.copyAccept r o sp dp).mem = s.mem := by
  have only : s.RegionsOnly (s.copyAccept r o sp dp) :=
    List.foldlRecOn _ _ (.refl s) fun _ h _ _ => h.trans (State.acceptAt_regionsOnly _ _ _ _)
  rw [only]

end Accept

section Dispatch
variable {s : State} {o : OpRef} {sl : Slot} (may : Dispatches s o .copy sl)
include may

theorem copy_invalid (fields : s.copyFieldsOk sl.op = false) : Completes (.copy o) s fun t => EndedWith s t o Codes.COPY_INVALID 0 := by
  have step : s.dispatchCopy o.region.val sl = (s.copyReject sl.op Codes.COPY_INVALID).finishNow o.region.val sl Codes.COPY_INVALID 0 := by
    simp [State.dispatchCopy, fields]
  exact completes_dispatch rfl may step (endedWith_finishNow (State.onEngine_regions ..) (Dispatches.found may) _ _)

theorem copy_empty (fields : s.copyFieldsOk sl.op = true) (empty : sl.op.copyEmpty = true) :
    Completes (.copy o) s fun t => EndedWith s t o Codes.OK 0 := by
  have step : s.dispatchCopy o.region.val sl = s.finishNow o.region.val sl Codes.OK 0 := by simp [State.dispatchCopy, fields, empty]
  exact completes_dispatch rfl may step (endedWith_finishNow rfl (Dispatches.found may) _ _)

theorem copy_misplaced {c : Code} (fields : s.copyFieldsOk sl.op = true) (moves : sl.op.copyEmpty = false)
    (placed : s.copyPlaced o.region.val sl.op = .error c) : Completes (.copy o) s fun t => EndedWith s t o c 0 ∧
      Tab.get {} t.fab.engines (sl.op.engineDie * 24 + sl.op.engine) =
        { Tab.get {} s.fab.engines (sl.op.engineDie * 24 + sl.op.engine) with
          rejected := satAdd (Tab.get {} s.fab.engines (sl.op.engineDie * 24 + sl.op.engine)).rejected 1, lastReject := c
          completed := (Tab.get {} s.fab.engines (sl.op.engineDie * 24 + sl.op.engine)).completed + 1 } := by
  have step : s.dispatchCopy o.region.val sl = (s.copyReject sl.op c).finishNow o.region.val sl c 0 := by
    simp [State.dispatchCopy, fields, moves, placed]
  have ⟨_, found, type, _⟩ := may
  have same : (s.copyReject sl.op c).fab.regions = s.fab.regions := State.onEngine_regions ..
  obtain ⟨-, -, x, runs, engines⟩ :=
    State.finishNow_ends (((State.KeepsSlots.of_regions same).slotOf _ _ _).trans found) c 0
  refine completes_dispatch rfl may step ⟨endedWith_finishNow same found _ _, ?_⟩
  rw [State.effect_fab, engines]
  exact s.engine_copyReject_countCopy runs.words (Op.type_of_copy type) runs.dispatched (State.engine_lt_of_copyFieldsOk fields) c

theorem copy_runs {p q : Placed} (fields : s.copyFieldsOk sl.op = true) (moves : sl.op.copyEmpty = false)
    (placed : s.copyPlaced o.region.val sl.op = .ok (some p, some q)) (src : sl.op.srcHost = false) (dst : sl.op.dstHost = false) :
    Completes (.copy o) s fun t => RunsNow s t o ∧ MemoryStays s t o.region.val := by
  have step : s.dispatchCopy o.region.val sl =
      (s.dispatchMark o.region.val sl [edgeDomain sl.op.engineDie]).copyAccept o.region.val sl.op (some p) (some q) := by
    simp [State.dispatchCopy, fields, moves, placed, State.hostSide_none src dst, src]
  refine completes_dispatch rfl may step ⟨runsNow_of_keeps (Dispatches.found may) (State.copyAccept_keeps ..), memoryStays_of_keeps ?_ ?_⟩
  · exact (s.dispatchMark_keeps_dues ..).trans (State.copyAccept_keeps_dues ..)
  · exact (State.copyAccept_mem ..).trans (s.dispatchMark_mem ..)

end Dispatch

end Sys2Proof.Machine
end

section
/-!
SUPPORT. The completion of a copy between device addresses (08 R289, R296, R297).
-/
namespace Sys2Proof.Machine

/-! ## Bytes that can be reached -/

/-- Every byte can be reached and is writable: its domain is on, its island has its lock, and no spin site keeps it busy. -/
def State.Open (s : State) (l : List Nat) : Prop :=
  ∀ a ∈ l, s.ivory (s.domainOf a) = true ∧ s.islandAt a = none ∧ s.busyByte a = false

/-- What the acceptance of an operation by domains changes: its record in its slot alone. -/
structure State.AcceptOnly (s t : State) : Prop where
  only : s.RegionsOnly t
  standing : s.SameStanding t
  seen : s.Keeps (RegionSched.seen Slot.unaccepted) t

theorem State.AcceptOnly.refl (s : State) : s.AcceptOnly s := ⟨.refl s, .of_regions rfl, .refl s⟩

theorem State.AcceptOnly.trans {s t u : State} (h : s.AcceptOnly t) (k : t.AcceptOnly u) : s.AcceptOnly u :=
  ⟨h.only.trans k.only, h.standing.trans k.standing, h.seen.trans k.seen⟩

theorem State.accept_acceptOnly (s : State) (k : OpKey) (n : Nat) : s.AcceptOnly (s.accept k n) :=
  ⟨s.accept_regionsOnly k n, s.accept_sameStanding k n, s.acceptAt_keeps k n _⟩

theorem State.AcceptOnly.stays_open {s t : State} (h : s.AcceptOnly t) {l : List Nat} (reach : s.Open l) : t.Open l := by
  intro a listed
  obtain ⟨on, lock, free⟩ := reach a listed
  have places := h.only.samePlaces
  have sites : t.fab.sites = s.fab.sites := by rw [h.only]
  exact ⟨by rw [places.domainOf, places.ivory, on], (places.islandAt a).trans lock, (places.busyByte sites h.standing a).trans free⟩

theorem State.Open.reachFails {s : State} {l : List Nat} (reach : s.Open l) (k : OpKey) {a : Nat} (listed : a ∈ l) : s.reachFails k a = none :=
  let ⟨on, lock, _⟩ := reach a listed
  State.reachFails_none k lock on

/-- Where every byte can be reached, meeting them notes nothing. -/
theorem State.meet_open {s : State} {l : List Nat} (reach : s.Open l) (k : OpKey) : s.AcceptOnly (s.meet k l) := by
  unfold State.meet
  extract_lets accepted
  have accepting : s.AcceptOnly accepted :=
    List.foldlRecOn _ _ (.refl s) fun _ h _ _ => h.trans (State.accept_acceptOnly _ k _)
  have unmet : l.filterMap (accepted.reachFails k) = [] :=
    List.filterMap_eq_nil_iff.2 fun _ listed => (accepting.stays_open reach).reachFails k listed
  rw [unmet]
  exact accepting

/-! ## Reads and writes of a unit where no error is stored -/

theorem State.badUnits_clean {s : State} (clean : s.mem.marks = []) (k : OpKey) (l : List Nat) : s.badUnits k l = s := by
  simp [State.badUnits, clean, dedupNat]

theorem State.countCorrected_clean {s : State} (clean : s.mem.marks = []) (l : List Nat) : s.countCorrected l = s := by
  simp [State.countCorrected, clean]

theorem State.AcceptOnly.mem {s t : State} (h : s.AcceptOnly t) : t.mem = s.mem := by rw [h.only]

theorem State.AcceptOnly.free {s t : State} (h : s.AcceptOnly t) : t.free = s.free := by rw [h.only]

/-- A read of reachable, undamaged bytes delivers each of them. -/
theorem State.unitRead_open {s : State} {l : List Nat} (reach : s.Open l) (clean : s.mem.marks = []) (k : OpKey) :
    s.unitRead k l = (s.meet k l, l.map fun a => some (s.mem.read s.free a)) := by
  have met := State.meet_open reach k
  have still : (s.meet k l).mem.marks = [] := by rw [met.mem, clean]
  have delivered : ∀ a ∈ l, ((s.meet k l).reachFails k a).isSome = false ∧ ((s.meet k l).mem.bad [a]).isSome = false := fun a listed =>
    ⟨by rw [(met.stays_open reach).reachFails k listed]; rfl, by rw [Mem.bad, still]; rfl⟩
  rw [State.unitRead, State.badUnits_clean still, State.countCorrected_clean still]
  refine Prod.ext rfl (List.map_congr_left fun a listed => ?_)
  obtain ⟨reached, whole⟩ := delivered a listed
  rw [reached, whole, met.mem, met.free]
  rfl

/-- A write to reachable, undamaged bytes writes each of them. -/
theorem State.unitWrite_open {s : State} {l : List (Nat × Byte)} (reach : s.Open (l.map (·.1))) (clean : s.mem.marks = []) (k : OpKey) :
    s.unitWrite k l = ((s.meet k (l.map (·.1))).onMem fun m => (m.writeCells l).1, l.map fun _ => true) := by
  unfold State.unitWrite
  extract_lets met fine noted good addrs merged torn cleared written
  have meeting : s.AcceptOnly met := State.meet_open reach k
  have still : met.mem.marks = [] := by rw [meeting.mem, clean]
  have idle : ∀ p ∈ l, met.busyByte p.1 = false := fun p listed => by
    obtain ⟨-, -, free⟩ := meeting.stays_open reach p.1 (List.mem_map_of_mem listed)
    exact free
  have reached : ∀ p ∈ l, fine p.1 = true := fun p listed => by
    simp [fine, (meeting.stays_open reach).reachFails k (List.mem_map_of_mem listed), idle p listed]
  have all : good = l := List.filter_eq_self.2 reached
  have unnoted : noted = met := if_neg (by simpa using fun a v listed busy => absurd busy (by simp [idle (a, v) listed]))
  have counted : merged = met := by rw [← State.countMerged_clean met addrs still, ← unnoted]
  have whole : ∀ a, torn a = false := fun a => by simp [torn, still]
  have unharmed : cleared = met := by
    unfold cleared
    rw [counted, State.badUnits_clean still]
  refine Prod.ext ?_ (List.map_congr_left fun p listed => by simp [reached p listed, whole])
  unfold written
  rw [unharmed, all]

/-! ## The bytes of a copy -/

/-- The bytes read, where each was delivered, are written in the order of the destination's addresses. -/
theorem filterMap_zip_delivered (l : List Nat) (bs : List Byte) :
    (l.zip (bs.map some)).filterMap (fun q => q.2.map fun v => (q.1, v)) = l.zip bs := by
  rw [List.zip_map_right, List.filterMap_map]
  exact List.filterMap_some

/-- Lists of one length, one for each entry of a list. -/
theorem length_flatMap_of_length_eq {α β : Type} {f : α → List β} {n : Nat} (each : ∀ a, (f a).length = n) (l : List α) :
    (l.flatMap f).length = l.length * n := by
  induction l with
  | nil => rw [List.flatMap_nil, List.length_nil, List.length_nil, Nat.zero_mul]
  | cons a l ih => rw [List.flatMap_cons, List.length_append, each, ih, List.length_cons, Nat.succ_mul, Nat.add_comm]

theorem Side.length_rowStarts (x : Side) (o : Op) : (x.rowStarts o).length = o.planesN * o.rowsN := by
  rw [Side.rowStarts, length_flatMap_of_length_eq (n := o.rowsN) fun _ => by rw [List.length_map, List.length_range], List.length_range]

/-- Every side of a copy has as many bytes as the descriptor moves. -/
theorem Placed.length_addrs (p : Placed) (x : Side) (o : Op) : (p.addrs x o).length = o.planesN * o.rowsN * o.word 8 := by
  rw [Placed.addrs, List.length_map, Side.bytes,
    length_flatMap_of_length_eq (n := o.word 8) fun _ => by rw [List.length_map, List.length_range], Side.length_rowStarts]

/-- The bytes that a copy moves: each address of the destination with what the source holds in its place. -/
def State.copyCells (s : State) (o : Op) (p q : Placed) : List (Nat × Byte) :=
  (q.addrs o.dst o).zip ((p.addrs o.src o).map (s.mem.read s.free))

section Cells
variable (s : State) (o : Op) (p q : Placed)

theorem State.copyCells_addrs : (s.copyCells o p q).map (·.1) = q.addrs o.dst o :=
  List.map_fst_zip (Nat.le_of_eq (by rw [List.length_map, Placed.length_addrs, Placed.length_addrs]))

theorem State.mem_copyCells {i : Nat} (inside : i < (q.addrs o.dst o).length) :
    ((q.addrs o.dst o).getD i 0, s.mem.read s.free ((p.addrs o.src o).getD i 0)) ∈ s.copyCells o p q := by
  have paired : i < (p.addrs o.src o).length := by rwa [Placed.length_addrs, ← q.length_addrs o.dst o]
  have within : i < (s.copyCells o p q).length := by
    rw [State.copyCells, List.length_zip, List.length_map]
    exact Nat.lt_min.2 ⟨inside, paired⟩
  have entry : (s.copyCells o p q)[i] = ((q.addrs o.dst o)[i], s.mem.read s.free (p.addrs o.src o)[i]) := by
    simp only [State.copyCells, List.getElem_zip, List.getElem_map]
  rw [List.getD_eq_getElem?_getD, List.getD_eq_getElem?_getD, List.getElem?_eq_getElem inside, List.getElem?_eq_getElem paired,
    Option.getD_some, Option.getD_some, ← entry]
  exact List.getElem_mem within

end Cells

/-! ## The end of a copy -/

/-- What the status of an operation's end depends on beside its own. -/
def Slot.course (sl : Slot) : Nat × Word × OpState × Bool × Code :=
  (sl.op.queue, sl.op.seq, sl.op.state, sl.op.onSpins, sl.rec_.pendingStatus)

theorem State.onMem_keeps {α : Type} {v : RegionSched → α} (s : State) (f : Mem → Mem) : s.Keeps v (s.onMem f) := .of_fab rfl rfl

/-- Digests do not decide how an operation ends. -/
theorem State.addTensor_keeps (s : State) (r q : Nat) (seq : Word) (n : Nat) (bs : List Byte) :
    s.Keeps (RegionSched.seen Slot.course) (s.onRec r q seq fun c => c.addTensor n bs) := s.onSlot_keeps r q seq

/-- An operation that meets no status on its way, and is none of the spin fabric, ends with OK. -/
theorem State.latchEnd_ok {s : State} {k : OpKey} {sl : Slot} (found : s.slotOf k.1 k.2.1 k.2.2 = some sl) (open_ : sl.op.state ≠ .latched)
    (spin : sl.op.onSpins = false) (unmet : sl.rec_.pendingStatus = 0) : EndLatched (s.latchEnd k Codes.OK 0) k Codes.OK 0 := by
  have own : firstStatus false (Codes.OK, 0) (0, sl.rec_.pendingFault) = (Codes.OK, 0) := rfl
  have noted : s.noted k = (0, sl.rec_.pendingFault) := by
    unfold State.noted
    rw [found, ← unmet]
  unfold State.latchEnd
  rw [found, noted, Option.any_some, spin]
  dsimp only
  rw [own]
  exact State.latch_ends found open_ _ _ _

section Completion
variable {s : State} {o : OpRef} {sl : Slot} {p q : Placed} (src : sl.op.srcHost = false) (dst : sl.op.dstHost = false)
  (clean : s.mem.marks = []) (placed : s.copyPlaced o.region.val sl.op = .ok (some p, some q))
  (reach : s.Open (p.addrs sl.op.src sl.op ++ q.addrs sl.op.dst sl.op)) (hostBytes : List Byte)
include src dst clean placed reach

/-- A copy whose bytes are all reachable and undamaged writes what its source held; beside, digests and acceptances are noted. -/
theorem State.completeCopy_open : ∃ u, s.completeCopy o.region.val sl hostBytes = u.latchEnd (sl.key o.region.val) Codes.OK 0 ∧
    s.Keeps (RegionSched.seen Slot.course) u ∧ u.mem = (s.mem.writeCells (s.copyCells sl.op p q)).1 := by
  have source : s.Open (p.addrs sl.op.src sl.op) := fun a listed => reach a (List.mem_append_left _ listed)
  have read := State.unitRead_open source clean (sl.key o.region.val)
  have reading := State.meet_open source (sl.key o.region.val)
  have target : (s.meet (sl.key o.region.val) (p.addrs sl.op.src sl.op)).Open ((s.copyCells sl.op p q).map (·.1)) := by
    rw [State.copyCells_addrs]
    exact reading.stays_open fun a listed => reach a (List.mem_append_right _ listed)
  have write := State.unitWrite_open target (by rw [reading.mem, clean]) (sl.key o.region.val)
  have accepted := reading.trans (State.meet_open target (sl.key o.region.val))
  have moved : (fun a => some (s.mem.read s.free a)) = some ∘ s.mem.read s.free := rfl
  rw [moved, ← List.map_map] at read
  unfold State.completeCopy
  simp only [src, Bool.false_eq_true, if_false, State.hostSide_none src dst, placed, read, filterMap_zip_delivered]
  rw [← State.copyCells, write]
  refine ⟨_, rfl, ?_, ?_⟩
  · exact ((accepted.seen.seen_comp Slot.course).trans (State.onMem_keeps _ _)).trans (State.addTensor_keeps _ _ _ _ _ _)
  · exact congrArg (fun m => (Mem.writeCells m _).1) accepted.mem

theorem copy_completes (on : s.fabricOn = true) (found : s.slotAt o = some sl) (type : sl.op.desc? = some .copy)
    (running : sl.op.state = .running) (locked : s.copyLocked o.region.val sl.op = true) (unmet : sl.rec_.pendingStatus = 0)
    (once : (q.addrs sl.op.dst sl.op).Nodup) : Completes (.copyComplete o hostBytes) s fun t =>
      (∃ x, t.slotAt o = some x ∧ x.op.state = .latched ∧ x.rec_.status = Codes.OK) ∧
      (∀ i, i < (q.addrs sl.op.dst sl.op).length → ∀ n,
        t.mem.read n ((q.addrs sl.op.dst sl.op).getD i 0) = s.mem.read s.free ((p.addrs sl.op.src sl.op).getD i 0)) ∧
      (∀ n a, a ∉ q.addrs sl.op.dst sl.op → t.mem.read n a = s.mem.read n a) ∧ s.KeepsStore t := by
  obtain ⟨u, moved, course, mem⟩ := State.completeCopy_open src dst clean placed reach hostBytes
  obtain ⟨queue, seq⟩ := State.name_of_slotOf found
  have same := course.slotOf_map (fun x => x.1 = o.queue.val && x.2.1 = o.seq) (fun _ => rfl) o.region.val
  rw [show s.slotOf _ _ _ = _ from found, Option.map_some, Option.map_eq_some_iff] at same
  obtain ⟨y, here, alike⟩ := same
  simp only [Slot.course, Prod.mk.injEq] at alike
  obtain ⟨-, -, state, spin, pending⟩ := alike
  have plain : sl.op.onSpins = false := by simp [Op.onSpins, Op.type_of_copy type]
  have key : sl.key o.region.val = opKey o := by rw [Slot.key, queue, seq, opKey]
  obtain ⟨x, ended, latched, status, -⟩ := State.latchEnd_ok (k := opKey o) here (by simp [state, running]) (spin.trans plain) (pending.trans unmet)
  have step : s.completeCopy o.region.val sl hostBytes = u.latchEnd (opKey o) Codes.OK 0 := by rw [moved, key]
  have kept : (u.latchEnd (opKey o) Codes.OK 0).mem = (s.mem.writeCells (s.copyCells sl.op p q)).1 := mem
  generalize u.latchEnd (opKey o) Codes.OK 0 = t at ended step kept
  refine completes_of_effect (t := t) rfl ?_ ⟨⟨x, ended, latched, status⟩, fun i inside n => ?_, fun n a outside => ?_, s.effect_keepsStore _⟩
  · rw [s.whenP_pos _ on, found, ← step]
    exact s.whenP_pos _ (by simp [type, running, locked, src])
  · rw [State.effect_mem, kept]
    exact Mem.read_writeCells_same clean (by rwa [State.copyCells_addrs]) (s.mem_copyCells sl.op p q inside) n
  · rw [State.effect_mem, kept]
    refine Mem.read_writeCells_other _ _ _ _ fun c listed => ?_
    rintro rfl
    exact outside (s.copyCells_addrs sl.op p q ▸ List.mem_map_of_mem listed)

end Completion

end Sys2Proof.Machine
end

section
/-!
The statement of copies.
-/
namespace Sys2Proof.Machine

/-- Settles O20: one lemma for each end of a copy at its dispatch, one for a copy that runs, and one for its completion. -/
theorem copiesMoveTheirBytes : Obligations.CopiesMoveTheirBytes := by
  intro s o sl hostBytes c p q
  refine ⟨copy_invalid, copy_empty, fun may => copy_misplaced may, fun may => copy_runs may, ?_⟩
  intro on found type running locked src dst unmet clean placed reach once
  exact copy_completes src dst clean placed reach hostBytes on found type running locked unmet once

end Sys2Proof.Machine
end

section
/-!
SUPPORT. Spin sites at work: the site of an update of its spins, and what an update of one site's spins leaves.
-/
namespace Sys2Proof.Machine

@[simp] theorem State.effect_site (s : State) (f : State → State) (k : Nat) : (s.effect f).site k = (f s).site k := rfl

@[simp] theorem State.site_onSpin (s : State) (k : Nat) (f : Spin → Spin) :
    (s.onSpin k f).site k = { s.site k with spin := f (s.site k).spin } := s.site_onSite k _

theorem State.site_onSpin_other (s : State) {k j : Nat} (f : Spin → Spin) (h : k ≠ j) : (s.onSpin k f).site j = s.site j :=
  s.site_onSite_other _ h

@[simp] theorem State.site_onWork (s : State) (k : Nat) (f : SpinWork → SpinWork) :
    (s.onWork k f).site k = { s.site k with spin := { (s.site k).spin with work := f (s.site k).spin.work } } := s.site_onSpin k _

theorem State.site_onWork_other (s : State) {k j : Nat} (f : SpinWork → SpinWork) (h : k ≠ j) : (s.onWork k f).site j = s.site j :=
  s.site_onSpin_other _ h

@[simp] theorem State.site_onTally (s : State) (k : Nat) (f : SpinCounts → SpinCounts) :
    (s.onTally k f).site k = { s.site k with spin := { (s.site k).spin with tally := f (s.site k).spin.tally } } := s.site_onSpin k _

/-- A site that works for a running operation applies a command's effect for it. -/
theorem State.onBusy_works {s : State} {k : Nat} {key : OpKey} {sl : Slot} {a : AnnealRun} (works : WorksFor s k key sl a)
    (f : OpKey → Slot → AnnealRun → State) : s.onBusy k f = f key sl a := by
  obtain ⟨powered, runs⟩ := works
  simp [State.onBusy, powered, runs]

/-! ## What an update of one site's spins leaves -/

/-- The states differ in one site's record alone, and a view of its spins shows the same in both. -/
structure State.SpinKeeps {α : Type} (v : Spin → α) (k : Nat) (s t : State) : Prop where
  rest : t = { s with fab := { s.fab with sites := t.fab.sites } }
  others : ∀ j, k ≠ j → t.site j = s.site j
  seen : v (t.site k).spin = v (s.site k).spin

section View
variable {α : Type} {v : Spin → α} {k : Nat}

theorem State.SpinKeeps.refl (s : State) : s.SpinKeeps v k s := ⟨rfl, fun _ _ => rfl, rfl⟩

theorem State.SpinKeeps.trans {s t u : State} (h : s.SpinKeeps v k t) (l : t.SpinKeeps v k u) : s.SpinKeeps v k u :=
  ⟨by rw [l.rest, h.rest], fun j apart => (l.others j apart).trans (h.others j apart), l.seen.trans h.seen⟩

/-- What a view shows is shown by every view of it. -/
theorem State.SpinKeeps.mono {β : Type} {s t : State} (h : s.SpinKeeps v k t) (f : α → β) : s.SpinKeeps (fun g => f (v g)) k t :=
  ⟨h.rest, h.others, congrArg f h.seen⟩

theorem State.SpinKeeps.foldl {γ : Type} {f : State → γ → State} (step : ∀ (s : State) (x : γ), s.SpinKeeps v k (f s x)) (l : List γ)
    (s : State) : s.SpinKeeps v k (l.foldl f s) := List.foldlRecOn l f (.refl s) fun _ h x _ => h.trans (step _ x)

theorem State.onSpin_spinKeeps (s : State) {f : Spin → Spin} (kept : ∀ g, v (f g) = v g := by exact fun _ => rfl) :
    s.SpinKeeps v k (s.onSpin k f) :=
  ⟨rfl, fun _ => s.site_onSpin_other f, by rw [State.site_onSpin]; exact kept _⟩

/-- Beside the site, and what the regions record, sites, memory and stores stay. -/
theorem State.SpinKeeps.otherSitesKeep {s t u : State} (h : s.SpinKeeps v k t) (only : t.RegionsOnly u) :
    OtherSitesKeep s (s.effect fun _ => u) [k] := by
  refine ⟨fun j apart => (only.site j).trans (h.others j (by simpa [eq_comm] using apart)), ?_, rfl, rfl, rfl⟩
  rw [State.effect_mem, only, h.rest]

/-- What a site reads of an area does not depend on spins. -/
theorem State.SpinKeeps.areaUnread {s t : State} (h : s.SpinKeeps v k t) (j base n : Nat) : t.areaUnread j base n = s.areaUnread j base n := by
  rw [h.rest]
  rfl

end View

end Sys2Proof.Machine
end

section
/-!
SUPPORT. Update slots: the bits that a slot flips, and what its run leaves (11 R434-R439, R451); the start of a window (11 R437).
-/
namespace Sys2Proof.Machine

/-! ## Flipped bits -/

theorem getLsbD_flipBit (x : BitVec 4096) (c : Nat) {b : Nat} (h : b < 4096) : (flipBit x c).getLsbD b = (x.getLsbD b ^^ decide (b = c)) := by
  have bit : ((1 : BitVec 4096) <<< c).getLsbD b = decide (b = c) := by
    refine (BitVec.getLsbD_twoPow c b).trans ?_
    by_cases same : b = c
    · simp [← same, h]
    · simp [same, Ne.symm same]
  rw [flipBit, BitVec.getLsbD_xor, bit]

/-- Flipping distinct bits changes exactly those. -/
theorem getLsbD_foldl_flipBit {l : List Nat} (distinct : l.Nodup) (x : BitVec 4096) {b : Nat} (h : b < 4096) :
    (l.foldl flipBit x).getLsbD b = (x.getLsbD b ^^ decide (b ∈ l)) := by
  induction l generalizing x with
  | nil => simp
  | cons c l ih =>
    obtain ⟨fresh, distinct⟩ := List.nodup_cons.1 distinct
    rw [List.foldl_cons, ih distinct, getLsbD_flipBit x c h]
    by_cases hc : b = c
    · subst hc
      simp [fresh]
    · simp [hc]

theorem getLsbD_foldl_flipBit_ne {l : List Nat} (distinct : l.Nodup) (x : BitVec 4096) {b : Nat} (h : b < 4096) :
    (l.foldl flipBit x).getLsbD b ≠ x.getLsbD b ↔ b ∈ l := by
  rw [getLsbD_foldl_flipBit distinct x h]
  by_cases flipped : b ∈ l <;> simp [flipped]

/-- The bits of an ordinary slot are distinct. -/
theorem slotBits_nodup {lanes : Nat} (u : Nat) (h : 0 < sweepSlots lanes) : (slotBits lanes u).Nodup :=
  List.pairwise_map.2 (List.nodup_range.imp fun apart same => apart (Nat.eq_of_mul_eq_mul_left h (Nat.add_left_cancel same)))

/-! ## The run of a slot -/

/-- The listed bits that their evaluation flips. -/
def State.slotHits (s : State) (key : OpKey) (o : Op) (a : AnnealRun) (k attempt : Nat) (bits : List Nat) : List Nat :=
  bits.filter (fun b => (s.evaluate key o a k (s.site k).spin attempt b).2)

/-- Those of them that no lower spin cancels (11 R439). -/
def State.slotFlips (s : State) (key : OpKey) (o : Op) (a : AnnealRun) (k attempt : Nat) (bits : List Nat) : List Nat :=
  (s.slotHits key o a k attempt bits).filter (fun b => !(s.sameSlot k o.spins (s.slotHits key o a k attempt bits)).contains b)

theorem map_fst_filterMap_if {β : Type} (f : Nat → β × Bool) (l : List Nat) :
    (l.filterMap (fun b => if (f b).2 then some (b, (f b).1) else none)).map (·.1) = l.filter (fun b => (f b).2) := by
  induction l with
  | nil => rfl
  | cons b l ih => by_cases h : (f b).2 = true <;> simp [h, ih]

section Run
variable (s : State) (key : OpKey) (o : Op) (a : AnnealRun) (k attempt : Nat) (bits : List Nat)

theorem State.mem_slotFlips (b : Nat) : b ∈ s.slotFlips key o a k attempt bits ↔ b ∈ bits ∧
    (s.evaluate key o a k (s.site k).spin attempt b).2 = true ∧ b ∉ s.sameSlot k o.spins (s.slotHits key o a k attempt bits) := by
  rw [State.slotFlips, List.mem_filter, State.slotHits, List.mem_filter, and_assoc]
  simp

/-- The run of a slot flips the working values of its uncancelled hits. -/
theorem State.runSlot_cur : ((s.runSlot key o a k attempt bits).site k).spin.work.cur =
    (s.slotFlips key o a k attempt bits).foldl flipBit (s.site k).spin.work.cur := by
  unfold State.runSlot
  extract_lets g hits cancelled flips worked
  have named : hits.map (·.1) = s.slotHits key o a k attempt bits := map_fst_filterMap_if _ bits
  have cancels : cancelled = s.sameSlot k o.spins (s.slotHits key o a k attempt bits) := by rw [← named]
  rw [State.site_onTally, State.site_onWork, State.slotFlips, ← cancels, ← named, List.filter_map, List.filter_map, List.foldl_map,
    List.foldl_map]
  rfl

/-- The run of a slot leaves the committed state, the ghosts, and what says when the window is over. -/
theorem State.runSlot_keeps : s.SpinKeeps (fun g => (g.committed, g.ghosts, g.work.inWindow, g.work.valuesLeave)) k
    (s.runSlot key o a k attempt bits) := by
  unfold State.runSlot
  extract_lets g hits cancelled flips worked
  exact .trans (t := worked) s.onSpin_spinKeeps worked.onSpin_spinKeeps

end Run

/-- The end of a window depends on its count of slots and on the slot in which the values before it leave. -/
theorem State.windowOver_congr (s : State) {w x : SpinWork} (count : w.inWindow = x.inWindow) (leave : w.valuesLeave = x.valuesLeave) :
    s.windowOver w = s.windowOver x := by
  simp only [State.windowOver, count, leave]

section Ordinary
variable {s : State} {k : Nat} (key : OpKey) {o : Op} {a : AnnealRun} (ordinary : (s.site k).spin.work.repairDue = false)
  (sweeping : (s.site k).spin.work.sweep < s.opSweeps (a.sites.headD 0) o)
  (read : s.rowsUnread k (fun i => (slotBits (s.site k).spin.work.lanes (s.site k).spin.work.uslot).any (fun b => b % o.spins = i)) = none)
include ordinary sweeping read

/-- An ordinary slot that reads every word runs its bits and is counted. -/
theorem State.updateSlot_ordinary :
    ∃ next : SpinWork → SpinWork, s.updateSlot key o a k =
        (s.runSlot key o a k 0 (slotBits (s.site k).spin.work.lanes (s.site k).spin.work.uslot)).onWork k next ∧
      ∀ w, (next w).cur = w.cur ∧ (next w).inWindow = w.inWindow + 1 ∧ (next w).slotsOver = s.windowOver w := by
  simp only [State.updateSlot, ordinary, Bool.false_eq_true, if_false, Nat.not_le.2 sweeping, State.slotOver, read]
  exact ⟨_, rfl, fun _ => ⟨rfl, rfl, rfl⟩⟩

/-- An ordinary slot changes the working values of its uncancelled hits and of no other bit. -/
theorem State.updateSlot_cur (slot : (s.site k).spin.work.uslot < sweepSlots (s.site k).spin.work.lanes) {b : Nat} (h : b < 4096) :
    ((s.updateSlot key o a k).site k).spin.work.cur.getLsbD b ≠ (s.site k).spin.work.cur.getLsbD b ↔
      b ∈ s.slotFlips key o a k 0 (slotBits (s.site k).spin.work.lanes (s.site k).spin.work.uslot) := by
  obtain ⟨next, runs, counts⟩ := State.updateSlot_ordinary key ordinary sweeping read
  have distinct := slotBits_nodup (s.site k).spin.work.uslot (Nat.zero_lt_of_lt slot)
  rw [runs, State.site_onWork, (counts _).1, State.runSlot_cur]
  exact getLsbD_foldl_flipBit_ne ((distinct.filter _).filter _) _ h

/-- An ordinary slot is counted, and ends its window where it is the last; the committed state and the ghosts stay. -/
theorem State.updateSlot_counts :
    ((s.updateSlot key o a k).site k).spin.work.inWindow = (s.site k).spin.work.inWindow + 1 ∧
    ((s.updateSlot key o a k).site k).spin.work.slotsOver = s.windowOver (s.site k).spin.work ∧
    s.SpinKeeps (fun g => (g.committed, g.ghosts)) k (s.updateSlot key o a k) := by
  obtain ⟨next, runs, counts⟩ := State.updateSlot_ordinary key ordinary sweeping read
  have kept := s.runSlot_keeps key o a k 0 (slotBits (s.site k).spin.work.lanes (s.site k).spin.work.uslot)
  have seen := kept.seen
  simp only [Prod.mk.injEq] at seen
  obtain ⟨committed, ghosts, count, leave⟩ := seen
  rw [runs, State.site_onWork, (counts _).2.1, (counts _).2.2]
  exact ⟨congrArg (· + 1) count, s.windowOver_congr count leave, (kept.mono fun p => (p.1, p.2.1)).trans (State.onSpin_spinKeeps _)⟩

end Ordinary

/-! ## The start of a window -/

theorem State.decisionFor_undecided (s : State) (o : Op) {a : AnnealRun} (k window : Nat) (h : a.decisions = []) :
    s.decisionFor o a k window = (none, false) := by
  simp [State.decisionFor, h]

/-- Without an exchange decision the next window of a site that has run one starts at once; beside, the slots' records alone change. -/
theorem State.nextWindow_undecided {s : State} {k : Nat} (key : OpKey) (o : Op) {a : AnnealRun} (active : (s.site k).spin.work.active = true)
    (undecided : a.decisions = []) :
    ∃ t, s.SpinKeeps Spin.committed k t ∧ t.RegionsOnly (s.nextWindow key o a k) ∧
      (t.site k).spin = (s.site k).spin.startWindow ((s.site k).spin.work.window + 1)
        (if s.dev.aux.slateInForce then a.lanes else (s.site k).spin.work.lanes) s.runSlots := by
  simp only [State.nextWindow, active, State.decisionFor_undecided s o k _ undecided, if_true, Bool.false_and, Bool.false_eq_true, if_false]
  refine ⟨_, .trans (t := s.onTally k id) s.onSpin_spinKeeps (State.onSpin_spinKeeps _), State.onSlot_regionsOnly .., ?_⟩
  rw [State.site_onSpin, State.site_onTally]
  rfl

end Sys2Proof.Machine
end

section
/-!
The statement of update slots and of the start of windows.
-/
namespace Sys2Proof.Machine

/-- Settles O32: an ordinary slot flips its uncancelled hits, and a window without a decision starts from the committed state. -/
theorem updateSlotsFlipTheirSpins : Obligations.UpdateSlotsFlipTheirSpins := by
  intro s x key sl a works
  constructor
  · intro active uncommitted unsent ordinary more _ slot sweeping read
    obtain ⟨count, ends, kept⟩ := State.updateSlot_counts key ordinary sweeping read
    obtain ⟨committed, ghosts⟩ := Prod.mk.inj kept.seen
    refine completes_of_effect rfl ((State.onBusy_works works _).trans (State.whenP_pos _ _ ?_))
      ⟨fun b h => ?_, count, ends, committed, ghosts, kept.otherSitesKeep (.refl _)⟩
    · simp [active, uncommitted, unsent, more]
    · exact (State.updateSlot_cur key ordinary sweeping read slot h).trans (State.mem_slotFlips ..)
  · intro boundary active _ undecided may
    obtain ⟨t, kept, only, starts⟩ := State.nextWindow_undecided key sl.op active undecided
    refine completes_of_effect rfl ((State.onBusy_works works _).trans (State.whenP_pos _ _ ?_)) ?_
    · simp [boundary, may]
    · rw [State.effect_site, only.site, starts]
      exact ⟨rfl, rfl, rfl, rfl, rfl, rfl, rfl, rfl, rfl, kept.otherSitesKeep only⟩

end Sys2Proof.Machine
end

section
/-!
SUPPORT. Ghost slots: what a stream's payload fills (10 R403, R404).
-/
namespace Sys2Proof.Machine

theorem b2n_eq_toNat (b : Bool) : b2n b = b.toNat := by cases b <;> rfl

/-- A sum of bits at their places is below the place after the last. -/
theorem sum_bits_lt (p : Nat → Bool) (n : Nat) : ((List.range n).map (fun r => b2n (p r) * 2 ^ r)).sum < 2 ^ n := by
  induction n with
  | zero => simp
  | succ n ih =>
    have bit : b2n (p n) * 2 ^ n ≤ 1 * 2 ^ n := Nat.mul_le_mul_right _ (b2n_eq_toNat (p n) ▸ Bool.toNat_le (p n))
    simp only [List.range_succ, List.map_append, List.sum_append, List.map_singleton, List.sum_singleton, Nat.pow_succ]
    omega

/-- A sum of bits at their places holds each at its place. -/
theorem testBit_sum_bits (p : Nat → Bool) {n r : Nat} (h : r < n) :
    ((List.range n).map (fun r => b2n (p r) * 2 ^ r)).sum.testBit r = p r := by
  induction n with
  | zero => exact absurd h (Nat.not_lt_zero r)
  | succ n ih =>
    simp only [List.range_succ, List.map_append, List.sum_append, List.map_singleton, List.sum_singleton]
    rw [Nat.add_comm, Nat.mul_comm, Nat.testBit_two_pow_mul_add _ (sum_bits_lt p n)]
    split
    · next below => exact ih below
    · have top : r = n := by omega
      subst top
      cases p r <;> simp [b2n]

/-- What a stream's payload gives for one of its slots: a bit for each replica. -/
def ghostValue (n : Nat) (bits : List Nat) (q : Nat) : BitVec 16 :=
  BitVec.ofNat 16 (((List.range n).map (fun r => b2n (bits.contains (q * n + r)) * 2 ^ r)).sum)

theorem getLsbD_ghostValue {n : Nat} (bits : List Nat) (q : Nat) {r : Nat} (h : r < n) (few : n ≤ 16) :
    (ghostValue n bits q).getLsbD r = bits.contains (q * n + r) := by
  have narrow : r < 16 := by omega
  rw [ghostValue, BitVec.getLsbD_ofNat, testBit_sum_bits (fun r => bits.contains (q * n + r)) h]
  simp [narrow]

/-- Writing a row of neighbouring entries sets those that are named. -/
theorem Tab.get_foldl_set {α : Type} (d : α) (base : Nat) (v : Nat → α) (l : List Nat) (t : Tab α) (i : Nat) :
    Tab.get d (l.foldl (fun t q => Tab.set t (base + q) (v q)) t) i =
      if base ≤ i ∧ i - base ∈ l then v (i - base) else Tab.get d t i := by
  induction l generalizing t with
  | nil => simp
  | cons q l ih =>
    rw [List.foldl_cons, ih]
    by_cases here : base + q = i
    · subst here
      simp
    · have apart : base ≤ i → i - base ≠ q := fun _ _ => here (by omega)
      have named : base ≤ i ∧ i - base ∈ q :: l ↔ base ≤ i ∧ i - base ∈ l :=
        and_congr_right fun above => by rw [List.mem_cons, or_iff_right (apart above)]
      simp only [named, Tab.get_set_other _ _ _ here]

/-- A stream's payload fills its slots and no others. -/
theorem get_fillGhosts (n : Nat) (e : Stream) (bits : List Nat) (g : Tab (BitVec 16)) (i : Nat) : Tab.get 0 (fillGhosts n e bits g) i =
    if e.first ≤ i ∧ i - e.first < e.count then ghostValue n bits (i - e.first) else Tab.get 0 g i :=
  (Tab.get_foldl_set 0 e.first (ghostValue n bits) (List.range e.count) g i).trans (by simp only [List.mem_range])

end Sys2Proof.Machine
end

section
/-!
SUPPORT. Claims and values on streams: what a site sends, and what it takes (11 R438-R446, R450-R453).
-/
namespace Sys2Proof.Machine

/-! ## Sending -/

/-- A site's one outgoing stream, to a site of the operation on this package that imports it, adds its message to that site's inbox. -/
theorem State.exportAll_single {s : State} {key : OpKey} {k : Nat} {e st : Stream} {i : Nat} (o : Op) (window : Nat) (claims : Bool)
    (v : Nat → Bool) (one : s.exports k = [e]) (near : e.remote = false) (part : s.takesPart key e.peer = true)
    (fed : s.importOf k e = some (st, i)) :
    s.exportAll key o k window claims v = s.onSpin e.peer fun g => { g with inbox := g.inbox ++ [{
      stream := i, window := window, claims := claims, bits := exportBits o.reps o.spins (s.exportList k) e v
      due := s.leaves key.1 e.route (e.packets o.reps) + s.routeLength key.1 e.route }] } := by
  simp [State.exportAll, one, near, part, fed]

/-! ## Taking -/

/-- The one message of an inbox, once it is there, is the next of its stream. -/
theorem State.nextLocal_single {s : State} {k : Nat} {b : StreamMsg} (one : (s.site k).spin.inbox = [b]) {i : Nat} (stream : b.stream = i)
    (there : b.due ≤ s.runSlots) : s.nextLocal k i = some b := by
  simp [State.nextLocal, one, stream, there]

section Values
variable (s : State) (k : Nat) (o : Op)

/-- What values leave of a site once they have filled the ghosts: the committed state, the ghosts, the inbox, and the values noted. -/
def Spin.filled (g : Spin) : BitVec 4096 × Tab (BitVec 16) × List StreamMsg × List (Nat × Nat) :=
  (g.committed, g.ghosts, g.inbox, g.work.valuesIn)

/-- Marking stale flips keeps what the values filled, and the counts that wait. -/
theorem State.markStale_keeps (old : Spin) : s.SpinKeeps (fun g => (g.filled, g.tally.due)) k (s.markStale o k old) := by
  unfold State.markStale
  split
  · exact .refl s
  · exact s.onSpin_spinKeeps fun g => by split <;> rfl

theorem State.addPairs_keeps (times : Nat) (x : BitVec 4096) (pick : Option Nat → Bool) :
    s.SpinKeeps Spin.filled k (s.addPairs o k times x pick) := by
  unfold State.addPairs
  exact s.onSpin_spinKeeps

/-- No count waits at the site for the values of a window on a stream, or its pair table can be read. -/
def State.PairsReadable (i window : Nat) : Prop :=
  (∀ d ∈ (s.site k).spin.tally.due, d.window = window → d.awaited.contains i = false) ∨ s.areaUnread k o.pairOff (4 * o.pairCount) = none

/-- What waits and what can be read is the same where the waiting counts are. -/
theorem State.SpinKeeps.pairsReadable {α : Type} {v : Spin → α} {s t : State} {k : Nat} {o : Op} {i window : Nat}
    (h : s.SpinKeeps (fun g => (v g, g.tally.due)) k t) (readable : s.PairsReadable k o i window) : t.PairsReadable k o i window := by
  have due : (t.site k).spin.tally.due = (s.site k).spin.tally.due := congrArg Prod.snd h.seen
  rwa [State.PairsReadable, due, h.areaUnread]

/-- Settling counts whose pair table can be read keeps what the values filled. -/
theorem State.settlePairs_keeps (key : OpKey) {i window : Nat} (readable : s.PairsReadable k o i window) :
    s.SpinKeeps Spin.filled k (s.settlePairs key o k i window) := by
  unfold State.settlePairs
  extract_lets mine due counted
  split
  · exact .refl s
  · next waiting =>
    have read : s.areaUnread k o.pairOff (4 * o.pairCount) = none := readable.resolve_left fun free => waiting (by
      simpa [due, mine, List.filter_eq_nil_iff] using free)
    have counts : s.SpinKeeps Spin.filled k counted := by
      unfold counted State.pairsOver
      rw [read]
      exact .foldl (fun t d => t.addPairs_keeps k o _ _ _) due s
    exact counts.trans counted.onSpin_spinKeeps

/-- Values fill their stream's ghosts and are noted; the committed state and the inbox stay. -/
theorem State.takeValues_fills {s : State} {k : Nat} {o : Op} (key : OpKey) {i window : Nat} (e : Stream) (bits : List Nat)
    (readable : s.PairsReadable k o i window) :
    ((s.takeValues key o k i window e bits).site k).spin.filled = ((s.site k).spin.committed,
      fillGhosts o.reps e bits (s.site k).spin.ghosts, (s.site k).spin.inbox, (window, i) :: (s.site k).spin.work.valuesIn.take 127) ∧
    s.SpinKeeps Spin.committed k (s.takeValues key o k i window e bits) := by
  unfold State.takeValues
  extract_lets old taken
  have taking : s.SpinKeeps (fun g => (g.committed, g.tally.due)) k taken := s.onSpin_spinKeeps
  have staling := taken.markStale_keeps k o old
  have settling := (taken.markStale o k old).settlePairs_keeps k o key (staling.pairsReadable (taking.pairsReadable readable))
  have kept : taken.SpinKeeps Spin.filled k _ := (staling.mono Prod.fst).trans settling
  refine ⟨kept.seen.trans ?_, (taking.mono Prod.fst).trans (kept.mono Prod.fst)⟩
  simp [taken, Spin.filled]

end Values

/-! ## The commands -/

section Commands
variable {s : State} {x : SiteRef} {n : Fin 64} {key : OpKey} {sl : Slot} {a : AnnealRun} {e st : Stream} {i : Nat} {b : StreamMsg}
  {P : State → Prop} (works : WorksFor s (siteRefKey x) key sl a)
include works

/-- CLAIMS_SEND of a site with one outgoing stream, once the window's slots and their allotment are over (11 R440, R448, R451). -/
theorem claimsSend_completes (boundary : s.atBoundary = true) (active : (s.site (siteRefKey x)).spin.work.active = true)
    (unsent : (s.site (siteRefKey x)).spin.work.claimsSent = false) (repaired : (s.site (siteRefKey x)).spin.work.repairDue = false)
    (ended : (s.site (siteRefKey x)).spin.work.slotsOver = true)
    (allotted : s.dev.aux.slateInForce = true →
      (s.site (siteRefKey x)).spin.work.began + (s.site (siteRefKey x)).spin.work.allotment ≤ s.runSlots)
    (one : s.exports (siteRefKey x) = [e]) (near : e.remote = false) (part : s.takesPart key e.peer = true)
    (fed : s.importOf (siteRefKey x) e = some (st, i)) (apart : e.peer ≠ siteRefKey x)
    (given : P (s.effect fun _ => (s.onWork (siteRefKey x) fun w => { w with claimsSent := true }).onSpin e.peer fun g =>
      { g with inbox := g.inbox ++ [{
          stream := i, window := (s.site (siteRefKey x)).spin.work.window, claims := true
          bits := exportBits sl.op.reps sl.op.spins (s.exportList (siteRefKey x)) e (s.site (siteRefKey x)).spin.work.claimed
          due := s.leaves key.1 e.route (e.packets sl.op.reps) + s.routeLength key.1 e.route }] })) : Completes (.claimsSend x) s P := by
  have sent : (s.onWork (siteRefKey x) fun w => { w with claimsSent := true }).takesPart key e.peer = true := by
    rwa [State.takesPart, State.site_onWork_other _ _ apart.symm]
  refine completes_of_effect rfl ((State.onBusy_works works _).trans ((State.whenP_pos _ _ ?_).trans
    (State.exportAll_single sl.op _ true _ one near sent fed))) given
  cases inForce : s.dev.aux.slateInForce with
  | false => simp [boundary, active, unsent, repaired, ended]
  | true => simp [boundary, active, unsent, repaired, ended, allotted inForce]

section Taking
variable (named : (s.imports (siteRefKey x))[n.val]? = some e) (near : e.remote = false) (live : s.streamLive key a.multi e = true)
  (one : (s.site (siteRefKey x)).spin.inbox = [b]) (stream : b.stream = n.val) (there : b.due ≤ s.runSlots)
include named near live one stream there

/-- CLAIMS_ARRIVE takes the claims of the site's window that are there (11 R440, R446). -/
theorem claimsArrive_completes (active : (s.site (siteRefKey x)).spin.work.active = true)
    (fresh : ∀ c ∈ (s.site (siteRefKey x)).spin.work.claims, ¬ (c.1 = (s.site (siteRefKey x)).spin.work.window ∧ c.2.1 = n.val))
    (window : b.window = (s.site (siteRefKey x)).spin.work.window) (claims : b.claims = true)
    (given : P (s.effect fun _ => s.onSpin (siteRefKey x) fun g =>
      { g with inbox := g.inbox.erase b, work := { g.work with claims := g.work.claims ++ [(b.window, n.val, b.bits)] } })) :
    Completes (.claimsArrive x n) s P := by
  have next := State.nextLocal_single one stream there
  have first : (s.site (siteRefKey x)).spin.work.claims.any
      (fun c => c.1 = (s.site (siteRefKey x)).spin.work.window && c.2.1 = n.val) = false := by simpa using fresh
  refine completes_of_effect rfl ((State.onBusy_works works _).trans ?_) given
  simp [named, near, live, active, first, next, claims, window]

/-- GHOST_VALUES_ARRIVE takes the values that are there, in Slate mode those of the window that the site has committed (11 R444, R450). -/
theorem ghostValuesArrive_completes (values : b.claims = false)
    (slate : s.dev.aux.slateInForce = true →
      (s.site (siteRefKey x)).spin.work.committed = true ∧ b.window = (s.site (siteRefKey x)).spin.work.window)
    (given : P (s.effect fun _ => (s.onSpin (siteRefKey x) fun g => { g with inbox := g.inbox.erase b }).takeValues key sl.op (siteRefKey x)
      n.val b.window e b.bits)) : Completes (.ghostValuesArrive x n) s P := by
  have next := State.nextLocal_single one stream there
  refine completes_of_effect rfl ((State.onBusy_works works _).trans ?_) given
  cases inForce : s.dev.aux.slateInForce with
  | false => simp [named, near, live, next, values]
  | true => simp [named, near, live, next, values, slate inForce]

end Taking

end Commands

end Sys2Proof.Machine
end

section
/-!
The statement of claims and ghost values.
-/
namespace Sys2Proof.Machine

/-- Settles O33: what a site sends on its one outgoing stream, and what it takes on an import stream of its package. -/
theorem claimsAndValuesTravel : Obligations.ClaimsAndValuesTravel := by
  intro s x n key sl a e st i b works
  refine ⟨?claimsSend, fun named near live => ⟨?claimsArrive, ?valuesArrive⟩⟩
  case claimsSend =>
    intro boundary active unsent repaired ended allotted one near part fed apart
    refine claimsSend_completes works boundary active unsent repaired ended allotted one near part fed apart
      ⟨?_, ?_, fun j away => ?_, rfl, rfl, rfl, rfl⟩
    · rw [State.effect_site, State.site_onSpin_other _ _ apart, State.site_onWork]
    · rw [State.effect_site, State.site_onSpin, State.site_onWork_other _ _ apart.symm]
      rfl
    · simp only [List.mem_cons, List.not_mem_nil, or_false, not_or] at away
      rw [State.effect_site, State.site_onSpin_other _ _ (Ne.symm away.2), State.site_onWork_other _ _ (Ne.symm away.1)]
  case claimsArrive =>
    intro active fresh one stream there window claims
    refine claimsArrive_completes works named near live one stream there active fresh window claims
      ⟨?_, (s.onSpin_spinKeeps (v := Spin.committed)).otherSitesKeep (.refl _)⟩
    rw [State.effect_site, State.site_onSpin, one, List.erase_cons_head]
  case valuesArrive =>
    intro one stream there values few slate readable
    have erasing : s.SpinKeeps (fun g => (g.committed, g.tally.due)) (siteRefKey x)
        (s.onSpin (siteRefKey x) fun g => { g with inbox := g.inbox.erase b }) := s.onSpin_spinKeeps
    obtain ⟨filled, kept⟩ := State.takeValues_fills key e b.bits (erasing.pairsReadable readable)
    simp only [State.site_onSpin, one, List.erase_cons_head, Spin.filled, Prod.mk.injEq] at filled
    obtain ⟨committed, ghosts, inbox, noted⟩ := filled
    have keeps := (erasing.mono Prod.fst).trans kept
    refine ghostValuesArrive_completes works named near live one stream there values slate
      ⟨fun q r hq hr => ?_, fun g apart => ?_, inbox, ?_, committed, keeps.otherSitesKeep (.refl _)⟩
    · rw [State.effect_site, ghosts, get_fillGhosts, if_pos (by omega), Nat.add_sub_cancel_left, getLsbD_ghostValue b.bits q hr few]
    · rw [State.effect_site, ghosts, get_fillGhosts, if_neg (by omega)]
    · simp [State.effect_site, noted]

end Sys2Proof.Machine
end

section
/-!
SUPPORT. Commits: what a window's rollbacks and kept flips leave of the site, and what the rest of a commit leaves of that (11 R441-R444).
-/
namespace Sys2Proof.Machine

/-! ## The site after its rollbacks -/

/-- The flips of a window that R439 has not cancelled. -/
def SpinWork.live (w : SpinWork) : List Flip := w.flips.filter (fun f => !f.cancelled)

/-- The flipped bits that a claim, or a ghost that took another value, rolls back (11 R441, R453). -/
def State.firstRolled (s : State) (o : Op) (k : Nat) (w : SpinWork) : List Nat :=
  let bits := dedupNat (w.live.map (·.bit))
  let claimed := bits.filter (s.claimRolled k o.reps o.spins w)
  claimed ++ bits.filter (fun b => !claimed.contains b && w.live.any (fun f => f.bit = b && f.stale))

/-- All bits that a commit rolls back: those, and the flips that read them (11 R442). -/
def State.rolled (s : State) (o : Op) (k : Nat) (w : SpinWork) : List Nat :=
  s.rollClosure k o.spins w.live (w.live.length + 1) (s.firstRolled o k w)

/-- The flips that a commit keeps (11 R443). -/
def State.keptFlips (s : State) (o : Op) (k : Nat) (w : SpinWork) : List Flip :=
  w.live.filter (fun f => !(s.rolled o k w).contains f.bit)

/-- What a commit settles of a site: the committed state, the bits that wait for repair, that the window is committed, the windows counted,
and the energies. -/
def Spin.settled (g : Spin) : BitVec 4096 × List Nat × Bool × Nat × List Int :=
  (g.committed, g.work.repair, g.work.committed, g.tally.windows, g.tally.energy)

/-- The rollbacks settle the site by the flips that they keep. -/
theorem State.commitBits_settled (s : State) (o : Op) (k : Nat) {g : Spin} (spin : (s.site k).spin = g) :
    ((s.commitBits o k).site k).spin.settled = ((s.keptFlips o k g.work).foldl (fun x f => flipBit x f.bit) g.work.start,
      g.work.repair.filter (fun b => !(s.rolled o k g.work).contains b) ++ s.rolled o k g.work, true, g.tally.windows + 1,
      addEnergies o.spins (s.keptFlips o k g.work) g.tally.energy) := by
  subst spin
  unfold State.commitBits
  extract_lets
  rw [State.site_onSpin]
  rfl

/-! ## Which bits are rolled back -/

/-- Removing repeats loses no number, neither of those passed nor of those to come. -/
theorem mem_foldl_dedup {x : Nat} (l : List Nat) {t : List Nat} (h : x ∈ t ∨ x ∈ l) :
    x ∈ l.foldl (fun t x => if t.contains x then t else t ++ [x]) t := by
  induction l generalizing t with
  | nil => exact h.resolve_right List.not_mem_nil
  | cons y l ih =>
    rw [List.foldl_cons]
    refine ih ?_
    rcases h with passed | listed
    · refine .inl ?_
      split
      · exact passed
      · exact List.mem_append_left _ passed
    · rcases List.mem_cons.1 listed with rfl | later
      · refine .inl ?_
        split
        · next held => exact List.contains_iff_mem.1 held
        · exact List.mem_append_right _ List.mem_cons_self
      · exact .inr later

theorem mem_dedupNat {x : Nat} {l : List Nat} (h : x ∈ l) : x ∈ dedupNat l := mem_foldl_dedup l (.inr h)

section Rolled
variable {s : State} {k m b : Nat} {live : List Flip}

/-- A pass of R442 takes no bit back. -/
theorem State.mem_followRolled {rolled : List Nat} (h : b ∈ rolled) : b ∈ s.followRolled k m live rolled := by
  refine List.foldlRecOn (motive := fun t : List Nat => b ∈ t) live _ h fun t among f _ => ?_
  split
  · exact among
  · split
    · exact List.mem_append_left _ among
    · exact among

theorem State.mem_rollClosure {fuel : Nat} {rolled : List Nat} (h : b ∈ rolled) : b ∈ s.rollClosure k m live fuel rolled := by
  induction fuel generalizing rolled with
  | zero => exact h
  | succ fuel ih =>
    unfold State.rollClosure
    extract_lets more
    split
    · exact h
    · exact ih (State.mem_followRolled h)

/-- Where nothing is rolled back first, nothing follows. -/
theorem State.rollClosure_nil (s : State) (k m : Nat) (live : List Flip) (fuel : Nat) : s.rollClosure k m live fuel [] = [] := by
  have none_ : s.followRolled k m live [] = [] :=
    List.foldlRecOn (motive := fun t : List Nat => t = []) live _ rfl fun t h f _ => by simp [h]
  cases fuel with
  | zero => rfl
  | succ fuel => simp [State.rollClosure, none_]

end Rolled

section Window
variable {s : State} {o : Op} {k : Nat} {w : SpinWork}

/-- An uncancelled flip that a claim rolls back is among the bits rolled back. -/
theorem State.mem_rolled_of_claimed {f : Flip} (listed : f ∈ w.flips) (live : f.cancelled = false)
    (claimed : s.claimRolled k o.reps o.spins w f.bit = true) : f.bit ∈ s.rolled o k w := by
  have among : f ∈ w.live := List.mem_filter.2 ⟨listed, by simp [live]⟩
  exact State.mem_rollClosure (List.mem_append_left _ (List.mem_filter.2 ⟨mem_dedupNat (List.mem_map_of_mem among), claimed⟩))

/-- Without ghost rows and stale flips nothing is rolled back. -/
theorem State.rolled_nil (rows : ∀ i, ∀ e ∈ s.spinRow k i, e.2 < 4096) (fresh : ∀ f ∈ w.flips, f.stale = false) : s.rolled o k w = [] := by
  have unclaimed : ∀ b, s.claimRolled k o.reps o.spins w b = false := fun b =>
    List.any_eq_false.2 fun e listed => by simp [Nat.not_le.2 (rows _ e listed)]
  have valid : ∀ b, w.live.any (fun f => f.bit = b && f.stale) = false := fun b =>
    List.any_eq_false.2 fun f listed => by simp [fresh f (List.mem_filter.1 listed).1]
  have first : s.firstRolled o k w = [] := by simp [State.firstRolled, unclaimed, valid]
  rw [State.rolled, first, State.rollClosure_nil]

theorem State.keptFlips_of_rolled_nil (h : s.rolled o k w = []) : s.keptFlips o k w = w.live := by simp [State.keptFlips, h]

/-! ## The committed values -/

/-- The flips of a list change a bit when an odd number of them names it. -/
theorem getLsbD_foldl_flips (l : List Flip) (x : BitVec 4096) {b : Nat} (h : b < 4096) :
    (l.foldl (fun x f => flipBit x f.bit) x).getLsbD b = (x.getLsbD b ^^ decide ((l.filter (fun f => f.bit = b)).length % 2 = 1)) := by
  induction l generalizing x with
  | nil => simp
  | cons f l ih =>
    rw [List.foldl_cons, ih, getLsbD_flipBit x f.bit h]
    by_cases named : f.bit = b
    · have odd : ∀ n : Nat, decide ((n + 1) % 2 = 1) = !decide (n % 2 = 1) := fun n => by
        rw [← decide_not, decide_eq_decide]
        omega
      simp [named, odd]
    · simp [named, Ne.symm named]

theorem getLsbD_foldl_flips_ne (l : List Flip) (x : BitVec 4096) {b : Nat} (h : b < 4096) :
    (l.foldl (fun x f => flipBit x f.bit) x).getLsbD b ≠ x.getLsbD b ↔ (l.filter (fun f => f.bit = b)).length % 2 = 1 := by
  rw [getLsbD_foldl_flips l x h]
  by_cases odd : (l.filter (fun f => f.bit = b)).length % 2 = 1 <;> simp [odd]

/-- A bit that is rolled back keeps its value at the window's start. -/
theorem State.getLsbD_kept_of_rolled {b : Nat} (back : b ∈ s.rolled o k w) (x : BitVec 4096) :
    ((s.keptFlips o k w).foldl (fun x f => flipBit x f.bit) x).getLsbD b = x.getLsbD b := by
  have unnamed : (s.keptFlips o k w).filter (fun f => f.bit = b) = [] := by
    refine List.filter_eq_nil_iff.2 fun f kept named => ?_
    obtain ⟨-, stays⟩ := List.mem_filter.1 kept
    have same : f.bit = b := by simpa using named
    simp [same, back] at stays
  rcases Nat.lt_or_ge b 4096 with h | h
  · rw [getLsbD_foldl_flips _ _ h, unnamed]
    exact Bool.xor_false _
  · rw [BitVec.getLsbD_of_ge _ _ h, BitVec.getLsbD_of_ge _ _ h]

/-- The flips of a bit that R439 has not cancelled. -/
theorem SpinWork.live_filter (w : SpinWork) (b : Nat) :
    w.live.filter (fun f => f.bit = b) = w.flips.filter (fun f => !f.cancelled && f.bit = b) := by
  rw [SpinWork.live, List.filter_filter]
  exact congrArg (List.filter · w.flips) (funext fun f => Bool.and_comm _ _)

end Window

/-! ## What the rest of a commit leaves -/

/-- Memory and the image's tables stay, and a view of one site's spins shows the same in both states. -/
structure State.Stays {α : Type} (v : Spin → α) (k : Nat) (s t : State) : Prop where
  mem : t.mem = s.mem
  body : t.fab.body = s.fab.body
  seen : v (t.site k).spin = v (s.site k).spin

section Stays
variable {α : Type} {v : Spin → α} {k : Nat}

theorem State.Stays.refl (s : State) : s.Stays v k s := ⟨rfl, rfl, rfl⟩

theorem State.Stays.trans {s t u : State} (h : s.Stays v k t) (l : t.Stays v k u) : s.Stays v k u :=
  ⟨l.mem.trans h.mem, l.body.trans h.body, l.seen.trans h.seen⟩

theorem State.Stays.foldl {γ : Type} {f : State → γ → State} (step : ∀ (s : State) (x : γ), s.Stays v k (f s x)) (l : List γ)
    (s : State) : s.Stays v k (l.foldl f s) := List.foldlRecOn l f (.refl s) fun _ h x _ => h.trans (step _ x)

/-- A change of the spins of any site that the view does not show. -/
theorem State.onSpin_stays (s : State) (j : Nat) {f : Spin → Spin} (kept : ∀ g, v (f g) = v g := by exact fun _ => rfl) :
    s.Stays v k (s.onSpin j f) := by
  refine ⟨rfl, rfl, ?_⟩
  by_cases here : j = k
  · rw [here, State.site_onSpin]
    exact kept _
  · rw [State.site_onSpin_other _ _ here]

/-- What a site reads of an area stays with memory and the image's tables. -/
theorem State.Stays.areaUnread {s t : State} (h : s.Stays v k t) (j base n : Nat) : t.areaUnread j base n = s.areaUnread j base n := by
  have address : t.areaAddr j base = s.areaAddr j base := funext fun _ => by
    rw [State.areaAddr, State.areaAddr, State.windowAt, State.windowAt, h.body]
  rw [State.areaUnread, State.areaUnread, h.mem, address]

end Stays

section Rest
variable (s : State) (key : OpKey) (o : Op) (a : AnnealRun) (k : Nat)

theorem State.commitSweeps_stays : s.Stays Spin.settled k (s.commitSweeps k) := by
  unfold State.commitSweeps
  extract_lets lanes worked
  have laned : s.Stays Spin.settled k worked := s.onSpin_stays k fun g => by
    dsimp only
    split <;> rfl
  exact laned.trans (worked.onSpin_stays k)

theorem State.sendRemote_stays {α : Type} {v : Spin → α} (e : Stream) (n : Nat) (bits : List Nat) :
    s.Stays v k (s.sendRemote key e n bits) := by
  unfold State.sendRemote
  split
  · exact .refl s
  · extract_lets bytes
    refine .foldl (fun t i => ?_) _ s
    exact ⟨rfl, rfl, rfl⟩

/-- What a site sends reaches inboxes and link queues alone. -/
theorem State.exportAll_stays (window : Nat) (claims : Bool) (p : Nat → Bool) :
    s.Stays Spin.settled k (s.exportAll key o k window claims p) := by
  refine .foldl (fun t e => ?_) _ s
  extract_lets bits
  split
  · exact t.sendRemote_stays key k e _ _
  · split
    · split
      · exact t.onSpin_stays _
      · exact .refl t
    · exact .refl t

theorem State.addPairs_stays (times : Nat) (x : BitVec 4096) (pick : Option Nat → Bool) :
    s.Stays Spin.settled k (s.addPairs o k times x pick) := by
  unfold State.addPairs
  exact s.onSpin_stays k

/-- Sampling counts in tables of its own, where the pair table can be read. -/
theorem State.sampleCommit_stays (before : Nat) (readable : o.isSample = true → s.areaUnread k o.pairOff (4 * o.pairCount) = none) :
    s.Stays Spin.settled k (s.sampleCommit key o a k before) := by
  unfold State.sampleCommit
  extract_lets g times late counted paired
  split
  · exact .refl s
  · next sample =>
    split
    · exact .refl s
    · have counts : s.Stays Spin.settled k counted := s.onSpin_stays k
      have read : counted.areaUnread k o.pairOff (4 * o.pairCount) = none :=
        (counts.areaUnread ..).trans (readable (by simpa using sample))
      have pairs : s.Stays Spin.settled k paired := by
        unfold paired State.pairsOver
        rw [read]
        exact counts.trans (counted.addPairs_stays o k ..)
      split
      · exact pairs
      · exact pairs.trans (paired.onSpin_stays k)

theorem State.bumpSums_stays {α : Type} {v : Spin → α} : s.Stays v k (s.bumpSums a) := by
  unfold State.bumpSums
  split <;> exact ⟨rfl, rfl, rfl⟩

/-- A mark that all sites have committed changes best states and the operation's run. -/
theorem State.markDone_stays (q : Nat) : s.Stays Spin.settled k (s.markDone key o a q) := by
  unfold State.markDone
  extract_lets snaps e better bested t x window run
  have best : s.Stays Spin.settled k bested := by
    refine .foldl (fun t p => ?_) _ s
    exact t.onSpin_stays p.1
  have ran : bested.Stays Spin.settled k (bested.onRun key.1 key.2.1 key.2.2 fun u => { u with anneal := some run }) := ⟨rfl, rfl, rfl⟩
  exact (best.trans ran).trans (State.bumpSums_stays _ run k)

theorem State.markCommit_stays (before : Nat) : s.Stays Spin.settled k (s.markCommit key o a k before) := by
  unfold State.markCommit
  split
  · exact .refl s
  · extract_lets marks g mine noted
    have notes : s.Stays Spin.settled k noted := s.onSpin_stays k
    refine notes.trans (.foldl (fun t p => ?_) _ noted)
    split
    · split
      · exact t.markDone_stays key o _ k _
      · exact .refl t
    · exact .refl t

/-- After its rollbacks a commit leaves the site settled, and memory as it was. -/
theorem State.windowCommit_stays (readable : o.isSample = true → s.areaUnread k o.pairOff (4 * o.pairCount) = none) :
    (s.commitBits o k).Stays Spin.settled k (s.windowCommit key o a k) := by
  unfold State.windowCommit
  extract_lets before swept g sent leave left
  have sweeps : (s.commitBits o k).Stays Spin.settled k swept := State.commitSweeps_stays _ k
  have sends : (s.commitBits o k).Stays Spin.settled k sent := sweeps.trans (swept.exportAll_stays key o k ..)
  have leaves : (s.commitBits o k).Stays Spin.settled k left := sends.trans (sent.onSpin_stays k)
  have read := leaves.areaUnread k o.pairOff (4 * o.pairCount)
  exact (leaves.trans (left.sampleCommit_stays key o a k before fun sample => read.trans (readable sample))).trans
    (State.markCommit_stays _ key o a k before)

end Rest

end Sys2Proof.Machine
end

section
/-!
The statement of commits.
-/
namespace Sys2Proof.Machine

/-- Settles O34: the rollbacks settle the site by the flips that they keep, and the rest of the commit leaves what they settled. -/
theorem commitsKeepOrRollBack : Obligations.CommitsKeepOrRollBack := by
  intro s x key sl a works active sent uncommitted boundary goes held readable
  have stays := s.windowCommit_stays key sl.op a (siteRefKey x) readable
  have settled := stays.seen.trans (s.commitBits_settled sl.op (siteRefKey x) rfl)
  simp only [Spin.settled, Prod.mk.injEq] at settled
  obtain ⟨committed, repair, marked, windows, energy⟩ := settled
  refine completes_of_effect rfl ((State.onBusy_works works _).trans (State.whenP_pos _ _ ?_))
    ⟨marked, windows, fun f listed live claimed => ?rolledBack, fun rows fresh => ?kept, stays.mem, s.effect_keepsStore _⟩
  · simp [boundary, active, sent, uncommitted, goes, held]
  case rolledBack =>
    have back := State.mem_rolled_of_claimed listed live claimed
    rw [State.effect_site, committed, repair]
    exact ⟨State.getLsbD_kept_of_rolled back _, List.mem_append_right _ back⟩
  case kept =>
    have all := State.keptFlips_of_rolled_nil (State.rolled_nil (o := sl.op) rows fresh)
    rw [State.effect_site, committed, energy, all]
    refine ⟨fun b h => ?_, rfl⟩
    rw [getLsbD_foldl_flips_ne _ _ h, SpinWork.live_filter]

end Sys2Proof.Machine
end

section
/-!
SUPPORT. Noise self-tests: the background slot in which a site is tested, and what a test without and with a difference leaves
(11 R431, R432, R460; 07 R249, R250).
-/
namespace Sys2Proof.Machine

/-! ## The background slot -/

/-- Only what the background tasks' slots write differs: which tasks are starved, and when each was served (07 R251). -/
def State.ServedOnly (s t : State) : Prop :=
  t = { s with dev := { s.dev with noc := { s.dev.noc with starved := t.dev.noc.starved, bgLast := t.dev.noc.bgLast } } }

theorem State.ServedOnly.trans {s t u : State} (h : s.ServedOnly t) (k : t.ServedOnly u) : s.ServedOnly u := by
  unfold State.ServedOnly at *
  rw [k, h]

theorem State.bgSite_servedOnly (s : State) (die k : Nat) (t : BgTask) : s.ServedOnly (s.bgSite die k t) :=
  List.foldlRecOn (motive := s.ServedOnly) _ _ rfl fun _ h _ _ => h.trans rfl

theorem State.ServedOnly.site {s t : State} (h : s.ServedOnly t) (k : Nat) : t.site k = s.site k := by
  rw [h]
  rfl

theorem State.ServedOnly.die {s t : State} (h : s.ServedOnly t) (d : Nat) : t.die d = s.die d := by
  rw [h]
  rfl

theorem State.ServedOnly.faults {s t : State} (h : s.ServedOnly t) : t.dev.faults = s.dev.faults := by rw [h]

theorem State.ServedOnly.staysOutside {s t : State} (h : s.ServedOnly t) (r : Nat) : s.StaysOutside t r :=
  .of_regions (by rw [h]) (by rw [h])

/-! ## Events outside device memory assign no fault -/

theorem State.trace_faults (s : State) (r kind key queue status value item : Nat) :
    (s.trace r kind key queue status value item).dev.faults = s.dev.faults := by
  unfold State.trace
  dsimp only
  split <;> rfl

theorem State.hostStore_faults (s : State) (b : Bool) (a : Nat) (bs : List Byte) : (s.hostStore b a bs).dev.faults = s.dev.faults := by
  cases b <;> rfl

section Outside
variable {s : State} {r : Nat} (outside : EventsOutside s r)
include outside

theorem State.eventPut_faults (kind : Nat) (c : Code) (d : Nat) : (s.eventPut r kind c d).dev.faults = s.dev.faults := by
  unfold State.eventPut
  extract_lets ring written stored counted traced
  split
  · rfl
  · next enabled =>
    split
    · rfl
    · have host : ring.host = true := outside.resolve_left (by simpa using enabled)
      have hosted : stored = s.hostStore (s.hostAllowed r) (ring.base.toNat + ring.offset 16) (eventBytes kind c d s.stamp) := by
        simp only [stored, written, State.regionRingStore, host, if_true]
      calc (traced.irqEntry r irqEvt).dev.faults = stored.dev.faults := counted.trace_faults ..
        _ = s.dev.faults := by rw [hosted, State.hostStore_faults]

theorem State.wmCross_faults (n : Nat) : (s.wmCross r n).dev.faults = s.dev.faults := by
  unfold State.wmCross
  extract_lets mark up crossed
  split
  · split
    · rfl
    · have still : s.StaysOutside crossed r := s.onSched_staysOutside r
      exact State.eventPut_faults (still outside).1 0 Codes.WATERMARK_CROSSED n
  · split <;> rfl

/-- An event of one region assigns no fault. -/
theorem State.eventAll_faults (kind : Nat) (c : Code) (d : Nat) : (s.eventAll [r] kind c d).dev.faults = s.dev.faults := by
  have told : EventsOutside (s.pfEvent kind c d) r := by rwa [EventsOutside, State.region, State.pfEvent_fab]
  have put := (State.eventPut_staysOutside _ r kind c d told).1
  calc (s.eventAll [r] kind c d).dev.faults = ((s.pfEvent kind c d).eventPut r kind c d).dev.faults := State.wmCross_faults put 1
    _ = (s.pfEvent kind c d).dev.faults := State.eventPut_faults told kind c d
    _ = s.dev.faults := s.pfEvent_faults kind c d

end Outside

/-! ## A test that finds a difference -/

@[simp] theorem State.effect_die (s : State) (f : State → State) (n : Nat) : (s.effect f).die n = (f s).die n := rfl

theorem State.eventAll_die (s : State) (rs : List Nat) (kind : Nat) (c : Code) (d n : Nat) : (s.eventAll rs kind c d).die n = s.die n := by
  rw [s.eventAll_only rs kind c d]
  rfl

theorem State.assignFault_die (s : State) (c : Code) (r : Option Nat) (d : Nat) (x : Option Nat) (n : Nat) :
    (s.assignFault c r d x).die n = s.die n := by
  rw [State.assignFault_frame]
  rfl

/-- The die's registers after a self-test that found a difference. -/
def DieRegs.noiseFailure (t : DieRegs) (k : Nat) : DieRegs :=
  { t with failures := satAdd t.failures 1, lastSite := BitVec.ofNat 8 k, noiseFailed := true }

/-- The fault of a self-test that found a difference, counted at its die. -/
def State.noiseFault (s : State) (r die k : Nat) : State :=
  (s.onDie die (DieRegs.noiseFailure · k)).assignFault Codes.ANL_NOISE_FAULT (some r) die (some k)

/-- The site goes out of service under the last fault, unless it is already out. -/
def State.noiseOut (s : State) (die k : Nat) : State := s.onSite (siteKey die k) fun t =>
  { t with noise := some (t.noise.getD { code := Codes.ANL_NOISE_FAULT, faultId := s.lastFault, tick := s.stamp }) }

section Failing
variable {s : State} {r die k : Nat} (idle : (s.site (siteKey die k)).spin.op = none)
include idle

/-- A difference at a site on which nothing runs. -/
theorem State.noiseFails_idle : s.noiseFails r die k =
    ((s.noiseFault r die k).noiseOut die k).eventAll [r] 2 Codes.ANL_NOISE_FAULT (k + die * 2 ^ 8) := by
  have free : (((s.noiseFault r die k).noiseOut die k).site (siteKey die k)).spin.op = none := by
    rw [State.noiseOut, State.site_onSite, State.noiseFault, State.assignFault_site]
    exact idle
  unfold State.noiseFails
  extract_lets counted faulted id out ended
  have unended : ended = (s.noiseFault r die k).noiseOut die k := by
    unfold ended
    split
    · next key runs => exact absurd (free.symm.trans runs) (Option.some_ne_none key).symm
    · rfl
  rw [unended]
  rfl

theorem State.noiseFails_die : (s.noiseFails r die k).die die = (s.die die).noiseFailure k := by
  rw [State.noiseFails_idle idle, State.eventAll_die]
  exact (State.assignFault_die _ _ _ _ _ _).trans (s.die_onDie _ _)

/-- The site goes out of service under the fault's ID, and keeps its spins. -/
theorem State.noiseFails_site (new : (s.site (siteKey die k)).noise = none) :
    (∃ f, ((s.noiseFails r die k).site (siteKey die k)).noise = some f ∧ f.code = Codes.ANL_NOISE_FAULT ∧ f.faultId = s.dev.faults.next) ∧
    ((s.noiseFails r die k).site (siteKey die k)).spin = (s.site (siteKey die k)).spin := by
  have same : (s.noiseFault r die k).site (siteKey die k) = s.site (siteKey die k) := State.assignFault_site ..
  have id : (s.noiseFault r die k).lastFault = s.dev.faults.next := State.lastFault_assign ..
  rw [State.noiseFails_idle idle, State.eventAll_site, State.noiseOut, State.site_onSite, same, new, id]
  exact ⟨⟨_, rfl, rfl, rfl⟩, rfl⟩

/-- Where the region's events lie outside device memory, no byte of it is written and one fault is assigned. -/
theorem State.noiseFails_outside (outside : EventsOutside s r) :
    (s.noiseFails r die k).mem = s.mem ∧ (s.noiseFails r die k).dev.faults.count = satAdd s.dev.faults.count 1 := by
  have counted : s.StaysOutside (s.onDie die (DieRegs.noiseFailure · k)) r := .of_regions rfl rfl
  have faulted : s.StaysOutside (s.noiseFault r die k) r := counted.trans (State.assignFault_staysOutside _ _ _ _ _ r)
  have out : s.StaysOutside ((s.noiseFault r die k).noiseOut die k) r := faulted.trans (.of_regions rfl rfl)
  obtain ⟨still, mem⟩ := out outside
  rw [State.noiseFails_idle idle, (State.eventAll_staysOutside _ r _ _ _ still).2, State.eventAll_faults still]
  exact ⟨mem, State.assignFault_count ..⟩

end Failing

/-! ## NOISE_SELF_TEST -/

/-- A die counts a self-test. -/
def State.testCounted (s : State) (die : Nat) : State := s.onDie die fun t => { t with testsRun := t.testsRun + 1 }

theorem State.testCounted_die (s : State) (die : Nat) :
    (s.testCounted die).die die = { s.die die with testsRun := (s.die die).testsRun + 1 } := s.die_onDie die _

theorem State.noiseTest_true (s : State) (r die k : Nat) : s.noiseTest r die k true = s.testCounted die := rfl

theorem State.noiseTest_false (s : State) (r die k : Nat) : s.noiseTest r die k false = (s.testCounted die).noiseFails r die k := rfl

section Command
variable {s : State} {x : SiteRef} {r : Nat} {z0 z1 z2 : Word64} (on : s.fabricOn = true)
  (spin : s.isSpin x.die.val x.site.val = true) (region : s.siteRegion? x.die.val x.site.val = some r)
  (ivory : s.ivory (s.siteDomain x.die.val x.site.val) = true) (here : s.bgHere x.die.val x.site.val = true)
include on spin region ivory here

/-- In its background slot the site is tested. -/
theorem noiseSelfTest_tests {P : State → Prop} (given : P (s.effect fun _ =>
      (s.bgSite x.die.val x.site.val .noiseTest).noiseTest r x.die.val x.site.val ([z0, z1, z2] = selfTest))) :
    Completes (.noiseSelfTest x z0 z1 z2) s P := by
  refine completes_of_effect rfl ((s.whenP_pos _ ?_).trans ?_) given
  · simp [on, spin, region, ivory, here]
  · rw [region]
    rfl

theorem noiseSelfTest_passes (same : [z0, z1, z2] = selfTest) : Completes (.noiseSelfTest x z0 z1 z2) s fun u =>
    u.die x.die.val = { s.die x.die.val with testsRun := (s.die x.die.val).testsRun + 1 } ∧
    u = { s with
      fab := { s.fab with dies := u.fab.dies }
      dev := { s.dev with noc := { s.dev.noc with starved := u.dev.noc.starved, bgLast := u.dev.noc.bgLast } } } := by
  refine noiseSelfTest_tests on spin region ivory here ?_
  rw [decide_eq_true same]
  have served := s.bgSite_servedOnly x.die.val x.site.val .noiseTest
  generalize s.bgSite x.die.val x.site.val .noiseTest = t at served
  constructor
  · rw [State.effect_die, State.noiseTest_true, State.testCounted_die, served.die]
  · rw [served]
    rfl

theorem noiseSelfTest_fails (other : [z0, z1, z2] ≠ selfTest) (new : (s.site (siteRefKey x)).noise = none)
    (idle : (s.site (siteRefKey x)).spin.op = none) : Completes (.noiseSelfTest x z0 z1 z2) s fun u =>
      (u.die x.die.val).testsRun = (s.die x.die.val).testsRun + 1 ∧ (u.die x.die.val).failures = satAdd (s.die x.die.val).failures 1 ∧
      (u.die x.die.val).lastSite = BitVec.ofNat 8 x.site.val ∧ (u.die x.die.val).noiseFailed = true ∧
      (∃ f, (u.site (siteRefKey x)).noise = some f ∧ f.code = Codes.ANL_NOISE_FAULT ∧ f.faultId = s.dev.faults.next) ∧
      (u.site (siteRefKey x)).spin = (s.site (siteRefKey x)).spin ∧
      (EventsOutside s r → u.mem = s.mem ∧ u.dev.faults.count = satAdd s.dev.faults.count 1) ∧ s.KeepsStore u := by
  refine noiseSelfTest_tests on spin region ivory here ?_
  rw [decide_eq_false other]
  have served := s.bgSite_servedOnly x.die.val x.site.val .noiseTest
  generalize s.bgSite x.die.val x.site.val .noiseTest = t at served
  have counted := t.testCounted_die x.die.val
  have still : s.StaysOutside (t.testCounted x.die.val) r := (served.staysOutside r).trans (.of_regions rfl rfl)
  have site : (t.testCounted x.die.val).site (siteRefKey x) = s.site (siteRefKey x) := served.site _
  have faults : (t.testCounted x.die.val).dev.faults = s.dev.faults := served.faults
  rw [State.noiseTest_false]
  rw [served.die] at counted
  generalize t.testCounted x.die.val = v at counted site still faults
  have free : (v.site (siteKey x.die.val x.site.val)).spin.op = none := (congrArg (·.spin.op) site).trans idle
  have die := State.noiseFails_die (r := r) (k := x.site.val) free
  obtain ⟨out, kept⟩ := State.noiseFails_site (r := r) free ((congrArg Site.noise site).trans new)
  rw [counted] at die
  rw [faults] at out
  rw [State.effect_die, State.effect_site, die]
  refine ⟨rfl, rfl, rfl, rfl, out, kept.trans (congrArg Site.spin site), fun outside => ?_, s.effect_keepsStore _⟩
  obtain ⟨there, mem⟩ := still outside
  obtain ⟨stored, count⟩ := State.noiseFails_outside free there
  rw [State.effect_mem, State.effect_dev, stored, mem, count, faults]
  exact ⟨rfl, rfl⟩

end Command

end Sys2Proof.Machine
end

section
/-!
The statement of noise self-tests.
-/
namespace Sys2Proof.Machine

/-- Settles O37: a test that gives the words of 11 R427 is counted alone, and another takes the site out of service. -/
theorem noiseSelfTestsJudgeTheSite : Obligations.NoiseSelfTestsJudgeTheSite := by
  intro s x r z0 z1 z2 on spin region ivory here
  exact ⟨noiseSelfTest_passes on spin region ivory here, noiseSelfTest_fails on spin region ivory here⟩

end Sys2Proof.Machine
end

section
/-!
SUPPORT. What an ANNEAL of one site reads out (12 R480, R481), and an operation that runs while the spins of a preemption are still noted.
-/
namespace Sys2Proof.Machine

/-! ## Scratchpad addresses -/

/-- A scratchpad address is made of its die, site and offset (08 R258). -/
theorem scratchAddr_fields {die site off : Nat} (dies : die < 2) (sites : site < 256) (inside : off < 2 ^ 20) :
    isScratch (scratchAddr die site off) = true ∧ scratchDie (scratchAddr die site off) = die ∧
    scratchSite (scratchAddr die site off) = site ∧ scratchOff (scratchAddr die site off) = off := by
  have offset : scratchAddr die site off - scratchBase = die * 2 ^ 36 + site * 2 ^ 20 + off := by
    unfold scratchAddr
    omega
  refine ⟨?_, ?_, ?_, ?_⟩
  · rw [isScratch, offset, decide_eq_true (scratchBase_le_scratchAddr die site off), decide_eq_true (by omega), decide_eq_true (by omega)]
    rfl
  · rw [scratchDie, offset]
    omega
  · rw [scratchSite, offset]
    omega
  · rw [scratchOff, offset]
    omega

/-! ## The cells of a readout -/

theorem State.areaCells_addrs (s : State) (k base off : Nat) (l : List Byte) :
    (s.areaCells k base off l).map (·.1) = (List.range l.length).map (fun i => s.areaAddr k base (off + i)) := by
  rw [State.areaCells, List.map_map, List.range_eq_range', ← List.zipIdx_map_snd, List.map_map]
  rfl

theorem length_annealReport (o : Op) (gs : List Spin) (a : AnnealRun) (e : AnnealEnd) (others : List Int) (early : Bool) (status : Code) :
    (annealReport o gs a e others early status).length = 320 := by
  have energies : ∀ r, (if r < o.reps then leBytes 8 (patternOf 64 (e.energies.getD r 0)) ++ leBytes 8 (patternOf 64 (e.best.getD r 0))
      else leBytes 16 0).length = 16 := fun r => by
    split <;> simp
  simp only [annealReport, List.length_append, length_leBytes, length_flatMap_of_length_eq energies, List.length_range]

/-- An ANNEAL of one site with one saved state, without best states, reads the saved state out, and then the report. -/
theorem State.annealOutput_saved (s : State) {sl : Slot} {a : AnnealRun} {k : Nat} {g : Spin} (site : a.sites = [k]) (saved : a.saved = [g])
    (anneal : sl.op.isSample = false) (plain : sl.op.trackBest = false) (status : Code) : ∃ report : List Byte, report.length = 320 ∧
      (s.annealOutput sl a status).1 =
        s.areaCells k sl.op.readoutOff 0 (bitBytes 4096 g.committed) ++ s.areaCells k sl.op.reportOff 0 report := by
  unfold State.annealOutput
  extract_lets o e gs blocks report
  have spins : gs = [g] := by simp [gs, o, State.annealSpins, saved, finalBest, plain]
  refine ⟨report, length_annealReport .., ?_⟩
  simp [blocks, site, spins, readoutParts, o, anneal, plain]

/-- The first byte of a readout holds the first eight spins. -/
theorem State.mem_areaCells_bitBytes (s : State) (k base : Nat) (x : BitVec 4096) :
    (s.areaAddr k base 0, x.setWidth 8) ∈ s.areaCells k base 0 (bitBytes 4096 x) := by
  rw [bitBytes, leBytes_succ, State.areaCells]
  exact List.mem_cons_self

/-! ## A running ANNEAL with a saved state -/

/-- An ANNEAL on one site, which reads out to 0xE0000 and reports to 0xF0000. -/
def savedOp : Op := { queue := 0, seq := 0, words := [3, 0, 0, 0, 0x100, 0, 0, 0, 0xE0000, 0xF0000], state := .running }

/-- A run whose saved state of site 0 has spin 0 at +1. -/
def savedRun : AnnealRun := { sites := [0], updatesBegan := true, saved := [{ committed := 1 }] }

/-- The operation in its slot. -/
def savedSlot : Slot := { op := savedOp, run := { anneal := some savedRun } }

/-- The operation runs in region 0; site 0 has committed its last window with every spin at −1. -/
def savedState : State :=
  { dev := { boot := { stage := .running }, pwr := { domains := [(0, { state := .ivory })] } }
    fab := { regions := [(0, { sched := { slots := [savedSlot] } })]
             sites := [(0, { spin := { op := some (0, 0, 0), work := { active := true, committed := true } } })] } }

/-- Its status at its end. -/
def savedStatus : Code := if (savedState.annealEnd savedSlot savedRun).asymmetric then Codes.ANL_ASYMMETRIC else Codes.OK

/-- What it writes at its end. -/
def savedCells : List (Nat × Byte) := (savedState.annealOutput savedSlot savedRun savedStatus).1

/-- The scratchpad offsets of the readout and of the report. -/
def savedOffsets : List Nat := List.range' 0xE0000 512 ++ List.range' 0xF0000 320

theorem savedOffsets_nodup : savedOffsets.Nodup := by
  refine List.nodup_append.2 ⟨List.nodup_range', List.nodup_range', fun a first b second => ?_⟩
  rw [List.mem_range'_1] at first second
  omega

theorem mem_savedOffsets {j : Nat} (h : j ∈ savedOffsets) : 0xE0000 ≤ j ∧ j < 0x100000 := by
  rw [savedOffsets, List.mem_append, List.mem_range'_1, List.mem_range'_1] at h
  omega

theorem savedCells_eq : ∃ report : List Byte, report.length = 320 ∧
    savedCells = savedState.areaCells 0 0xE0000 0 (bitBytes 4096 1) ++ savedState.areaCells 0 0xF0000 0 report := by
  have readout : savedSlot.op.readoutOff = 0xE0000 := by decide
  have reported : savedSlot.op.reportOff = 0xF0000 := by decide
  have output := savedState.annealOutput_saved (sl := savedSlot) (a := savedRun) rfl rfl (by decide) (by decide) savedStatus
  rwa [readout, reported] at output

theorem savedCells_addrs : savedCells.map (·.1) = savedOffsets.map (scratchAddr 0 0) := by
  obtain ⟨report, length, cells⟩ := savedCells_eq
  have place : ∀ base i, savedState.areaAddr 0 base (0 + i) = scratchAddr 0 0 (base + i) := fun base i => by
    rw [Nat.zero_add]
    rfl
  rw [cells, List.map_append, State.areaCells_addrs, State.areaCells_addrs, length, bitBytes, length_leBytes, savedOffsets, List.map_append]
  simp only [place, List.range'_eq_map_range, List.map_map]
  rfl

theorem savedCells_nodup : (savedCells.map (·.1)).Nodup := by
  rw [savedCells_addrs]
  refine List.pairwise_map.2 (savedOffsets_nodup.imp fun apart same => apart ?_)
  exact Nat.add_left_cancel same

/-- Every byte that it writes can be reached. -/
theorem savedCells_reach {p : Nat × Byte} (h : p ∈ savedCells) :
    savedState.islandAt p.1 = none ∧ savedState.ivory (savedState.domainOf p.1) = true ∧ savedState.busyByte p.1 = false := by
  have listed : p.1 ∈ savedCells.map (·.1) := List.mem_map_of_mem h
  rw [savedCells_addrs, List.mem_map] at listed
  obtain ⟨j, offset, addr⟩ := listed
  obtain ⟨above, below⟩ := mem_savedOffsets offset
  obtain ⟨scratch, die, site, off⟩ := scratchAddr_fields (die := 0) (site := 0) (by decide) (by decide) below
  rw [← addr]
  refine ⟨?_, ?_, ?_⟩
  · rw [State.islandAt, scratch, die, site]
    rfl
  · rw [State.domainOf, scratch, die, site]
    rfl
  · have uncoupled : decide (scratchOff (scratchAddr 0 0 j) < 0xC2000) = false := decide_eq_false (by omega)
    rw [State.busyByte, uncoupled, Bool.and_false]
    rfl

/-- The saved state's first byte is among what it writes. -/
theorem mem_savedCells : (savedState.areaAddr 0 0xE0000 0, (1 : BitVec 4096).setWidth 8) ∈ savedCells := by
  obtain ⟨report, -, cells⟩ := savedCells_eq
  rw [cells]
  exact List.mem_append_left _ (savedState.mem_areaCells_bitBytes 0 0xE0000 1)

end Sys2Proof.Machine
end

section
/-!
The statement of the beginning and the end of anneals.
-/
namespace Sys2Proof.Machine

/-- Refutes O36: the statement of the end does not ask that the run holds no saved state, and where one is still noted the readout is of
the saved spins: here spin 0 is read out as +1, and the site has it at −1. -/
theorem not_annealsBeginAndEnd : ¬ Obligations.AnnealsBeginAndEnd := by
  rintro ⟨-, ends⟩
  obtain ⟨u, -, -, readout, written, -⟩ := ends savedState ⟨0, 0, 0⟩ savedSlot savedRun _ savedStatus savedCells (by decide) rfl rfl rfl
    (by decide) (by decide) rfl rfl rfl rfl rfl rfl rfl savedCells_nodup fun p => savedCells_reach
  have down : (savedState.site 0).spin.committed = 0 := rfl
  have site := readout 0 List.mem_cons_self 0 (by decide) 0
  have saved := written _ mem_savedCells 0
  have spin := congrArg (·.getLsbD 0) (site.symm.trans saved)
  simp [down] at spin

end Sys2Proof.Machine
end

section
/-!
SUPPORT. The run of an ANNEAL or SAMPLE after a command that changes it: decisions, stops and marks (12 R476, R484, R485; 20 R764-R767).
-/
namespace Sys2Proof.Machine

/-! ## An update of a run -/

/-- A change of the run of an operation's ANNEAL is what its slot then holds. -/
theorem State.onAnneal_runBecomes {s : State} {key : OpKey} {sl : Slot} {a b : AnnealRun} {f : AnnealRun → AnnealRun}
    (found : s.slotOf key.1 key.2.1 key.2.2 = some sl) (runs : sl.run.anneal = some a) (next : f a = b) :
    RunBecomes (s.onAnneal key f) key sl b := by
  have changed := State.slotOf_onSlot s key.1 key.2.1 key.2.2
    (f := fun sl => { sl with run := { sl.run with anneal := sl.run.anneal.map f } }) fun _ => rfl
  rw [found, Option.map_some] at changed
  exact ⟨_, changed, by rw [runs, Option.map_some, next], rfl⟩

/-- Where the slots stay, what a run has become stays. -/
theorem runBecomes_of_keepsSlots {t u : State} {key : OpKey} {sl : Slot} {a : AnnealRun} (h : RunBecomes t key sl a) (kept : t.KeepsSlots u) :
    RunBecomes u key sl a := by
  obtain ⟨y, here, runs, op⟩ := h
  exact ⟨y, (kept.slotOf ..).trans here, runs, op⟩

/-- Where the sites' records and memory stay, no site has changed, and no byte. -/
theorem otherSitesKeep_of_sites {s t : State} (sites : t.fab.sites = s.fab.sites) (mem : t.mem = s.mem) :
    OtherSitesKeep s (s.effect fun _ => t) [] :=
  ⟨fun j _ => by rw [State.effect_site, State.site, State.site, sites], mem, s.effect_keepsStore _⟩

/-- A command that changes an operation's run alone. -/
theorem completes_onAnneal {i : Instr} {s : State} {g : State → State} {key : OpKey} {sl : Slot} {a b : AnnealRun}
    {f : AnnealRun → AnnealRun} (run : exec i s = .next (s.effect g)) (found : s.slotOf key.1 key.2.1 key.2.2 = some sl)
    (runs : sl.run.anneal = some a) (step : g s = s.onAnneal key f) (next : f a = b) :
    Completes i s fun u => RunBecomes u key sl b ∧ OtherSitesKeep s u [] :=
  completes_of_effect run step ⟨State.onAnneal_runBecomes found runs next, otherSitesKeep_of_sites rfl rfl⟩

/-- The operation that a site works for stands in the slot of its name. -/
theorem State.slotOf_of_spinSlot {s : State} {k : Nat} {key : OpKey} {sl : Slot} {a : AnnealRun} (h : s.spinSlot k = some (key, sl, a)) :
    s.slotOf key.1 key.2.1 key.2.2 = some sl ∧ sl.run.anneal = some a := by
  unfold State.spinSlot at h
  split at h
  · cases h
  · next held _ =>
    split at h
    · next x found =>
      split at h
      · obtain ⟨b, runs, same⟩ := Option.map_eq_some_iff.1 h
        obtain ⟨rfl, rfl, rfl⟩ : held = key ∧ x = sl ∧ b = a := by simpa using same
        exact ⟨found, runs⟩
      · cases h
    · cases h

/-! ## Decisions -/

/-- EXCHANGE_DECISION_ARRIVE notes the site at the one decision, once it is there (12 R476). -/
theorem exchangeDecisionArrive_completes {s : State} {x : SiteRef} {key : OpKey} {sl : Slot} {a : AnnealRun} {d : Nat × List Nat × List Nat}
    (works : WorksFor s (siteRefKey x) key sl a) (one : a.decisions = [d]) (away : d.2.2.contains (siteRefKey x) = false)
    (there : ∀ v ∈ a.decisionDue, v.1 = d.1 → v.2.1 = siteRefKey x → v.2.2 ≤ s.runSlots) :
    Completes (.exchangeDecisionArrive x) s fun u =>
      RunBecomes u key sl { a with decisions := [(d.1, d.2.1, d.2.2 ++ [siteRefKey x])] } ∧ OtherSitesKeep s u [] := by
  obtain ⟨found, runs⟩ := State.slotOf_of_spinSlot works.2
  have due : a.decisionDue.all (fun t => t.1 ≠ d.1 || t.2.1 ≠ siteRefKey x || t.2.2 ≤ s.runSlots) = true :=
    List.all_eq_true.2 fun v listed => by simpa [or_iff_not_imp_left] using there v listed
  refine completes_onAnneal rfl found runs ((State.onBusy_works works _).trans ?_) (f := fun a =>
    { a with decisions := a.decisions.map (fun c => if c = d then (c.1, c.2.1, c.2.2 ++ [siteRefKey x]) else c) }) ?_
  · simp only [one, List.find?_singleton, away, Bool.not_false, if_true]
    exact s.whenP_pos _ due
  · simp [one]

/-! ## Stops, and marks that are sent -/

/-- The run of an operation that is asked to stop for the first time (12 R484, R485; 20 R767). -/
def State.stopped (s : State) (a : AnnealRun) (c : Code) : AnnealRun :=
  if a.multi && !s.dev.aux.slateInForce then { a with stopAsked := true, stopCode := c }
  else { a with stopWindow := some (s.stopAt a), stopCode := c }

/-- A mark that goes up is noted in the operation's run; beside, a cell is queued and SYNC_OUT driven (20 R764, R765). -/
theorem State.sendMark_up {s : State} {key : OpKey} {sl : Slot} {a : AnnealRun} (found : s.slotOf key.1 key.2.1 key.2.2 = some sl)
    (runs : sl.run.anneal = some a) (up : (s.parentEdge key.1).isSome = true) (w : Nat) :
    RunBecomes (s.sendMark key sl a w) key sl { a with epochSent := a.epochSent ++ [w], markDisturb := sl.rec_.disturbance } ∧
    (s.sendMark key sl a w).fab.sites = s.fab.sites ∧ (s.sendMark key sl a w).mem = s.mem := by
  have becomes := State.onAnneal_runBecomes found runs (f := fun a =>
    { a with epochSent := a.epochSent ++ [w], markDisturb := sl.rec_.disturbance }) rfl
  obtain ⟨e, parent⟩ := Option.isSome_iff_exists.1 up
  unfold State.sendMark
  extract_lets heard m noted
  have above : noted.parentEdge key.1 = some e := parent
  rw [above]
  dsimp only
  split <;> exact ⟨runBecomes_of_keepsSlots becomes (.of_regions rfl), rfl, rfl⟩

section Running
variable {s : State} {o : OpRef} {sl : Slot} {a : AnnealRun} {c : Code} {cause : StopCause} {w : Nat} (on : s.fabricOn = true)
  (found : s.slotAt o = some sl) (running : sl.op.state = .running) (runs : sl.run.anneal = some a)
include on found running runs

/-- STOP_REQUEST for a cause that holds, of an operation that was not asked before (12 R484). -/
theorem stopRequest_completes (holds : s.stopStatus o.region.val sl a cause = some c)
    (other : cause ≠ .lateExchange) (free : a.stopWindow = none) (unasked : a.stopAsked = false) : Completes (.stopRequest o cause) s fun u =>
      OtherSitesKeep s u [] ∧ RunBecomes u (o.region.val, o.queue.val, o.seq) sl (s.stopped a c) := by
  have asked : Completes (.stopRequest o cause) s fun u =>
      RunBecomes u (opKey o) sl (s.stopped a c) ∧ OtherSitesKeep s u [] := by
    refine completes_onAnneal rfl found runs ?_ (f := fun a =>
      if a.stopWindow.isSome || a.stopAsked then { a with stopCode := stopCodeAfter a.stopCode c } else s.stopped a c) ?_
    · rw [s.whenP_pos _ on]
      simp only [found, runs, holds, running, other, decide_true, State.whenP_true, if_false]
      rfl
    · simp [free, unasked]
  obtain ⟨t, run, becomes, kept⟩ := asked
  exact ⟨t, run, kept, becomes⟩

/-- EPOCH_MARK_SEND to the holder of the left operand (20 R764, R765, R767). -/
theorem epochMarkSend_completes (multi : a.multi = true) (next : s.nextMark a = some w)
    (held : s.upHeld o.region.val a w = true ∨ (s.dev.aux.slateInForce = false ∧ w ≠ startMark))
    (up : (s.parentEdge o.region.val).isSome = true) : Completes (.epochMarkSend o) s fun u =>
      RunBecomes u (o.region.val, o.queue.val, o.seq) sl
        { a with epochSent := a.epochSent ++ [w], markDisturb := sl.rec_.disturbance } ∧ OtherSitesKeep s u [] := by
  obtain ⟨becomes, sites, mem⟩ := State.sendMark_up (key := opKey o) found runs up w
  refine completes_of_effect rfl ?_ ⟨becomes, otherSitesKeep_of_sites sites mem⟩
  rw [s.whenP_pos _ on]
  simp only [found, runs, next]
  exact s.whenP_pos _ (by simpa [running, multi] using held)

end Running

/-! ## Marks that arrive -/

/-- The operation that a link route serves runs an ANNEAL or SAMPLE. -/
theorem State.anneal_of_markOp {s : State} {l r : Nat} {sl : Slot} {a : AnnealRun} (h : s.markOp l = some (r, sl, a)) :
    sl.run.anneal = some a := by
  obtain ⟨p, -, named⟩ := List.exists_of_findSome?_eq_some h
  split at named
  · obtain ⟨x, -, here⟩ := List.exists_of_findSome?_eq_some named
    split at here
    · next runs =>
      split at here
      · obtain ⟨-, rfl, rfl⟩ : p = r ∧ x = sl ∧ _ = a := by simpa using here
        exact runs
      · cases here
    · cases here
  · cases named

/-- An up mark of the operation that asks for nothing is noted in its run (12 R485; 20 R764). -/
theorem State.takeMark_up (s : State) (l : Nat) {m : EpochMark} (r : Nat) {sl : Slot} (a : AnnealRun) (tag : m.tag.toNat = sl.op.field 1 15 0)
    (clear : m.disturbed = false) (up : m.up = true) (goes : m.stop = false) : s.takeMark l m r sl a =
      s.onAnneal (sl.key r) fun a => { a with upMarks := a.upMarks ++ [(l, m.window.toNat, false, false)] } := by
  simp [State.takeMark, State.takeUpMark, tag, clear, up, goes]

/-- A mark is taken from those that the ports brought. -/
def State.markTaken (s : State) (x : Nat × Nat × EpochMark) : State := s.onLnk fun l => { l with marksIn := l.marksIn.erase x }

/-- EPOCH_MARK_ARRIVE with the one mark that the ports brought, of the operation that runs (20 R764). -/
theorem epochMarkArrive_completes {s : State} {p : PortId} {l : Nat} {m : EpochMark} {r : Nat} {sl : Slot} {a : AnnealRun}
    (on : s.fabricOn = true) (one : s.dev.lnk.marksIn = [(p.val, l, m)]) (op : s.markOp l = some (r, sl, a))
    (found : s.slotOf r sl.op.queue sl.op.seq = some sl) (tag : m.tag.toNat = sl.op.field 1 15 0) (clear : m.disturbed = false)
    (up : m.up = true) (goes : m.stop = false) : Completes (.epochMarkArrive p) s fun u =>
      RunBecomes u (r, sl.op.queue, sl.op.seq) sl { a with upMarks := a.upMarks ++ [(l, m.window.toNat, false, false)] } ∧
      u.dev.lnk.marksIn = [] ∧ OtherSitesKeep s u [] := by
  refine completes_of_effect (t := (s.markTaken (p.val, l, m)).takeMark l m r sl a) rfl ?_ ?_
  · rw [s.whenP_pos _ on]
    simp [one, op, State.markTaken]
  · rw [State.takeMark_up _ l r a tag clear up goes]
    refine ⟨State.onAnneal_runBecomes (key := sl.key r) found (State.anneal_of_markOp op) rfl, ?_, otherSitesKeep_of_sites rfl rfl⟩
    show s.dev.lnk.marksIn.erase (p.val, l, m) = []
    rw [one, List.erase_cons_head]

/-! ## SYNC_IN -/

section SyncIn
variable {s : State} {r : Nat}

/-- An edge that the package owns starts window 0 of the one operation, whose start barrier has ended (20 R765). -/
theorem syncInEdge_package {sl : Slot} {a : AnnealRun} (on : s.fabricOn = true) (owner : s.dev.shared.syncInOwner = 1)
    (regions : s.regionIds = [r]) (slots : s.slots r = [sl]) (runs : sl.run.anneal = some a) (multi : a.multi = true)
    (ended : a.downStart = true) : Completes .syncInEdge s fun u =>
      RunBecomes u (r, sl.op.queue, sl.op.seq) sl { a with started := true } ∧ OtherSitesKeep s u [] := by
  have found : s.slotOf r sl.op.queue sl.op.seq = some sl := by simp [State.slotOf, slots, Slot.is]
  refine completes_onAnneal (key := sl.key r) rfl found runs ?_ (f := fun a =>
    if a.multi && a.downStart then { a with started := true } else a) ?_
  · rw [s.whenP_pos _ on]
    simp [owner, regions, slots]
  · simp [multi, ended]

/-- An edge that a region owns is a frame mark due there (17 R651). -/
theorem syncInEdge_region (on : s.fabricOn = true) (owner : s.dev.shared.syncInOwner.toNat = 0x20 + r) : Completes .syncInEdge s fun u =>
    (u.region r).aux.marksDue = (1, 0, s.dev.clk.tick) :: (s.region r).aux.marksDue ∧ OtherSitesKeep s u [] := by
  refine completes_of_effect rfl (t := s.dueMark r 1 0) ?_ ⟨?_, otherSitesKeep_of_sites rfl rfl⟩
  · rw [s.whenP_pos _ on]
    simp [owner, show 32 + r ≠ 1 by omega]
  · show ((s.dueMark r 1 0).region r).aux.marksDue = _
    rw [State.dueMark, State.region_onRAux]
    rfl

/-- An edge that nobody owns does nothing. -/
theorem syncInEdge_unowned (owner : s.dev.shared.syncInOwner = 0) : Completes .syncInEdge s fun u => u = s := by
  refine completes_of_effect rfl (t := s) ?_ rfl
  unfold State.whenP
  split
  · simp [owner]
  · rfl

end SyncIn

end Sys2Proof.Machine
end

section
/-!
The statement of decisions, stops, barrier starts and marks.
-/
namespace Sys2Proof.Machine

/-- Settles O35: one lemma for each command, and for SYNC_IN one for each owner. -/
theorem decisionsStopsAndMarks : Obligations.DecisionsStopsAndMarks := by
  intro s x o p key sl a c cause d l m r w
  exact ⟨exchangeDecisionArrive_completes, stopRequest_completes, epochMarkSend_completes, epochMarkArrive_completes, syncInEdge_package,
    syncInEdge_region, syncInEdge_unowned⟩

end Sys2Proof.Machine
end

section
/-!
SUPPORT. What the fuse commands blow, and what every command leaves of the fuses, the part and the queue (22 R807, R815-R822).
-/
namespace Sys2Proof.Machine

/-! ## Fuse commands -/

/-- What a command may do to the fuses: it clears none, and it keeps the thermometers to their length. -/
structure Fuses.Blows (a b : Fuses) : Prop where
  le : a.Le b
  legal : a.Legal → b.Legal

theorem Fuses.Le.refl (a : Fuses) : a.Le a :=
  { fwHash := fun _ => BitVec.and_self, fwRevoked := BitVec.and_self, imgHash := fun _ => BitVec.and_self, imgValid := BitVec.and_self
    imgRevoked := BitVec.and_self, fwRollback := le_rfl, imgRollback := le_rfl, lock := id }

theorem Fuses.Blows.refl (a : Fuses) : a.Blows a := ⟨.refl a, id⟩

theorem and_or_self {w : Nat} (x y : BitVec w) : x &&& (x ||| y) = x := by
  ext i hi
  simpa using fun here => Or.inl here

/-- A SEC command leaves the fuses alone, or its programming blows the first of them. -/
theorem State.secRun_program_blows {s : State} (o : Option Code) {u : State} {cmd slot total : Nat} {res : FuseResult} {ap : State → Nat → State}
    (blows : ∀ m, m ≤ total → s.fuses.Blows (ap u m).fuses) {f : State → State}
    (run : f s = u.program cmd slot total res ap ∨ (f s).fuses = s.fuses) : s.fuses.Blows (s.secRun o f).fuses := by
  rcases s.secRun_fuses o f with stays | runs
  · rw [stays]
    exact .refl _
  · rw [runs]
    rcases run with h | h
    · obtain ⟨m, few, fuses⟩ := u.program_fuses cmd slot total res ap
      rw [h, fuses]
      exact blows m few
    · rw [h]
      exact .refl _

/-- A thermometer that stands at its value already is not programmed (22 R817). -/
theorem program_or_result {c : Prop} [Decidable c] {s : State} (result : Code) (u : State) :
    (if c then s.secResult result else u) = u ∨ (if c then s.secResult result else u).fuses = s.fuses := by
  split
  · exact .inr rfl
  · exact .inl rfl

section Blown
variable (a : Fuses)

/-- The hash fuses of an image key, and its valid bit last (22 R816). -/
theorem Fuses.provision_blows (k : Nat) (bits : List Nat) (m : Nat) : a.Blows { a with
    imgHash := Tab.set a.imgHash k (blowBits (Tab.get 0 a.imgHash k) bits m)
    imgValid := if bits.length < m then a.imgValid ||| ((1 : BitVec 8) <<< k) else a.imgValid } := by
  refine ⟨{ Fuses.Le.refl a with imgHash := fun j => ?_, imgValid := ?_ }, id⟩
  · by_cases h : k = j
    · subst h
      rw [Tab.get_set_same]
      exact blowBits_keeps _ _ _
    · rw [Tab.get_set_other _ _ _ h]
      exact BitVec.and_self
  · show a.imgValid &&& (if bits.length < m then a.imgValid ||| ((1 : BitVec 8) <<< k) else a.imgValid) = a.imgValid
    split
    · exact and_or_self _ _
    · exact BitVec.and_self

theorem Fuses.revokeImage_blows (l : List Nat) (m : Nat) : a.Blows { a with imgRevoked := blowBits a.imgRevoked l m } :=
  ⟨{ Fuses.Le.refl a with imgRevoked := blowBits_keeps _ _ _ }, id⟩

theorem Fuses.revokeFirmware_blows (l : List Nat) (m : Nat) : a.Blows { a with fwRevoked := blowBits a.fwRevoked l m } :=
  ⟨{ Fuses.Le.refl a with fwRevoked := blowBits_keeps _ _ _ }, id⟩

/-- A thermometer never passes its length, since the version that a command advances to is at most 64 (22 R817). -/
theorem Fuses.advanceImage_blows {v m : Nat} (few : m ≤ min 64 v - a.imgRollback) : a.Blows { a with imgRollback := a.imgRollback + m } :=
  ⟨{ Fuses.Le.refl a with imgRollback := Nat.le_add_right .. }, fun ⟨fw, img⟩ => ⟨fw, show a.imgRollback + m ≤ 64 by omega⟩⟩

theorem Fuses.advanceFirmware_blows {v m : Nat} (few : m ≤ min 64 v - a.fwRollback) : a.Blows { a with fwRollback := a.fwRollback + m } :=
  ⟨{ Fuses.Le.refl a with fwRollback := Nat.le_add_right .. }, fun ⟨fw, img⟩ => ⟨show a.fwRollback + m ≤ 64 by omega, img⟩⟩

theorem Fuses.lock_blows (m : Nat) : a.Blows { a with lock := a.lock || m ≠ 0 } :=
  ⟨{ Fuses.Le.refl a with lock := fun h => by simp [h] }, id⟩

end Blown

/-! ## Every command answers under a mask -/

/-- An outcome clears no fuse, and leaves the part and the queue of commands. -/
def State.Outlives (s : State) (x : Host.Outcome State Fault Refusal) : Prop :=
  ∀ t, x = .next t → s.fuses.Blows t.fuses ∧ t.part = s.part ∧ t.pending = s.pending

theorem State.outlives_next {s t : State} (fuses : s.fuses.Blows t.fuses) (part : t.part = s.part) (pending : t.pending = s.pending) :
    s.Outlives (.next t) := by
  rintro _ ⟨⟩
  exact ⟨fuses, part, pending⟩

theorem State.outlives_masked {s t : State} (fuses : t.fuses = s.fuses) (part : t.part = s.part) (pending : t.pending = s.pending) :
    s.Outlives (.next t) := State.outlives_next (fuses ▸ .refl _) part pending

theorem State.outlives_ite {s : State} {c : Prop} [Decidable c] {x y : Host.Outcome State Fault Refusal} (hx : s.Outlives x)
    (hy : s.Outlives y) : s.Outlives (if c then x else y) := by
  split
  · exact hx
  · exact hy

theorem State.outlives_refused (s : State) (r : Refusal) : s.Outlives (.refused r) := by
  intro t next
  cases next

/-- The six fuse commands blow theirs; every other command runs under a mask that leaves the fuses. -/
theorem exec_outlives (c : Instr) (s : State) : s.Outlives (exec c s) := by
  cases c with
  | provisionImageKey k res =>
    exact State.outlives_next (State.secRun_program_blows _ (fun m _ => s.fuses.provision_blows k.val _ m) (.inl rfl)) rfl rfl
  | revokeImageKey k res =>
    exact State.outlives_next (State.secRun_program_blows _ (fun m _ => s.fuses.revokeImage_blows [k.val] m) (.inl rfl)) rfl rfl
  | revokeFirmwareKey k res =>
    exact State.outlives_next (State.secRun_program_blows _ (fun m _ => s.fuses.revokeFirmware_blows [k.val] m) (.inl rfl)) rfl rfl
  | advanceImageRollback res =>
    exact State.outlives_next (State.secRun_program_blows (ap := fun s n => s.onFuses fun f => { f with imgRollback := f.imgRollback + n }) _
      (fun m few => s.fuses.advanceImage_blows few) (program_or_result _ _)) rfl rfl
  | advanceFirmwareRollback res =>
    exact State.outlives_next (State.secRun_program_blows (ap := fun s n => s.onFuses fun f => { f with fwRollback := f.fwRollback + n }) _
      (fun m few => s.fuses.advanceFirmware_blows few) (program_or_result _ _)) rfl rfl
  | blowProvisioningLock res =>
    exact State.outlives_next (State.secRun_program_blows _ (fun m _ => s.fuses.lock_blows m) (.inl rfl)) rfl rfl
  | dieLinkDone | frameBoundary | descriptorAccept =>
    exact State.outlives_ite (State.outlives_refused _ _) (State.outlives_masked rfl rfl rfl)
  | linkHeaderReceive | linkCellSend | cellForward | cellResend | linkCellReceive =>
    exact State.outlives_ite (State.outlives_masked rfl rfl rfl) (State.outlives_refused _ _)
  | _ => exact State.outlives_masked rfl rfl rfl

end Sys2Proof.Machine
end

section
/-!
CERTIFICATE. What every step keeps, and what a step is.
-/
namespace Sys2Proof.Machine

/-- Settles O1: it is how a step is defined. -/
theorem stepRunsFrontCommand : Obligations.StepRunsFrontCommand := fun _ _ _ => rfl

/-- Settles O4: a command at the front runs under its mask, and on an empty queue a hub tick leaves all three. -/
theorem everyStepKeepsFuses : Obligations.EveryStepKeepsFuses := by
  intro s t legal next
  cases queue : s.pending with
  | nil =>
    rw [step, queue] at next
    obtain ⟨⟩ := next
    rw [hubTick_form]
    exact ⟨legal, .refl _, rfl, queue⟩
  | cons c rest =>
    rw [step, queue] at next
    obtain ⟨blows, part, pending⟩ := exec_outlives c _ t next
    exact ⟨blows.legal legal, blows.le, part, pending⟩

/-- Settles O5: no fuse is blown at reset. -/
theorem resetFusesAreLegal : Obligations.ResetFusesAreLegal := ⟨Nat.zero_le _, Nat.zero_le _⟩

/-- Settles O3: every command answers under a mask, and the eight with operand lists check their lengths first. -/
theorem wellFormedCommandsComplete : Obligations.WellFormedCommandsComplete := by
  intro c s
  cases c with
  | dieLinkDone | frameBoundary | descriptorAccept =>
    simp only [Instr.wellFormed, exec, execDieLinkDone, execFrameBoundary, execDescriptorAccept]
    constructor <;> intro h <;> simp_all
  | linkHeaderReceive | linkCellSend | cellForward | cellResend | linkCellReceive =>
    simp only [Instr.wellFormed, exec, execLinkHeaderReceive, execLinkCellSend, execCellForward, execCellResend, execLinkCellReceive]
    constructor <;> intro h <;> simp_all
  | _ => exact ⟨fun _ => ⟨_, rfl⟩, nofun⟩

end Sys2Proof.Machine
end

section
/-!
SUPPORT. Regions, slots, functions and dies read after an effect, and after an update of a hub block.
-/
namespace Sys2Proof.Machine

@[simp] theorem State.effect_region (s : State) (f : State → State) (r : Nat) : (s.effect f).region r = (f s).region r := rfl
@[simp] theorem State.effect_queue (s : State) (f : State → State) (r q : Nat) : (s.effect f).queue r q = (f s).queue r q := rfl
@[simp] theorem State.effect_slots (s : State) (f : State → State) (r : Nat) : (s.effect f).slots r = (f s).slots r := rfl
@[simp] theorem State.effect_slotOf (s : State) (f : State → State) (r q : Nat) (seq : Word) :
    (s.effect f).slotOf r q seq = (f s).slotOf r q seq := rfl
@[simp] theorem State.effect_func (s : State) (f : State → State) (k : Nat) : (s.effect f).func k = (f s).func k := rfl
@[simp] theorem State.devEffect_func (s : State) (f : State → State) (k : Nat) : (s.devEffect f).func k = (f s).func k := rfl
@[simp] theorem State.effect_port (s : State) (f : State → State) (p : Nat) : (s.effect f).port p = (f s).port p := rfl

theorem State.region_congr {s t : State} (h : t.fab.regions = s.fab.regions) (r : Nat) : t.region r = s.region r := by
  rw [State.region, h, State.region]

@[simp] theorem State.region_onSec (s : State) (f : Sec → Sec) (r : Nat) : (s.onSec f).region r = s.region r := rfl
@[simp] theorem State.region_onHst (s : State) (f : Hst → Hst) (r : Nat) : (s.onHst f).region r = s.region r := rfl
@[simp] theorem State.region_onFunc (s : State) (k : Nat) (f : Func → Func) (r : Nat) : (s.onFunc k f).region r = s.region r := rfl
@[simp] theorem State.region_onDbg (s : State) (f : Dbg → Dbg) (r : Nat) : (s.onDbg f).region r = s.region r := rfl
@[simp] theorem State.region_onClk (s : State) (f : Clk → Clk) (r : Nat) : (s.onClk f).region r = s.region r := rfl
@[simp] theorem State.region_onShared (s : State) (f : Shared → Shared) (r : Nat) : (s.onShared f).region r = s.region r := rfl
@[simp] theorem State.region_bump (s : State) (r : Nat) : s.bump.region r = s.region r := rfl
@[simp] theorem State.region_pfEvent (s : State) (k : Nat) (c : Code) (d r : Nat) : (s.pfEvent k c d).region r = s.region r :=
  State.region_congr (by rw [State.pfEvent_fab]) r

@[simp] theorem State.func_pfEvent (s : State) (k : Nat) (c : Code) (d j : Nat) : (s.pfEvent k c d).func j = s.func j := by
  rw [State.pfEvent_frame]; rfl

/-- An effect that leaves the part, the queue, the fuses and the boot flash is what it answers. -/
theorem State.effect_of_frame {s : State} {f : State → State} (pending : (f s).pending = s.pending) (part : (f s).part = s.part)
    (fuses : (f s).fuses = s.fuses) (flash : (f s).flash = s.flash) : s.effect f = f s := by
  rw [State.effect, ← pending, ← part, ← fuses, ← flash]

end Sys2Proof.Machine
end

section
/-!
SUPPORT. Commands of SEC_CMD: their acceptance, the programming of fuses, and what each leaves (22 R815-R822).
-/
namespace Sys2Proof.Machine

theorem completes_of_fuseEffect {i : Instr} {s t : State} {f : State → State} {P : State → Prop}
    (run : exec i s = .next (s.fuseEffect f)) (step : f s = t) (given : P (s.fuseEffect fun _ => t)) : Completes i s P := by
  subst step
  exact ⟨_, run, given⟩

/-! ## Acceptance (22 R815, R819) -/

section Taking
variable {s : State}

theorem State.secTaken_of_takes (takes : SecTakes s) : s.secTaken = true := by
  obtain ⟨reach, idle, -⟩ := takes
  simp [State.secTaken, reach, idle]

theorem State.secStage_of_takes (takes : SecTakes s) : (s.dev.boot.stage ≠ .awaitImage && !s.running) = false := by
  obtain ⟨-, -, stage | stage⟩ := takes <;> simp [stage, State.running]

theorem State.secRun_runs (takes : SecTakes s) (f : State → State) : s.secRun none f = f s := by
  rw [State.secRun, State.secTaken_of_takes takes, State.secStage_of_takes takes]
  rfl

theorem State.secRun_refuses (takes : SecTakes s) (c : Code) (f : State → State) : s.secRun (some c) f = s.secResult c := by
  rw [State.secRun, State.secTaken_of_takes takes, State.secStage_of_takes takes]
  rfl

theorem State.secRun_busy (busy : s.dev.sec.busy = true) (o : Option Code) (f : State → State) : s.secRun o f = s := by
  simp [State.secRun, State.secTaken, busy]

theorem State.secRun_denied (reach : s.pfReach false = true) (idle : s.dev.sec.busy = false) (await : s.dev.boot.stage ≠ .awaitImage)
    (runs : s.dev.boot.stage ≠ .running) (o : Option Code) (f : State → State) : s.secRun o f = s.secResult Codes.SEC_CMD_DENIED := by
  simp [State.secRun, State.secTaken, reach, idle, await, State.running, runs]

end Taking

/-! ## Programming (22 R816, R821, R822) -/

section Programming
variable (s : State) (cmd slot total : Nat) (res : FuseResult) (g : Nat → Fuses → Fuses)

/-- Programming changes the fuses, the result and progress of the command, and what SEC_FUSE_FAIL's event writes. -/
theorem State.program_frame : ∃ x h e i k, s.program cmd slot total res (fun s n => s.onFuses (g n)) =
    { s with fuses := x, hostMem := h, dev := { s.dev with sec := k, hst := { s.dev.hst with pfEvt := e, pfIrq := i } } } := by
  cases res with
  | blown => exact ⟨_, _, _, _, _, rfl⟩
  | cut n => exact ⟨_, _, _, _, _, rfl⟩
  | failed n =>
    by_cases late : total ≤ n
    · exact ⟨_, _, _, _, _, by simp only [State.program, if_pos late]; rfl⟩
    · simp only [State.program, if_neg late]
      rw [State.pfEvent_frame]
      exact ⟨_, _, _, _, _, rfl⟩

/-- The progress that programming shows. -/
theorem State.program_fusesBlown : FusesBlown s (s.program cmd slot total res (fun s n => s.onFuses (g n))) res total := by
  cases res with
  | blown => exact ⟨rfl, fun _ => ⟨rfl, rfl⟩, nofun, nofun⟩
  | cut n => exact ⟨rfl, nofun, nofun, fun _ _ => rfl⟩
  | failed n =>
    by_cases late : total ≤ n
    · refine ⟨?_, nofun, ?_, nofun⟩
      · simp only [State.program, if_pos late]
        rfl
      · rintro k ⟨⟩ early
        omega
    · simp only [State.program, if_neg late]
      refine ⟨?_, nofun, fun _ _ _ => ?_, nofun⟩
      · rw [State.pfEvent_sec]
        rfl
      · rw [State.pfEvent_sec]
        rfl

theorem State.program_blown : (s.program cmd slot total .blown (fun s n => s.onFuses (g n))).fuses = g total s.fuses := rfl

end Programming

/-- What a command that programs its fuses gives. -/
structure State.Programs (s t : State) (res : FuseResult) (total : Nat) (g : Nat → Fuses → Fuses) : Prop where
  progress : FusesBlown s t res total
  keeps : SecKeeps s t
  flash : t.flash = s.flash
  some_ : ∃ m, t.fuses = g m s.fuses
  all : res = .blown → t.fuses = g total s.fuses

theorem State.program_programs (s : State) (cmd slot total : Nat) (res : FuseResult) (g : Nat → Fuses → Fuses) :
    s.Programs (s.program cmd slot total res fun s n => s.onFuses (g n)) res total g := by
  obtain ⟨x, h, e, i, k, frame⟩ := s.program_frame cmd slot total res g
  obtain ⟨m, -, fuses⟩ := s.program_fuses cmd slot total res (fun s n => s.onFuses (g n))
  exact { progress := s.program_fusesBlown cmd slot total res g
          keeps := by rw [frame]; exact ⟨rfl, rfl, rfl, rfl, rfl, rfl⟩
          flash := by rw [frame]
          some_ := ⟨m, fuses⟩
          all := fun all => by subst all; rfl }

theorem State.Programs.masked {s t : State} {res : FuseResult} {total : Nat} {g : Nat → Fuses → Fuses} (h : s.Programs t res total g) :
    s.Programs (s.fuseEffect fun _ => t) res total g := by
  obtain ⟨mem, fab, boot, copyA, copyB, -⟩ := h.keeps
  exact ⟨h.progress, ⟨mem, fab, boot, copyA, copyB, rfl⟩, h.flash, h.some_, h.all⟩

/-- A SEC command that its condition lets through programs its fuses. -/
theorem completes_programs {i : Instr} {s : State} {o : State → Option Code} {f : State → State → State} {cmd slot total : Nat}
    {res : FuseResult} {g : Nat → Fuses → Fuses} {P : State → Prop} (run : exec i s = .next (s.fuseEffect fun s => s.secRun (o s) (f s)))
    (takes : SecTakes s) (passes : o s = none) (step : f s s = s.program cmd slot total res (fun s n => s.onFuses (g n)))
    (given : ∀ t, s.Programs t res total g → P t) : Completes i s P :=
  completes_of_fuseEffect run (t := s.program cmd slot total res fun s n => s.onFuses (g n))
    (by rw [passes, State.secRun_runs takes, step]) (given _ (s.program_programs cmd slot total res g).masked)

/-- A SEC command that its condition turns away changes its result alone. -/
theorem completes_secRefused {i : Instr} {s : State} {o : State → Option Code} {f : State → State → State} {c : Code}
    (run : exec i s = .next (s.fuseEffect fun s => s.secRun (o s) (f s))) (takes : SecTakes s) (refused : o s = some c) :
    Completes i s fun t => t = { s with dev := { s.dev with sec := { s.dev.sec with result := c } } } :=
  completes_of_fuseEffect run (t := s.secResult c) (by rw [refused, State.secRun_refuses takes]) rfl

/-! ## Image keys (22 R816) -/

/-- Blowing every fuse of a value that a fresh register lacks makes the register the value. -/
theorem getLsbD_foldl_blow {w : Nat} (l : List Nat) (x : BitVec w) (i : Nat) :
    (l.foldl (fun x i => x ||| ((1 : BitVec w) <<< i)) x).getLsbD i = (x.getLsbD i || (decide (i < w) && decide (i ∈ l))) := by
  induction l generalizing x with
  | nil => simp
  | cons a l ih =>
    rw [List.foldl_cons, ih]
    simp only [BitVec.getLsbD_or, BitVec.getLsbD_shiftLeft, List.mem_cons]
    by_cases inside : i < w
    · by_cases here : i = a
      · subst here; simp [inside]; omega
      · by_cases below : i < a
        · simp [inside, here, below]
        · have : i - a ≠ 0 := by omega
          simp [inside, here, below, this]
    · simp [inside, BitVec.getLsbD_of_ge _ _ (Nat.le_of_not_lt inside)]

theorem blowBits_onesOf {w : Nat} (x : BitVec w) {n : Nat} (all : (onesOf w x).length ≤ n) : blowBits 0 (onesOf w x) n = x := by
  rw [blowBits, List.take_of_length_le all]
  refine BitVec.eq_of_getLsbD_eq fun i inside => ?_
  rw [getLsbD_foldl_blow]
  simp [onesOf, inside]

/-- The fuses of an image key's slot after the first `n` of a key's hash and its valid bit. -/
def Fuses.provision (k : Nat) (hash : BitVec 384) (n : Nat) (f : Fuses) : Fuses :=
  { f with imgHash := Tab.set f.imgHash k (blowBits (Tab.get 0 f.imgHash k) (onesOf 384 hash) n)
           imgValid := if (onesOf 384 hash).length < n then f.imgValid ||| ((1 : BitVec 8) <<< k) else f.imgValid }

section Provision
variable (f : Fuses) (k : Fin 8) (hash : BitVec 384) (n : Nat)

/-- Programmed in full, a fresh slot holds the hash and is provisioned. -/
theorem Fuses.provision_whole (fresh : f.slotFresh k.val = true) :
    Tab.get 0 (f.provision k.val hash ((onesOf 384 hash).length + 1)).imgHash k.val = hash ∧
    (f.provision k.val hash ((onesOf 384 hash).length + 1)).provisioned k.val = true := by
  simp only [Fuses.slotFresh, Bool.and_eq_true, decide_eq_true_eq] at fresh
  obtain ⟨⟨clear, -⟩, -⟩ := fresh
  constructor
  · rw [Fuses.provision, Tab.get_set_same, clear, blowBits_onesOf _ (Nat.le_succ _)]
  · simp [Fuses.provision, Fuses.provisioned, k.isLt]

/-- The other slots are as before. -/
theorem Fuses.provision_other {j : Nat} (other : j ≠ k.val) : Tab.get 0 (f.provision k.val hash n).imgHash j = Tab.get 0 f.imgHash j ∧
    (f.provision k.val hash n).provisioned j = f.provisioned j := by
  refine ⟨Tab.get_set_other _ _ _ other.symm, ?_⟩
  simp only [Fuses.provision, Fuses.provisioned]
  split
  · by_cases below : j < k.val
    · simp [below]
    · have : j - k.val ≠ 0 := by omega
      simp [below, this]
  · rfl

end Provision

/-- The hash of the staged key. -/
abbrev State.stagedHash (s : State) : BitVec 384 := BitVec.ofNat 384 (beNat (sha384 s.stagedKey))

/-- The state with the staged key in the key store. -/
def State.keyStored (s : State) (k : Nat) : State := { s with flash := { s.flash with keyStore := Tab.set s.flash.keyStore k s.stagedKey } }

/-- PROVISION_IMAGE_KEY with its refusal. -/
theorem exec_provisionImageKey (k : Fin 8) (res : FuseResult) (s : State) : exec (.provisionImageKey k res) s = .next (s.fuseEffect fun s =>
    s.secRun (if s.fuses.lock then some Codes.SEC_LOCKED else if s.fuses.slotFresh k.val then none else some Codes.SEC_SLOT_USED) fun s =>
      (s.keyStored k.val).program 1 k.val ((onesOf 384 s.stagedHash).length + 1) res fun u n =>
        u.onFuses (Fuses.provision k.val s.stagedHash n)) := rfl

theorem provisionImageKey_programs {s : State} {k : Fin 8} {res : FuseResult} (takes : SecTakes s) (open_ : s.fuses.lock = false)
    (fresh : s.fuses.slotFresh k.val = true) : Completes (.provisionImageKey k res) s fun t =>
      FusesBlown s t res ((onesOf 384 s.stagedHash).length + 1) ∧ SecKeeps s t ∧
      Tab.get [] t.flash.keyStore k.val = s.stagedKey ∧ (∀ j, j ≠ k.val → Tab.get [] t.flash.keyStore j = Tab.get [] s.flash.keyStore j) ∧
      (res = .blown → Tab.get 0 t.fuses.imgHash k.val = s.stagedHash ∧ t.fuses.provisioned k.val = true) ∧
      (∀ j, j ≠ k.val → Tab.get 0 t.fuses.imgHash j = Tab.get 0 s.fuses.imgHash j ∧ t.fuses.provisioned j = s.fuses.provisioned j) ∧
      t.fuses = { s.fuses with imgHash := t.fuses.imgHash, imgValid := t.fuses.imgValid } := by
  refine completes_of_fuseEffect (exec_provisionImageKey k res s) (t := (s.keyStored k.val).program 1 k.val ((onesOf 384 s.stagedHash).length + 1) res fun u n =>
    u.onFuses (Fuses.provision k.val s.stagedHash n)) (by rw [open_, fresh]; exact State.secRun_runs takes _) ?_
  obtain ⟨progress, ⟨mem, fab, boot, copyA, copyB, -⟩, flash, ⟨m, some_⟩, all⟩ := (s.keyStored k.val).program_programs 1 k.val
    ((onesOf 384 s.stagedHash).length + 1) res (Fuses.provision k.val s.stagedHash)
  refine ⟨progress, ⟨mem, fab, boot, copyA, copyB, rfl⟩, ?_, fun j other => ?_, fun whole => ?_, fun j other => ?_, ?_⟩
  · rw [State.fuseEffect_flash, flash]
    exact Tab.get_set_same ..
  · rw [State.fuseEffect_flash, flash]
    exact Tab.get_set_other _ _ _ other.symm
  · rw [State.fuseEffect_fuses, all whole]
    exact s.fuses.provision_whole k s.stagedHash fresh
  · rw [State.fuseEffect_fuses, some_]
    exact s.fuses.provision_other k s.stagedHash m other
  · rw [State.fuseEffect_fuses, some_]
    rfl

end Sys2Proof.Machine
end

section
/-!
SUPPORT. The other fuse commands (22 R815-R822), and attestation (22 R831-R834).
-/
namespace Sys2Proof.Machine

/-! ## Revocation, rollback counters and the lock -/

/-- Blowing a single fuse. -/
theorem blowBits_one {w : Nat} (x : BitVec w) (k : Nat) : blowBits x [k] 1 = x ||| ((1 : BitVec w) <<< k) := rfl

/-- The state in which only the command's result has changed. -/
abbrev State.WithResult (s : State) (c : Code) (t : State) : Prop := t = { s with dev := { s.dev with sec := { s.dev.sec with result := c } } }

/-- The state with a firmware key's slot revoked. -/
def State.fwRevoked (s : State) (j : Nat) : State := s.onFuses fun f => { f with fwRevoked := blowBits f.fwRevoked [j] 1 }

/-- An advance of the image thermometer. -/
def State.advanceImage (res : FuseResult) (s u : State) : State :=
  if min 64 s.image.securityVersion.toNat ≤ u.fuses.imgRollback then u.secResult Codes.OK
  else u.program 4 0 (min 64 s.image.securityVersion.toNat - u.fuses.imgRollback) res fun u n =>
    u.onFuses fun f => { f with imgRollback := f.imgRollback + n }

theorem exec_advanceImageRollback (res : FuseResult) (s : State) : exec (.advanceImageRollback res) s = .next (s.fuseEffect fun s =>
    s.secRun (if s.running then none else some Codes.SEC_CMD_DENIED) (s.advanceImage res)) := rfl

/-- An advance of the firmware thermometer. -/
def State.advanceFirmware (res : FuseResult) (s u : State) : State :=
  if min 64 s.lowerVersion ≤ u.fuses.fwRollback then u.secResult Codes.OK
  else u.program 5 0 (min 64 s.lowerVersion - u.fuses.fwRollback) res fun u n =>
    u.onFuses fun f => { f with fwRollback := f.fwRollback + n }

theorem exec_advanceFirmwareRollback (res : FuseResult) (s : State) : exec (.advanceFirmwareRollback res) s = .next (s.fuseEffect fun s =>
    s.secRun (if s.copyVerifies s.flash.copyA && s.copyVerifies s.flash.copyB then none else some Codes.SEC_ROLLBACK_DENIED)
      (s.advanceFirmware res)) := rfl

theorem exec_blowProvisioningLock (res : FuseResult) (s : State) : exec (.blowProvisioningLock res) s = .next (s.fuseEffect fun s =>
    s.secRun (if s.fuses.liveSlots = [] then some Codes.SEC_REVOKE_LAST else none) fun s =>
      s.program 6 0 1 res fun s n => s.onFuses fun f => { f with lock := f.lock || n ≠ 0 }) := rfl

section Fuses
variable {s : State} {res : FuseResult} (takes : SecTakes s)
include takes

theorem revokeImageKey_programs {k : Fin 8} (may : s.fuses.lock = false ∨ s.fuses.liveSlots ≠ [k.val]) :
    Completes (.revokeImageKey k res) s fun t => FusesBlown s t res 1 ∧ SecKeeps s t ∧ t.flash = s.flash ∧
      (res = .blown → t.fuses = { s.fuses with imgRevoked := s.fuses.imgRevoked ||| ((1 : BitVec 8) <<< k.val) }) := by
  have passes : (s.fuses.lock && s.fuses.liveSlots = [k.val]) = false := by
    rcases may with h | h <;> simp [h]
  exact completes_programs (o := fun s => if s.fuses.lock && s.fuses.liveSlots = [k.val] then some Codes.SEC_REVOKE_LAST else none) rfl takes
    (by rw [passes]; rfl) rfl fun t done => ⟨done.progress, done.keeps, done.flash, done.all⟩

theorem revokeImageKey_last {k : Fin 8} (locked : s.fuses.lock = true) (last : s.fuses.liveSlots = [k.val]) :
    Completes (.revokeImageKey k res) s (s.WithResult Codes.SEC_REVOKE_LAST) :=
  completes_secRefused (o := fun s => if s.fuses.lock && s.fuses.liveSlots = [k.val] then some Codes.SEC_REVOKE_LAST else none) rfl takes
    (by simp [locked, last])

theorem revokeFirmwareKey_programs {j : Fin 4} {x : Fuses} (revoked : x = { s.fuses with fwRevoked := s.fuses.fwRevoked ||| ((1 : BitVec 4) <<< j.val) })
    (verifies : { s with fuses := x }.copyVerifies s.flash.copyA = true ∨ { s with fuses := x }.copyVerifies s.flash.copyB = true) :
    Completes (.revokeFirmwareKey j res) s fun t => FusesBlown s t res 1 ∧ SecKeeps s t ∧ t.flash = s.flash ∧ (res = .blown → t.fuses = x) := by
  subst revoked
  refine completes_programs (o := fun s => if (s.fwRevoked j.val).copyVerifies s.flash.copyA || (s.fwRevoked j.val).copyVerifies s.flash.copyB
    then none else some Codes.SEC_REVOKE_LAST) rfl takes (if_pos ?_) rfl fun t done => ⟨done.progress, done.keeps, done.flash, done.all⟩
  exact (Bool.or_eq_true ..).mpr verifies

theorem revokeFirmwareKey_last {j : Fin 4} {x : Fuses} (revoked : x = { s.fuses with fwRevoked := s.fuses.fwRevoked ||| ((1 : BitVec 4) <<< j.val) })
    (failsA : { s with fuses := x }.copyVerifies s.flash.copyA = false) (failsB : { s with fuses := x }.copyVerifies s.flash.copyB = false) :
    Completes (.revokeFirmwareKey j res) s (s.WithResult Codes.SEC_REVOKE_LAST) := by
  subst revoked
  refine completes_secRefused (o := fun s => if (s.fwRevoked j.val).copyVerifies s.flash.copyA || (s.fwRevoked j.val).copyVerifies s.flash.copyB
    then none else some Codes.SEC_REVOKE_LAST) rfl takes (if_neg ?_)
  exact fun h => ((Bool.or_eq_true ..).mp h).elim (fun a => Bool.noConfusion (a.symm.trans failsA)) fun b => Bool.noConfusion (b.symm.trans failsB)

/-- What is given where a thermometer stands at its value already (22 R817). -/
theorem completes_secNothing {i : Instr} {o : State → Option Code} {f : State → State → State}
    (run : exec i s = .next (s.fuseEffect fun s => s.secRun (o s) (f s))) (passes : o s = none) (step : f s s = s.secResult Codes.OK) :
    Completes i s (s.WithResult Codes.OK) :=
  completes_of_fuseEffect run (t := s.secResult Codes.OK) (by rw [passes, State.secRun_runs takes, step]) rfl

theorem advanceImageRollback_programs (runs : s.dev.boot.stage = .running) (below : s.fuses.imgRollback < min 64 s.image.securityVersion.toNat) :
    Completes (.advanceImageRollback res) s fun t =>
      FusesBlown s t res (min 64 s.image.securityVersion.toNat - s.fuses.imgRollback) ∧ SecKeeps s t ∧ t.flash = s.flash ∧
      (res = .blown → t.fuses = { s.fuses with imgRollback := min 64 s.image.securityVersion.toNat }) := by
  refine completes_programs (exec_advanceImageRollback res s) takes (by simp [State.running, runs]) (if_neg (Nat.not_le_of_lt below))
    fun t done => ⟨done.progress, done.keeps, done.flash, fun whole => ?_⟩
  rw [done.all whole, Nat.add_sub_of_le (Nat.le_of_lt below)]

theorem advanceImageRollback_denied (awaits : s.dev.boot.stage = .awaitImage) :
    Completes (.advanceImageRollback res) s (s.WithResult Codes.SEC_CMD_DENIED) :=
  completes_secRefused (exec_advanceImageRollback res s) takes (by simp [State.running, awaits])

theorem advanceImageRollback_stands (runs : s.dev.boot.stage = .running) (stands : min 64 s.image.securityVersion.toNat ≤ s.fuses.imgRollback) :
    Completes (.advanceImageRollback res) s (s.WithResult Codes.OK) :=
  completes_secNothing takes (exec_advanceImageRollback res s) (by simp [State.running, runs]) (if_pos stands)

theorem advanceFirmwareRollback_programs (copyA : s.copyVerifies s.flash.copyA = true) (copyB : s.copyVerifies s.flash.copyB = true)
    (below : s.fuses.fwRollback < min 64 s.lowerVersion) : Completes (.advanceFirmwareRollback res) s fun t =>
      FusesBlown s t res (min 64 s.lowerVersion - s.fuses.fwRollback) ∧ SecKeeps s t ∧ t.flash = s.flash ∧
      (res = .blown → t.fuses = { s.fuses with fwRollback := min 64 s.lowerVersion }) := by
  refine completes_programs (exec_advanceFirmwareRollback res s) takes (by simp [copyA, copyB]) (if_neg (Nat.not_le_of_lt below))
    fun t done => ⟨done.progress, done.keeps, done.flash, fun whole => ?_⟩
  rw [done.all whole, Nat.add_sub_of_le (Nat.le_of_lt below)]

theorem advanceFirmwareRollback_stands (copyA : s.copyVerifies s.flash.copyA = true) (copyB : s.copyVerifies s.flash.copyB = true)
    (stands : min 64 s.lowerVersion ≤ s.fuses.fwRollback) : Completes (.advanceFirmwareRollback res) s (s.WithResult Codes.OK) :=
  completes_secNothing takes (exec_advanceFirmwareRollback res s) (by simp [copyA, copyB]) (if_pos stands)

theorem advanceFirmwareRollback_denied (fails : s.copyVerifies s.flash.copyA = false ∨ s.copyVerifies s.flash.copyB = false) :
    Completes (.advanceFirmwareRollback res) s (s.WithResult Codes.SEC_ROLLBACK_DENIED) :=
  completes_secRefused (exec_advanceFirmwareRollback res s) takes (by rcases fails with h | h <;> simp [h])

theorem blowProvisioningLock_programs (lives : s.fuses.liveSlots ≠ []) : Completes (.blowProvisioningLock res) s fun t =>
    FusesBlown s t res 1 ∧ SecKeeps s t ∧ t.flash = s.flash ∧ (res = .blown → t.fuses = { s.fuses with lock := true }) := by
  refine completes_programs (exec_blowProvisioningLock res s) takes (if_neg lives) rfl
    fun t done => ⟨done.progress, done.keeps, done.flash, fun whole => ?_⟩
  rw [done.all whole]
  simp

theorem blowProvisioningLock_noKey (none_ : s.fuses.liveSlots = []) : Completes (.blowProvisioningLock res) s (s.WithResult Codes.SEC_REVOKE_LAST) :=
  completes_secRefused (exec_blowProvisioningLock res s) takes (if_pos none_)

end Fuses

/-! ## Attestation -/

theorem insertBy_last {α : Type} {lt : α → α → Bool} {x : α} {l : List α} (after : ∀ y ∈ l, lt x y = false) : insertBy lt x l = l ++ [x] := by
  induction l with
  | nil => rfl
  | cons y l ih =>
    rw [insertBy, after y (List.mem_cons_self ..), List.cons_append, ← ih fun z h => after z (List.mem_cons_of_mem _ h)]
    rfl

section Attest
variable {s : State}

/-- The attestation that a go write asks for, behind those that wait. -/
def State.attestAsked (s : State) (r : Nat) (q : BitVec 6) : State :=
  (s.onRAux r fun a => { a with attestQueue := q, attestBusy := true }).onSec fun c => { c with attests := c.attests ++ [(r, s.tick)] }

theorem attestGo_waits {f : FnId} {r : RegionId} {v : Word} (reach : s.reaches f.val r.val = true)
    (idle : (s.region r.val).aux.attestBusy = false) (go : v.getLsbD 0 = true) (alone : ∀ e ∈ s.dev.sec.attests, e.2 ≠ s.tick) :
    Completes (.attestGo f r v) s fun u =>
      u.region r.val = { s.region r.val with aux := { (s.region r.val).aux with attestQueue := v.extractLsb' 1 6, attestBusy := true } } ∧
      u.dev.sec.attests = s.dev.sec.attests ++ [(r.val, s.tick)] ∧ (∀ j, j ≠ r.val → u.region j = s.region j) ∧
      u = { s with fab := { s.fab with regions := u.fab.regions }
                   dev := { s.dev with sec := { s.dev.sec with attests := u.dev.sec.attests } } } := by
  have may : (s.reaches f.val r.val && !(s.region r.val).aux.attestBusy) = true := by simp [reach, idle]
  have last : insertBy (fun (a b : Nat × Word64) => a.2 = b.2 && a.1 < b.1) (r.val, s.tick) s.dev.sec.attests =
      s.dev.sec.attests ++ [(r.val, s.tick)] :=
    insertBy_last fun e here => by simp [Ne.symm (alone e here)]
  refine completes_of_effect rfl (t := s.attestAsked r.val (v.extractLsb' 1 6)) ?_ ⟨by simp [State.attestAsked], rfl, fun j other => ?_, rfl⟩
  · rw [s.whenP_pos _ may]
    simp only [go, if_true]
    exact congrArg (fun l => (s.onRAux r.val _).onSec fun c => { c with attests := l }) last
  · simp [State.attestAsked, State.region_onRAux_other s _ other.symm]

theorem attestGo_busy (f : FnId) {r : RegionId} (v : Word) (busy : (s.region r.val).aux.attestBusy = true) :
    exec (.attestGo f r v) s = .next s :=
  exec_stays rfl (s.whenP_neg _ (by simp [busy]))

/-- The region's registers with an attestation's end. -/
def RegionAux.attested (a : RegionAux) (c : Code) (sig : List Word) : RegionAux :=
  { a with attestBusy := false, attestResult := c, attestSig := sig }

/-- What the end of an attestation writes: without a digest SEC_NO_DIGEST, else OK and a signature's registers (22 R831, R832). -/
structure State.Attested (s t : State) (p : Nat) : Prop where
  region : ∃ c sig, t.region p = { s.region p with aux := (s.region p).aux.attested c sig } ∧
    ((s.queue p (s.region p).aux.attestQueue.toNat).lastDigest = none → c = Codes.SEC_NO_DIGEST ∧ sig = (s.region p).aux.attestSig) ∧
    ((s.queue p (s.region p).aux.attestQueue.toNat).lastDigest.isSome = true → c = Codes.OK ∧ sig.length = 24)
  others : ∀ j, j ≠ p → t.region j = s.region j
  rest : t.dev = s.dev ∧ t.mem = s.mem

theorem State.attest_attested (s : State) (p : Nat) : s.Attested (s.attest p) p := by
  have others (f : RegionAux → RegionAux) {j : Nat} (other : j ≠ p) : (s.onRAux p f).region j = s.region j :=
    State.region_onRAux_other s f other.symm
  rcases digest : (s.queue p (s.region p).aux.attestQueue.toNat).lastDigest with _ | d
  · have form : s.attest p = s.onRAux p fun a => a.attested Codes.SEC_NO_DIGEST a.attestSig := by
      simp only [State.attest, digest]
      rfl
    rw [form]
    exact ⟨⟨_, _, State.region_onRAux .., fun _ => ⟨rfl, rfl⟩, by simp [digest]⟩, fun _ => others _, rfl, rfl⟩
  · obtain ⟨g, form⟩ : ∃ g : Nat × Nat, s.attest p = (s.onRAux p fun a => a.attested Codes.OK (sigWords g.1 g.2)).bump :=
      ⟨_, by simp only [State.attest, digest]; rfl⟩
    rw [form]
    exact ⟨⟨Codes.OK, sigWords g.1 g.2, (State.region_bump ..).trans (State.region_onRAux ..), by simp [digest],
      fun _ => ⟨rfl, by simp [sigWords]⟩⟩, fun j other => (State.region_bump ..).trans (others _ other), rfl, rfl⟩

theorem attestComplete_ends {rest : List (Nat × Word64)} {p : Nat} {t : Word64} {q : Nat} (up : s.islandUp 44 = true)
    (first : s.dev.sec.attests = (p, t) :: rest) (queue : q = (s.region p).aux.attestQueue.toNat) : Completes .attestComplete s fun u =>
      u.dev.sec.attests = rest ∧ (u.region p).aux.attestBusy = false ∧
      ((s.queue p q).lastDigest = none → (u.region p).aux.attestResult = Codes.SEC_NO_DIGEST ∧
        (u.region p).aux.attestSig = (s.region p).aux.attestSig) ∧
      ((s.queue p q).lastDigest.isSome = true → (u.region p).aux.attestResult = Codes.OK ∧ (u.region p).aux.attestSig.length = 24) ∧
      (∀ j, j ≠ p → u.region j = s.region j) ∧ u.mem = s.mem ∧ s.KeepsStore u := by
  subst queue
  obtain ⟨⟨c, sig, region, nothing, signed⟩, others, dev, mem⟩ := (s.onSec fun k => { k with attests := rest }).attest_attested p
  refine completes_of_effect rfl (t := (s.onSec fun k => { k with attests := rest }).attest p) ?_
    ⟨congrArg (·.sec.attests) dev, ?_, fun none_ => ?_, fun some_ => ?_, others, mem, rfl, rfl, rfl⟩
  · rw [s.whenP_pos _ up]
    simp [first]
  · rw [State.effect_region, region]
    rfl
  · rw [State.effect_region, region]
    exact nothing none_
  · rw [State.effect_region, region]
    exact signed some_

end Attest

/-! ## Reads and the attestation key -/

/-- The state of a part with another attestation key. -/
def State.withKey (s : State) (key : BitVec 384) : State := { s with part := { s.part with attestKey := key } }

section Key
variable (s : State) (key : BitVec 384) (f r o : Nat)

theorem State.withKey_dev : (s.withKey key).dev = s.dev := rfl

theorem State.withKey_hubWords : (s.withKey key).hubWord o = s.hubWord o ∧ (s.withKey key).pwrWord o = s.pwrWord o ∧
    (s.withKey key).clkWord f o = s.clkWord f o ∧ (s.withKey key).secWord o = s.secWord o ∧ (s.withKey key).lnkWord o = s.lnkWord o ∧
    (s.withKey key).ydiWord o = s.ydiWord o ∧ (s.withKey key).telWord o = s.telWord o := ⟨rfl, rfl, rfl, rfl, rfl, rfl, rfl⟩

theorem State.withKey_windowWords : (s.withKey key).queMap o = s.queMap o ∧ (s.withKey key).windowWord r o = s.windowWord r o ∧
    (s.withKey key).vfWord f o = s.vfWord f o := ⟨rfl, rfl, rfl⟩

theorem State.withKey_fabWord : (s.withKey key).fabWord r o = s.fabWord r o := by
  have noc : (s.withKey key).nocFrame = s.nocFrame := rfl
  have sites (o) : (s.withKey key).siteMapWord r o = s.siteMapWord r o ∧ (s.withKey key).physWord r o = s.physWord r o ∧
      (s.withKey key).matWord r o = s.matWord r o ∧ (s.withKey key).sfuWord r o = s.sfuWord r o := ⟨rfl, rfl, rfl, rfl⟩
  have edges (o) : (s.withKey key).edgeWord r o = s.edgeWord r o ∧ (s.withKey key).engineWord r o = s.engineWord r o := ⟨rfl, rfl⟩
  have mem (m o) : (s.withKey key).memWord m o = s.memWord m o := rfl
  have die : (s.withKey key).die r = s.die r := rfl
  have vis (b) : (s.withKey key).visStatus r b = s.visStatus r b := rfl
  simp only [State.fabWord, noc, sites, edges, mem, die, vis]

/-- No word that a function reads shows the attestation key. -/
theorem State.withKey_regRead : (s.withKey key).regRead f o = s.regRead f o := by
  simp only [State.regRead, State.pfWord, State.withKey_dev, State.withKey_hubWords s key 0, State.withKey_windowWords s key 0,
    State.withKey_windowWords s key f 0, State.withKey_fabWord]

end Key

end Sys2Proof.Machine
end

section
/-!
CERTIFICATE. What the fuse commands and attestations answer.
-/
namespace Sys2Proof.Machine

/-- Settles O54: the command's refusals come in order, and else its fuses are programmed. That they are blown at once is log 11, the
order of the staged key's bytes log 55. -/
theorem imageKeysAreProvisioned : Obligations.ImageKeysAreProvisioned := by
  intro s k res
  refine ⟨provisionImageKey_programs, fun takes locked => ?_, fun takes open_ used => ?_, fun reach idle await runs => ?_, fun busy => ?_⟩
  · exact completes_secRefused (exec_provisionImageKey k res s) takes (by rw [locked]; rfl)
  · exact completes_secRefused (exec_provisionImageKey k res s) takes (by rw [open_, used]; rfl)
  · exact completes_of_fuseEffect (exec_provisionImageKey k res s) (State.secRun_denied reach idle await runs _ _) rfl
  · rw [exec_provisionImageKey, State.fuseEffect, State.secRun_busy busy]

/-- Settles O55: one lemma for each command that goes through and for each that its condition turns away. -/
theorem fuseCommandsBlowTheirFuses : Obligations.FuseCommandsBlowTheirFuses := by
  intro s k j res x takes
  exact ⟨revokeImageKey_programs takes, revokeImageKey_last takes,
    fun revoked => ⟨revokeFirmwareKey_programs takes revoked, revokeFirmwareKey_last takes revoked⟩,
    advanceImageRollback_programs takes, advanceImageRollback_denied takes, advanceImageRollback_stands takes,
    advanceFirmwareRollback_programs takes, advanceFirmwareRollback_stands takes, advanceFirmwareRollback_denied takes,
    blowProvisioningLock_programs takes, blowProvisioningLock_noKey takes⟩

/-- Settles O56: the order of the waiting attestations, the two ends of the first, and that no read shows the key. -/
theorem attestationsAnswer : Obligations.AttestationsAnswer := by
  intro s f r v rest p t q o key
  exact ⟨attestGo_waits, attestGo_busy f v, attestComplete_ends, s.withKey_regRead key f.val o⟩

end Sys2Proof.Machine
end

section
/-!
SUPPORT. Words of a 256-bit register, and the registers of reproducibility (18 R672, R673, R691-R693).
-/
namespace Sys2Proof.Machine

/-! ## Words of a 256-bit register -/

/-- A bit of a 256-bit register with one word replaced: the word's, or as before. -/
theorem getLsbD_putWord256 (x : BitVec 256) {n : Nat} (v : Word) {i : Nat} (bit : i < 32) (word : n < 8) (m : Nat) (at_ : m < 8) :
    (putWord256 x n v).getLsbD (32 * m + i) = if m = n then v.getLsbD i else x.getLsbD (32 * m + i) := by
  have mask (j : Nat) : (0xFFFFFFFF : BitVec 256).getLsbD j = decide (j < 32) := by
    show (BitVec.ofNat 256 (2 ^ 32 - 1)).getLsbD j = _
    simp only [BitVec.getLsbD_ofNat, Nat.testBit_two_pow_sub_one]
    by_cases h : j < 32
    · simp [h]; omega
    · simp [h]
  simp only [putWord256, BitVec.getLsbD_or, BitVec.getLsbD_and, BitVec.getLsbD_not, BitVec.getLsbD_shiftLeft, BitVec.getLsbD_setWidth, mask]
  have inside : 32 * m + i < 256 := by omega
  rcases lt_trichotomy m n with before | rfl | after
  · have below : 32 * m + i < 32 * n := by omega
    simp [inside, below, Nat.ne_of_lt before]
  · simp [inside, bit, show i < 256 by omega]
  · have above : ¬ 32 * m + i < 32 * n := by omega
    have past : 32 ≤ 32 * m + i - 32 * n := by omega
    simp [inside, above, past, Nat.ne_of_gt after]

theorem wordPut_putWord256 (x : BitVec 256) (n : Fin 8) (v : Word) : WordPut x (putWord256 x n.val v) n.val v := by
  constructor
  · refine BitVec.eq_of_getLsbD_eq fun i bit => ?_
    simp [bit, getLsbD_putWord256 x v bit n.isLt n.val n.isLt]
  · intro m at_ other
    refine BitVec.eq_of_getLsbD_eq fun i bit => ?_
    simp [bit, getLsbD_putWord256 x v bit n.isLt m at_, other]

/-! ## The registers -/

section Registers
variable {s : State} {r : RegionId} {f : FnId}

theorem hubDetCtlWrite_sets (v : Word) (reach : s.pfReach true = true) (loads : s.dev.boot.stage ≠ .imageLoad)
    (runs : s.dev.boot.stage ≠ .running) : Completes (.hubDetCtlWrite v) s fun t =>
      t = { s with dev := { s.dev with aux := { s.dev.aux with slateCtl := v.getLsbD 0 } } } := by
  refine completes_of_effect rfl (t := s.onAux fun a => { a with slateCtl := v.getLsbD 0 }) ?_ rfl
  rw [s.whenP_pos _ reach]
  simp [loads, State.running, runs]

theorem hubDetCtlWrite_locked (v : Word) (reach : s.pfReach true = true)
    (locked : s.dev.boot.stage = .imageLoad ∨ s.dev.boot.stage = .running) : Completes (.hubDetCtlWrite v) s fun t =>
      (s.dev.hst.pfEvt.enable = true → s.dev.hst.pfEvt.full = false →
        t.dev.hst.pfEvt = { s.dev.hst.pfEvt with tail := s.dev.hst.pfEvt.tail + 1 }) ∧
      t = { s with hostMem := t.hostMem, dev := { s.dev with hst := { s.dev.hst with pfEvt := t.dev.hst.pfEvt, pfIrq := t.dev.hst.pfIrq } } } := by
  refine completes_of_effect rfl (t := s.pfEvent 6 Codes.DET_MODE_LOCKED v.toNat) ?_ ?_
  · rw [s.whenP_pos _ reach]
    rcases locked with h | h <;> simp [h, State.running]
  · rw [State.effect_of_frame (by simp) (by simp) (by simp) (by simp)]
    exact ⟨s.pfEvent_taken _ _ _, s.pfEvent_frame _ _ _⟩

/-- A write that changes a region's registers beside its queues and its revocation alone. -/
theorem completes_onRAux {i : Instr} {c : Bool} {g : RegionAux → RegionAux}
    (run : exec i s = .next (s.effect fun s => s.whenP c fun s => s.onRAux r.val g)) (may : c = true) : Completes i s fun t =>
      t.region r.val = { s.region r.val with aux := g (s.region r.val).aux } ∧ (∀ p, p ≠ r.val → t.region p = s.region p) ∧
      t = { s with fab := { s.fab with regions := t.fab.regions } } :=
  completes_of_effect run (s.whenP_pos _ may) ⟨State.region_onRAux .., fun _ other => State.region_onRAux_other s g other.symm, rfl⟩

theorem detWeightsWrite_puts (n : Fin 8) (v : Word) (reach : s.reaches f.val r.val = true)
    (open_ : f = 0 ∨ (s.region r.val).aux.weightsLock = false) : Completes (.detWeightsWrite f r n v) s fun t =>
      (∃ x, (t.region r.val).aux.weightsNext = some x ∧
        WordPut ((s.region r.val).aux.weightsNext.getD (s.region r.val).aux.weights) x n.val v) ∧
      (t.region r.val).aux.weights = (s.region r.val).aux.weights ∧ (∀ p, p ≠ r.val → t.region p = s.region p) ∧
      t = { s with fab := { s.fab with regions := t.fab.regions } } := by
  have may : (s.reaches f.val r.val && (f = 0 || !(s.region r.val).aux.weightsLock)) = true := by
    rcases open_ with rfl | h
    · simpa using reach
    · simp [reach, h]
  obtain ⟨t, run, region, others, frame⟩ := completes_onRAux (i := .detWeightsWrite f r n v) rfl may
  exact ⟨t, run, ⟨_, congrArg (·.aux.weightsNext) region, wordPut_putWord256 _ n v⟩, congrArg (·.aux.weights) region, others, frame⟩

theorem detWeightsWrite_locked (n : Fin 8) (v : Word) (vf : f ≠ 0) (locked : (s.region r.val).aux.weightsLock = true) :
    exec (.detWeightsWrite f r n v) s = .next s := exec_stays rfl (s.whenP_neg _ (by simp [vf, locked]))

theorem detInputWrite_puts (n : Fin 8) (v : Word) (reach : s.reaches f.val r.val = true) : Completes (.detInputWrite f r n v) s fun t =>
      (∃ x, (t.region r.val).aux.inputNext = some x ∧
        WordPut ((s.region r.val).aux.inputNext.getD (s.region r.val).aux.input) x n.val v) ∧
      (t.region r.val).aux.input = (s.region r.val).aux.input ∧ (∀ p, p ≠ r.val → t.region p = s.region p) ∧
      t = { s with fab := { s.fab with regions := t.fab.regions } } := by
  obtain ⟨t, run, region, others, frame⟩ := completes_onRAux (i := .detInputWrite f r n v) rfl reach
  exact ⟨t, run, ⟨_, congrArg (·.aux.inputNext) region, wordPut_putWord256 _ n v⟩, congrArg (·.aux.input) region, others, frame⟩

theorem weightsLockSet_locks (reach : s.reaches 0 r.val = true) : Completes (.weightsLockSet 0 r) s fun t =>
      t.region r.val = { s.region r.val with aux := { (s.region r.val).aux with weightsLock := true } } ∧
      (∀ p, p ≠ r.val → t.region p = s.region p) ∧ t = { s with fab := { s.fab with regions := t.fab.regions } } :=
  completes_onRAux (i := .weightsLockSet 0 r) rfl (by simpa using reach)

end Registers

end Sys2Proof.Machine
end

section
/-!
CERTIFICATE. What writes of the registers of reproducibility change.
-/
namespace Sys2Proof.Machine

/-- Settles O53: one lemma for each register, open and locked. -/
theorem determinismRegistersAreWritten : Obligations.DeterminismRegistersAreWritten := by
  intro s f r n v
  exact ⟨hubDetCtlWrite_sets v, hubDetCtlWrite_locked v, detWeightsWrite_puts n v, detWeightsWrite_locked n v, detInputWrite_puts n v,
    weightsLockSet_locks, fun vf => exec_stays rfl (s.whenP_neg _ (by simp [vf]))⟩

end Sys2Proof.Machine
end

section
/-!
SUPPORT. Messages that a function sends, holds and releases (21 R797, R798).
-/
namespace Sys2Proof.Machine

theorem Func.masked_congr {f g : Func} (h : g.msix = f.msix) (v : Nat) : g.masked v = f.masked v := by
  simp [Func.masked, Func.entry, h]

theorem getLsbD_clearBit (x : BitVec 64) (v i : Nat) :
    (x &&& ~~~((1 : BitVec 64) <<< v)).getLsbD i = (x.getLsbD i && decide (i ≠ v)) := by
  by_cases inside : i < 64
  · have one : (1 : BitVec 64).getLsbD (i - v) = decide (i - v = 0) := by simp
    simp only [BitVec.getLsbD_and, BitVec.getLsbD_not, BitVec.getLsbD_shiftLeft, inside, one]
    rcases lt_trichotomy i v with before | rfl | after
    · simp [before, Nat.ne_of_lt before]
    · simp
    · simp [Nat.ne_of_gt after, show i - v ≠ 0 by omega]
  · simp [BitVec.getLsbD_of_ge x i (by omega), -BitVec.ofNat_eq_ofNat]

/-- What `release` does at one vector. -/
def Func.releaseOne (f : Func) (v : Nat) : Func := if f.pba.getLsbD v && !f.masked v then f.send v else f

theorem Func.release_def (f : Func) : f.release = if f.sends then (List.range 64).foldl Func.releaseOne f else f := rfl

theorem Func.releaseOne_frame (f : Func) (v : Nat) :
    f.releaseOne v = { f with pba := (f.releaseOne v).pba, sentMsgs := (f.releaseOne v).sentMsgs } := by
  simp only [Func.releaseOne]
  split <;> rfl

theorem Func.releaseOne_pba (f : Func) (v i : Nat) :
    (f.releaseOne v).pba.getLsbD i = (f.pba.getLsbD i && !(decide (i = v) && !f.masked v)) := by
  simp only [Func.releaseOne]
  split
  case isTrue h =>
    simp only [Bool.and_eq_true, Bool.not_eq_true'] at h
    rw [Func.send, getLsbD_clearBit]
    simp [h.2]
  case isFalse h =>
    by_cases same : i = v
    · subst same
      cases bit : f.pba.getLsbD i <;> simp_all
    · simp [same]

theorem Func.releaseOne_sent (f : Func) (v i : Nat) : Tab.get 0 (f.releaseOne v).sentMsgs i =
    Tab.get 0 f.sentMsgs i + if i = v ∧ f.pba.getLsbD v = true ∧ f.masked v = false then 1 else 0 := by
  simp only [Func.releaseOne]
  by_cases due : f.pba.getLsbD v = true ∧ f.masked v = false
  · rw [if_pos (by simpa using due)]
    by_cases same : v = i
    · subst same
      simp [due, Func.send]
    · simp [Ne.symm same, Func.send, Tab.get_modify_other _ _ _ same]
  · simp [due]

theorem Func.releaseAll (l : List Nat) : ∀ f : Func, l.Nodup →
    l.foldl Func.releaseOne f = { f with pba := (l.foldl Func.releaseOne f).pba, sentMsgs := (l.foldl Func.releaseOne f).sentMsgs } ∧
    ∀ i, (l.foldl Func.releaseOne f).pba.getLsbD i = (f.pba.getLsbD i && !(decide (i ∈ l) && !f.masked i)) ∧
      Tab.get 0 (l.foldl Func.releaseOne f).sentMsgs i =
        Tab.get 0 f.sentMsgs i + if i ∈ l ∧ f.pba.getLsbD i = true ∧ f.masked i = false then 1 else 0 := by
  induction l with
  | nil => simp
  | cons v l ih =>
    intro f distinct
    obtain ⟨fresh, distinct⟩ := List.nodup_cons.mp distinct
    obtain ⟨frame, bits⟩ := ih (f.releaseOne v) distinct
    have head := f.releaseOne_frame v
    have masks (i : Nat) : (f.releaseOne v).masked i = f.masked i := Func.masked_congr (congrArg Func.msix head) i
    refine ⟨?_, fun i => ?_⟩
    · rw [List.foldl_cons, frame, head]
    · obtain ⟨pba, sent⟩ := bits i
      rw [List.foldl_cons, pba, sent, f.releaseOne_pba, f.releaseOne_sent, masks]
      by_cases same : i = v
      · subst same
        simp [fresh]
      · simp [same]

theorem Func.release_frame (f : Func) : f.release = { f with pba := f.release.pba, sentMsgs := f.release.sentMsgs } := by
  rw [Func.release_def]
  split
  · exact (Func.releaseAll _ f List.nodup_range).1
  · rfl

@[simp] theorem Func.release_msix (f : Func) : f.release.msix = f.msix := by rw [Func.release_frame]

theorem Func.release_of_held {f : Func} (holds : f.sends = false) : f.release = f := by simp [Func.release_def, holds]

theorem Func.release_pba (f : Func) {i : Nat} (inside : i < 64) :
    f.release.pba.getLsbD i = (f.pba.getLsbD i && !(f.sends && !f.masked i)) := by
  rw [Func.release_def]
  cases sends : f.sends
  · simp
  · rw [if_pos rfl, ((Func.releaseAll _ f List.nodup_range).2 i).1]
    simp [inside]

theorem Func.release_sent {f : Func} {i : Nat} (inside : i < 64) (sends : f.sends = true) (bit : f.pba.getLsbD i = true)
    (open_ : f.masked i = false) : Tab.get 0 f.release.sentMsgs i = Tab.get 0 f.sentMsgs i + 1 := by
  simp [Func.release_def, sends, ((Func.releaseAll _ f List.nodup_range).2 i).2, inside, bit, open_]

/-- A function whose vector is unmasked, before what its pending bit holds goes out (21 R797). -/
def Func.unmask (f : Func) (v : Nat) : Func :=
  { f with msix := Tab.set f.msix v ((f.entry v).set 3 ((f.entry v).getD 3 1 &&& ~~~1#32)) }

theorem Func.entry_unmask_other (f : Func) {v i : Nat} (other : i ≠ v) : (f.unmask v).entry i = f.entry i := by
  simp [Func.entry, Func.unmask, Tab.get_set_other _ _ _ other.symm]

@[simp] theorem Func.masked_unmask (f : Func) (v : Nat) : (f.unmask v).masked v = false := by
  simp [Func.masked, Func.entry, Func.unmask]

end Sys2Proof.Machine
end

section
/-!
SUPPORT. A source's message, and the unmasking of a vector (21 R794-R799).
-/
namespace Sys2Proof.Machine

theorem State.func_onIrq (s : State) (src : IrqSource) (f : Irq → Irq) (k : Nat) : (s.onIrq src f).func k = s.func k := by
  cases src <;> rfl

theorem State.irqOf_onIrq (s : State) (src : IrqSource) (f : Irq → Irq) : ((s.onIrq src f).irqOf src).1 = f (s.irqOf src).1 := by
  cases src <;> simp [State.onIrq, State.irqOf]

theorem State.irqOf_onFunc (s : State) (src : IrqSource) (k : Nat) (f : Func → Func) : (s.onFunc k f).irqOf src = s.irqOf src := by
  cases src <;> rfl

theorem State.irqOf_effect (s t : State) (src : IrqSource) : (s.effect fun _ => t).irqOf src = t.irqOf src := by
  cases src <;> rfl

theorem State.mem_onIrq (s : State) (src : IrqSource) (f : Irq → Irq) :
    (s.onIrq src f).mem = s.mem ∧ (s.onIrq src f).hostMem = s.hostMem := by
  cases src <;> exact ⟨rfl, rfl⟩

theorem Func.message_sent {f : Func} {v : Nat} (bus : f.busMaster = true) (awake : f.d3hot = false) (open_ : f.masked v = false) :
    f.message v = f.send v := by simp [Func.message, Func.sends, bus, awake, open_]

theorem Func.message_held {f : Func} {v : Nat} (held : f.busMaster = false ∨ f.d3hot = true ∨ f.masked v = true) :
    f.message v = { f with pba := f.pba ||| ((1 : BitVec 64) <<< v) } := by
  have quiet : (f.sends && !f.masked v) = false := by rcases held with h | h | h <;> simp [Func.sends, h]
  simp [Func.message, quiet, -BitVec.ofNat_eq_ofNat]

theorem msixMessage_due {s : State} {src : IrqSource} (due : (s.irqOf src).1.due s.tick = true)
    (vector : (s.irqOf src).1.vector.toNat < vectorCount (s.irqOf src).2)
    (exists_ : (s.irqOf src).2 = 0 ∨ (s.func (s.irqOf src).2).enabled = true) : Completes (.msixMessage src) s fun t =>
      (t.irqOf src).1 = { (s.irqOf src).1 with pending := 0 } ∧
      t.func (s.irqOf src).2 = (s.func (s.irqOf src).2).message (s.irqOf src).1.vector.toNat ∧
      (∀ j, j ≠ (s.irqOf src).2 → t.func j = s.func j) ∧ t.mem = s.mem ∧ t.hostMem = s.hostMem ∧ s.KeepsStore t := by
  have may : ((s.irqOf src).1.due s.tick && (s.irqOf src).1.vector.toNat < vectorCount (s.irqOf src).2 &&
      ((s.irqOf src).2 = 0 || (s.func (s.irqOf src).2).enabled)) = true := by simpa [due, vector] using exists_
  refine completes_of_effect rfl (s.whenP_pos _ may) ⟨?_, ?_, fun j other => ?_, ?_, ?_, s.effect_keepsStore _⟩
  · rw [State.irqOf_effect, State.irqOf_onFunc, State.irqOf_onIrq]
  · rw [State.effect_func, State.func_onFunc, State.func_onIrq]
  · rw [State.effect_func, State.func_onFunc_other _ _ other.symm, State.func_onIrq]
  · exact (s.mem_onIrq src _).1
  · exact (s.mem_onIrq src _).2

/-- A command that changes one function alone. -/
theorem completes_onFunc {i : Instr} {s : State} {c : Bool} {k : Nat} {g : Func → Func}
    (run : exec i s = .next (s.devEffect fun s => s.whenP c fun s => s.onFunc k g)) (may : c = true) : Completes i s fun t =>
      t.func k = g (s.func k) ∧ (∀ j, j ≠ k → t.func j = s.func j) ∧
      t = { s with dev := { s.dev with hst := { s.dev.hst with funcs := t.dev.hst.funcs } } } :=
  completes_of_devEffect run (s.whenP_pos _ may) ⟨State.func_onFunc .., fun _ other => State.func_onFunc_other s g other.symm, rfl⟩

theorem msixUnmask_unmasks {s : State} {f : FnId} {vec : Fin 64} (reach : s.hubReach f.val = true) (vector : vec.val < vectorCount f.val) :
    Completes (.msixUnmask f vec) s fun t =>
      t.func f.val = ((s.func f.val).unmask vec.val).release ∧ (∀ j, j ≠ f.val → t.func j = s.func j) ∧
      t = { s with dev := { s.dev with hst := { s.dev.hst with funcs := t.dev.hst.funcs } } } :=
  completes_onFunc (g := fun x => (x.unmask vec.val).release) rfl (by simp [reach, vector])

theorem Func.release_unmask (f : Func) (v : Fin 64) :
    (f.unmask v.val).release.masked v.val = false ∧ (∀ i, i ≠ v.val → (f.unmask v.val).release.entry i = f.entry i) ∧
    (f.sends = true → (f.unmask v.val).release.pba.getLsbD v.val = false ∧
      (f.pba.getLsbD v.val = true → Tab.get 0 (f.unmask v.val).release.sentMsgs v.val = Tab.get 0 f.sentMsgs v.val + 1)) ∧
    (f.sends = false → (f.unmask v.val).release.pba = f.pba ∧ (f.unmask v.val).release.sentMsgs = f.sentMsgs) := by
  have table := (f.unmask v.val).release_msix
  refine ⟨?_, fun i other => ?_, fun sends => ⟨?_, fun bit => ?_⟩, fun holds => ?_⟩
  · rw [Func.masked_congr table, Func.masked_unmask]
  · rw [← f.entry_unmask_other other, Func.entry, table, Func.entry]
  · rw [Func.release_pba _ v.isLt, Func.masked_unmask, show (f.unmask v.val).sends = true from sends]
    simp
  · exact Func.release_sent v.isLt sends bit (f.masked_unmask v.val)
  · rw [Func.release_of_held (show (f.unmask v.val).sends = false from holds)]
    exact ⟨rfl, rfl⟩

end Sys2Proof.Machine
end

section
/-!
CERTIFICATE. Messages that are sent, held and released.
-/
namespace Sys2Proof.Machine

/-- Settles O49: `Func.message` gives the two outcomes of a source that is due, and `Func.release_unmask` what an unmasking sends. -/
theorem messagesAreSentOrHeld : Obligations.MessagesAreSentOrHeld := by
  intro s src f vec k v hk hv
  subst hk hv
  refine ⟨fun due vector exists_ => ?_, fun idle => ?_, fun reach vector => ?_⟩
  · obtain ⟨t, run, irq, func, rest⟩ := msixMessage_due due vector exists_
    exact ⟨t, run, irq, fun bus awake open_ => func.trans (Func.message_sent bus awake open_),
      fun held => func.trans (Func.message_held held), rest⟩
  · exact exec_stays rfl (s.whenP_neg _ (by simp [idle]))
  · obtain ⟨t, run, func, rest⟩ := msixUnmask_unmasks reach vector
    obtain ⟨open_, entries, sent, kept⟩ := (s.func f.val).release_unmask vec
    rw [← func] at open_ entries sent kept
    exact ⟨t, run, open_, entries, sent, kept, rest⟩

end Sys2Proof.Machine
end

section
/-!
SUPPORT. What stopping operations writes: the operations of a revocation, of a region reset and of a failed host read (21 R792, 23 R850).
-/
namespace Sys2Proof.Machine

/-- `t` differs from `s` by what stopping operations writes and by nothing else: what ending them writes, and the drift counters of dies. -/
structure State.StoppingOnly (s t : State) : Prop where
  frame : t = { s with
    mem := t.mem, hostMem := t.hostMem, free := t.free
    dev := { s.dev with
      hst := { s.dev.hst with pfEvt := t.dev.hst.pfEvt, pfIrq := t.dev.hst.pfIrq }, dbg := t.dev.dbg, faults := t.dev.faults
      noc := { s.dev.noc with queues := t.dev.noc.queues, deferred := t.dev.noc.deferred }
      pwr := { s.dev.pwr with domains := t.dev.pwr.domains } }
    fab := { s.fab with
      regions := t.fab.regions, sites := t.fab.sites, memDies := t.fab.memDies, engines := t.fab.engines, dies := t.fab.dies } }

theorem State.StoppingOnly.refl (s : State) : s.StoppingOnly s := ⟨rfl⟩

theorem State.StoppingOnly.trans {s t u : State} (h : s.StoppingOnly t) (k : t.StoppingOnly u) : s.StoppingOnly u := by
  constructor
  rw [k.frame, h.frame]

theorem State.EndingOnly.stopping {s t : State} (h : s.EndingOnly t) : s.StoppingOnly t := by
  constructor
  rw [h]

theorem State.EventOnly.stopping {s t : State} (h : s.EventOnly t) : s.StoppingOnly t := h.ending.stopping

theorem State.StoppingOnly.foldl {α : Type} {f : State → α → State} (step : ∀ (s : State) (a : α), s.StoppingOnly (f s a))
    (l : List α) (s : State) : s.StoppingOnly (l.foldl f s) :=
  List.foldlRecOn l f (.refl s) fun t h a _ => h.trans (step t a)

theorem State.onRegion_stopping (s : State) (r : Nat) (f : Region → Region) : s.StoppingOnly (s.onRegion r f) := ⟨rfl⟩
theorem State.onSlot_stopping (s : State) (r q : Nat) (seq : Word) (f : Slot → Slot) : s.StoppingOnly (s.onSlot r q seq f) := ⟨rfl⟩
theorem State.onSite_stopping (s : State) (k : Nat) (f : Site → Site) : s.StoppingOnly (s.onSite k f) := ⟨rfl⟩
theorem State.onDie_stopping (s : State) (d : Nat) (f : DieRegs → DieRegs) : s.StoppingOnly (s.onDie d f) := ⟨rfl⟩
theorem State.onMem_stopping (s : State) (f : Mem → Mem) : s.StoppingOnly (s.onMem f) := ⟨rfl⟩
theorem State.hostMem_stopping (s : State) (m : List Host.Cell) : s.StoppingOnly { s with hostMem := m } := ⟨rfl⟩
theorem State.bump_stopping (s : State) : s.StoppingOnly s.bump := ⟨rfl⟩
theorem State.note_stopping (s : State) (k : OpKey) (c : Code) (f : BitVec 16) : s.StoppingOnly (s.note k c f) := ⟨rfl⟩
theorem State.latchEnd_stopping (s : State) (k : OpKey) (c : Code) (v : Word) : s.StoppingOnly (s.latchEnd k c v) := ⟨rfl⟩

/-! ## Bytes of a unit -/

theorem State.meet_stopping (s : State) (k : OpKey) (l : List Nat) : s.StoppingOnly (s.meet k l) := by
  unfold State.meet
  extract_lets accepted
  have accepting : s.StoppingOnly accepted := .foldl (fun s n => by
    rcases s.accept_form k n with h | h <;> rw [h]
    · exact .refl s
    · exact s.onSlot_stopping _ _ _ _) _ s
  have noting (s : State) (e : Code × BitVec 16) : s.StoppingOnly (s.note k e.1 e.2) := s.note_stopping k e.1 e.2
  exact accepting.trans (.foldl noting _ accepted)

theorem State.badUnits_stopping (s : State) (k : OpKey) (l : List Nat) : s.StoppingOnly (s.badUnits k l) :=
  .foldl (fun s a => (s.memFault_only k.1 a).stopping.trans (State.note_stopping _ k _ _)) _ s

theorem State.unitRead_stopping (s : State) (k : OpKey) (l : List Nat) : s.StoppingOnly (s.unitRead k l).1 :=
  ((s.meet_stopping k l).trans (State.badUnits_stopping _ k l)).trans (State.countCorrected_only _ l).stopping

theorem State.unitWrite_stopping (s : State) (k : OpKey) (l : List (Nat × Byte)) : s.StoppingOnly (s.unitWrite k l).1 := by
  unfold State.unitWrite
  extract_lets met ok noted good addrs merged torn cleared written
  have noting : met.StoppingOnly noted := by
    unfold noted
    split
    · exact met.note_stopping k _ _
    · exact .refl met
  have merging : noted.StoppingOnly merged := (noted.countCorrected_only _).stopping
  have clearing : merged.StoppingOnly cleared := merged.badUnits_stopping k _
  clear_value cleared
  have storing : cleared.StoppingOnly written := cleared.onMem_stopping _
  exact (((s.meet_stopping k _).trans noting).trans merging).trans (clearing.trans storing)

theorem State.matRead_stopping (s : State) (k : OpKey) (site base : Nat) (offs : List Nat) : s.StoppingOnly (s.matRead k site base offs).1 :=
  s.unitRead_stopping k _

/-! ## A MATRIX -/

theorem State.drift_stopping (s : State) (r k counter threshold off : Nat) (old new : List Byte) :
    s.StoppingOnly (s.drift r k counter threshold off old new) := by
  unfold State.drift
  extract_lets i counted
  split
  · exact (s.onDie_stopping (k / 256) _).trans (counted.regionEvent_only r 2 _ _).stopping
  · exact .refl s

theorem State.applyStats_stopping (s : State) (k : OpKey) (o : Op) (q : Quant) (l : List Drained) :
    s.StoppingOnly (s.applyStats k o q l) := by
  unfold State.applyStats
  extract_lets site read old new written
  split
  · exact .refl s
  · have reading : s.StoppingOnly written.1 := (s.matRead_stopping k site q.statOff _).trans (read.1.unitWrite_stopping k _)
    exact (reading.trans (State.drift_stopping ..)).trans (State.drift_stopping ..)

theorem State.drainRows_stopping (s : State) (k : OpKey) (o : Op) (m : MatRun) (rows : Option Nat) :
    s.StoppingOnly (s.drainRows k o m rows).1 := by
  unfold State.drainRows
  dsimp only
  split
  · split
    · exact s.unitWrite_stopping k _
    · exact .refl s
  · exact s.unitWrite_stopping k _

theorem State.drainCut_stopping (s : State) (k : OpKey) (o : Op) (m : MatRun) (code : Code) : s.StoppingOnly (s.drainCut k o m code) := by
  unfold State.drainCut
  extract_lets n drained counted
  have counting : s.StoppingOnly counted := by
    refine (s.drainRows_stopping k o m (some n)).trans ?_
    unfold counted
    split
    · exact State.bump_stopping _
    · exact (State.bump_stopping _).trans (State.applyStats_stopping ..)
  exact (counting.trans (counted.onSlot_stopping _ _ _ _)).trans (State.latchEnd_stopping ..)

theorem State.revokeMatrix_stopping (s : State) (r : Nat) (sl : Slot) (m : MatRun) : s.StoppingOnly (s.revokeMatrix r sl m) := by
  unfold State.revokeMatrix
  extract_lets k
  split
  · exact (s.onSite_stopping _ _).trans (State.drainCut_stopping ..)
  · split
    · exact s.note_stopping k _ 0
    · exact (s.onSite_stopping _ _).trans (State.latchEnd_stopping ..)

/-! ## A TASK and its row -/

theorem State.rowOutputs_stopping (s : State) (key : OpKey) (row : Row) (dst : List Nat) (res : RowResult) (m : Nat) :
    s.StoppingOnly (s.rowOutputs key row dst res m).1 :=
  .trans (t := { s with mem := (s.mem.writeCells (dst.zip ((res.out.take m).flatMap (leBytes row.outSize)))).1 }) ⟨rfl⟩
    (.foldl (fun s _ => s.onSlot_stopping _ _ _ _) _ _)

theorem State.whenP_stopping {s : State} {c : Bool} {f : State → State} (h : s.StoppingOnly (f s)) : s.StoppingOnly (s.whenP c f) := by
  cases c
  · exact .refl s
  · exact h

theorem State.abandonRow_stopping (s : State) (k th : Nat) : s.StoppingOnly (s.abandonRow k th) := by
  unfold State.abandonRow
  split
  case h_1 h _ =>
    refine State.whenP_stopping ?_
    extract_lets x row cut
    have cutting : s.StoppingOnly cut := by
      unfold cut
      split
      · split
        · exact .refl s
        · exact (s.rowOutputs_stopping ..).trans (State.bump_stopping _)
      · exact .refl s
    exact cutting.trans (cut.onSite_stopping ..)
  case h_2 => exact .refl s

theorem State.trapOf_stopping (s : State) (key : OpKey) (k th : Nat) (code : Code) (fault : BitVec 16) :
    s.StoppingOnly (s.trapOf key k th code fault) := by
  unfold State.trapOf
  split
  case h_1 sl _ =>
    extract_lets ts trapped
    have trapping : s.StoppingOnly trapped := s.onSlot_stopping _ _ _ _
    split
    · have abandoning (s : State) (t : Nat × Nat) : s.StoppingOnly (s.abandonRow t.1 t.2) := s.abandonRow_stopping t.1 t.2
      exact trapping.trans (.foldl abandoning _ _)
    · exact trapping
  case h_2 => exact .refl s

theorem State.revokeTask_stopping (s : State) (r : Nat) (sl : Slot) (t : TaskRun) : s.StoppingOnly (s.revokeTask r sl t) := by
  unfold State.revokeTask
  split
  · split
    · exact .refl s
    · exact s.trapOf_stopping _ _ _ _ _
  · exact s.latchEnd_stopping _ _ _

/-! ## A COPY -/

theorem State.cutEnd_stopping (s : State) (k : OpKey) (c : Code) (f : BitVec 16) : s.StoppingOnly (s.cutEnd k c f) := ⟨rfl⟩

theorem State.cutCopy_stopping (s : State) (r : Nat) (sl : Slot) (c : Code) (f : BitVec 16) : s.StoppingOnly (s.cutCopy r sl c f) := by
  unfold State.cutCopy
  extract_lets k o free bumped
  split
  case h_1 => exact s.bump_stopping.trans (State.cutEnd_stopping ..)
  case h_2 sp dp _ =>
    extract_lets rd read moved chosen cells
    have reading : s.StoppingOnly read := by
      refine State.StoppingOnly.trans (t := bumped) s.bump_stopping ?_
      unfold read rd
      split
      · exact bumped.unitRead_stopping k _
      · exact .refl bumped
    clear_value read
    split
    · extract_lets w recorded
      have writing : s.StoppingOnly w.1 := reading.trans (read.unitWrite_stopping k _)
      exact (writing.trans (State.onSlot_stopping ..)).trans (State.cutEnd_stopping ..)
    · exact ((reading.trans (read.hostMem_stopping _)).trans (State.onSlot_stopping ..)).trans (State.cutEnd_stopping ..)

/-! ## An operation of an old epoch -/

theorem State.revokeOp_stopping (s : State) (r : Nat) (sl : Slot) : s.StoppingOnly (s.revokeOp r sl) := by
  have now (c : Code) (v : Word) (f : BitVec 16) : s.StoppingOnly (s.finish r sl.op.queue sl.op.seq c v f) :=
    (s.finish_ending _ _ _ _ _ _).stopping
  unfold State.revokeOp
  extract_lets o done
  split
  case h_1 | h_2 | h_3 => exact now _ _ _
  case h_4 => exact .refl s
  case h_5 =>
    split
    case h_1 => exact s.cutCopy_stopping r sl _ _
    case h_2 =>
      split
      · exact s.revokeTask_stopping r sl _
      · exact now _ _ _
    case h_3 | h_4 => exact s.onSlot_stopping _ _ _ _
    case h_5 =>
      split
      · exact s.revokeMatrix_stopping r sl _
      · exact now _ _ _
    case h_6 => exact (s.onSlot_stopping _ _ _ _).trans (State.latchEnd_stopping ..)
    case h_7 => exact now _ _ _

theorem State.applyRevocation_stopping (s : State) (r : Nat) : s.StoppingOnly (s.applyRevocation r) := by
  unfold State.applyRevocation
  split
  case h_1 => exact .refl s
  case h_2 v _ =>
    split
    · exact .refl s
    · split
      · exact s.onRegion_stopping r _
      · extract_lets old applied cut
        have cutting : s.StoppingOnly cut := by
          have applying : s.StoppingOnly applied := s.onRegion_stopping r _
          refine applying.trans ?_
          unfold cut
          split
          · exact applied.onRegion_stopping r _
          · exact .refl applied
        exact cutting.trans (.foldl (fun s sl => s.revokeOp_stopping r sl) old cut)

end Sys2Proof.Machine
end

section
/-!
SUPPORT. The functions' records through an unload of the image, and through VF Enable (21 R779-R782, R803-R805).
-/
namespace Sys2Proof.Machine

/-! ## What an unload of the image leaves of the functions -/

theorem State.StoppingOnly.funcs {s t : State} (h : s.StoppingOnly t) : t.dev.hst.funcs = s.dev.hst.funcs := by rw [h.frame]

theorem State.EventOnly.funcs {s t : State} (h : s.EventOnly t) : t.dev.hst.funcs = s.dev.hst.funcs := h.stopping.funcs

theorem State.ApplyOnly.funcs {s t : State} (h : s.ApplyOnly t) : t.dev.hst.funcs = s.dev.hst.funcs := by rw [h.2]

theorem funcs_foldl {α : Type} {f : State → α → State} (step : ∀ s a, (f s a).dev.hst.funcs = s.dev.hst.funcs) (l : List α) (s : State) :
    (l.foldl f s).dev.hst.funcs = s.dev.hst.funcs :=
  List.foldlRecOn l f (motive := fun t => t.dev.hst.funcs = s.dev.hst.funcs) rfl fun t h a _ => (step t a).trans h

theorem State.syncOutRest_funcs (s : State) : s.syncOutRest.dev.hst.funcs = s.dev.hst.funcs := by rw [State.syncOutRest_frame]

theorem State.resetBegin_funcs (s : State) (r : Nat) : (s.resetBegin r).dev.hst.funcs = s.dev.hst.funcs :=
  (State.applyRevocation_stopping _ r).funcs

theorem State.endRevoked_funcs (s : State) (r : Nat) : (s.endRevoked r).dev.hst.funcs = s.dev.hst.funcs := by
  refine (State.flushDues_ending _ r).stopping.funcs.trans (funcs_foldl (fun s sl => ?_) _ s)
  split <;> exact (State.finish_ending ..).stopping.funcs

theorem State.resetDomains_funcs (s : State) (r : Nat) : (s.resetDomains r).dev.hst.funcs = s.dev.hst.funcs := by
  unfold State.resetDomains
  split
  · rfl
  · exact (s.toIvory_apply _).funcs

theorem State.zeroDram_funcs (s : State) (r : Nat) : (s.zeroDram r).dev.hst.funcs = s.dev.hst.funcs := by
  unfold State.zeroDram
  refine (funcs_foldl (fun s q => ?_) _ _).trans (funcs_foldl (fun s g => ?_) _ s)
  · split
    · split <;> rfl
    · rfl
  · split <;> rfl

theorem State.endTrace_funcs (s : State) (r : Nat) : (s.endTrace r).dev.hst.funcs = s.dev.hst.funcs := by
  unfold State.endTrace
  split <;> rfl

theorem State.releaseShared_funcs (s : State) (r : Nat) : (s.releaseShared r).dev.hst.funcs = s.dev.hst.funcs :=
  State.syncOutRest_funcs _

theorem State.regionReset_funcs (s : State) (r : Nat) : (s.regionReset r).dev.hst.funcs = s.dev.hst.funcs := by
  unfold State.regionReset
  extract_lets settled keys cleared wiped epochs bare unqueued unattested written
  have settling : settled.dev.hst.funcs = s.dev.hst.funcs :=
    (State.resetDomains_funcs _ r).trans (s.flushDues_ending r).stopping.funcs
  have writing : written.dev.hst.funcs = settled.dev.hst.funcs := (State.writeTables_entry unattested _).apply.funcs
  rw [State.endTrace_funcs, State.releaseShared_funcs, State.zeroDram_funcs]
  exact writing.trans settling

theorem State.restoreEngines_funcs (s : State) (r : Nat) : (s.restoreEngines r).dev.hst.funcs = s.dev.hst.funcs :=
  funcs_foldl (fun s d => by dsimp only; split <;> split <;> rfl) _ s

theorem State.relock_funcs (s : State) (r : Nat) : (s.relock r).dev.hst.funcs = s.dev.hst.funcs := by
  unfold State.relock
  extract_lets locked relocked
  refine (relocked.restoreEngines_funcs r).trans (funcs_foldl (fun s k => ?_) _ locked)
  split <;> rfl

theorem State.checkTables_nil (s : State) (r : Nat) : s.checkTables r [] = s := by simp [State.checkTables]

theorem State.TestsOnly.funcs {s t : State} (h : s.TestsOnly t) : t.dev.hst.funcs = s.dev.hst.funcs := by rw [h.2]

/-- The end of a reset whose clocks and tests are in order. -/
theorem State.regionResetEnd_funcs (s : State) (r : Nat) : (s.regionResetEnd r true true ⟨[], []⟩).dev.hst.funcs = s.dev.hst.funcs := by
  have ended : s.regionResetEnd r true true ⟨[], []⟩ =
      ((((s.onRAux r fun a => { a with resetBusy := false }).relock r).checkTables r []).checkNoise r []).bothEvent r 6
        Codes.REGION_RESET_DONE r := by
    unfold State.regionResetEnd
    dsimp only [↓reduceIte]
    split
    · contradiction
    · rfl
  rw [ended, State.bothEvent, (State.eventAll_only _ [r] _ _ _).funcs, (State.checkNoise_passes _ r).funcs, State.checkTables_nil,
    State.relock_funcs]
  rfl

theorem State.unloadImage_funcs (s : State) : s.unloadImage.dev.hst.funcs =
    s.dev.hst.funcs.map fun e => if e.1 = 0 then e else (e.1, { e.2 with enabled := false }) := by
  unfold State.unloadImage
  extract_lets bare
  have kept : bare.dev.hst.funcs = s.dev.hst.funcs := funcs_foldl (fun s r => by
    rw [State.regionResetEnd_funcs, State.regionReset_funcs, State.endRevoked_funcs, State.resetBegin_funcs]) _ s
  rw [← kept]
  simp only [State.dropImage]
  rw [State.syncOutRest_frame]
  rfl

end Sys2Proof.Machine
end

section
/-!
SUPPORT. Virtual functions, function resets, power states and bus mastering (21 R779-R782, R798, R803-R805).
-/
namespace Sys2Proof.Machine

/-! ## VF Enable -/

theorem mem_upFrom {a n k : Nat} : k ∈ upFrom a n ↔ a ≤ k ∧ k < a + n := by
  simp only [upFrom, List.mem_map, List.mem_range]
  constructor
  · rintro ⟨i, small, rfl⟩
    omega
  · rintro ⟨low, high⟩
    exact ⟨k - a, by omega, by omega⟩

/-- One virtual function under VF Enable and NumVFs. -/
def State.enableVf (on : Bool) (n : Nat) (s : State) (k : Nat) : State :=
  if (s.func k).enabled == (on && k ≤ n) then s else s.onFunc k fun f => { f with enabled := on && k ≤ n }

theorem State.enableVfs_def (s : State) (on : Bool) (n : Nat) : s.enableVfs on n =
    (upFrom 1 32).foldl (State.enableVf on n) (s.onHst fun h => { h with vfEnable := on, numVFs := n }) := rfl

theorem State.enableVf_frame (s : State) (on : Bool) (n k : Nat) :
    s.enableVf on n k = { s with dev := { s.dev with hst := { s.dev.hst with funcs := (s.enableVf on n k).dev.hst.funcs } } } := by
  unfold State.enableVf
  split <;> rfl

theorem State.func_enableVf (s : State) (on : Bool) (n k : Nat) :
    (s.enableVf on n k).func k = { s.func k with enabled := on && k ≤ n } := by
  unfold State.enableVf
  split
  case isTrue same => rw [← eq_of_beq same]
  case isFalse => exact s.func_onFunc k _

theorem State.func_enableVf_other (s : State) (on : Bool) (n : Nat) {k j : Nat} (other : k ≠ j) :
    (s.enableVf on n k).func j = s.func j := by
  unfold State.enableVf
  split
  · rfl
  · exact s.func_onFunc_other _ other

theorem enableAll (on : Bool) (n : Nat) (l : List Nat) : ∀ s : State,
    (l.foldl (State.enableVf on n) s =
      { s with dev := { s.dev with hst := { s.dev.hst with funcs := (l.foldl (State.enableVf on n) s).dev.hst.funcs } } }) ∧
    ∀ k, (l.foldl (State.enableVf on n) s).func k = if k ∈ l then { s.func k with enabled := on && k ≤ n } else s.func k := by
  induction l with
  | nil => simp
  | cons j l ih =>
    intro s
    obtain ⟨frame, funcs⟩ := ih (s.enableVf on n j)
    refine ⟨?_, fun k => ?_⟩
    · rw [List.foldl_cons, frame, s.enableVf_frame]
    · rw [List.foldl_cons, funcs]
      by_cases same : j = k
      · subst same
        simp [State.func_enableVf]
      · simp [s.func_enableVf_other on n same, Ne.symm same]

theorem State.enableVfs_frame (s : State) (on : Bool) (n : Nat) : s.enableVfs on n = { s with dev := { s.dev with
    hst := { s.dev.hst with vfEnable := on, numVFs := n, funcs := (s.enableVfs on n).dev.hst.funcs } } } := by
  rw [State.enableVfs_def]
  generalize upFrom 1 32 = l
  exact (enableAll on n l _).1

theorem State.enableVfs_hst (s : State) (on : Bool) (n : Nat) :
    s.enableVfs on n = { s with dev := { s.dev with hst := (s.enableVfs on n).dev.hst } } := by rw [State.enableVfs_frame]

theorem State.func_enableVfs (s : State) (on : Bool) (n k : Nat) :
    (s.enableVfs on n).func k = if 1 ≤ k ∧ k ≤ 32 then { s.func k with enabled := on && k ≤ n } else s.func k := by
  have range : k ∈ upFrom 1 32 ↔ 1 ≤ k ∧ k ≤ 32 := by
    rw [mem_upFrom]
    omega
  rw [State.enableVfs_def, (enableAll on n _ _).2 k]
  simp only [range]
  rfl

/-! ## The functions after an unload -/

theorem get_disabled (l : Tab Func) (k : Nat) :
    Tab.get {} (l.map fun e => if e.1 = 0 then e else (e.1, { e.2 with enabled := false })) k =
      if k = 0 then Tab.get {} l 0 else { Tab.get {} l k with enabled := false } := by
  induction l with
  | nil => simp [Tab.get]
  | cons e l ih =>
    obtain ⟨j, f⟩ := e
    by_cases first : j = k
    · subst first
      by_cases zero : j = 0 <;> simp [Tab.get, zero]
    · by_cases zero : j = 0
      · subst zero
        simp only [List.map_cons, if_true, Tab.get, first, if_false, ih, Ne.symm first]
      · simp only [List.map_cons, zero, if_false, Tab.get, first, ih]

theorem State.func_unloadImage (s : State) (k : Nat) :
    s.unloadImage.func k = if k = 0 then s.func 0 else { s.func k with enabled := false } := by
  rw [State.func, State.unloadImage_funcs, get_disabled]
  rfl

theorem State.unloadImage_leaves (s : State) :
    s.unloadImage.dev.hst.vfEnable = false ∧ s.unloadImage.fab.image = none ∧ s.unloadImage.dev.boot.stage = .awaitImage := by
  unfold State.unloadImage
  extract_lets bare
  obtain ⟨boot, -, -, -, image⟩ := bare.dropImage_leaves
  refine ⟨?_, image, congrArg (·.stage) boot⟩
  simp only [State.dropImage]
  rw [State.syncOutRest_frame]
  rfl

/-! ## The commands -/

section Commands
variable {s : State} (up : s.dev.hst.linkUp = true) (serves : s.dev.boot.stage.hostUp = true)
include up serves

theorem configReach_of_up : s.configReach = true := by simp [State.configReach, up, serves]

theorem vfEnableWrite_writes (en : Bool) (n : Fin 33) (may : en = false ∨ s.dev.boot.stage = .running) :
    Completes (.vfEnableWrite en n) s fun t =>
      (∀ k, 1 ≤ k → k ≤ 32 → t.func k = { s.func k with enabled := en && decide (k ≤ n.val) }) ∧ t.func 0 = s.func 0 ∧
      t.dev.hst.vfEnable = en ∧ t.dev.hst.numVFs = n.val ∧ t = { s with dev := { s.dev with hst := t.dev.hst } } := by
  have open_ : (s.configReach && (!en || s.running)) = true := by
    rcases may with h | h <;> simp [configReach_of_up up serves, State.running, h]
  obtain ⟨t, written⟩ : ∃ t, s.enableVfs en n.val = t := ⟨_, rfl⟩
  have frame := s.enableVfs_frame en n.val
  have dev := s.enableVfs_hst en n.val
  have funcs := s.func_enableVfs en n.val
  rw [written] at frame dev
  simp only [written] at funcs
  refine completes_of_devEffect rfl ((s.whenP_pos _ open_).trans written) ⟨fun k low high => ?_, ?_, ?_, ?_, ?_⟩
  · rw [State.devEffect_func, funcs, if_pos ⟨low, high⟩]
  · rw [State.devEffect_func, funcs, if_neg (by omega)]
  · exact congrArg (·.dev.hst.vfEnable) frame
  · exact congrArg (·.dev.hst.numVFs) frame
  · rw [State.devEffect, dev]

theorem vfFlr_resets (r : RegionId) (enabled : (s.func (r.val + 1)).enabled = true) : Completes (.vfFlr r) s fun t =>
      t.func (r.val + 1) = { enabled := true, sentMsgs := (s.func (r.val + 1)).sentMsgs } ∧ (∀ k, k ≠ r.val + 1 → t.func k = s.func k) ∧
      (s.dev.boot.stage = .running → s.defined r.val = true → (s.region r.val).aux.resetBusy = false →
        t.region r.val = { s.region r.val with aux := { (s.region r.val).aux with resetAsked := true } }) ∧
      (∀ p, p ≠ r.val → t.region p = s.region p) ∧ t.mem = s.mem ∧ s.KeepsStore t := by
  let cleared := s.resetFunc (r.val + 1)
  let asks := cleared.running && cleared.defined r.val && !(s.region r.val).aux.resetBusy
  let asked := if asks then cleared.onRAux r.val fun a => { a with resetAsked := true } else cleared
  have funcs (k : Nat) : asked.func k = cleared.func k := by
    unfold asked
    split <;> rfl
  have others (p : Nat) (other : p ≠ r.val) : asked.region p = s.region p := by
    unfold asked
    split
    · exact State.region_onRAux_other cleared _ other.symm
    · rfl
  have bytes : asked.mem = s.mem := by
    unfold asked
    split <;> rfl
  refine completes_of_effect (t := asked.pfEvent 6 Codes.HST_VF_FLR (r.val + b2n (s.region r.val).aux.resetBusy * 2 ^ 5)) rfl
    (s.whenP_pos _ (by simp [configReach_of_up up serves, enabled]))
    ⟨?_, fun k other => ?_, fun runs defined idle => ?_, fun p other => ?_, ?_, s.effect_keepsStore _⟩
  · rw [State.effect_func, State.func_pfEvent, funcs]
    exact (s.func_onFunc _ _).trans (by rw [enabled])
  · rw [State.effect_func, State.func_pfEvent, funcs]
    exact s.func_onFunc_other _ other.symm
  · have asking : asks = true := by
      have running : cleared.running = true := decide_eq_true runs
      have known : cleared.defined r.val = true := defined
      simp [asks, running, known, idle]
    rw [State.effect_region, State.region_pfEvent, show asked = _ from if_pos asking]
    exact cleared.region_onRAux _ _
  · rw [State.effect_region, State.region_pfEvent, others p other]
  · exact (State.pfEvent_mem ..).trans bytes

theorem pfFlr_resets : Completes .pfFlr s fun t =>
      t.func 0 = { enabled := (s.func 0).enabled, sentMsgs := (s.func 0).sentMsgs } ∧ t.dev.hst.vfEnable = false ∧
      (∀ k, 1 ≤ k → k ≤ 32 → (t.func k).enabled = false) ∧
      (s.dev.boot.stage = .running → t.fab.image = none ∧ t.dev.boot.stage = .awaitImage ∧ t.dev.boot.imageResult = Codes.OK) ∧
      (s.dev.boot.stage ≠ .running → t.fab = s.fab ∧ t.mem = s.mem) ∧ s.KeepsStore t := by
  obtain ⟨bare, cleared⟩ : ∃ t, (s.resetFunc 0).enableVfs false 0 = t := ⟨_, rfl⟩
  have bareFrame := (s.resetFunc 0).enableVfs_frame false 0
  have funcs := (s.resetFunc 0).func_enableVfs false 0
  rw [cleared] at bareFrame
  simp only [cleared] at funcs
  have own : bare.func 0 = { enabled := (s.func 0).enabled, sentMsgs := (s.func 0).sentMsgs } := by
    rw [funcs, if_neg (by omega)]
    exact s.func_onFunc 0 _
  have stage : bare.dev.boot.stage = s.dev.boot.stage := by rw [bareFrame]; rfl
  have step : s.whenP s.configReach (fun s => if ((s.resetFunc 0).enableVfs false 0).running then
      ((s.resetFunc 0).enableVfs false 0).unloadImage.imageEnd Codes.OK else (s.resetFunc 0).enableVfs false 0) =
      if bare.running then bare.unloadImage.imageEnd Codes.OK else bare :=
    cleared ▸ s.whenP_pos _ (configReach_of_up up serves)
  refine completes_of_effect rfl step ?_
  by_cases runs : s.dev.boot.stage = .running
  · have runs' : bare.running = true := decide_eq_true (stage.trans runs)
    rw [runs', if_pos rfl]
    obtain ⟨disabled, noImage, awaits⟩ := bare.unloadImage_leaves
    refine ⟨?_, disabled, fun k low high => ?_, fun _ => ⟨noImage, awaits, rfl⟩, fun idle => absurd runs idle, s.effect_keepsStore _⟩
    · exact (bare.func_unloadImage 0).trans own
    · exact (congrArg Func.enabled (bare.func_unloadImage k)).trans (by rw [if_neg (by omega)])
  · have rests : bare.running = false := decide_eq_false (by rwa [stage])
    rw [rests, if_neg Bool.false_ne_true]
    refine ⟨own, ?_, fun k low high => ?_, fun h => absurd h runs, fun _ => ⟨?_, ?_⟩, s.effect_keepsStore _⟩
    · exact congrArg (·.dev.hst.vfEnable) bareFrame
    · rw [State.effect_func, funcs, if_pos ⟨low, high⟩]
      rfl
    · exact congrArg (·.fab) bareFrame
    · exact congrArg (·.mem) bareFrame

/-- A function that exists for configuration requests. -/
theorem funcConfig_of_exists {f : FnId} (exists_ : f = 0 ∨ (s.func f.val).enabled = true) : s.funcConfig f.val = true := by
  rcases exists_ with rfl | h
  · simp [State.funcConfig, configReach_of_up up serves]
  · simp [State.funcConfig, configReach_of_up up serves, h]

end Commands

theorem Func.release_keeps (f : Func) : f.release.busMaster = f.busMaster ∧ f.release.d3hot = f.d3hot ∧ f.release.msix = f.msix := by
  rw [Func.release_frame]
  exact ⟨rfl, rfl, rfl⟩

end Sys2Proof.Machine
end

section
/-!
CERTIFICATE. Virtual functions, function resets, power states and bus mastering.
-/
namespace Sys2Proof.Machine

/-- Settles O48: one lemma for each command; `Func.release_pba` says which pending bits go out. -/
theorem functionsAreConfigured : Obligations.FunctionsAreConfigured := by
  intro s en v n r f up serves
  refine ⟨vfEnableWrite_writes up serves en n, fun on idle => exec_devStays rfl (s.whenP_neg _ (by simp [on, State.running, idle])),
    vfFlr_resets up serves r, pfFlr_resets up serves, fun h => completes_onFunc (g := fun x => { x with d3hot := true }) rfl (funcConfig_of_exists up serves h), fun h => ?_, fun h => ?_⟩
  · obtain ⟨t, run, func, rest⟩ := completes_onFunc (i := .powerStateD0 f) (g := fun x => { x with d3hot := false }.release) rfl
      (funcConfig_of_exists up serves h)
    obtain ⟨bus, awake, table⟩ := Func.release_keeps { s.func f.val with d3hot := false }
    rw [← func] at bus awake table
    refine ⟨t, run, awake, bus, table, fun i inside => ?_, rest⟩
    rw [func, Func.release_pba _ inside]
    simp [Func.sends, Func.masked, Func.entry]
  · obtain ⟨t, run, func, rest⟩ := completes_onFunc (i := .busMasterEnableWrite f v) (g := fun x => { x with busMaster := v }.release) rfl
      (funcConfig_of_exists up serves h)
    obtain ⟨bus, awake, table⟩ := Func.release_keeps { s.func f.val with busMaster := v }
    rw [← func] at bus awake table
    refine ⟨t, run, bus, awake, table, fun i inside => ?_, rest⟩
    rw [func, Func.release_pba _ inside]
    simp [Func.sends, Func.masked, Func.entry]

end Sys2Proof.Machine
end

section
/-!
SUPPORT. The loss of the host link and its return (05 R131, R142, R151; 21 R801, R802).
-/
namespace Sys2Proof.Machine

/-! ## The reset of the package -/

theorem State.toIvory_frame (s : State) (l : List Nat) : s.toIvory l = { s with dev := { s.dev with pwr := (s.toIvory l).dev.pwr } } := by
  obtain ⟨p, form⟩ := State.toIvory_form l s
  rw [form]

theorem State.bootDomains_frame (s : State) : s.bootDomains = { s with dev := { s.dev with pwr := s.bootDomains.dev.pwr } } := by
  unfold State.bootDomains
  split
  · simp only [List.foldl_cons, List.foldl_nil]
    rw [State.toIvory_frame]
    rfl
  · exact s.toIvory_frame _

theorem State.startBoot_leaves (s : State) :
    s.startBoot.dev.boot = { s.dev.boot with stage := .rom, releaseTick := s.tick, watchdogOn := false } ∧
    s.startBoot.dev.hst = { s.dev.hst with linkUp := false } ∧ s.startBoot.dev.clk = s.dev.clk ∧ s.startBoot.mem = s.mem ∧
    s.startBoot.fab = s.fab := by
  unfold State.startBoot
  rw [State.bootDomains_frame]
  exact ⟨rfl, rfl, rfl, rfl, rfl⟩

theorem State.hostReleaseTrip_frame (s : State) :
    s.hostReleaseTrip = { s with dev := { s.dev with aux := s.hostReleaseTrip.dev.aux } } := by
  unfold State.hostReleaseTrip
  split <;> rfl

/-- A host-initiated reset that no other cause holds boots at once. -/
theorem State.hostPulse_boots {s : State} (free : s.NoOtherCause false false false false) :
    s.hostPulse.dev.boot.stage = .rom ∧ s.hostPulse.dev.boot.rcHost = true ∧ s.hostPulse.mem = {} ∧ s.hostPulse.fab.image = none ∧
    s.hostPulse.dev.hst.linkDowns = s.dev.hst.linkDowns ∧ s.hostPulse.dev.clk.tick = s.dev.clk.tick := by
  obtain ⟨rail, overV, board, host, test⟩ := free
  unfold State.hostPulse
  extract_lets pulsed caused
  have released : caused.hostReleaseTrip.resetCaused = false := by
    rw [State.hostReleaseTrip_frame]
    have causes : caused.resetCaused = (s.dev.boot.causeRail || s.dev.boot.causeOver || s.dev.boot.causeBoard || s.dev.boot.causeHost ||
      jtagHolds s.dev.dbg.ir) := rfl
    exact causes.trans (by simp [rail, overV, board, host, test])
  rw [State.tryBoot, released, if_neg Bool.false_ne_true]
  obtain ⟨boot, hst, clk, mem, fab⟩ := caused.hostReleaseTrip.startBoot_leaves
  rw [boot, hst, clk, mem, fab, State.hostReleaseTrip_frame]
  exact ⟨rfl, rfl, rfl, rfl, rfl, rfl⟩

theorem hostLinkDown_resets {s : State} (up : s.dev.hst.linkUp = true) (resets : s.dev.hst.linkDownReset = true)
    (free : s.NoOtherCause false false false false) : Completes .hostLinkDown s fun t =>
      t.dev.boot.stage = .rom ∧ t.dev.boot.rcHost = true ∧ t.mem = {} ∧ t.fab.image = none ∧
      t.dev.hst.linkDowns = satAdd s.dev.hst.linkDowns 1 ∧ t.dev.clk.tick = s.dev.clk.tick ∧ s.KeepsStore t := by
  let counted := s.onHst fun h => { h with linkDowns := satAdd h.linkDowns 1 }
  obtain ⟨stage, cause, mem, image, downs, tick⟩ := State.hostPulse_boots (s := counted) free
  exact completes_of_effect rfl ((s.whenP_pos _ up).trans (if_pos resets))
    ⟨stage, cause, mem, image, downs, tick, s.effect_keepsStore _⟩

/-! ## A loss that resets nothing -/

theorem get_configReset (l : Tab Func) (k : Nat) :
    Tab.get {} (l.map fun e => (e.1, e.2.configReset)) k = (Tab.get {} l k).configReset := by
  induction l with
  | nil => rfl
  | cons e l ih =>
    simp only [List.map_cons, Tab.get, ih]
    split <;> rfl

/-- What a lost link leaves: the hub's host and fault registers and what waits to be raised. -/
theorem State.loseHost_frame (s : State) : s.loseHost = { s with dev := { s.dev with
    hst := s.loseHost.dev.hst, faults := s.loseHost.dev.faults, aux := { s.dev.aux with linkDownPending := true } } } := rfl

theorem State.func_loseHost (s : State) (k : Nat) : s.loseHost.func k = (s.func k).configReset := get_configReset s.dev.hst.funcs k

theorem State.fetchEnds_frame (s : State) (c : Code) : s.fetchEnds c = { s with dev := { s.dev with
    boot := (s.fetchEnds c).dev.boot, noc := (s.fetchEnds c).dev.noc, aux := (s.fetchEnds c).dev.aux } } ∧
    (s.fetchEnds c).dev.aux.linkDownPending = s.dev.aux.linkDownPending := by
  unfold State.fetchEnds
  split <;> exact ⟨rfl, rfl⟩

theorem hostLinkDown_loses {s : State} (up : s.dev.hst.linkUp = true) (keeps : s.dev.hst.linkDownReset = false) :
    Completes .hostLinkDown s fun t =>
      t.dev.hst.linkUp = false ∧ t.dev.hst.linkDowns = satAdd s.dev.hst.linkDowns 1 ∧ t.dev.aux.linkDownPending = true ∧
      (∀ k, t.func k = { msix := (s.func k).msix, pba := (s.func k).pba, sentMsgs := (s.func k).sentMsgs }) ∧
      t.dev.hst.vfEnable = false ∧ t.dev.faults.count = satAdd s.dev.faults.count 1 ∧ t.dev.hst.pfEvt = s.dev.hst.pfEvt ∧
      (s.dev.aux.loading = some .load → t.dev.boot.stage = .awaitImage ∧ t.dev.boot.imageResult = Codes.HST_LINK_DOWN ∧ t.dev.aux.loading = none) ∧
      (s.dev.aux.loading = none → t.dev.boot = s.dev.boot ∧ t.dev.noc = s.dev.noc) ∧
      t = { s with dev := { s.dev with hst := t.dev.hst, faults := t.dev.faults, aux := t.dev.aux, boot := t.dev.boot, noc := t.dev.noc } } := by
  obtain ⟨frame, pending⟩ := s.loseHost.fetchEnds_frame Codes.HST_LINK_DOWN
  have hst := congrArg (·.dev.hst) frame
  refine completes_of_effect rfl ((s.whenP_pos _ up).trans (if_neg (by simp [keeps]))) ⟨?_, ?_, pending, fun k => ?_, ?_, ?_, ?_,
    fun loading => ?_, fun idle => ?_, ?_⟩
  · exact congrArg (·.linkUp) hst
  · exact congrArg (·.linkDowns) hst
  · rw [State.effect_func, frame]
    exact s.func_loseHost k
  · exact congrArg (·.vfEnable) hst
  · exact congrArg (·.dev.faults.count) frame
  · exact congrArg (·.pfEvt) hst
  · have lost : s.loseHost.dev.aux.loading = some .load := loading
    rw [State.fetchEnds_load lost, State.backToAwait_rejectImage]
    exact ⟨rfl, rfl, rfl⟩
  · have lost : s.loseHost.fetchEnds Codes.HST_LINK_DOWN = s.loseHost := by
      have none_ : s.loseHost.dev.aux.loading = none := idle
      rw [State.fetchEnds, none_]
    rw [lost]
    exact ⟨rfl, rfl⟩
  · rw [frame, State.loseHost_frame]
    rfl

/-! ## The link trains -/

/-- Raises a watchdog reset that waits. -/
def State.raiseWatchdog (s : State) : State :=
  if s.dev.aux.watchdogPending then
    ((s.assignFault Codes.WATCHDOG_RESET none 0 none).pfEvent 6 Codes.WATCHDOG_RESET 0).onAux fun a => { a with watchdogPending := false }
  else s

/-- Raises a lost link that waits. -/
def State.raiseLinkDown (s : State) : State :=
  if s.dev.aux.linkDownPending then
    (s.pfEvent 6 Codes.HST_LINK_DOWN s.dev.hst.linkDowns.toNat).onAux fun a => { a with linkDownPending := false }
  else s

theorem State.raiseWaiting_def (s : State) : s.raiseWaiting = s.raiseWatchdog.raiseLinkDown := rfl

/-- `t` differs from `s` in what raising an event of the physical function writes, in the fault registers and in what waits. -/
structure State.RaiseOnly (s t : State) : Prop where
  frame : t = { s with
    hostMem := t.hostMem
    dev := { s.dev with hst := { s.dev.hst with pfEvt := t.dev.hst.pfEvt, pfIrq := t.dev.hst.pfIrq }, faults := t.dev.faults, aux := t.dev.aux } }

theorem State.RaiseOnly.trans {s t u : State} (h : s.RaiseOnly t) (k : t.RaiseOnly u) : s.RaiseOnly u := by
  constructor
  rw [k.frame, h.frame]

theorem State.pfEvent_raiseOnly (s : State) (kind : Nat) (c : Code) (d : Nat) : s.RaiseOnly (s.pfEvent kind c d) :=
  ⟨by rw [State.pfEvent_frame]⟩

theorem State.raiseWatchdog_raiseOnly (s : State) : s.RaiseOnly s.raiseWatchdog := by
  unfold State.raiseWatchdog
  split
  · exact (State.RaiseOnly.trans ⟨rfl⟩ (State.pfEvent_raiseOnly _ 6 _ 0)).trans ⟨rfl⟩
  · exact ⟨rfl⟩

theorem State.raiseLinkDown_raiseOnly (s : State) : s.RaiseOnly s.raiseLinkDown := by
  unfold State.raiseLinkDown
  split
  · exact (s.pfEvent_raiseOnly 6 _ _).trans ⟨rfl⟩
  · exact ⟨rfl⟩

theorem State.raiseWatchdog_done (s : State) : s.raiseWatchdog.dev.aux.watchdogPending = false := by
  unfold State.raiseWatchdog
  split
  · rfl
  case isFalse h => exact Bool.eq_false_iff.mpr h

theorem State.raiseLinkDown_done (s : State) : s.raiseLinkDown.dev.aux.linkDownPending = false ∧
    s.raiseLinkDown.dev.aux.watchdogPending = s.dev.aux.watchdogPending := by
  unfold State.raiseLinkDown
  split
  · simp
  case isFalse h => exact ⟨Bool.eq_false_iff.mpr h, rfl⟩

/-- The state whose link has trained, before what waits is raised. -/
def State.trained (s : State) (rate : BitVec 3) (width : BitVec 5) (flit : Bool) : State :=
  s.onHst fun h => { h with linkUp := true, rate := rate, width := width, flit := flit }

section Up
variable {s : State} (rate : BitVec 3) (width : BitVec 5) (flit : Bool) (booted : s.dev.boot.stage ≠ .reset) (past : s.dev.boot.stage ≠ .rom)
include booted past

theorem hostLinkUp_step : s.whenP s.dev.boot.stage.hostTrains (fun s =>
    (s.onHst fun h => { h with linkUp := true, rate := rate, width := width, flit := flit }).raiseWaiting) =
    (s.trained rate width flit).raiseWaiting := s.whenP_pos _ (by simp [Stage.hostTrains, booted, past])

theorem hostLinkUp_trains : Completes (.hostLinkUp rate width flit) s fun t =>
      t.dev.hst.linkUp = true ∧ t.dev.hst.rate = rate ∧ t.dev.hst.width = width ∧ t.dev.hst.flit = flit ∧
      t.dev.hst.linkDowns = s.dev.hst.linkDowns ∧ t.dev.aux.linkDownPending = false ∧ t.dev.aux.watchdogPending = false ∧
      (∀ k, t.func k = s.func k) ∧ t.mem = s.mem ∧ t.fab = s.fab ∧ s.KeepsStore t := by
  have only := (s.trained rate width flit).raiseWatchdog_raiseOnly.trans (State.raiseLinkDown_raiseOnly _)
  have frame := only.frame
  obtain ⟨quiet, keeps⟩ := (s.trained rate width flit).raiseWatchdog.raiseLinkDown_done
  refine completes_of_effect rfl (hostLinkUp_step rate width flit booted past) ⟨?_, ?_, ?_, ?_, ?_, quiet,
    keeps.trans (State.raiseWatchdog_done _), fun k => ?_, ?_, ?_, s.effect_keepsStore _⟩
  · exact congrArg (·.dev.hst.linkUp) frame
  · exact congrArg (·.dev.hst.rate) frame
  · exact congrArg (·.dev.hst.width) frame
  · exact congrArg (·.dev.hst.flit) frame
  · exact congrArg (·.dev.hst.linkDowns) frame
  · exact congrArg (Tab.get {} ·.dev.hst.funcs k) frame
  · exact congrArg (·.mem) frame
  · exact congrArg (·.fab) frame

theorem hostLinkUp_raises (noWatchdog : s.dev.aux.watchdogPending = false) (waits : s.dev.aux.linkDownPending = true)
    (enabled : s.dev.hst.pfEvt.enable = true) (room : s.dev.hst.pfEvt.full = false) : Completes (.hostLinkUp rate width flit) s fun t =>
      t.dev.hst.pfEvt = { s.dev.hst.pfEvt with tail := s.dev.hst.pfEvt.tail + 1 } := by
  refine completes_of_effect rfl (hostLinkUp_step rate width flit booted past) ?_
  have skipped : (s.trained rate width flit).raiseWatchdog = s.trained rate width flit := if_neg (by simp [State.trained, noWatchdog])
  rw [State.raiseWaiting_def, skipped, State.raiseLinkDown, if_pos (show (s.trained rate width flit).dev.aux.linkDownPending = true from waits)]
  exact (s.trained rate width flit).pfEvent_taken 6 _ _ enabled room

end Up

end Sys2Proof.Machine
end

section
/-!
CERTIFICATE. The loss of the host link and its return.
-/
namespace Sys2Proof.Machine

/-- Settles O47: one lemma for each way in which the link falls, and for what its return raises. -/
theorem hostLinkFallsAndTrains : Obligations.HostLinkFallsAndTrains := by
  intro s rate width flit
  exact ⟨hostLinkDown_resets, hostLinkDown_loses, fun down => exec_stays rfl (s.whenP_neg _ down), hostLinkUp_trains rate width flit,
    hostLinkUp_raises rate width flit⟩

end Sys2Proof.Machine
end

section
/-!
SUPPORT. What an event leaves of the regions' records beside their scheduling (21 R800, 23 R867).
-/
namespace Sys2Proof.Machine

/-- On the way from `s` to `t` no region's record but its scheduling and its last fault changed. -/
structure State.Tells (s t : State) : Prop where
  aux : ∀ p, (t.region p).aux = (s.region p).aux
  rev : ∀ p, (t.region p).rev = { (s.region p).rev with
    lastFaultId := (t.region p).rev.lastFaultId, lastFaultCode := (t.region p).rev.lastFaultCode
    lastFaultTick := (t.region p).rev.lastFaultTick }

/-- Where memory holds no stored error in `s`, it holds none in `t`, and no region's last fault changed on the way. -/
def State.KeepsRev (s t : State) : Prop := s.mem.marks = [] → t.mem.marks = [] ∧ ∀ p, (t.region p).rev = (s.region p).rev

theorem State.Tells.of_regions {s t : State} (same : t.fab.regions = s.fab.regions) : s.Tells t := by
  constructor <;> intro p <;> rw [State.region_congr same]

theorem State.Tells.refl (s : State) : s.Tells s := .of_regions rfl

theorem State.Tells.trans {s t u : State} (h : s.Tells t) (k : t.Tells u) : s.Tells u where
  aux p := (k.aux p).trans (h.aux p)
  rev p := by rw [k.rev p, h.rev p]

theorem State.KeepsRev.of_regions {s t : State} (marks : t.mem.marks = s.mem.marks) (same : t.fab.regions = s.fab.regions) : s.KeepsRev t :=
  fun h => ⟨marks.trans h, fun p => by rw [State.region_congr same]⟩

theorem State.KeepsRev.trans {s t u : State} (h : s.KeepsRev t) (k : t.KeepsRev u) : s.KeepsRev u := by
  intro clean
  obtain ⟨ht, rt⟩ := h clean
  obtain ⟨hu, ru⟩ := k ht
  exact ⟨hu, fun p => (ru p).trans (rt p)⟩

theorem State.onSched_rest (s : State) (r : Nat) (f : RegionSched → RegionSched) (p : Nat) :
    ((s.onSched r f).region p).aux = (s.region p).aux ∧ ((s.onSched r f).region p).rev = (s.region p).rev := by
  by_cases here : r = p
  · subst here
    simp
  · simp [State.region_onSched_other _ _ here]

theorem State.onSched_tells (s : State) (r : Nat) (f : RegionSched → RegionSched) : s.Tells (s.onSched r f) :=
  ⟨fun p => (s.onSched_rest r f p).1, fun p => by rw [(s.onSched_rest r f p).2]⟩

theorem State.onSched_keepsRev (s : State) (r : Nat) (f : RegionSched → RegionSched) : s.KeepsRev (s.onSched r f) :=
  fun clean => ⟨clean, fun p => (s.onSched_rest r f p).2⟩

theorem State.assignFault_tells (s : State) (c : Code) (o : Option Nat) (d : Nat) (x : Option Nat) : s.Tells (s.assignFault c o d x) := by
  cases o with
  | none => exact .of_regions rfl
  | some r =>
    refine ⟨fun p => ?_, fun p => ?_⟩ <;> by_cases here : r = p
    · subst here
      simp [State.assignFault]
      rfl
    · exact congrArg Region.aux (State.region_onRev_other _ _ here)
    · subst here
      simp only [State.assignFault, State.region_onRev]
      rfl
    · rw [show (s.assignFault c (some r) d x).region p = s.region p from State.region_onRev_other _ _ here]

theorem State.memCount_tells (s : State) (r a : Nat) : s.Tells (s.memCount r a) := by
  unfold State.memCount
  dsimp only
  split
  · exact s.assignFault_tells _ _ _ _
  · exact (s.assignFault_tells _ _ _ _).trans (.of_regions rfl)

theorem State.pfEvent_tells (s : State) (kind : Nat) (c : Code) (d : Nat) : s.Tells (s.pfEvent kind c d) := .of_regions (by simp)

theorem State.pfEvent_keepsRev (s : State) (kind : Nat) (c : Code) (d : Nat) : s.KeepsRev (s.pfEvent kind c d) :=
  .of_regions (by simp) (by simp)

theorem State.trace_fab (s : State) (r kind key queue status value item : Nat) :
    (s.trace r kind key queue status value item).fab = s.fab ∧ (s.trace r kind key queue status value item).mem = s.mem := by
  unfold State.trace
  dsimp only
  split <;> exact ⟨rfl, rfl⟩

theorem State.eventPut_tells (s : State) (r kind : Nat) (c : Code) (d : Nat) : s.Tells (s.eventPut r kind c d) := by
  unfold State.eventPut
  extract_lets ring written stored counted traced
  split
  · exact s.onSched_tells r _
  · split
    · exact s.onSched_tells r _
    · have put : s.Tells written.1 := .of_regions (State.regionRingStore_regions ..)
      have told : s.Tells stored := by
        unfold stored
        split
        · exact (put.trans (State.memCount_tells _ _ _)).trans (State.pfEvent_tells _ _ _ _)
        · exact put
      have counting : s.Tells counted := told.trans (stored.onSched_tells r _)
      have tracing : s.Tells traced := counting.trans (.of_regions (congrArg (·.regions) (State.trace_fab ..).1))
      exact tracing.trans (traced.onSched_tells r _)

theorem State.eventPut_keepsRev (s : State) (r kind : Nat) (c : Code) (d : Nat) : s.KeepsRev (s.eventPut r kind c d) := by
  intro clean
  refine ⟨(s.eventPut_clean r kind c d clean).1, ?_⟩
  unfold State.eventPut
  extract_lets ring written stored counted traced
  split
  · exact fun p => (s.onSched_rest r _ p).2
  · split
    · exact fun p => (s.onSched_rest r _ p).2
    · have put : stored = written.1 := by
        unfold stored
        rw [(s.regionRingStore_clean r _ _ _).2 clean]
      intro p
      calc ((traced.irqEntry r irqEvt).region p).rev = (traced.region p).rev := (traced.onSched_rest r _ p).2
        _ = (counted.region p).rev := by rw [State.region_congr (congrArg (·.regions) (State.trace_fab ..).1)]
        _ = (stored.region p).rev := (stored.onSched_rest r _ p).2
        _ = (s.region p).rev := by rw [put, State.region_congr (State.regionRingStore_regions ..)]

theorem State.wmCross_tells (s : State) (r n : Nat) : s.Tells (s.wmCross r n) := by
  unfold State.wmCross
  dsimp only
  split
  · split
    · exact s.onSched_tells r _
    · exact (s.onSched_tells r _).trans (State.eventPut_tells _ _ _ _ _)
  · split
    · exact .refl s
    · exact s.onSched_tells r _

theorem State.wmCross_keepsRev (s : State) (r n : Nat) : s.KeepsRev (s.wmCross r n) := by
  unfold State.wmCross
  dsimp only
  split
  · split
    · exact s.onSched_keepsRev r _
    · exact (s.onSched_keepsRev r _).trans (State.eventPut_keepsRev _ _ _ _ _)
  · split
    · exact .of_regions rfl rfl
    · exact s.onSched_keepsRev r _

theorem State.regionEvent_tells (s : State) (r kind : Nat) (c : Code) (d : Nat) : s.Tells (s.regionEvent r kind c d) :=
  (s.eventPut_tells r kind c d).trans (State.wmCross_tells _ r 1)

theorem State.regionEvent_keepsRev (s : State) (r kind : Nat) (c : Code) (d : Nat) : s.KeepsRev (s.regionEvent r kind c d) :=
  (s.eventPut_keepsRev r kind c d).trans (State.wmCross_keepsRev _ r 1)

theorem State.eventAll_tells (s : State) (rs : List Nat) (kind : Nat) (c : Code) (d : Nat) : s.Tells (s.eventAll rs kind c d) :=
  List.foldlRecOn rs _ (s.pfEvent_tells kind c d) fun _ h _ _ => h.trans (State.regionEvent_tells _ _ _ _ _)

theorem State.eventAll_keepsRev (s : State) (rs : List Nat) (kind : Nat) (c : Code) (d : Nat) : s.KeepsRev (s.eventAll rs kind c d) :=
  List.foldlRecOn rs _ (s.pfEvent_keepsRev kind c d) fun _ h _ _ => h.trans (State.regionEvent_keepsRev _ _ _ _ _)

theorem State.regionEvent_keeps (s : State) (r kind : Nat) (c : Code) (d : Nat) : s.Keeps RegionSched.quiet (s.regionEvent r kind c d) :=
  (s.eventPut_keeps r kind c d).trans (State.wmCross_keeps _ r 1)

end Sys2Proof.Machine
end

section
/-!
SUPPORT. A failed host read of a fetch (09 R330; 21 R791).
-/
namespace Sys2Proof.Machine

/-! ## The fetches that a failure drops -/

theorem cutFetches_other (q : Nat) {p : Nat} (other : p ≠ q) (l : List Fetch) :
    (cutFetches q l).filter (fun f => f.queue = p) = l.filter (fun f => f.queue = p) := by
  induction l with
  | nil => rfl
  | cons f l ih =>
    unfold cutFetches
    split
    case isTrue failed =>
      have kept : ∀ x ∈ l, (decide (x.queue = p) && decide (x.queue ≠ q)) = decide (x.queue = p) := fun x _ => by
        by_cases h : x.queue = p
        · simp [h, other]
        · simp [h]
      rw [List.filter_filter, List.filter_congr kept, List.filter_cons_of_neg (by simpa [failed.1] using other.symm)]
    case isFalse => rw [List.filter_cons, List.filter_cons, ih]

/-- The region without the fetches that the failure drops, and with the queue stopped at the failed descriptor. -/
def State.fetchCut (s : State) (r q : Nat) : State :=
  let all := (s.region r).sched.fetches
  let left := cutFetches q all
  let s := s.onQueue r q fun c => { c with head := c.head - BitVec.ofNat 32 (all.length - left.length) }
  (s.onSched r fun g => { g with fetches := left }).onQueue r q fun c => { c with enable := false }

theorem State.hostFetchError_found {s : State} {r q : Nat} {x : Fetch}
    (found : (s.region r).sched.fetches.find? (fun f => f.queue = q && f.bytes.isNone) = some x) :
    s.hostFetchError r q = ((s.assignFault Codes.HST_HOST_ERROR (some r) 0 none).fetchCut r q).bothEvent r 1 Codes.HST_FETCH_ERROR
      (q + r * 2 ^ 6) := by
  unfold State.hostFetchError
  rw [found]
  rfl

theorem State.fetchCut_sched (s : State) (r q : Nat) : ((s.fetchCut r q).region r).sched = { (s.region r).sched with
    fetches := cutFetches q (s.region r).sched.fetches, queues := ((s.fetchCut r q).region r).sched.queues } := by
  simp [State.fetchCut, State.onQueue]

theorem State.queue_fetchCut (s : State) (r q : Nat) : (s.fetchCut r q).queue r q = { s.queue r q with
    enable := false
    head := (s.queue r q).head - BitVec.ofNat 32 ((s.region r).sched.fetches.length - (cutFetches q (s.region r).sched.fetches).length) } := by
  simp [State.fetchCut, State.onQueue, State.queue]

theorem State.queue_fetchCut_other (s : State) (r : Nat) {q p : Nat} (other : p ≠ q) : (s.fetchCut r q).queue r p = s.queue r p := by
  simp [State.fetchCut, State.onQueue, State.queue, Tab.get_modify_other _ _ _ other.symm]

theorem State.fetchCut_leaves (s : State) (r q : Nat) : (s.fetchCut r q).mem = s.mem ∧ (s.fetchCut r q).dev.faults = s.dev.faults ∧
    ((s.fetchCut r q).region r).rev = (s.region r).rev := by
  refine ⟨rfl, rfl, ?_⟩
  simp [State.fetchCut, State.onQueue]

theorem State.fetchCut_staysOutside (s : State) (r q : Nat) : s.StaysOutside (s.fetchCut r q) r := by
  intro outside
  have ring := congrArg RegionSched.evt (s.fetchCut_sched r q)
  exact ⟨by rw [EventsOutside, ring]; exact outside, rfl⟩

theorem State.Keeps.queue {s t : State} (h : s.Keeps RegionSched.quiet t) (r q : Nat) : t.queue r q = s.queue r q := by
  have queues : (t.region r).sched.queues = (s.region r).sched.queues := (congrArg RegionSched.queues (h.sched r) :)
  rw [State.queue, queues, State.queue]

theorem State.Keeps.fetches {s t : State} (h : s.Keeps RegionSched.quiet t) (r : Nat) :
    (t.region r).sched.fetches = (s.region r).sched.fetches := (congrArg RegionSched.fetches (h.sched r) :)

theorem State.Keeps.flags {s t : State} (h : s.Keeps RegionSched.quiet t) (r : Nat) :
    (t.region r).sched.flags = (s.region r).sched.flags := (congrArg RegionSched.flags (h.sched r) :)

theorem State.assignFault_last (s : State) (c : Code) (r d : Nat) (x : Option Nat) :
    ((s.assignFault c (some r) d x).region r).rev.lastFaultCode = c ∧
    ((s.assignFault c (some r) d x).region r).rev.lastFaultId = s.dev.faults.next := by
  constructor <;> simp only [State.assignFault, State.region_onRev]

section Fetch
variable {s : State} {r q : Nat} {x : Fetch} (found : (s.region r).sched.fetches.find? (fun f => f.queue = q && f.bytes.isNone) = some x)
include found

/-- The failed fetch leaves its queue stopped, and the other queues as they were. -/
theorem State.hostFetchError_queues : (s.hostFetchError r q).queue r q = { s.queue r q with
      enable := false
      head := (s.queue r q).head - BitVec.ofNat 32 ((s.region r).sched.fetches.length - (cutFetches q (s.region r).sched.fetches).length) } ∧
    (∀ p, p ≠ q → (s.hostFetchError r q).queue r p = s.queue r p) ∧
    ((s.hostFetchError r q).region r).sched.fetches = cutFetches q (s.region r).sched.fetches := by
  rw [State.hostFetchError_found found]
  generalize assigned : s.assignFault Codes.HST_HOST_ERROR (some r) 0 none = faulted
  have sched : (faulted.region r).sched = (s.region r).sched := assigned ▸ s.assignFault_sched _ _ _ _ r
  have queue (p : Nat) : faulted.queue r p = s.queue r p := by rw [State.queue, sched, State.queue]
  have quiet := (faulted.fetchCut r q).eventAll_keeps [r] 1 Codes.HST_FETCH_ERROR (q + r * 2 ^ 6)
  rw [State.bothEvent]
  refine ⟨?_, fun p other => ?_, ?_⟩
  · rw [quiet.queue, State.queue_fetchCut, queue, sched]
  · rw [quiet.queue, faulted.queue_fetchCut_other r other, queue]
  · rw [quiet.fetches, State.fetchCut_sched, sched]

/-- The failed fetch is a fault of the region, its last one where its event stores without an error. -/
theorem State.hostFetchError_faults (clean : s.mem.marks = []) :
    ((s.hostFetchError r q).region r).rev.lastFaultCode = Codes.HST_HOST_ERROR ∧
    ((s.hostFetchError r q).region r).rev.lastFaultId = s.dev.faults.next ∧
    (s.hostFetchError r q).dev.faults.count = satAdd s.dev.faults.count 1 := by
  have last := s.assignFault_last Codes.HST_HOST_ERROR r 0 none
  have counted := s.assignFault_count Codes.HST_HOST_ERROR (some r) 0 none
  have unmarked : (s.assignFault Codes.HST_HOST_ERROR (some r) 0 none).mem.marks = [] := by rw [State.assignFault_mem, clean]
  rw [State.hostFetchError_found found]
  generalize s.assignFault Codes.HST_HOST_ERROR (some r) 0 none = faulted at last counted unmarked ⊢
  obtain ⟨mem, faults, rev⟩ := faulted.fetchCut_leaves r q
  have quiet : (faulted.fetchCut r q).mem.marks = [] := by rw [mem, unmarked]
  rw [State.bothEvent, ((State.eventAll_keepsRev _ [r] _ _ _) quiet).2 r, ((State.eventAll_clean _ [r] _ _ _) quiet).2, rev, faults]
  exact ⟨last.1, last.2, counted⟩

theorem State.hostFetchError_staysOutside : s.StaysOutside (s.hostFetchError r q) r := by
  rw [State.hostFetchError_found found]
  exact ((s.assignFault_staysOutside _ _ _ _ r).trans (State.fetchCut_staysOutside _ r q)).trans (State.eventAll_staysOutside _ r _ _ _)

end Fetch

/-- What a failed read of a fetch leaves. -/
theorem hostReadError_fetch {s : State} {o : OpRef} {x : Fetch} (runs : s.dev.boot.stage = .running)
    (found : (s.region o.region.val).sched.fetches.find? (fun f => f.queue = o.queue.val && f.bytes.isNone) = some x) :
    Completes (.hostReadError o true) s fun t =>
      t.queue o.region.val o.queue.val = { s.queue o.region.val o.queue.val with
        enable := false, head := (t.queue o.region.val o.queue.val).head } ∧
      ((s.region o.region.val).sched.fetches = [x] → (t.region o.region.val).sched.fetches = [] ∧
        (t.queue o.region.val o.queue.val).head = (s.queue o.region.val o.queue.val).head - 1) ∧
      (∀ p, p ≠ o.queue.val → t.queue o.region.val p = s.queue o.region.val p ∧
        (t.region o.region.val).sched.fetches.filter (fun f => f.queue = p) = (s.region o.region.val).sched.fetches.filter (fun f => f.queue = p)) ∧
      (s.mem.marks = [] →
        (t.region o.region.val).rev.lastFaultCode = Codes.HST_HOST_ERROR ∧ (t.region o.region.val).rev.lastFaultId = s.dev.faults.next) ∧
      (s.mem.marks = [] → t.dev.faults.count = satAdd s.dev.faults.count 1) ∧ (EventsOutside s o.region.val → t.mem = s.mem) ∧
      s.KeepsStore t := by
  obtain ⟨own, others, fetches⟩ := State.hostFetchError_queues found
  have faults := State.hostFetchError_faults found
  refine completes_of_effect rfl ((s.whenP_pos _ (decide_eq_true runs)).trans (if_pos rfl)) ⟨?_, fun alone => ?_, fun p other => ⟨others p other, ?_⟩,
    fun clean => ⟨(faults clean).1, (faults clean).2.1⟩, fun clean => (faults clean).2.2, fun outside => ?_, s.effect_keepsStore _⟩
  · rw [State.effect_queue, own]
  · have failed : x.queue = o.queue.val ∧ x.bytes.isNone = true := by simpa using List.find?_some found
    have dropped : cutFetches o.queue.val (s.region o.region.val).sched.fetches = [] := by
      rw [alone]
      simp [cutFetches, failed]
    refine ⟨fetches.trans dropped, (congrArg Queue.head own).trans ?_⟩
    rw [dropped, alone]
    rfl
  · exact (congrArg (List.filter _) fetches).trans (cutFetches_other _ other _)
  · exact (State.hostFetchError_staysOutside found outside).2

end Sys2Proof.Machine
end

section
/-!
SUPPORT. A failed host read of a copy (21 R792), and bad accesses (21 R786).
-/
namespace Sys2Proof.Machine

/-! ## The operation of a slot while its bytes move -/

/-- What the moving of bytes leaves of a slot: the operation's name, its state and its words. -/
def Slot.kept (sl : Slot) : Nat × Word × OpState × List Word := (sl.op.queue, sl.op.seq, sl.op.state, sl.op.words)

/-- Every slot of `t` shows the operation that it showed in `s`. -/
abbrev State.KeepsOps (s t : State) : Prop := s.Keeps (RegionSched.seen Slot.kept) t

theorem State.note_keepsOps (s : State) (k : OpKey) (c : Code) (f : BitVec 16) : s.KeepsOps (s.note k c f) := s.onSlot_keeps _ _ _

theorem State.meet_keepsOps (s : State) (k : OpKey) (l : List Nat) : s.KeepsOps (s.meet k l) := by
  unfold State.meet
  extract_lets accepted
  have accepting : s.KeepsOps accepted := .foldl (fun s n => by
    rcases s.accept_form k n with h | h <;> rw [h]
    · exact .refl s
    · exact s.onSlot_keeps _ _ _) _ s
  have noting (s : State) (e : Code × BitVec 16) : s.KeepsOps (s.note k e.1 e.2) := s.note_keepsOps k e.1 e.2
  exact accepting.trans (.foldl noting _ accepted)

theorem State.memFault_keeps (s : State) (r a : Nat) : s.Keeps RegionSched.quiet (s.memFault r a) :=
  (s.memCount_keeps r a).trans (State.eventAll_keeps _ _ _ _ _)

theorem State.badUnits_keepsOps (s : State) (k : OpKey) (l : List Nat) : s.KeepsOps (s.badUnits k l) :=
  .foldl (fun s a => (s.memFault_keeps k.1 a).seen.trans (State.note_keepsOps _ k _ _)) _ s

theorem State.countCorrected_keeps {α : Type} {v : RegionSched → α} (s : State) (l : List Nat) : s.Keeps v (s.countCorrected l) :=
  .of_fab (s.countCorrected_regions l) (s.countCorrected_only l).engines

theorem State.unitWrite_keepsOps (s : State) (k : OpKey) (l : List (Nat × Byte)) : s.KeepsOps (s.unitWrite k l).1 := by
  unfold State.unitWrite
  extract_lets met ok noted good addrs merged torn cleared written
  have noting : met.KeepsOps noted := by
    unfold noted
    split
    · exact met.note_keepsOps k _ _
    · exact .refl met
  have merging : noted.KeepsOps merged := noted.countCorrected_keeps _
  have clearing : merged.KeepsOps cleared := merged.badUnits_keepsOps k _
  have writing : cleared.KeepsOps written := .of_fab rfl rfl
  exact ((s.meet_keepsOps k _).trans noting).trans (merging.trans (clearing.trans writing))

theorem State.Keeps.slotOf_kept {s t : State} (h : s.KeepsOps t) (r q : Nat) (seq : Word) :
    (t.slotOf r q seq).map Slot.kept = (s.slotOf r q seq).map Slot.kept :=
  h.slotOf_map (fun x => decide (x.1 = q) && decide (x.2.1 = seq)) (fun _ => rfl) r

/-! ## The end of a copy that is cut off -/

theorem State.slotOf_onRec {s : State} {r q : Nat} {seq : Word} {sl : Slot} (found : s.slotOf r q seq = some sl) (f : OpRec → OpRec) :
    (s.onRec r q seq f).slotOf r q seq = some { sl with rec_ := f sl.rec_ } := by
  rw [State.onRec, State.slotOf_onSlot, found]
  · rfl
  · exact fun _ => rfl

/-- What an operation is latched with when a status cuts it off. -/
def Slot.cut (sl : Slot) (spin : Bool) (status : Code) (fault : BitVec 16) : Slot :=
  let n := sl.rec_.note sl.op.onSpins status fault
  let p := firstStatus spin (Codes.OK, 0) (n.pendingStatus, n.pendingFault)
  { sl with op := { sl.op with state := .latched }, rec_ := { n with status := p.1, result := 0, faultId := p.2 } }

theorem State.cutEnd_slot {s : State} {k : OpKey} {sl : Slot} (found : s.slotOf k.1 k.2.1 k.2.2 = some sl) (runs : sl.op.state = .running)
    (status : Code) (fault : BitVec 16) :
    (s.cutEnd k status fault).slotOf k.1 k.2.1 k.2.2 = some (sl.cut sl.op.onSpins status fault) := by
  have noted : (s.note k status fault).slotOf k.1 k.2.1 k.2.2 =
      some { sl with rec_ := sl.rec_.note sl.op.onSpins status fault } := by
    rw [State.note, State.slotOf_onSlot, found]
    · rfl
    · exact fun _ => rfl
  rw [State.cutEnd, State.latchEnd, noted, State.noted, noted, State.latch, State.slotOf_onSlot, noted, Option.map_some]
  · exact congrArg some (if_neg (by simp [runs]))
  · intro sl
    split <;> rfl

/-- A host error cuts an operation off before a status of no failure does. -/
theorem Slot.cut_hostError {sl : Slot} (unmet : sl.rec_.pendingStatus = Codes.OK) (spin : Bool) (fault : BitVec 16) :
    (sl.cut spin Codes.HST_HOST_ERROR fault).rec_.status = Codes.HST_HOST_ERROR ∧
    (sl.cut spin Codes.HST_HOST_ERROR fault).rec_.faultId = fault := by
  have first (spin : Bool) (f : BitVec 16) :
      firstStatus spin (Codes.OK, f) (Codes.HST_HOST_ERROR, fault) = (Codes.HST_HOST_ERROR, fault) := by
    cases spin <;> rfl
  simp only [Slot.cut, OpRec.note, unmet, first]
  exact ⟨trivial, trivial⟩

theorem State.copyPlaced_host {s : State} {r : Nat} {o : Op} {sp dp : Option Placed} (placed : s.copyPlaced r o = .ok (sp, dp)) :
    (o.srcHost = true → sp = none) ∧ (o.dstHost = true → dp = none) := by
  unfold State.copyPlaced at placed
  extract_lets sg dg sp' dp' meet routed at placed
  repeat' split at placed
  all_goals first
    | contradiction
    | (obtain ⟨rfl, rfl⟩ := Prod.mk.inj (Except.ok.inj placed)
       exact ⟨fun h => by simp [sp', sg, h], fun h => by simp [dp', dg, h]⟩)

/-- A copy from host memory that is cut off ends as its slot stands when its bytes have moved, which writes none of device memory where
the destination is in host memory too. -/
theorem State.cutCopy_ends {s : State} {r : Nat} {sl y : Slot} (found : s.slotOf r sl.op.queue sl.op.seq = some y) (same : y.kept = sl.kept)
    (src : sl.op.srcHost = true) (c : Code) (f : BitVec 16) : ∃ (u : State) (z : Slot), s.cutCopy r sl c f = u.cutEnd (sl.key r) c f ∧
      u.slotOf r sl.op.queue sl.op.seq = some z ∧ z.kept = sl.kept ∧
      (sl.op.dstHost = true → u.mem = s.mem ∧ z.rec_.pendingStatus = y.rec_.pendingStatus) := by
  unfold State.cutCopy
  extract_lets k o free bumped
  split
  case h_1 => exact ⟨bumped, y, rfl, found, same, fun _ => ⟨rfl, rfl⟩⟩
  case h_2 sp dp placed =>
    obtain ⟨noSrc, noDst⟩ := State.copyPlaced_host placed
    obtain rfl := noSrc src
    extract_lets rd read moved chosen cells
    split
    case h_1 p placed =>
      extract_lets w recorded
      have reading : s.KeepsOps read := .of_fab rfl rfl
      have recording : w.1.KeepsOps recorded := w.1.onSlot_keeps _ _ _
      have keeps : s.KeepsOps recorded := (reading.trans (read.unitWrite_keepsOps k _)).trans recording
      have shown := keeps.slotOf_kept r sl.op.queue sl.op.seq
      rw [found, Option.map_some, Option.map_eq_some_iff] at shown
      obtain ⟨z, at_, kept⟩ := shown
      exact ⟨recorded, z, rfl, at_, kept.trans same, fun dst => absurd (noDst dst) (by simp)⟩
    case h_2 =>
      refine ⟨_, { y with rec_ := y.rec_.addTensor 0 (chosen.map (fun b => b.getD 0)) }, rfl, ?_, same, fun _ => ⟨rfl, rfl⟩⟩
      exact State.slotOf_onRec (s := { bumped with hostMem := _ }) found _

/-- What a failed read of a copy leaves. -/
theorem hostReadError_copy {s : State} {o : OpRef} {sl : Slot} (runs : s.dev.boot.stage = .running) (at_ : s.slotAt o = some sl)
    (copy : sl.op.desc? = some .copy) (src : sl.op.srcHost = true) (running : sl.op.state = .running) :
    Completes (.hostReadError o false) s fun t =>
        (∃ y, t.slotAt o = some y ∧ y.op.state = .latched ∧ y.op.words = sl.op.words ∧
          (sl.op.dstHost = true → sl.rec_.pendingStatus = Codes.OK → y.rec_.status = Codes.HST_HOST_ERROR ∧ y.rec_.faultId = s.dev.faults.next)) ∧
        (sl.op.dstHost = true → t.mem = s.mem) ∧ s.KeepsStore t := by
  obtain ⟨queue, seq⟩ := State.name_of_slotOf at_
  let resumed := s.retryEnd (opKey o)
  let faulted := resumed.assignFault Codes.HST_HOST_ERROR (some o.region.val) 0 none
  have found : ∃ y, faulted.slotOf o.region.val sl.op.queue sl.op.seq = some y ∧ y.kept = sl.kept ∧
      y.rec_.pendingStatus = sl.rec_.pendingStatus := by
    refine ⟨{ sl with op := { sl.op with
      retries := sl.op.retries - 1, timeoutTick := if sl.op.retries = 1 then s.tick else sl.op.timeoutTick } }, ?_, rfl, rfl⟩
    rw [queue, seq]
    refine (congrArg (List.find? _) (State.assignFault_keepsSlots resumed _ _ _ _ o.region.val)).trans ?_
    show resumed.slotOf o.region.val o.queue.val o.seq = _
    rw [show resumed = s.onSlot _ _ _ _ from rfl, opKey, State.slotOf_onSlot, show s.slotOf _ _ _ = some sl from at_]
    · rfl
    · exact fun _ => rfl
  obtain ⟨y, found, same, pending⟩ := found
  have last : faulted.lastFault = s.dev.faults.next := State.lastFault_assign resumed _ _ _ _
  obtain ⟨u, z, cut, holds, kept, leaves⟩ := State.cutCopy_ends found same src Codes.HST_HOST_ERROR faulted.lastFault
  have step : s.whenP s.running (fun s => match s.slotAt o with
      | some sl =>
        s.whenP (sl.op.desc? = some .copy && sl.op.srcHost && sl.op.state = .running) fun s =>
          let s := s.retryEnd (opKey o)
          let s := s.assignFault Codes.HST_HOST_ERROR (some o.region.val) 0 none
          s.cutCopy o.region.val sl Codes.HST_HOST_ERROR s.lastFault
      | none => s) = u.cutEnd (sl.key o.region.val) Codes.HST_HOST_ERROR s.dev.faults.next := by
    refine (s.whenP_pos _ (decide_eq_true runs)).trans ?_
    rw [at_]
    refine (s.whenP_pos _ (by simp [copy, src, running])).trans ?_
    rw [← last]
    exact cut
  obtain ⟨-, -, state, words⟩ : z.op.queue = sl.op.queue ∧ z.op.seq = sl.op.seq ∧ z.op.state = sl.op.state ∧ z.op.words = sl.op.words := by
    simpa [Slot.kept] using kept
  have ended := State.cutEnd_slot (k := sl.key o.region.val) holds (state.trans running) Codes.HST_HOST_ERROR s.dev.faults.next
  refine completes_of_effect rfl step
    ⟨⟨z.cut z.op.onSpins Codes.HST_HOST_ERROR s.dev.faults.next, ?_, rfl, words, fun dst unmet => ?_⟩, fun dst => ?_, s.effect_keepsStore _⟩
  · refine Eq.trans ?_ ended
    rw [State.slotAt, State.effect_slotOf, ← queue, ← seq, Slot.key]
  · exact Slot.cut_hostError ((leaves dst).2.trans (pending.trans unmet)) _ _
  · exact (leaves dst).1.trans (State.assignFault_mem resumed _ _ _ _)

/-! ## Bad accesses -/

theorem badRegisterAccess_tells {s : State} {f : FnId} {a : BitVec 26} (reach : s.hubReach f.val = true) :
    Completes (.badRegisterAccess f a) s fun t =>
      t.dev.dbg.readAnswer = 0 ∧
      (s.dev.hst.pfEvt.enable = true → s.dev.hst.pfEvt.full = false →
        t.dev.hst.pfEvt = { s.dev.hst.pfEvt with tail := s.dev.hst.pfEvt.tail + 1 }) ∧
      t = { s with hostMem := t.hostMem, dev := { s.dev with
        dbg := { s.dev.dbg with readAnswer := 0 }, hst := { s.dev.hst with pfEvt := t.dev.hst.pfEvt, pfIrq := t.dev.hst.pfIrq } } } := by
  let answered := s.onDbg fun d => { d with readAnswer := 0 }
  have frame := answered.pfEvent_frame 6 Codes.HST_BAD_ACCESS (a.toNat + f.val * 2 ^ 26)
  refine completes_of_effect rfl (s.whenP_pos _ reach) ⟨?_, ?_, ?_⟩
  · exact congrArg (·.dev.dbg.readAnswer) frame
  · exact answered.pfEvent_taken _ _ _
  · rw [State.badAccess, State.effect_of_frame (by simp) (by simp) (by simp) (by simp)]
    exact frame

end Sys2Proof.Machine
end

section
/-!
CERTIFICATE. Failed host reads and bad register accesses.
-/
namespace Sys2Proof.Machine

/-- Settles O50: the fetch that fails, the copy whose source fails, and the access of another width. -/
theorem hostReadsAndAccessesFail : Obligations.HostReadsAndAccessesFail := by
  intro s o x sl f a
  exact ⟨hostReadError_fetch, hostReadError_copy, badRegisterAccess_tells⟩

end Sys2Proof.Machine
end

section
/-!
SUPPORT. Link cells that a port sends, resends and takes (20 R734-R748).
-/
namespace Sys2Proof.Machine

/-! ## Words of a cell -/

theorem leNat_lt (l : List Byte) : leNat l < 256 ^ l.length := by
  induction l with
  | nil => simp [leNat]
  | cons b l ih =>
    have small : b.toNat < 256 := b.isLt
    rw [leNat, List.length_cons, pow_succ]
    omega

theorem length_sliceBytes (l : List Byte) (off n : Nat) : (sliceBytes l off n).length = n := by
  simp only [sliceBytes, List.length_append, List.length_replicate, List.length_take]
  omega

theorem wordAt_lt (l : List Byte) (i : Nat) : wordAt l i < 2 ^ 32 := by
  have small := leNat_lt (sliceBytes l (4 * i) 4)
  rwa [length_sliceBytes] at small

/-- The route that a cell's header names. -/
theorem bitsOf_route (b : List Byte) : bitsOf (wordAt b 0) 31 16 = wordAt b 0 / 2 ^ 16 := by
  have small := wordAt_lt b 0
  simp only [bitsOf]
  omega

/-! ## Sending -/

section Send
variable {s : State} {p : PortId} {slot : Nat} {e : LinkEntry} {fwd : Bool} (on : s.portOn p.val = true)
  (trained : (s.port p.val).trained = true) (live : (s.port p.val).state = .live) (inFrame : slot < 1364) (slotUse : slot % 16 ≠ 15)
  (entry : s.outEntry p.val slot fwd = some e)
include on trained live inFrame slotUse entry

/-- A schedulable slot of a live port sends the front of its entry's route. -/
theorem completes_sendFront {P : State → Prop} (given : P (s.effect fun _ => s.sendFront p.val slot e.linkRoute)) :
    Completes (if fwd then .cellForward p slot else .linkCellSend p slot) s P := by
  have sends : s.sends p.val = true := by simp [State.sends, on, trained]
  have sent : s.sendSlot p.val slot fwd = s.sendFront p.val slot e.linkRoute := by
    rw [State.sendSlot, entry]
    exact if_pos live
  cases fwd
  · refine completes_of_effect (if_pos inFrame) ((s.whenP_pos _ sends).trans ?_) given
    rw [if_neg slotUse, sent]
  · exact completes_of_effect (if_pos inFrame) ((s.whenP_pos _ (by simp [sends, slotUse])).trans sent) given

theorem cellSend_sends {c : LinkCell} {rest : List LinkCell} (queued : Tab.get [] s.dev.lnk.queues e.linkRoute = c :: rest)
    (takes : (s.port p.val).partnerHeld = false) : Completes (if fwd then .cellForward p slot else .linkCellSend p slot) s fun u =>
        (u.port p.val).cellOut = cellBytes 1 c.retried c.route c.seq c.mark c.packet ∧
        (u.port p.val).sent = (s.port p.val).sent ++ [{ frame := (s.port p.val).frame, slot := slot, origFrame := (s.port p.val).frame
                                                        origSlot := slot, cell := c, fails := 0, due := false }] ∧
        Tab.get [] u.dev.lnk.queues e.linkRoute = rest ∧ (∀ q, q ≠ p.val → u.port q = s.port q) ∧ u.mem = s.mem ∧ u.fab = s.fab := by
  have front : s.sendFront p.val slot e.linkRoute = (s.onLnk fun x => { x with queues := Tab.set x.queues e.linkRoute rest }).onPort p.val
      fun t => { t with cellOut := c.bytes 1, sent := t.sent ++ [{ frame := t.frame, slot := slot, origFrame := t.frame, origSlot := slot
                                                                   cell := c, fails := 0, due := false }] } := by
    rw [State.sendFront, queued]
    exact if_neg (by simp [takes])
  refine completes_sendFront on trained live inFrame slotUse entry ?_
  rw [front]
  refine ⟨?_, ?_, Tab.get_set_same .., fun q other => ?_, rfl, rfl⟩
  · rw [State.effect_port, State.port_onPort]
    rfl
  · rw [State.effect_port, State.port_onPort]
    rfl
  · rw [State.effect_port, State.port_onPort_other _ _ other.symm]
    rfl

theorem cellSend_idle (empty : Tab.get [] s.dev.lnk.queues e.linkRoute = []) :
    Completes (if fwd then .cellForward p slot else .linkCellSend p slot) s fun u =>
        u.port p.val = { s.port p.val with cellOut := idleCell } ∧ OnlyPort s u p.val := by
  have front : s.sendFront p.val slot e.linkRoute = s.putCell p.val idleCell := by rw [State.sendFront, empty]
  refine completes_sendFront on trained live inFrame slotUse entry ?_
  rw [front]
  exact ⟨State.port_onPort .., onlyPort_onPort s p.val _⟩

end Send

section Port
variable {s : State} {p : PortId} {slot : Nat} (on : s.portOn p.val = true) (trained : (s.port p.val).trained = true)
  (live : (s.port p.val).state = .live) (inFrame : slot < 1364)
include on trained live inFrame

/-! ## Resending -/

theorem cellResend_resends {x : SentCell} (slack : slot % 16 = 15) (takes : (s.port p.val).partnerHeld = false)
    (next : (s.port p.val).nextResend = some x) (free : x.cell.op = none) : Completes (.cellResend p slot) s fun u =>
        (u.port p.val).cellOut = cellBytes 2 true x.cell.route x.cell.seq x.cell.mark x.cell.packet ∧
        (u.port p.val).resends = satAdd (s.port p.val).resends 1 ∧
        (u.port p.val).sent = (s.port p.val).sent.erase x ++
          [{ x with cell := { x.cell with retried := true }, frame := (s.port p.val).frame, slot := slot, due := false }] ∧ OnlyPort s u p.val := by
  have sends : s.sends p.val = true := by simp [State.sends, on, trained]
  have resent : s.resend p.val slot x = s.onPort p.val fun t =>
      { t with cellOut := ({ x.cell with retried := true } : LinkCell).bytes 2, resends := satAdd t.resends 1
               sent := t.sent.erase x ++ [{ x with cell := { x.cell with retried := true }, frame := t.frame, slot := slot, due := false }] } := by
    rw [State.resend, free]
  refine completes_of_effect (t := s.resend p.val slot x) (if_pos inFrame) ((s.whenP_pos _ (by simp [sends, slack, live, takes])).trans ?_) ?_
  · rw [next]
  · rw [resent]
    refine ⟨?_, ?_, ?_, onlyPort_onPort s p.val _⟩ <;> rw [State.effect_port, State.port_onPort]
    rfl

/-! ## Taking -/

omit live in
/-- What a port does with the cell of a slot. -/
theorem completes_cellReceive {b : List Byte} (whole : b.length = 384) {t : State} {P : State → Prop}
    (taken : (if leAt b 336 4 ≠ (crc32c (b.take 336)).toNat then
        (s.onPort p.val fun t => { t with crcFail := satAdd t.crcFail 1 }).noteCell p.val slot false
      else
        let kind := bitsOf (wordAt b 0) 1 0
        if kind = 1 || kind = 2 then
          match s.takeCell p.val b with
          | some s => s.noteCell p.val slot true
          | none => s.noteCell p.val slot false
        else s.noteCell p.val slot true) = t) (given : P (s.effect fun _ => t)) : Completes (.linkCellReceive p slot b) s P :=
  completes_of_effect (if_pos (by simp [whole, inFrame])) ((s.whenP_pos _ (by simp [State.sends, on, trained])).trans taken) given

omit live in
theorem cellReceive_damaged {b : List Byte} (whole : b.length = 384) (damaged : leAt b 336 4 ≠ (crc32c (b.take 336)).toNat)
    (notLast : slot ≠ 1363) : Completes (.linkCellReceive p slot b) s fun u =>
        u.port p.val = { s.port p.val with crcFail := satAdd (s.port p.val).crcFail 1 } ∧ OnlyPort s u p.val := by
  refine completes_cellReceive on trained inFrame whole (if_pos damaged) ⟨?_, ?_⟩
  · rw [State.effect_port, State.noteCell, State.port_onPort, State.port_onPort]
    exact if_neg notLast
  · exact onlyPort_trans (onlyPort_onPort s p.val _) (onlyPort_onPort _ p.val _)

/-- A cell as its bytes name it. -/
def cellOf (b : List Byte) : LinkCell :=
  { route := wordAt b 0 / 2 ^ 16, seq := BitVec.ofNat 32 (wordAt b 1), retried := bitAt (wordAt b 0) 2, packet := (b.drop 16).take 320
    mark := cellMark b, op := none }

section Data
variable {b : List Byte} {e : LinkEntry} (whole : b.length = 384) (sound : leAt b 336 4 = (crc32c (b.take 336)).toNat)
  (data : wordAt b 0 % 8 = 1) (notLast : slot ≠ 1363)
  (entry : s.inEntry p.val (wordAt b 0 / 2 ^ 16) = some e) (route : e.linkRoute = wordAt b 0 / 2 ^ 16)
include whole sound data

omit live in
/-- A sound data cell that is accepted. -/
theorem completes_dataCell {t : State} {P : State → Prop} (accepted : s.takeCell p.val b = some t)
    (given : P (s.effect fun _ => t.noteCell p.val slot true)) : Completes (.linkCellReceive p slot b) s P := by
  have kind : bitsOf (wordAt b 0) 1 0 = 1 := by
    simp only [bitsOf]
    omega
  refine completes_cellReceive on trained inFrame whole (t := t.noteCell p.val slot true) ?_ given
  rw [if_neg (not_not.mpr sound), kind, accepted]
  rfl

include notLast entry route

omit whole sound data entry route on trained live inFrame in
theorem rxBits_noteCell (t : State) : ((t.noteCell p.val slot true).port p.val).rxBits = (t.port p.val).rxBits ++ [slot] := by
  rw [State.noteCell, State.port_onPort, if_neg notLast]
  rfl

theorem cellReceive_forwards (forwarded : e.forwarded = true) (room : (Tab.get [] s.dev.lnk.queues e.linkRoute).length < 8) :
    Completes (.linkCellReceive p slot b) s fun u =>
      (∃ y, Tab.get [] u.dev.lnk.queues e.linkRoute = Tab.get [] s.dev.lnk.queues e.linkRoute ++ [y] ∧ y.packet = (b.drop 16).take 320 ∧
        y.seq = BitVec.ofNat 32 (wordAt b 1) ∧ y.op = none) ∧
      (u.port p.val).rxBits = (s.port p.val).rxBits ++ [slot] ∧ u.mem = s.mem ∧ u.fab = s.fab := by
  have accepted : s.takeCell p.val b = some (s.onLnk fun x =>
      { x with queues := Tab.set x.queues e.linkRoute (Tab.get [] x.queues e.linkRoute ++ [cellOf b]) }) := by
    rw [State.takeCell, bitsOf_route, entry]
    simp only [live, forwarded, ← route, if_neg (Nat.not_le.mpr room), ne_eq, not_true_eq_false, if_false, if_true, cellOf]
  refine completes_dataCell on trained inFrame whole sound data accepted ⟨⟨cellOf b, ?_, rfl, rfl, rfl⟩, ?_, rfl, rfl⟩
  · exact Tab.get_set_same ..
  · exact rxBits_noteCell notLast _

theorem cellReceive_delivers (unmarked : bitAt (wordAt b 2) 0 = false) (fabric : e.forwarded = false)
    (noneHeld : Tab.get [] s.dev.lnk.heldCells e.linkRoute = []) (inSequence : BitVec.ofNat 32 (wordAt b 1) = Tab.get 0 s.dev.lnk.seqIn e.linkRoute) :
    Completes (.linkCellReceive p slot b) s fun u =>
      Tab.get [] u.dev.lnk.fromHub (e.region * 65536 + e.route) = Tab.get [] s.dev.lnk.fromHub (e.region * 65536 + e.route) ++ [(b.drop 16).take 320] ∧
      Tab.get 0 u.dev.lnk.seqIn e.linkRoute = Tab.get 0 s.dev.lnk.seqIn e.linkRoute + 1 ∧
      (u.port p.val).rxBits = (s.port p.val).rxBits ++ [slot] ∧ u.mem = s.mem ∧ s.KeepsStore u := by
  have mark : (cellOf b).mark = none := if_neg (by simp [unmarked])
  have fresh : (cellOf b).retried = false := by
    simp only [cellOf, bitAt]
    have even : wordAt b 0 / 2 ^ 2 % 2 = 0 := by omega
    rw [even]
    rfl
  have delivered : s.deliver p.val e (cellOf b) = (s.onLnk fun x => { x with seqIn := Tab.set x.seqIn (cellOf b).route ((cellOf b).seq + 1) }).onLnk
      fun x => { x with fromHub := Tab.modify [] x.fromHub (e.region * 65536 + e.route) (· ++ [(cellOf b).packet]) } := by
    rw [State.deliver, mark, fresh]
    rfl
  have accepted : s.takeCell p.val b = some (s.deliver p.val e (cellOf b)) := by
    have toFabric : s.takeToFabric p.val e (cellOf b) = s.deliver p.val e (cellOf b) := by
      rw [State.takeToFabric, noneHeld]
      exact if_pos inSequence
    rw [State.takeCell, bitsOf_route, entry, ← toFabric]
    simp only [live, fabric, ne_eq, not_true_eq_false, if_false, Bool.false_eq_true, cellOf]
  rw [delivered] at accepted
  refine completes_dataCell on trained inFrame whole sound data accepted ⟨?_, ?_, ?_, rfl, s.effect_keepsStore _⟩
  · exact (Tab.get_modify_same [] s.dev.lnk.fromHub (e.region * 65536 + e.route) (· ++ [(cellOf b).packet]) :)
  · rw [← inSequence, route]
    exact (Tab.get_set_same 0 s.dev.lnk.seqIn (cellOf b).route ((cellOf b).seq + 1) :)
  · exact rxBits_noteCell notLast _

end Data
end Port

end Sys2Proof.Machine
end

section
/-!
SUPPORT. Notices of lost links, and alternate routes (20 R752-R758).
-/
namespace Sys2Proof.Machine

theorem State.sendNotice_leaves (s : State) (o l : Nat) (but : Option Nat) :
    (s.sendNotice o l but).dev.lnk.notices = s.dev.lnk.notices ++ [(o, l)] ∧
    (∀ q, q < 8 → but ≠ some q → (s.port q).state = .live → (q, o, l) ∈ (s.sendNotice o l but).dev.lnk.noticesOut) ∧
    (s.sendNotice o l but).dev.lnk.broken = s.dev.lnk.broken ∧ (s.sendNotice o l but).dev.lnk.ports = s.dev.lnk.ports ∧
    (s.sendNotice o l but).mem = s.mem := by
  refine ⟨rfl, fun q small other live => ?_, rfl, rfl, rfl⟩
  refine List.mem_append_right _ (List.mem_map.mpr ⟨q, ?_, rfl⟩)
  simp [small, live, other]

theorem State.breakRoutes_mem (s : State) (ls : List Nat) (fault : BitVec 16) : (s.breakRoutes ls fault).mem = s.mem := by
  have only : (s.onLnk fun l => { l with broken := dedupNat (l.broken ++ ls) }).RegionsOnly (s.breakRoutes ls fault) :=
    List.foldlRecOn _ _ rfl fun _ h _ _ => h.trans (State.stopBroken_regionsOnly _ _ _ _)
  rw [only]
  rfl

/-- What a notice makes of the routes that use its link. -/
def State.noticeBreaks (s : State) (hit : List Nat) : State :=
  if hit = [] then s
  else (s.assignFault Codes.PARTNER_LOST none 0 none).breakRoutes hit (s.assignFault Codes.PARTNER_LOST none 0 none).lastFault

theorem State.noticeBreaks_leaves (s : State) (hit : List Nat) : (∀ l ∈ hit, l ∈ (s.noticeBreaks hit).dev.lnk.broken) ∧
    (s.noticeBreaks hit).dev.lnk = { s.dev.lnk with broken := (s.noticeBreaks hit).dev.lnk.broken } ∧ (s.noticeBreaks hit).mem = s.mem := by
  unfold State.noticeBreaks
  split
  case isTrue none_ => simp [none_]
  case isFalse =>
    rw [State.breakRoutes_mem, State.assignFault_mem, State.breakRoutes_dev, State.assignFault_lnk]
    exact ⟨fun l listed => mem_dedupNat (List.mem_append_right _ listed), rfl, rfl⟩

theorem linkDownNotice_first {s : State} {p : PortId} {ordinal : BitVec 17} {far : PortId} (runs : s.running = true)
    (live : (s.port p.val).state = .live) (first : (ordinal.toNat, far.val) ∉ s.dev.lnk.notices) :
    Completes (.linkDownNotice p ordinal far) s fun u =>
      u.dev.lnk.notices = s.dev.lnk.notices ++ [(ordinal.toNat, far.val)] ∧
      (∀ q, q < 8 → q ≠ p.val → (s.port q).state = .live → (q, ordinal.toNat, far.val) ∈ u.dev.lnk.noticesOut) ∧
      (∀ l ∈ s.noticeRoutes ordinal.toNat far.val, l ∈ u.dev.lnk.broken) ∧ u.dev.lnk.ports = s.dev.lnk.ports ∧ u.mem = s.mem ∧
      s.KeepsStore u := by
  obtain ⟨notices, out, -, ports, mem⟩ := s.sendNotice_leaves ordinal.toNat far.val (some p.val)
  obtain ⟨broken, lnk, same⟩ := (s.sendNotice ordinal.toNat far.val (some p.val)).noticeBreaks_leaves (s.noticeRoutes ordinal.toNat far.val)
  refine completes_of_effect (t := (s.sendNotice ordinal.toNat far.val (some p.val)).noticeBreaks (s.noticeRoutes ordinal.toNat far.val)) rfl
    (s.whenP_pos _ (by simp [runs, live, first])) ⟨?_, fun q small other alive => ?_, broken, ?_, same.trans mem, s.effect_keepsStore _⟩
  · exact (congrArg Lnk.notices lnk).trans notices
  · rw [State.effect_dev, lnk]
    exact out q small (by simpa using other.symm) alive
  · exact (congrArg Lnk.ports lnk).trans ports

theorem routeSwitch_switches {s : State} {key : BitVec 16} {a : Nat × Nat} (runs : s.running = true)
    (alt : (s.topo?.bind (fun t => t.alts[key.toNat]?)) = some a) (noticed : a ∈ s.dev.lnk.notices)
    (mine : ∃ e ∈ s.links, e.alternate = true ∧ e.altKey = key.toNat) (fresh : key.toNat ∉ s.dev.lnk.switched) :
    Completes (.routeSwitch key) s fun u =>
      u.dev.lnk.switched = s.dev.lnk.switched ++ [key.toNat] ∧ (s.mem.marks = [] → u.dev.faults.count = satAdd s.dev.faults.count 1) ∧
      (∀ l ∈ u.dev.lnk.broken, l ∈ s.dev.lnk.broken) ∧ s.KeepsStore u := by
  obtain ⟨e, listed, alternate, keyed⟩ := mine
  have some_ : (s.links.filter fun e => e.alternate && e.altKey = key.toNat).isEmpty = false := by
    rw [List.isEmpty_eq_false_iff_exists_mem]
    exact ⟨e, List.mem_filter.mpr ⟨listed, by simp [alternate, keyed]⟩⟩
  refine completes_of_effect rfl (s.whenP_pos _ ?_) ⟨?_, fun clean => ?_, fun l still => ?_, s.effect_keepsStore _⟩
  · simp [runs, alt, noticed, some_, fresh]
  · rw [State.effect_dev, State.eventAll_lnk, State.assignFault_lnk]
    rfl
  · rw [State.effect_dev, ((State.eventAll_clean _ _ _ _ _) (by rw [State.assignFault_mem]; exact clean)).2, State.assignFault_count]
    rfl
  · rw [State.effect_dev, State.eventAll_lnk, State.assignFault_lnk] at still
    exact List.mem_of_mem_filter still

end Sys2Proof.Machine
end

section
/-!
CERTIFICATE. Link cells, notices and switched routes.
-/
namespace Sys2Proof.Machine

/-- Settles O45: one lemma for each slot that a port sends in, and for each cell that it takes. -/
theorem cellsAreSentResentAndTaken : Obligations.CellsAreSentResentAndTaken := by
  intro s p slot e c rest x b fwd on trained live inFrame
  refine ⟨fun slotUse entry queued takes => cellSend_sends on trained live inFrame slotUse entry queued takes,
    fun slotUse entry empty => cellSend_idle on trained live inFrame slotUse entry empty,
    fun slack takes next free => cellResend_resends on trained live inFrame slack takes next free,
    fun whole damaged notLast => cellReceive_damaged on trained inFrame whole damaged notLast,
    fun whole sound data unmarked notLast entry route => ⟨fun fabric noneHeld inSequence => ?_, fun forwarded room => ?_⟩⟩
  · exact cellReceive_delivers on trained live inFrame whole sound data notLast entry route unmarked fabric noneHeld inSequence
  · exact cellReceive_forwards on trained live inFrame whole sound data notLast entry route forwarded room

/-- Settles O46: the first notice of a link, a repeated one, and the switch that follows it. -/
theorem noticesBreakAndSwitchRoutes : Obligations.NoticesBreakAndSwitchRoutes := by
  intro s p ordinal far key a runs
  refine ⟨linkDownNotice_first runs, fun known => ⟨s, exec_stays rfl (s.whenP_neg _ (by simp [known])), rfl⟩, routeSwitch_switches runs⟩

end Sys2Proof.Machine
end

section
/-!
SUPPORT. An event of one region leaves the records of the other regions.
-/
namespace Sys2Proof.Machine

/-- No region but `r` differs between `s` and `t`. -/
def State.OthersStay (s t : State) (r : Nat) : Prop := ∀ p, p ≠ r → t.region p = s.region p

theorem State.OthersStay.of_regions {s t : State} {r : Nat} (same : t.fab.regions = s.fab.regions) : s.OthersStay t r :=
  fun p _ => State.region_congr same p

theorem State.OthersStay.trans {s t u : State} {r : Nat} (h : s.OthersStay t r) (k : t.OthersStay u r) : s.OthersStay u r :=
  fun p other => (k p other).trans (h p other)

theorem State.onRegion_othersStay (s : State) (r : Nat) (f : Region → Region) : s.OthersStay (s.onRegion r f) r :=
  fun _ other => s.region_onRegion_other f other.symm

theorem State.onSched_othersStay (s : State) (r : Nat) (f : RegionSched → RegionSched) : s.OthersStay (s.onSched r f) r :=
  s.onRegion_othersStay r _

theorem State.assignFault_othersStay (s : State) (c : Code) (r d : Nat) (x : Option Nat) : s.OthersStay (s.assignFault c (some r) d x) r :=
  State.OthersStay.trans (t := s.onFaults _) (.of_regions rfl) (State.onRegion_othersStay _ r _)

theorem State.pfEvent_othersStay (s : State) (kind : Nat) (c : Code) (d r : Nat) : s.OthersStay (s.pfEvent kind c d) r :=
  .of_regions (by rw [State.pfEvent_fab])

theorem State.memCount_othersStay (s : State) (r a : Nat) : s.OthersStay (s.memCount r a) r := by
  unfold State.memCount
  extract_lets faulted crc
  have faulting : s.OthersStay faulted r := s.assignFault_othersStay _ r _ _
  clear_value faulted
  split
  · exact faulting
  · exact faulting.trans (.of_regions rfl)

theorem State.eventPut_othersStay (s : State) (r kind : Nat) (c : Code) (d : Nat) : s.OthersStay (s.eventPut r kind c d) r := by
  unfold State.eventPut
  extract_lets ring written stored counted traced
  split
  · exact s.onSched_othersStay r _
  · split
    · exact s.onSched_othersStay r _
    · have put : s.OthersStay written.1 r := .of_regions (State.regionRingStore_regions ..)
      have told : s.OthersStay stored r := by
        unfold stored
        split
        · exact (put.trans (State.memCount_othersStay _ _ _)).trans (State.pfEvent_othersStay _ _ _ _ r)
        · exact put
      have counting : s.OthersStay counted r := told.trans (stored.onSched_othersStay r _)
      have tracing : s.OthersStay traced r := counting.trans (.of_regions (congrArg (·.regions) (State.trace_fab ..).1))
      exact tracing.trans (traced.onSched_othersStay r _)

theorem State.wmCross_othersStay (s : State) (r n : Nat) : s.OthersStay (s.wmCross r n) r := by
  unfold State.wmCross
  dsimp only
  split
  · split
    · exact s.onSched_othersStay r _
    · exact (s.onSched_othersStay r _).trans (State.eventPut_othersStay _ _ _ _ _)
  · split
    · exact .of_regions rfl
    · exact s.onSched_othersStay r _

theorem State.regionEvent_othersStay (s : State) (r kind : Nat) (c : Code) (d : Nat) : s.OthersStay (s.regionEvent r kind c d) r :=
  (s.eventPut_othersStay r kind c d).trans (State.wmCross_othersStay _ r 1)

theorem State.bothEvent_othersStay (s : State) (r kind : Nat) (c : Code) (d : Nat) : s.OthersStay (s.bothEvent r kind c d) r :=
  (s.pfEvent_othersStay kind c d r).trans (State.regionEvent_othersStay _ r kind c d)

end Sys2Proof.Machine
end

section
/-!
SUPPORT. Requests of revocations and their ends (23 R847-R855, R867).
-/
namespace Sys2Proof.Machine

/-! ## Requests -/

theorem exec_of_revokesWith {c : Instr} {kind : Nat} {f : FnId} {r : RegionId} {v : Word64} (revokes : RevokesWith c kind f r v) (s : State) :
    exec c s = .next (s.effect fun s => s.whenP (s.reaches f.val r.val && v.toNat % 16 = kind) fun s => s.revoke r.val kind v) := by
  simp only [RevokesWith, List.mem_cons, Prod.mk.injEq, List.not_mem_nil, or_false] at revokes
  rcases revokes with ⟨rfl, rfl⟩ | ⟨rfl, rfl⟩ | ⟨rfl, rfl⟩ | ⟨rfl, rfl⟩ | ⟨rfl, rfl⟩ | ⟨rfl, rfl⟩ <;> rfl

/-- An update of a region's own request. -/
theorem onRev_onlyRevocation (s : State) (r : Nat) (g : RegionRevoke → RegionRevoke) :
    ((s.onRev r g).region r).rev = g (s.region r).rev ∧ OnlyRevocation s (s.onRev r g) r := by
  have own := s.region_onRev r g
  exact ⟨(congrArg Region.rev own :), (congrArg Region.sched own :), (congrArg Region.aux own :),
    fun _ other => s.region_onRev_other g other.symm, rfl⟩

theorem completes_onRev {i : Instr} {s : State} {r : Nat} {f : State → State} (g : RegionRevoke → RegionRevoke)
    (run : exec i s = .next (s.effect f)) (step : f s = s.onRev r g) :
    Completes i s fun t => (t.region r).rev = g (s.region r).rev ∧ OnlyRevocation s t r := by
  have same : s.effect f = s.onRev r g := by
    rw [State.effect, step]
    rfl
  exact ⟨_, run, same ▸ onRev_onlyRevocation s r g⟩

section Request
variable {s : State} {c : Instr} {kind : Nat} {f : FnId} {r : RegionId} {v : Word64} (revokes : RevokesWith c kind f r v)
include revokes

section Idle
variable (reach : s.reaches f.val r.val = true) (named : v.toNat % 16 = kind) (idle : (s.region r.val).rev.busy = false)
include reach named idle

theorem revoke_requests (reserved : bitsOf v.toNat 7 4 = 0) (masked : bitsOf v.toNat 63 8 = Nat.land (bitsOf v.toNat 63 8) (revokeMask kind))
    (names : s.revokeNames r.val kind (bitsOf v.toNat 63 8) = true) : Completes c s fun t =>
        (t.region r.val).rev = { (s.region r.val).rev with busy := true, result := Codes.OK
                                                           pending := some { kind := kind, arg := bitsOf v.toNat 63 8 } } ∧
        OnlyRevocation s t r.val := by
  refine completes_onRev (fun x => { x with busy := true, result := Codes.OK, pending := some { kind := kind, arg := bitsOf v.toNat 63 8 } })
    (exec_of_revokesWith revokes s) ((s.whenP_pos _ (by simp [reach, named])).trans ?_)
  rw [State.revoke, if_neg (by simp [idle])]
  exact if_pos (by rw [reserved, ← masked, names]; simp)

theorem revoke_refuses (bad : bitsOf v.toNat 7 4 ≠ 0 ∨ bitsOf v.toNat 63 8 ≠ Nat.land (bitsOf v.toNat 63 8) (revokeMask kind) ∨
    s.revokeNames r.val kind (bitsOf v.toNat 63 8) = false) : Completes c s fun t =>
        (t.region r.val).rev = { (s.region r.val).rev with result := Codes.REVOKE_BAD_ARG } ∧ OnlyRevocation s t r.val := by
  refine completes_onRev (fun x => { x with result := Codes.REVOKE_BAD_ARG }) (exec_of_revokesWith revokes s)
    ((s.whenP_pos _ (by simp [reach, named])).trans ?_)
  rw [State.revoke, if_neg (by simp [idle])]
  refine if_neg fun good => ?_
  simp only [Bool.and_eq_true, decide_eq_true_eq] at good
  obtain ⟨⟨reserved, masked⟩, names⟩ := good
  rcases bad with h | h | h
  · exact h reserved
  · exact h masked
  · simp [h] at names

end Idle

theorem revoke_busy (busy : (s.region r.val).rev.busy = true) : exec c s = .next s := by
  refine exec_stays (exec_of_revokesWith revokes s) ?_
  cases s.reaches f.val r.val && v.toNat % 16 = kind
  · rfl
  · exact if_pos busy

end Request

/-! ## The end -/

theorem get_revoked (l : Tab Queue) (q : Nat) :
    (Tab.get {} (l.map fun (e : Nat × Queue) => (e.1, e.2.revoked)) q).enable = false := by
  induction l with
  | nil => rfl
  | cons e l ih =>
    simp only [List.map_cons, Tab.get]
    split
    · rfl
    · exact ih

theorem State.resetResource_leaves (s : State) (r : Nat) (v : Revocation) :
    (s.resetResource r v).mem = s.mem ∧ s.OthersStay (s.resetResource r v) r ∧ ((s.resetResource r v).region r).rev = (s.region r).rev ∧
    ((s.resetResource r v).region r).sched.evt = (s.region r).sched.evt := by
  unfold State.resetResource
  split
  · exact ⟨rfl, s.onSched_othersStay r _, by simp [State.onQueue], by simp [State.onQueue]⟩
  · exact ⟨rfl, s.onSched_othersStay r _, by simp, by simp⟩
  · split
    · exact ⟨rfl, .of_regions rfl, rfl, rfl⟩
    · exact ⟨rfl, .of_regions rfl, rfl, rfl⟩
  · extract_lets cleared
    have own : cleared.region r = _ := s.region_onSched r _
    have clearing : s.OthersStay cleared r := s.onSched_othersStay r _
    exact ⟨rfl, clearing.trans (.of_regions rfl), (congrArg Region.rev own :), (congrArg (·.sched.evt) own :)⟩
  · exact ⟨rfl, .of_regions rfl, rfl, rfl⟩

/-- The region whose revocation has ended, before REVOKE_DONE is raised. -/
def State.revokeClosed (s : State) (r : Nat) (v : Revocation) : State :=
  (s.resetResource r v).onRev r fun x => { x with busy := false, pending := none }

theorem State.sched_revokeClosed (s : State) (r : Nat) (v : Revocation) :
    ((s.revokeClosed r v).region r).sched = ((s.resetResource r v).region r).sched := by
  rw [State.revokeClosed, State.region_onRev]

theorem State.resetResource_queue (s : State) (r : Nat) {v : Revocation} (kind : v.kind = 0) :
    (s.resetResource r v).queue r (v.arg % 64) = { s.queue r (v.arg % 64) with enable := false } ∧
    ∀ q, q ≠ v.arg % 64 → (s.resetResource r v).queue r q = s.queue r q := by
  have reset : s.resetResource r v = s.onQueue r (v.arg % 64) Queue.revoked := by simp only [State.resetResource, kind]
  rw [reset]
  refine ⟨s.queue_onQueue r _ _, fun q other => ?_⟩
  simp [State.onQueue, State.queue, Tab.get_modify_other _ _ _ other.symm]

theorem State.resetResource_flag (s : State) (r : Nat) {v : Revocation} (kind : v.kind = 2) :
    (s.resetResource r v).flag r v.arg = 0 ∧ ∀ n, n ≠ v.arg → (s.resetResource r v).flag r n = s.flag r n := by
  simp only [State.resetResource, kind, State.flag, State.region_onSched]
  exact ⟨Tab.get_set_same _ _ _ _, fun n other => Tab.get_set_other _ _ _ other.symm⟩

theorem State.region_onNoc (s : State) (f : Noc → Noc) (r : Nat) : (s.onNoc f).region r = s.region r := rfl

theorem State.resetResource_region (s : State) (r : Nat) {v : Revocation} (kind : v.kind = 5) :
    (∀ n, (s.resetResource r v).flag r n = 0) ∧ ∀ q, ((s.resetResource r v).queue r q).enable = false := by
  have sched : ((s.resetResource r v).region r).sched =
      { (s.region r).sched with flags := [], flagUpds := [], queues := (s.region r).sched.queues.map fun e => (e.1, e.2.revoked) } := by
    simp only [State.resetResource, kind]
    rw [State.region_onNoc, State.region_onSched]
  constructor
  · intro n
    rw [State.flag, sched]
    rfl
  · intro q
    rw [State.queue, sched]
    exact get_revoked _ q

theorem State.resetResource_nothing (s : State) (r : Nat) {v : Revocation} (kind : v.kind = 1 ∨ v.kind = 3) : s.resetResource r v = s := by
  rcases kind with h | h <;> simp only [State.resetResource, h]

theorem revokeDone_ends {s : State} {r : RegionId} {x : Revocation} (runs : s.dev.boot.stage = .running)
    (noReset : (s.region r.val).aux.resetBusy = false) (pending : (s.region r.val).rev.pending = some x) (applied : x.applied = true)
    (gone : ∀ p ∈ x.old, s.slotOf r.val p.1 p.2 = none) : Completes (.revokeDone r) s fun t =>
        (t.region r.val).rev.busy = false ∧ (t.region r.val).rev.pending = none ∧ (t.region r.val).rev.result = (s.region r.val).rev.result ∧
        (t.region r.val).rev.epochs = (s.region r.val).rev.epochs ∧
        (x.kind = 0 → t.queue r.val (x.arg % 64) = { s.queue r.val (x.arg % 64) with enable := false } ∧
          ∀ q, q ≠ x.arg % 64 → t.queue r.val q = s.queue r.val q) ∧
        (x.kind = 2 → t.flag r.val x.arg = 0 ∧ ∀ n, n ≠ x.arg → t.flag r.val n = s.flag r.val n) ∧
        (x.kind = 5 → (∀ n, t.flag r.val n = 0) ∧ ∀ q, (t.queue r.val q).enable = false) ∧
        ((x.kind = 1 ∨ x.kind = 3) → (∀ n, t.flag r.val n = s.flag r.val n) ∧ ∀ q, t.queue r.val q = s.queue r.val q) ∧
        (∀ p, p ≠ r.val → t.region p = s.region p) ∧ (EventsOutside s r.val → t.mem = s.mem) ∧ s.KeepsStore t := by
  have ended : s.revokeEnd r.val = (s.revokeClosed r.val x).regionEvent r.val 0 Codes.REVOKE_DONE x.kind := by
    have all : x.old.all (fun p => (s.slotOf r.val p.1 p.2).isNone) = true := by simpa using gone
    rw [State.revokeEnd, pending]
    exact if_pos (by simp [applied, all])
  obtain ⟨mem, others, rev, evt⟩ := s.resetResource_leaves r.val x
  have sched := s.sched_revokeClosed r.val x
  have closed : ((s.revokeClosed r.val x).region r.val).rev = { (s.region r.val).rev with busy := false, pending := none } := by
    rw [State.revokeClosed, State.region_onRev, rev]
  have othersClosed : s.OthersStay (s.revokeClosed r.val x) r.val := others.trans (State.onRegion_othersStay _ r.val _)
  have outsideClosed : s.StaysOutside (s.revokeClosed r.val x) r.val := fun outside => by
    refine ⟨?_, mem⟩
    rw [EventsOutside, sched, evt]
    exact outside
  have quiet := (s.revokeClosed r.val x).regionEvent_keeps r.val 0 Codes.REVOKE_DONE x.kind
  have told := ((s.revokeClosed r.val x).regionEvent_tells r.val 0 Codes.REVOKE_DONE x.kind).rev r.val
  have othersTold := othersClosed.trans ((s.revokeClosed r.val x).regionEvent_othersStay r.val 0 Codes.REVOKE_DONE x.kind)
  have outsideTold := outsideClosed.trans ((s.revokeClosed r.val x).regionEvent_staysOutside r.val 0 Codes.REVOKE_DONE x.kind)
  rw [← ended] at quiet told othersTold outsideTold
  have queues (q : Nat) : (s.revokeEnd r.val).queue r.val q = (s.resetResource r.val x).queue r.val q := by
    rw [quiet.queue, State.queue, sched, State.queue]
  have flags (n : Nat) : (s.revokeEnd r.val).flag r.val n = (s.resetResource r.val x).flag r.val n := by
    rw [State.flag, quiet.flags, sched, State.flag]
  rw [closed] at told
  refine completes_of_effect rfl (s.whenP_pos _ (by simp [State.running, runs, noReset]))
    ⟨(congrArg RegionRevoke.busy told :), (congrArg RegionRevoke.pending told :), (congrArg RegionRevoke.result told :),
      (congrArg RegionRevoke.epochs told :), fun kind => ?_, fun kind => ?_, fun kind => ?_, fun kind => ?_, othersTold,
      fun outside => (outsideTold outside).2, s.effect_keepsStore _⟩
  · obtain ⟨own, rest⟩ := s.resetResource_queue r.val kind
    exact ⟨(queues _).trans own, fun q other => (queues q).trans (rest q other)⟩
  · obtain ⟨own, rest⟩ := s.resetResource_flag r.val kind
    exact ⟨(flags _).trans own, fun n other => (flags n).trans (rest n other)⟩
  · obtain ⟨zero, off⟩ := s.resetResource_region r.val kind
    exact ⟨fun n => (flags n).trans (zero n), fun q => (congrArg Queue.enable (queues q)).trans (off q)⟩
  · have nothing := s.resetResource_nothing r.val kind
    exact ⟨fun n => (flags n).trans (by rw [nothing]), fun q => (queues q).trans (by rw [nothing])⟩

theorem revokeDone_waits {s : State} {r : RegionId} {x : Revocation} (pending : (s.region r.val).rev.pending = some x)
    (waits : x.applied = false ∨ ∃ p ∈ x.old, (s.slotOf r.val p.1 p.2).isSome = true) : exec (.revokeDone r) s = .next s := by
  have early : (x.applied && x.old.all (fun p => (s.slotOf r.val p.1 p.2).isNone)) = false := by
    rcases waits with h | ⟨p, listed, lives⟩
    · simp [h]
    · have some_ : (s.slotOf r.val p.1 p.2).isNone = false := by rw [← Option.not_isSome, lives]; rfl
      rw [Bool.and_eq_false_iff, List.all_eq_false]
      exact .inr ⟨p, listed, by simp [some_]⟩
  have stays : s.revokeEnd r.val = s := by
    rw [State.revokeEnd, pending]
    exact if_neg (by simp [early])
  refine exec_stays rfl ?_
  cases s.running && !(s.region r.val).aux.resetBusy
  · rfl
  · exact stays

end Sys2Proof.Machine
end

section
/-!
CERTIFICATE. Revocations are requested, refused and end.
-/
namespace Sys2Proof.Machine

/-- Settles O57: the write by each of the six commands, and the end by what the event of REVOKE_DONE leaves of the region. -/
theorem revocationsAreRequestedAndEnd : Obligations.RevocationsAreRequestedAndEnd := by
  intro s c kind f r v x revokes
  exact ⟨revoke_requests revokes, revoke_refuses revokes, revoke_busy revokes, revokeDone_ends, revokeDone_waits⟩

end Sys2Proof.Machine
end

section
/-!
SUPPORT. Debug accesses (24 R893, R894; 25 R904).
-/
namespace Sys2Proof.Machine

/-- An effect that leaves the queue, the part and the fuses is what it answers. -/
theorem State.flashEffect_of_frame {s : State} {f : State → State} (pending : (f s).pending = s.pending) (part : (f s).part = s.part)
    (fuses : (f s).fuses = s.fuses) : s.flashEffect f = f s := by
  rw [State.flashEffect, ← pending, ← part, ← fuses]

theorem debugResult_eq (v : Word64) (data status : Nat) :
    debugResult v data status = BitVec.ofNat 64 (v.toNat % 2 ^ 28 + data * 2 ^ 28 + status * 2 ^ 60) := by
  simp only [debugResult, fields]
  congr 1
  omega

/-- What an access of the debug port at offset `o` does. -/
def State.debugAccess (s : State) (v : Word64) (o : Nat) : State :=
  if !s.debugOpen o (v.getLsbD 26) then
    (s.onDbg fun d => { d with access := debugResult v 0 1 }).pfEvent 6 Codes.DBG_DENIED (o + b2n (v.getLsbD 26) * 2 ^ 26)
  else if o % 4 ≠ 0 then (s.onDbg fun d => { d with access := debugResult v 0 0 }).badAccess 0 o
  else if v.getLsbD 26 then
    (s.bump.onDbg fun d => { d with access := debugResult v (s.freeVal 0 % 2 ^ 32) 0 }).whenP (s.pfReach (o < 0x100000))
      fun s => s.regWrite 0 o (v.extractLsb' 28 32)
  else (s.debugRead o).onDbg fun d => { d with access := debugResult v (s.regRead 0 o).toNat 0 }

theorem exec_dbgAccessUpdate (s : State) (v : Word64) : exec (.dbgAccessUpdate v) s = .next (s.flashEffect fun s =>
    s.whenP (s.scanUp && s.dev.dbg.ir = 0x10) fun s => s.debugAccess v (v.toNat % 2 ^ 26)) := rfl

theorem State.debugRead_form (s : State) (o : Nat) : ∃ l, s.debugRead o = s.onClk fun c => { c with latches := l } := by
  unfold State.debugRead
  split
  · exact ⟨_, rfl⟩
  · exact ⟨s.dev.clk.latches, rfl⟩

section Access
variable {s : State} {v : Word64} (rail : s.dev.pins.mgtVio = true) (powered : s.dev.boot.causeRail = false) (selected : s.dev.dbg.ir = 0x10)
include rail powered selected

theorem exec_debugAccess {o : Nat} (offset : v.toNat % 2 ^ 26 = o) :
    exec (.dbgAccessUpdate v) s = .next (s.flashEffect fun _ => s.debugAccess v o) := by
  have may : (s.scanUp && s.dev.dbg.ir = 0x10) = true := by simp [State.scanUp, rail, powered, selected]
  rw [exec_dbgAccessUpdate, offset, State.flashEffect, s.whenP_pos _ may, State.flashEffect]

theorem completes_debugAccess {o : Nat} (offset : v.toNat % 2 ^ 26 = o) {t : State} {P : State → Prop} (step : s.debugAccess v o = t)
    (given : P (s.flashEffect fun _ => t)) : Completes (.dbgAccessUpdate v) s P := by
  subst step
  exact ⟨_, exec_debugAccess rail powered selected offset, given⟩

theorem debugAccess_reads {o : Nat} (offset : v.toNat % 2 ^ 26 = o) (read : v.getLsbD 26 = false) (aligned : v.toNat % 4 = 0)
    (open_ : s.debugOpen o false = true) : Completes (.dbgAccessUpdate v) s fun t =>
      t.dev.dbg.access = BitVec.ofNat 64 (v.toNat % 2 ^ 28 + (s.regRead 0 o).toNat * 2 ^ 28) ∧
      t = { s with dev := { s.dev with dbg := { s.dev.dbg with access := t.dev.dbg.access }, clk := { s.dev.clk with latches := t.dev.clk.latches } } } := by
  have word : ¬ o % 4 ≠ 0 := by omega
  have value := debugResult_eq v (s.regRead 0 o).toNat 0
  rw [Nat.zero_mul, Nat.add_zero] at value
  have step : s.debugAccess v o = (s.debugRead o).onDbg fun d => { d with access := debugResult v (s.regRead 0 o).toNat 0 } := by
    rw [State.debugAccess, read, open_, if_neg (by simp), if_neg word, if_neg Bool.false_ne_true]
  obtain ⟨answer, given⟩ : ∃ a, debugResult v (s.regRead 0 o).toNat 0 = a := ⟨_, rfl⟩
  rw [given] at value step
  obtain ⟨latches, reading⟩ := s.debugRead_form o
  rw [reading] at step
  exact completes_debugAccess rail powered selected offset step ⟨value, rfl⟩

theorem debugAccess_writes (write : v.getLsbD 26 = true) (offset : v.toNat % 2 ^ 26 = 0x98) (unlocked : s.fuses.lock = false)
    (plain : s.dev.aux.slateInForce = false) (reach : s.pfReach true = true) : Completes (.dbgAccessUpdate v) s fun t =>
        t.dev.boot.imageLen = v.extractLsb' 28 32 ∧ t.dev.dbg.access.toNat / 2 ^ 60 = 0 ∧ t.mem = s.mem ∧ t.fab = s.fab ∧ s.KeepsStore t := by
  obtain ⟨data, drawn⟩ : ∃ data, s.freeVal 0 % 2 ^ 32 = data := ⟨_, rfl⟩
  have small : data < 2 ^ 32 := by omega
  have status : (debugResult v data 0).toNat / 2 ^ 60 = 0 := by
    rw [debugResult_eq, BitVec.toNat_ofNat]
    omega
  have step : s.debugAccess v 0x98 = (s.bump.onDbg fun d => { d with access := debugResult v data 0 }).onBoot fun b =>
      { b with imageLen := v.extractLsb' 28 32 } := by
    have open_ : s.debugOpen 0x98 true = true := by simp [State.debugOpen, unlocked, plain]
    rw [State.debugAccess, write, open_, if_neg (by simp), if_neg (by decide), if_pos rfl, drawn]
    exact State.whenP_pos _ _ reach
  obtain ⟨answer, given⟩ : ∃ a, debugResult v data 0 = a := ⟨_, rfl⟩
  obtain ⟨len, taken⟩ : ∃ l, v.extractLsb' 28 32 = l := ⟨_, rfl⟩
  rw [given] at status step
  rw [taken] at step ⊢
  obtain ⟨u, written, imageLen, access, mem, fab, flash⟩ : ∃ u, s.debugAccess v 0x98 = u ∧ u.dev.boot.imageLen = len ∧
      u.dev.dbg.access = answer ∧ u.mem = s.mem ∧ u.fab = s.fab ∧ u.flash = s.flash := ⟨_, step, rfl, rfl, rfl, rfl, rfl⟩
  refine completes_debugAccess rail powered selected offset written ⟨imageLen, ?_, mem, fab, rfl, rfl, flash⟩
  rw [State.flashEffect_dev, access]
  exact status

theorem debugAccess_denied {o : Nat} (offset : v.toNat % 2 ^ 26 = o) (locked : s.fuses.lock = true)
    (closed : v.getLsbD 26 = true ∨ debugClosed o = true) : Completes (.dbgAccessUpdate v) s fun t =>
      t.dev.dbg.access = BitVec.ofNat 64 (v.toNat % 2 ^ 28 + 2 ^ 60) ∧
      (s.dev.hst.pfEvt.enable = true → s.dev.hst.pfEvt.full = false →
        t.dev.hst.pfEvt = { s.dev.hst.pfEvt with tail := s.dev.hst.pfEvt.tail + 1 }) ∧
      t = { s with hostMem := t.hostMem, dev := { s.dev with dbg := { s.dev.dbg with access := t.dev.dbg.access }, hst := { s.dev.hst with
        pfEvt := t.dev.hst.pfEvt, pfIrq := t.dev.hst.pfIrq } } } := by
  have shut : s.debugOpen o (v.getLsbD 26) = false := by
    rw [State.debugOpen, if_pos locked]
    rcases closed with h | h <;> rw [h] <;> simp
  have value := debugResult_eq v 0 1
  rw [Nat.zero_mul, Nat.add_zero, Nat.one_mul] at value
  have step : s.debugAccess v o = (s.onDbg fun d => { d with access := debugResult v 0 1 }).pfEvent 6 Codes.DBG_DENIED
      (o + b2n (v.getLsbD 26) * 2 ^ 26) := by
    rw [State.debugAccess, shut]
    rfl
  obtain ⟨detail, named⟩ : ∃ d, o + b2n (v.getLsbD 26) * 2 ^ 26 = d := ⟨_, rfl⟩
  obtain ⟨answer, given⟩ : ∃ a, debugResult v 0 1 = a := ⟨_, rfl⟩
  rw [given] at value step
  rw [named] at step
  let denied := s.onDbg fun d => { d with access := answer }
  have frame := denied.pfEvent_frame 6 Codes.DBG_DENIED detail
  have access : (denied.pfEvent 6 Codes.DBG_DENIED detail).dev.dbg.access = answer := congrArg (·.dev.dbg.access) frame
  refine completes_debugAccess rail powered selected offset step ?_
  rw [State.flashEffect_of_frame (by rw [State.pfEvent_pending]; rfl) (by rw [State.pfEvent_part]; rfl) (by rw [State.pfEvent_fuses]; rfl)]
  refine ⟨access.trans value, denied.pfEvent_taken 6 _ _, ?_⟩
  rw [access]
  exact frame

end Access

end Sys2Proof.Machine
end

section
/-!
CERTIFICATE. Debug accesses are guarded by the lock.
-/
namespace Sys2Proof.Machine

/-- Settles O60: an open read, an open write, and an access that the lock denies. -/
theorem debugAccessesAreGuarded : Obligations.DebugAccessesAreGuarded := by
  intro s v rail powered selected
  exact ⟨debugAccess_reads rail powered selected rfl, debugAccess_writes rail powered selected, debugAccess_denied rail powered selected rfl⟩

end Sys2Proof.Machine
end

section
/-!
SUPPORT. A boot that starts, and instructions of the test port (05 R133, R158; 24 R888-R892).
-/
namespace Sys2Proof.Machine

/-! ## The start of a boot -/

theorem State.bootDomains_tripped (s : State) (hold : s.dev.aux.tripHold = true) : s.bootDomains =
    [19, 39, 45].foldl (fun s n => s.onDomain n fun d => { d with target := 1, state := .pewter }) (s.toIvory [40, 43, 44]) := by
  rw [State.bootDomains, if_pos hold]

/-- After a thermal trip the port domains and the edge domains stay off. -/
theorem State.domain_bootTripped (s : State) (hold : s.dev.aux.tripHold = true) (n : Nat) :
    (n = 40 ∨ n = 43 ∨ n = 44 → (s.bootDomains.domain n).state = .ivory) ∧
    (n = 19 ∨ n = 39 ∨ n = 45 → (s.bootDomains.domain n).state = .pewter) ∧
    (n ≠ 19 → n ≠ 39 → n ≠ 40 → n ≠ 43 → n ≠ 44 → n ≠ 45 → s.bootDomains.domain n = s.domain n) := by
  rw [s.bootDomains_tripped hold]
  simp only [List.foldl_cons, List.foldl_nil]
  refine ⟨fun hub => ?_, fun edge => ?_, fun n19 n39 n40 n43 n44 n45 => ?_⟩
  · rw [State.domain_onDomain_other _ _ (by omega), State.domain_onDomain_other _ _ (by omega), State.domain_onDomain_other _ _ (by omega)]
    exact State.toIvory_ivory [40, 43, 44] s n (.inl (by simpa using hub))
  · rcases edge with rfl | rfl | rfl
    · rw [State.domain_onDomain_other _ _ (by decide), State.domain_onDomain_other _ _ (by decide), State.domain_onDomain]
    · rw [State.domain_onDomain_other _ _ (by decide), State.domain_onDomain]
    · rw [State.domain_onDomain]
  · rw [State.domain_onDomain_other _ _ n45.symm, State.domain_onDomain_other _ _ n39.symm, State.domain_onDomain_other _ _ n19.symm]
    exact State.toIvory_other [40, 43, 44] s n (by simp [n40, n43, n44])

theorem State.startBoot_atRom (s : State) : s.AtRom s.startBoot := by
  obtain ⟨boot, hst, clk, mem, fab⟩ := s.startBoot_leaves
  have aux : s.startBoot.dev.aux = s.detach.dev.aux := by
    unfold State.startBoot
    rw [State.bootDomains_frame]
    rfl
  have tick : s.startBoot.dev.noc.frameTick = s.dev.clk.tick := by
    unfold State.startBoot
    rw [State.bootDomains_frame]
    rfl
  have domains (n : Nat) : s.startBoot.domain n = s.detach.bootDomains.domain n := rfl
  refine ⟨congrArg Boot.stage boot, congrArg Boot.releaseTick boot, fun free n low high => ?_, fun free n outside => ?_,
    fun tripped n hub => ?_, fun tripped n edge => ?_, fun tripped n n19 n39 n40 n43 n44 n45 => ?_, congrArg Hst.linkUp hst, rfl, rfl, tick⟩
  · exact s.startBoot_hub n (by simp; omega) (by rw [← aux]; exact free)
  · exact s.startBoot_other n (by simp; omega) (by rw [← aux]; exact free)
  · rw [domains]
    exact (s.detach.domain_bootTripped (by rw [← aux]; exact tripped) n).1 hub
  · rw [domains]
    exact (s.detach.domain_bootTripped (by rw [← aux]; exact tripped) n).2.1 edge
  · rw [domains]
    exact (s.detach.domain_bootTripped (by rw [← aux]; exact tripped) n).2.2 n19 n39 n40 n43 n44 n45

/-! ## The bits of a number made of bit fields -/

theorem fields_append (l m : List (Nat × Nat)) : fields (l ++ m) = fields l + fields m := by
  induction l with
  | nil => simp [fields]
  | cons e l ih => simp [fields, ih, Nat.add_assoc]

theorem fields_bits (f : Nat → Bool) (n : Nat) :
    fields ((List.range n).map fun i => (i, b2n (f i))) < 2 ^ n ∧
    ∀ k, (fields ((List.range n).map fun i => (i, b2n (f i)))).testBit k = (decide (k < n) && f k) := by
  induction n with
  | zero => simp [fields]
  | succ n ih =>
    obtain ⟨small, bits⟩ := ih
    have top : fields ((List.range (n + 1)).map fun i => (i, b2n (f i))) =
        2 ^ n * b2n (f n) + fields ((List.range n).map fun i => (i, b2n (f i))) := by
      rw [List.range_succ, List.map_append, fields_append]
      simp [fields, Nat.mul_comm, Nat.add_comm]
    have bit : b2n (f n) ≤ 1 := by cases f n <;> simp [b2n]
    rw [top]
    refine ⟨?_, fun k => ?_⟩
    · rw [pow_succ]
      have := Nat.mul_le_mul_left (2 ^ n) bit
      omega
    · rw [Nat.testBit_two_pow_mul_add _ small]
      split
      case isTrue below => simp [bits, below, Nat.lt_succ_of_lt below]
      case isFalse above =>
        by_cases same : k = n
        · subst same
          cases h : f k <;> simp [b2n]
        · have past : k - n ≠ 0 := by omega
          have beyond : ¬ k < n + 1 := by omega
          have clear : Nat.testBit 1 (k - n) = false := Bool.eq_false_iff.mpr fun set => past (Nat.testBit_one_eq_true_iff_self_eq_zero.mp set)
          cases h : f n <;> simp [b2n, beyond, clear]

/-- A boundary cell as its ball stands. -/
def State.sampledCell (s : State) (i : Nat) : Bool :=
  if i < 8 then s.dev.pins.cblpres.getLsbD (7 - i)
  else if i = 8 then !s.dev.boot.causeHost
  else if i = 9 then s.dev.pins.syncOutHigh
  else if i = 12 then !s.dev.boot.causeBoard
  else if i = 13 then !s.alertLow
  else decide (s.freeVal i % 2 = 1)

theorem State.sampledCells_eq (s : State) : s.sampledCells = fields ((List.range 19).map fun i => (i, b2n (s.sampledCell i))) := by
  have free (x : Nat) : x % 2 = b2n (decide (x % 2 = 1)) := by
    rcases Nat.mod_two_eq_zero_or_one x with h | h <;> rw [h] <;> rfl
  have cell (i : Nat) : (if i < 8 then b2n (s.dev.pins.cblpres.getLsbD (7 - i))
      else if i = 8 then b2n (!s.dev.boot.causeHost)
      else if i = 9 then b2n s.dev.pins.syncOutHigh
      else if i = 12 then b2n (!s.dev.boot.causeBoard)
      else if i = 13 then b2n (!s.alertLow)
      else s.freeVal i % 2) = b2n (s.sampledCell i) := by
    rw [free (s.freeVal i), State.sampledCell]
    split_ifs <;> rfl
  simp only [State.sampledCells, cell]

theorem State.sampledCells_bit (s : State) {k : Nat} (inside : k < 19) :
    (BitVec.ofNat 64 s.sampledCells).getLsbD k = s.sampledCell k := by
  rw [BitVec.getLsbD_ofNat, s.sampledCells_eq, (fields_bits s.sampledCell 19).2]
  simp [inside, show k < 64 by omega]

/-! ## Instructions -/

section Port
variable {s : State} (rail : s.dev.pins.mgtVio = true) (powered : s.dev.boot.causeRail = false)
include rail powered

theorem scanUp_of_powered : s.scanUp = true := by simp [State.scanUp, rail, powered]

/-- An instruction is loaded without a boot outside RESET, and where it holds the reset. -/
theorem State.loadIr_stays {op : Byte} (stays : s.dev.boot.stage ≠ .reset ∨ jtagHolds op = true) :
    s.loadIr op = s.onDbg fun d => { d with ir := op } := by
  rw [State.loadIr, if_pos (scanUp_of_powered rail powered)]
  by_cases reset : s.dev.boot.stage = .reset
  · have holds := stays.resolve_left (not_not.mpr reset)
    have caused : (s.onDbg fun d => { d with ir := op }).resetCaused = true := by simp [State.resetCaused, reset, holds]
    exact (if_pos reset).trans (if_pos caused)
  · exact if_neg reset

theorem completes_loadIr {c : Instr} {op : Byte} (run : exec c s = .next (s.effect fun s => s.loadIr op))
    (stays : s.dev.boot.stage ≠ .reset ∨ jtagHolds op = true) : Completes c s fun t =>
        t = { s with dev := { s.dev with dbg := { s.dev.dbg with ir := op } } } ∧
        (s.dev.boot.stage = .reset → op = 0x03 ∨ op = 0x04 →
          t.syncOutBall = (if s.dev.dbg.boundary.getLsbD 10 then (if s.dev.dbg.boundary.getLsbD 9 then .high else .low) else .floats)) ∧
        (s.dev.boot.stage = .reset → op = 0x05 → t.syncOutBall = .floats ∧ t.alertBall = .floats) := by
  have up (out en : Nat) (own : Ball) (reset : s.dev.boot.stage = .reset) : (s.onDbg fun d => { d with ir := op }).scanBall out en own =
      if op = 0x03 || op = 0x04 then cellBall s.dev.dbg.boundary out en else if op = 0x05 then .floats else own := by
    have lit : (s.onDbg fun d => { d with ir := op }).scanUp = true := scanUp_of_powered rail powered
    rw [State.scanBall, lit]
    exact if_neg (not_not.mpr reset)
  refine completes_of_effect run (State.loadIr_stays rail powered stays) ⟨rfl, fun reset drives => ?_, fun reset floats => ?_⟩
  · exact (up 9 10 _ reset).trans (if_pos (by simpa using drives))
  · subst floats
    exact ⟨up 9 10 _ reset, up 13 14 _ reset⟩

omit rail powered in
theorem testInstruction_loads {op : Byte} {c : Instr}
    (loads : (c, op) ∈ [(Instr.testLogicReset, (0x01 : Byte)), (.extest, 0x03), (.clamp, 0x04), (.highz, 0x05), (.dbgAccess, 0x10), (.bypass 0xFF, 0xFF)]) :
    exec c s = .next (s.effect fun s => s.loadIr op) := by
  simp only [List.mem_cons, Prod.mk.injEq, List.not_mem_nil, or_false] at loads
  rcases loads with ⟨rfl, rfl⟩ | ⟨rfl, rfl⟩ | ⟨rfl, rfl⟩ | ⟨rfl, rfl⟩ | ⟨rfl, rfl⟩ | ⟨rfl, rfl⟩ <;> rfl

theorem testLogicReset_boots (reset : s.dev.boot.stage = .reset) (overV : s.dev.boot.causeOver = false)
    (board : s.dev.boot.causeBoard = false) (host : s.dev.boot.causeHost = false) : Completes .testLogicReset s fun t =>
      s.AtRom t ∧ t.dev.dbg.ir = 0x01 ∧ s.KeepsStore t ∧ s.KeepsFabric t := by
  obtain ⟨loaded, load⟩ : ∃ t, (s.onDbg fun d => { d with ir := 0x01 }) = t := ⟨_, rfl⟩
  have free : loaded.resetCaused = false := by
    rw [← load]
    simp [State.resetCaused, powered, overV, board, host, jtagHolds]
  have step : s.loadIr 0x01 = loaded.startBoot := by
    rw [State.loadIr, if_pos (scanUp_of_powered rail powered), load]
    exact (if_pos (by rw [← load]; exact reset)).trans (if_neg (by simp [free]))
  obtain ⟨boot, hst, clk, mem, fab⟩ := loaded.startBoot_leaves
  have dbg : loaded.startBoot.dev.dbg = loaded.dev.dbg := by
    unfold State.startBoot
    rw [State.bootDomains_frame]
    rfl
  have hostMem : loaded.startBoot.hostMem = loaded.hostMem := by
    unfold State.startBoot
    rw [State.bootDomains_frame]
    rfl
  have rom := loaded.startBoot_atRom
  subst load
  refine completes_of_effect rfl step ⟨⟨rom.stage, rom.release, rom.hubs, rom.others, rom.hubsTripped, rom.edgesTripped, rom.othersTripped,
    rom.link, rom.frames⟩, congrArg Dbg.ir dbg, s.effect_keepsStore _, mem, hostMem, fab⟩

theorem idcode_answers (out : s.dev.boot.stage ≠ .reset) : Completes .idcode s fun t =>
      t = { s with dev := { s.dev with dbg := { s.dev.dbg with ir := 0x01, readAnswer := t.dev.dbg.readAnswer } } } ∧
      t.dev.dbg.readAnswer = (if s.part.grade = .ae7_960 then 0x1AE7056B else 0x1AE6456B) := by
  have code : BitVec.ofNat 64 s.part.idcode = if s.part.grade = .ae7_960 then 0x1AE7056B else 0x1AE6456B := by
    cases h : s.part.grade <;> simp [Part.idcode, fields, h]
  obtain ⟨answer, given⟩ : ∃ a, BitVec.ofNat 64 s.part.idcode = a := ⟨_, rfl⟩
  refine completes_of_effect (t := (s.onDbg fun d => { d with ir := 0x01 }).onDbg fun d => { d with readAnswer := answer }) rfl
    ((s.whenP_pos _ (scanUp_of_powered rail powered)).trans ?_) ⟨rfl, given.symm.trans code⟩
  rw [State.loadIr_stays rail powered (.inl out), given]

theorem samplePreload_samples (bits : BitVec 19) (out : s.dev.boot.stage ≠ .reset) : Completes (.samplePreload bits) s fun t =>
      t = { s with free := t.free, dev := { s.dev with dbg := { s.dev.dbg with ir := 0x02, boundary := bits, readAnswer := t.dev.dbg.readAnswer } } } ∧
      t.dev.dbg.readAnswer.getLsbD 9 = s.dev.pins.syncOutHigh ∧ t.dev.dbg.readAnswer.getLsbD 13 = !s.alertLow := by
  have syncOut := s.sampledCells_bit (k := 9) (by decide)
  have alert := s.sampledCells_bit (k := 13) (by decide)
  obtain ⟨answer, given⟩ : ∃ a, BitVec.ofNat 64 s.sampledCells = a := ⟨_, rfl⟩
  rw [given] at syncOut alert
  refine completes_of_effect (t := ((s.onDbg fun d => { d with ir := 0x02 }).onDbg fun d =>
      { d with boundary := bits, readAnswer := answer }).bump) rfl
    ((s.whenP_pos _ (scanUp_of_powered rail powered)).trans ?_) ⟨rfl, syncOut, alert⟩
  rw [State.loadIr_stays rail powered (.inl out)]
  dsimp only
  rw [given]

end Port

end Sys2Proof.Machine
end

section
/-!
CERTIFICATE. Test instructions load, hold the reset and drive balls.
-/
namespace Sys2Proof.Machine

/-- Settles O59: `completes_loadIr` for the instructions that only load, and one lemma for each of the others. -/
theorem testInstructionsLoad : Obligations.TestInstructionsLoad := by
  intro s op c bits rail powered
  exact ⟨fun loads stays => completes_loadIr rail powered (testInstruction_loads loads) stays,
    testLogicReset_boots rail powered, idcode_answers rail powered, samplePreload_samples rail powered bits,
    fun named => exec_stays rfl (s.whenP_neg _ (by simp [named]))⟩

end Sys2Proof.Machine
end

section
/-!
SUPPORT. Telemetry samples, the registers of trace capture and the debug consent (24 R873-R883, R894-R896).
-/
namespace Sys2Proof.Machine

/-! ## Background services leave what a register read answers -/

/-- What the background service of a task changes: which tasks are starved, and when each last had its slot. -/
def State.onStarved (s : State) (starved : List Nat) (last : Tab Nat) : State :=
  s.onNoc fun n => { n with starved := starved, bgLast := last }

theorem State.bgSite_form (s : State) (die k : Nat) (t : BgTask) : ∃ starved last, s.bgSite die k t = s.onStarved starved last := by
  unfold State.bgSite
  generalize s.bgHubs die k = hubs
  induction hubs using List.reverseRecOn with
  | nil => exact ⟨_, _, rfl⟩
  | append_singleton hubs h ih =>
    obtain ⟨starved, last, form⟩ := ih
    rw [List.foldl_append, form]
    exact ⟨_, _, rfl⟩

theorem State.sampleServed_form (s : State) (o : Nat) : ∃ starved last, s.sampleServed o = s.onStarved starved last := by
  unfold State.sampleServed
  split
  · exact s.bgSite_form _ _ _
  · exact ⟨_, _, rfl⟩
  · exact ⟨_, _, rfl⟩

section Starved
variable (s : State) (l : List Nat) (m : Tab Nat)

theorem State.fabWord_onStarved (die o : Nat) : (s.onStarved l m).fabWord die o = s.fabWord die o := by
  have frame : (s.onStarved l m).nocFrame = s.nocFrame := rfl
  have site (k : Nat) : (s.onStarved l m).siteMapWord die k = s.siteMapWord die k := rfl
  have phys (p : Nat) : (s.onStarved l m).physWord die p = s.physWord die p := rfl
  have edge (e : Nat) : (s.onStarved l m).edgeWord die e = s.edgeWord die e := rfl
  have mem (d o : Nat) : (s.onStarved l m).memWord d o = s.memWord d o := rfl
  have engine (e : Nat) : (s.onStarved l m).engineWord die e = s.engineWord die e := rfl
  have regs : (s.onStarved l m).die die = s.die die := rfl
  have mat (k : Nat) : (s.onStarved l m).matWord die k = s.matWord die k := rfl
  have sfu (k : Nat) : (s.onStarved l m).sfuWord die k = s.sfuWord die k := rfl
  have vis (stereo : Bool) : (s.onStarved l m).visStatus die stereo = s.visStatus die stereo := rfl
  unfold State.fabWord
  rw [frame, site, phys, edge, mem, engine, regs, mat, sfu, vis, vis]

theorem State.pfWord_onStarved (o : Nat) : (s.onStarved l m).pfWord o = s.pfWord o := by
  have hub : (s.onStarved l m).hubWord o = s.hubWord o := rfl
  have pwr (o : Nat) : (s.onStarved l m).pwrWord o = s.pwrWord o := rfl
  have clk (o : Nat) : (s.onStarved l m).clkWord 0 o = s.clkWord 0 o := rfl
  have sec (o : Nat) : (s.onStarved l m).secWord o = s.secWord o := rfl
  have window (r o : Nat) : (s.onStarved l m).windowWord r o = s.windowWord r o := by
    have word : (s.onStarved l m).regionWord r o = s.regionWord r o := rfl
    have running : (s.onStarved l m).running = s.running := rfl
    have defined : (s.onStarved l m).defined r = s.defined r := rfl
    rw [State.windowWord, State.windowWord, word, running, defined]

  have lnk (o : Nat) : (s.onStarved l m).lnkWord o = s.lnkWord o := rfl
  have ydi (o : Nat) : (s.onStarved l m).ydiWord o = s.ydiWord o := rfl
  have tel (o : Nat) : (s.onStarved l m).telWord o = s.telWord o := rfl
  have stage : (s.onStarved l m).dev.boot.stage = s.dev.boot.stage := rfl
  have map (q : Nat) : (s.onStarved l m).queMap q = s.queMap q := rfl
  unfold State.pfWord
  rw [hub, pwr, clk, sec, window, State.fabWord_onStarved, State.fabWord_onStarved, lnk, ydi, tel, stage, map]

theorem State.regRead64_onStarved (o : Nat) : (s.onStarved l m).regRead64 0 o = s.regRead64 0 o := by
  have stage : (s.onStarved l m).dev.boot.stage = s.dev.boot.stage := rfl
  have tick : (s.onStarved l m).tick = s.tick := rfl
  simp only [State.regRead64, State.regRead, if_true, State.pfWord_onStarved, stage, tick]

theorem State.sampleReached_onStarved (o : Nat) : (s.onStarved l m).sampleReached o = s.sampleReached o := rfl

end Starved

/-! ## Sample records -/

theorem satAdd_zero {w : Nat} (x : BitVec w) : satAdd x 0 = x := by
  have small := x.isLt
  rw [satAdd, Nat.add_zero, Nat.min_eq_left (by omega), BitVec.ofNat_toNat, BitVec.setWidth_eq]

/-- What records in the sample ring leave as it was. -/
structure State.Samples (s t : State) : Prop where
  mem : t.mem = s.mem
  fab : t.fab = s.fab
  late : t.dev.tel.late = s.dev.tel.late
  sources : t.dev.tel.sources = s.dev.tel.sources

theorem State.Samples.refl (s : State) : s.Samples s := ⟨rfl, rfl, rfl, rfl⟩

theorem State.Samples.trans {s t u : State} (a : s.Samples t) (b : t.Samples u) : s.Samples u :=
  ⟨b.mem.trans a.mem, b.fab.trans a.fab, b.late.trans a.late, b.sources.trans a.sources⟩

theorem State.pfEvent_samples (s : State) (kind : Nat) (c : Code) (d : Nat) : s.Samples (s.pfEvent kind c d) := by
  have frame := s.pfEvent_frame kind c d
  exact ⟨congrArg (·.mem) frame, congrArg (·.fab) frame, congrArg (·.dev.tel.late) frame, congrArg (·.dev.tel.sources) frame⟩

theorem State.samplePut_full {s : State} (full : s.dev.tel.ring.full = true) (bs : List Byte) : s.samplePut bs = s.onTel fun t =>
    { t with ring := { t.ring with lost := satAdd t.ring.lost 1 }, lostSince := t.lostSince + 1 } := by
  simp [State.samplePut, full, State.onTel, State.onDev, Ring.drop1]

theorem State.samplePut_written {s : State} (room : s.dev.tel.ring.full = false) (none_ : s.dev.tel.lostSince = 0)
    (allowed : s.pfHostAllowed = true) (bs : List Byte) : s.samplePut bs =
      { s.onTel fun t => { t with ring := { t.ring with tail := t.ring.tail + 1 } } with
        hostMem := hostPut s.hostMem (s.dev.tel.ring.base.toNat + s.dev.tel.ring.offset 16) bs } := by
  have quiet : s.sampleLost = s := if_pos none_
  rw [State.samplePut, room, quiet]
  dsimp only
  rw [allowed]
  rfl

theorem State.samplePut_samples (s : State) (bs : List Byte) : s.Samples (s.samplePut bs) := by
  have lost : s.Samples s.sampleLost := by
    unfold State.sampleLost
    dsimp only
    split
    · exact .refl s
    · have cleared : s.Samples (s.onTel fun t => { t with lostSince := 0 }) := ⟨rfl, rfl, rfl, rfl⟩
      exact cleared.trans (State.pfEvent_samples _ _ _ _)
  unfold State.samplePut
  dsimp only
  split
  · exact ⟨rfl, rfl, rfl, rfl⟩
  · refine lost.trans ?_
    generalize s.sampleLost = s
    cases s.pfHostAllowed <;> exact ⟨rfl, rfl, rfl, rfl⟩

theorem State.foldl_samples {f : State → Nat → State} (each : ∀ (s : State) (n : Nat), s.Samples (f s n)) (l : List Nat) (s : State) : s.Samples (l.foldl f s) := by
  induction l generalizing s with
  | nil => exact .refl s
  | cons n l ih => exact (each s n).trans (ih _)

theorem sampleBytes_eq (n : Nat) (ok : Bool) (frame value : Nat) : sampleBytes n ok (!ok) frame value =
    leBytes 4 (n + (if ok then 64 else 128)) ++ leBytes 4 (frame % 2 ^ 32) ++ leBytes 8 value := by
  have flags : fields [(0, n), (6, b2n ok), (7, b2n !ok)] = n + (if ok then 64 else 128) := by cases ok <;> simp [fields, b2n]
  rw [sampleBytes, flags]

/-! ## The periods -/

section Period
variable {s : State} (runs : s.sampling = true) (begins : s.atFrame = true) (due : s.frame % 2 ^ s.dev.tel.periodLog2.toNat = 0)
include runs begins due

theorem telSamplePeriod_begins (read : s.dev.tel.unread = []) : Completes .telSamplePeriod s fun t =>
      t = { s with dev := { s.dev with tel := { s.dev.tel with unread := t.dev.tel.unread, late := t.dev.tel.late } } } ∧
      t.dev.tel.late = s.dev.tel.late ∧ ∀ i, i ∈ t.dev.tel.unread ↔ i < 64 ∧ (Tab.get 0 s.dev.tel.sources i).getLsbD 31 = true := by
  refine completes_of_effect (t := s.onTel fun t => { t with late := satAdd t.late 0, unread := t.enabled }) rfl ?_
    ⟨rfl, satAdd_zero _, fun i => by simp [Tel.enabled]⟩
  rw [s.whenP_pos _ (by simp [runs, begins, due]), read]
  rfl

theorem telSamplePeriod_late (left : s.dev.tel.unread ≠ []) : Completes .telSamplePeriod s fun t =>
      t.dev.tel.late = satAdd s.dev.tel.late s.dev.tel.unread.length ∧ t.dev.tel.sources = s.dev.tel.sources ∧ t.mem = s.mem ∧ t.fab = s.fab ∧
      s.KeepsStore t := by
  obtain ⟨u, records⟩ : ∃ u, s.dev.tel.unread.foldl (fun s n => s.samplePut (sampleBytes n false false s.frame 0)) s = u := ⟨_, rfl⟩
  have kept : s.Samples u := by
    rw [← records]
    exact State.foldl_samples (fun s n => s.samplePut_samples _) _ s
  let noted := u.onTel fun t => { t with late := satAdd t.late s.dev.tel.unread.length, unread := t.enabled }
  have told := noted.pfEvent_samples 6 Codes.TEL_SAMPLE_LATE s.dev.tel.unread.length
  refine completes_of_effect rfl (t := noted.pfEvent 6 Codes.TEL_SAMPLE_LATE s.dev.tel.unread.length) ?_
    ⟨told.late.trans (congrArg (satAdd · _) kept.late), told.sources.trans kept.sources, told.mem.trans kept.mem, told.fab.trans kept.fab,
      s.effect_keepsStore _⟩
  rw [s.whenP_pos _ (by simp [runs, begins, due])]
  dsimp only
  rw [records]
  exact if_neg left

end Period

/-! ## One source -/

/-- The state in which source `n`, read in its slot, is no longer unread. -/
def State.sampleTaken (s : State) (starved : List Nat) (last : Tab Nat) (n : Nat) : State :=
  (s.onStarved starved last).onTel fun t => { t with unread := t.unread.erase n }

section Source
variable {s : State} {n : Fin 64} {o : Nat} (runs : s.sampling = true) (waits : n.val ∈ s.dev.tel.unread)
  (offset : s.sourceOffset n.val = o) (now : s.sampleNow o = true)
  (first : ∀ m ∈ s.dev.tel.unread, m < n.val → inFabric (s.sourceOffset m) ≠ inFabric o)
include runs waits offset now first

/-- A source that is read has its slot, leaves the unread ones, and gives its record. -/
theorem execTelSampleRead_reads {ok : Bool} (answers : ok = (samplePermitted o && s.sampleReached o)) {t : State} {P : State → Prop}
    {starved : List Nat} {last : Tab Nat} (served : s.sampleServed o = s.onStarved starved last)
    {record : List Byte} (bytes : sampleBytes n.val ok (!ok) s.frame (if ok then (s.regRead64 0 o).toNat else 0) = record)
    (put : (s.sampleTaken starved last n.val).samplePut record = t)
    (given : P (s.effect fun _ => t)) : Completes (.telSampleRead n) s P := by
  refine completes_of_effect rfl (t := t) ?_ given
  have may : (s.sampling && s.dev.tel.unread.contains n.val && s.sampleNow (s.sourceOffset n.val) &&
      !s.dev.tel.unread.any (fun m => m < n.val && inFabric (s.sourceOffset m) == inFabric (s.sourceOffset n.val))) = true := by
    simp [runs, waits, offset, now]
    exact first
  refine (s.whenP_pos _ may).trans ?_
  rw [offset, served]
  dsimp only
  have frame : (s.onStarved starved last).frame = s.frame := rfl
  rw [State.sampleReached_onStarved, State.regRead64_onStarved, ← answers, frame, bytes]
  exact put

theorem telSampleRead_drops (full : s.dev.tel.ring.full = true) : Completes (.telSampleRead n) s fun t =>
      t.dev.tel = { s.dev.tel with unread := s.dev.tel.unread.erase n.val, lostSince := s.dev.tel.lostSince + 1
                                   ring := { s.dev.tel.ring with lost := satAdd s.dev.tel.ring.lost 1 } } ∧
      t = { s with dev := { s.dev with tel := t.dev.tel, noc := (s.sampleServed o).dev.noc } } := by
  obtain ⟨starved, last, served⟩ := s.sampleServed_form o
  obtain ⟨ok, answers⟩ : ∃ ok, ok = (samplePermitted o && s.sampleReached o) := ⟨_, rfl⟩
  obtain ⟨record, bytes⟩ : ∃ b, sampleBytes n.val ok (!ok) s.frame (if ok then (s.regRead64 0 o).toNat else 0) = b := ⟨_, rfl⟩
  have still : (s.sampleTaken starved last n.val).dev.tel.ring.full = true := full
  refine execTelSampleRead_reads runs waits offset now first answers served bytes (State.samplePut_full still _) ⟨rfl, ?_⟩
  rw [served]
  rfl

theorem telSampleRead_records {ok : Bool} (answers : ok = (samplePermitted o && s.sampleReached o)) (room : s.dev.tel.ring.full = false)
    (none_ : s.dev.tel.lostSince = 0) (allowed : s.pfHostAllowed = true) : Completes (.telSampleRead n) s fun t =>
        t.hostMem = hostPut s.hostMem (s.dev.tel.ring.base.toNat + s.dev.tel.ring.tail.toNat % 2 ^ s.dev.tel.ring.sizeLog2.toNat * 16)
          (leBytes 4 (n.val + (if ok then 64 else 128)) ++ leBytes 4 (s.frame % 2 ^ 32) ++ leBytes 8 (if ok then (s.regRead64 0 o).toNat else 0)) ∧
        t.dev.tel = { s.dev.tel with unread := s.dev.tel.unread.erase n.val, ring := { s.dev.tel.ring with tail := s.dev.tel.ring.tail + 1 } } ∧
        t = { s with hostMem := t.hostMem, dev := { s.dev with tel := t.dev.tel, noc := (s.sampleServed o).dev.noc } } := by
  obtain ⟨starved, last, served⟩ := s.sampleServed_form o
  rw [← sampleBytes_eq]
  obtain ⟨record, bytes⟩ : ∃ b, sampleBytes n.val ok (!ok) s.frame (if ok then (s.regRead64 0 o).toNat else 0) = b := ⟨_, rfl⟩
  rw [bytes]
  have still : (s.sampleTaken starved last n.val).dev.tel.ring.full = false := room
  have since : (s.sampleTaken starved last n.val).dev.tel.lostSince = 0 := none_
  have may : (s.sampleTaken starved last n.val).pfHostAllowed = true := allowed
  refine execTelSampleRead_reads runs waits offset now first answers served bytes (State.samplePut_written still since may _) ⟨rfl, rfl, ?_⟩
  rw [served]
  rfl

end Source

/-! ## Trace control and consent -/

section Trace
variable {s : State} {v : Word} (reach : s.pfReach false = true) (on : s.domState 45 ≠ .pewter)
include reach on

theorem completes_dbgTraceCtlWrite {t : State} {P : State → Prop} (step : (if v.getLsbD 0 && !s.traceOpen (bitsOf v.toNat 5 1) then
      s.pfEvent 6 Codes.DBG_DENIED (traceCtlOffset + 2 ^ 26 + 2 ^ 27) else s.onDbg fun d => d.control v) = t)
    (given : P (s.effect fun _ => t)) : Completes (.dbgTraceCtlWrite v) s P :=
  completes_of_effect rfl ((s.whenP_pos _ reach).trans ((if_neg on).trans step)) given

theorem dbgTraceCtlWrite_arms (sets : v.getLsbD 0 = true) (open_ : s.traceOpen (bitsOf v.toNat 5 1) = true)
    (was : s.dev.dbg.ctl.getLsbD 0 = false) : Completes (.dbgTraceCtlWrite v) s fun t =>
        t = { s with dev := { s.dev with dbg := { s.dev.dbg with
          ctl := v.setWidth 11, armed := true, running := false, ending := false, full := false, written := 0, buf := [], collect := [] } } } := by
  refine completes_dbgTraceCtlWrite reach on (if_neg (by simp [open_])) ?_
  have armed : s.dev.dbg.control v = { s.dev.dbg with ctl := v.setWidth 11, armed := true, running := false, ending := false, full := false,
                                                      written := 0, buf := [], collect := [] } := by
    rw [Dbg.control, if_neg (by rw [sets]; decide), if_neg (by rw [was]; decide)]
  rw [State.onDbg, State.onDev, armed]
  rfl

theorem dbgTraceCtlWrite_ends (clears : v.getLsbD 0 = false) : Completes (.dbgTraceCtlWrite v) s fun t =>
        t = { s with dev := { s.dev with dbg := { s.dev.dbg with
          ctl := v.setWidth 11, armed := false, running := false, ending := false, collect := [] } } } := by
  refine completes_dbgTraceCtlWrite reach on (if_neg (by rw [clears]; exact Bool.false_ne_true)) ?_
  have ended : s.dev.dbg.control v = { s.dev.dbg with ctl := v.setWidth 11, armed := false, running := false, ending := false, collect := [] } := by
    rw [Dbg.control, if_pos (by rw [clears]; rfl)]
  rw [State.onDbg, State.onDev, ended]
  rfl

theorem dbgTraceCtlWrite_denied (sets : v.getLsbD 0 = true) (locked : s.fuses.lock = true)
    (closed : (s.region (bitsOf v.toNat 5 1)).aux.dbgConsent = false) : Completes (.dbgTraceCtlWrite v) s fun t =>
        (s.dev.hst.pfEvt.enable = true → s.dev.hst.pfEvt.full = false →
          t.dev.hst.pfEvt = { s.dev.hst.pfEvt with tail := s.dev.hst.pfEvt.tail + 1 }) ∧
        t = { s with hostMem := t.hostMem, dev := { s.dev with hst := { s.dev.hst with pfEvt := t.dev.hst.pfEvt, pfIrq := t.dev.hst.pfIrq } } } := by
  obtain ⟨detail, named⟩ : ∃ d, traceCtlOffset + 2 ^ 26 + 2 ^ 27 = d := ⟨_, rfl⟩
  refine completes_dbgTraceCtlWrite reach on (t := s.pfEvent 6 Codes.DBG_DENIED detail) ?_ ?_
  · rw [if_pos (by simp [sets, State.traceOpen, locked, closed]), named]
  rw [State.effect_of_frame (by simp) (by simp) (by simp) (by simp)]
  exact ⟨s.pfEvent_taken _ _ _, s.pfEvent_frame _ _ _⟩

end Trace

theorem regionDbgConsentWrite_sets {s : State} {f : FnId} {r : RegionId} (v : Word) (own : f.val = r.val + 1) (reach : s.reaches f.val r.val = true) :
    Completes (.regionDbgConsentWrite f r v) s fun t =>
      (t.region r.val).aux = { (s.region r.val).aux with dbgConsent := v.getLsbD 0 } ∧ (∀ p, p ≠ r.val → t.region p = s.region p) ∧
      ((s.region r.val).aux.dbgConsent = true → v.getLsbD 0 = false → bitsOf s.dev.dbg.ctl.toNat 5 1 = r.val → s.dev.dbg.running = true →
        t.dev.dbg.ending = true) ∧
      t = { s with fab := { s.fab with regions := t.fab.regions }, dev := { s.dev with dbg := { s.dev.dbg with ending := t.dev.dbg.ending } } } := by
  refine completes_of_effect (t := (s.onRAux r.val fun a => { a with dbgConsent := v.getLsbD 0 }).onDbg fun d => { d with ending := d.ending ||
      (((s.region r.val).aux.dbgConsent && !v.getLsbD 0) && bitsOf d.ctl.toNat 5 1 = r.val && (d.armed || d.running)) }) rfl
    (s.whenP_pos _ (by rw [reach, decide_eq_true own]; rfl)) ⟨by rw [State.effect_region, State.region_onDbg, State.region_onRAux],
      fun p other => by rw [State.effect_region, State.region_onDbg, State.region_onRAux_other _ _ other.symm], fun gave takes traced running => ?_, rfl⟩
  show (s.dev.dbg.ending || ((s.region r.val).aux.dbgConsent && !v.getLsbD 0 && decide (bitsOf s.dev.dbg.ctl.toNat 5 1 = r.val) &&
    (s.dev.dbg.armed || s.dev.dbg.running))) = true
  rw [gave, takes, decide_eq_true traced, running]
  simp

end Sys2Proof.Machine
end

section
/-!
CERTIFICATE. Telemetry samples, trace control and consent.
-/
namespace Sys2Proof.Machine

/-- Settles O58: one lemma for the period that begins, one for its late records, two for a source that is read, three for the trace control
and one for the consent. -/
theorem samplesAndTracesAreControlled : Obligations.SamplesAndTracesAreControlled := by
  intro s n v f r o ok
  refine ⟨telSamplePeriod_begins, telSamplePeriod_late, fun runs waits now first full => telSampleRead_drops runs waits rfl now first full,
    fun runs waits now first room none_ allowed offset answers => telSampleRead_records runs waits offset.symm (offset ▸ now)
      (fun m left below => offset ▸ first m left below) answers room none_ allowed,
    dbgTraceCtlWrite_arms, dbgTraceCtlWrite_ends, dbgTraceCtlWrite_denied, regionDbgConsentWrite_sets v,
    fun other => exec_stays rfl (s.whenP_neg _ (by simp [other]))⟩
end Sys2Proof.Machine
end

section
/-!
SUPPORT. Writes to the physical function's registers (21 R785-R789; 25 R898-R903).
-/
namespace Sys2Proof.Machine

theorem exec_registerWrite (s : State) (f : FnId) (offset : BitVec 26) (wide : Bool) (v : Word64) :
    exec (.registerWrite f offset wide v) s = .next (s.flashEffect fun s => s.whenP (s.hubReach f.val) fun s =>
      if offset.toNat % (if wide then 8 else 4) ≠ 0 then s.badAccess f.val offset.toNat
      else if wide then s.regWrite64 f offset.toNat v else s.regWrite f offset.toNat (v.setWidth 32)) := rfl

theorem State.writableHeld_below (s : State) {o : Nat} (low : o < 0x1000000) : s.writableHeld o = false := by
  rw [State.writableHeld, if_pos low]

theorem State.heldOff_below (s : State) {o : Nat} (low : o < 0x1000000) : s.heldOff o = false := by
  rw [State.heldOff, s.writableHeld_below low, Bool.false_and]

/-- A write that reaches no window of domains 19, 39 and 45. -/
theorem State.pfWrite_hub (s : State) {o : Nat} (v : Word) (low : o < 0x100000) : s.pfWrite o v = s.hubWrite o v := by
  rw [State.pfWrite, s.heldOff_below (by omega)]
  exact (if_neg Bool.false_ne_true).trans (if_pos low)

/-- A 64-bit register of which first the lower half and then the upper half is written. -/
theorem halves_of_word (upper : Word) (v : Word64) : v.extractLsb' 32 32 ++ BitVec.setWidth 32 (upper ++ v.setWidth 32) = v := by
  refine BitVec.eq_of_getLsbD_eq fun i inside => ?_
  rw [BitVec.getLsbD_append, BitVec.getLsbD_setWidth, BitVec.getLsbD_append, BitVec.getLsbD_setWidth, BitVec.getLsbD_extractLsb']
  by_cases low : i < 32
  · simp [low]
  · have high : i - 32 < 32 := by omega
    simp [low, high, show 32 + (i - 32) = i by omega]

theorem State.flashEffect_region (s : State) (f : State → State) (r : Nat) : (s.flashEffect f).region r = (f s).region r := rfl

section Physical
variable {s : State} {v : Word64} {offset : BitVec 26} {o : Nat} (reach : s.pfReach true = true)
include reach

theorem exec_pfWrite32 (named : offset.toNat = o) (aligned : o % 4 = 0) :
    exec (.registerWrite 0 offset false v) s = .next (s.flashEffect fun s => s.pfWrite o (v.setWidth 32)) := by
  have may : s.hubReach 0 = true := reach
  rw [exec_registerWrite, State.flashEffect, State.flashEffect, Fin.val_zero, s.whenP_pos _ may, named]
  rw [if_neg Bool.false_ne_true, if_neg (not_not.mpr aligned), if_neg Bool.false_ne_true, State.regWrite, if_pos rfl]

theorem completes_pfWrite32 (named : offset.toNat = o) (aligned : o % 4 = 0) {t : State} {P : State → Prop}
    (step : s.pfWrite o (v.setWidth 32) = t) (given : P (s.flashEffect fun _ => t)) : Completes (.registerWrite 0 offset false v) s P := by
  subst step
  exact ⟨_, exec_pfWrite32 reach named aligned, given⟩

omit reach in
theorem completes_pfEvent (c : Code) (d : Nat) {w : Bool}
    (step : exec (.registerWrite 0 offset w v) s = .next (s.flashEffect fun s => s.pfEvent 6 c d)) :
    Completes (.registerWrite 0 offset w v) s fun t =>
      t = { s with hostMem := t.hostMem, dev := { s.dev with hst := { s.dev.hst with pfEvt := t.dev.hst.pfEvt, pfIrq := t.dev.hst.pfIrq } } } := by
  refine ⟨_, step, ?_⟩
  rw [State.flashEffect_of_frame (State.pfEvent_pending ..) (State.pfEvent_part ..) (State.pfEvent_fuses ..)]
  exact s.pfEvent_frame 6 c d

theorem registerWrite_misaligned (w : Bool) (askew : offset.toNat % (if w then 8 else 4) ≠ 0) :
    Completes (.registerWrite 0 offset w v) s fun t =>
      t = { s with hostMem := t.hostMem, dev := { s.dev with hst := { s.dev.hst with pfEvt := t.dev.hst.pfEvt, pfIrq := t.dev.hst.pfIrq } } } := by
  have may : s.hubReach 0 = true := reach
  refine completes_pfEvent Codes.HST_BAD_ACCESS (offset.toNat + 0 * 2 ^ 26) ?_
  rw [exec_registerWrite, State.flashEffect, State.flashEffect, Fin.val_zero, s.whenP_pos _ may, if_pos askew, State.badAccess]

theorem registerWrite_heldOff (aligned : offset.toNat % 4 = 0) (held : s.writableHeld offset.toNat = true)
    (off : s.domState (holdDomain offset.toNat) = .pewter) : Completes (.registerWrite 0 offset false v) s fun t =>
      t = { s with hostMem := t.hostMem, dev := { s.dev with hst := { s.dev.hst with pfEvt := t.dev.hst.pfEvt, pfIrq := t.dev.hst.pfIrq } } } := by
  have gone : s.heldOff offset.toNat = true := by simp [State.heldOff, held, off]
  refine completes_pfEvent Codes.REG_DOMAIN_OFF offset.toNat ?_
  rw [exec_pfWrite32 reach rfl aligned, State.flashEffect, State.flashEffect, State.pfWrite, if_pos gone]

theorem imageLen_write : Completes (.registerWrite 0 0x98 false v) s fun t =>
      t = { s with dev := { s.dev with boot := { s.dev.boot with imageLen := v.setWidth 32 } } } :=
  completes_pfWrite32 reach (o := 0x98) rfl rfl (s.pfWrite_hub _ (by decide)) rfl

theorem resetCause_write : Completes (.registerWrite 0 0x84 false v) s fun t =>
      t = { s with dev := { s.dev with boot := { s.dev.boot with
        rcPowerOn := s.dev.boot.rcPowerOn && !v.getLsbD 0, rcBoard := s.dev.boot.rcBoard && !v.getLsbD 1,
        rcHost := s.dev.boot.rcHost && !v.getLsbD 2, rcWatchdog := s.dev.boot.rcWatchdog && !v.getLsbD 3 } } } := by
  have bit (k : Nat) (low : k < 32) : (v.setWidth 32).getLsbD k = v.getLsbD k := by simp [low]
  refine completes_pfWrite32 reach (o := 0x84) (t := s.onBoot fun b => b.clearCause (v.setWidth 32)) rfl rfl (s.pfWrite_hub _ (by decide)) ?_
  rw [← bit 0 (by decide), ← bit 1 (by decide), ← bit 2 (by decide), ← bit 3 (by decide)]
  rfl

theorem recoveryNext_write : Completes (.registerWrite 0 0x88 false v) s fun t =>
      t = { s with dev := { s.dev with boot := { s.dev.boot with recoveryNext := v.getLsbD 0 } } } := by
  have bit : (v.setWidth 32).getLsbD 0 = v.getLsbD 0 := by simp
  refine completes_pfWrite32 reach (o := 0x88) (t := s.onBoot fun b => { b with recoveryNext := (v.setWidth 32).getLsbD 0 }) rfl rfl
    (s.pfWrite_hub _ (by decide)) ?_
  rw [bit]
  rfl

theorem linkDownReset_write : Completes (.registerWrite 0 0x10000 false v) s fun t =>
      t = { s with dev := { s.dev with hst := { s.dev.hst with linkDownReset := v.getLsbD 0 } } } := by
  have bit : (v.setWidth 32).getLsbD 0 = v.getLsbD 0 := by simp
  refine completes_pfWrite32 reach (o := 0x10000) (t := s.onHst fun h => { h with linkDownReset := (v.setWidth 32).getLsbD 0 }) rfl rfl
    (s.pfWrite_hub _ (by decide)) ?_
  rw [bit]
  rfl

theorem keyData_write {n : Nat} (word : n < 24) (stage : s.dev.boot.stage ≠ .recovery) :
    Completes (.registerWrite 0 (BitVec.ofNat 26 (0x200200 + 4 * n)) false v) s fun t =>
      Tab.get 0 t.dev.sec.keyData n = v.setWidth 32 ∧ (∀ m, m ≠ n → Tab.get 0 t.dev.sec.keyData m = Tab.get 0 s.dev.sec.keyData m) ∧
      t = { s with dev := { s.dev with sec := { s.dev.sec with keyData := t.dev.sec.keyData } } } := by
  obtain ⟨o, named⟩ : ∃ o, o = 0x200200 + 4 * n := ⟨_, rfl⟩
  have offset : (BitVec.ofNat 26 (0x200200 + 4 * n)).toNat = o := by rw [BitVec.toNat_ofNat]; omega
  have index : (o - 0x200000 - 0x200) / 4 = n := by omega
  refine completes_pfWrite32 reach offset (by omega)
    (t := s.onSec fun c => { c with keyData := Tab.set c.keyData n (v.setWidth 32) }) ?_
    ⟨Tab.get_set_same .., fun m other => Tab.get_set_other _ _ _ other.symm, rfl⟩
  unfold State.pfWrite State.secWrite
  rw [s.heldOff_below (by omega), index]
  rw [if_neg Bool.false_ne_true, if_neg (by omega), if_neg stage, if_neg (by omega), if_neg (by omega), if_pos (by omega), if_pos (by omega)]

theorem digestHead_write {r : RegionId} (window : s.reaches 0 r.val = true) :
    Completes (.registerWrite 0 (BitVec.ofNat 26 (0x800000 + r.val * 0x10000 + 0x658)) false v) s fun t =>
      (t.region r.val).sched.dig = { (s.region r.val).sched.dig with head := v.setWidth 32 } ∧ (∀ p, p ≠ r.val → t.region p = s.region p) ∧
      t = { s with fab := { s.fab with regions := t.fab.regions } } := by
  have small := r.isLt
  obtain ⟨o, named⟩ : ∃ o, o = 0x800000 + r.val * 0x10000 + 0x658 := ⟨_, rfl⟩
  have offset : (BitVec.ofNat 26 (0x800000 + r.val * 0x10000 + 0x658)).toNat = o := by rw [BitVec.toNat_ofNat]; omega
  have index : (Fin.ofNat 32 ((o - 0x800000) / 0x10000) : RegionId) = r := by
    apply Fin.ext
    rw [Fin.val_ofNat]
    omega
  have register : o % 0x10000 = 0x658 := by omega
  have stage : s.dev.boot.stage ≠ .recovery := by
    intro recovery
    simp [State.reaches, State.running, recovery] at window
  refine completes_pfWrite32 reach offset (by omega)
    (t := s.onSched r.val fun g => { g with dig := { g.dig with head := v.setWidth 32 } }) ?_ ⟨?_, fun p other => ?_, rfl⟩
  · unfold State.pfWrite
    rw [s.heldOff_below (by omega), index, register]
    rw [if_neg Bool.false_ne_true, if_neg (by omega), if_neg stage, if_neg (by omega), if_neg (by omega), if_neg (by omega),
      if_neg (by omega), if_pos (by omega), if_pos window]
    rfl
  · rw [State.flashEffect_region, State.region_onSched]
  · rw [State.flashEffect_region, State.region_onSched_other _ _ other.symm]

/-- A 64-bit write to the source of an image is both halves (21 R786, R787). -/
theorem imageSrc_write : Completes (.registerWrite 0 0x90 true v) s fun t =>
      t = { s with dev := { s.dev with boot := { s.dev.boot with imageSrc := v } } } := by
  have may : s.hubReach 0 = true := reach
  have lower : s.regWrite 0 0x90 (v.setWidth 32) = s.onBoot fun b => { b with imageSrc := putHalf b.imageSrc 0x90 (v.setWidth 32) } := by
    rw [State.regWrite, if_pos rfl, s.pfWrite_hub _ (by decide)]
    rfl
  have upper (u : State) : u.regWrite 0 0x94 (v.extractLsb' 32 32) =
      u.onBoot fun b => { b with imageSrc := putHalf b.imageSrc 0x94 (v.extractLsb' 32 32) } := by
    rw [State.regWrite, if_pos rfl, u.pfWrite_hub _ (by decide)]
    rfl
  have whole (x : Word64) : putHalf (putHalf x 0x90 (v.setWidth 32)) 0x94 (v.extractLsb' 32 32) = v := by
    rw [putHalf, if_neg (by decide), putHalf, if_pos (by decide)]
    exact halves_of_word _ v
  have step : s.regWrite64 0 0x90 v = s.onBoot fun b => { b with imageSrc := v } := by
    rw [State.regWrite64, s.heldOff_below (by decide), Bool.and_false, Bool.false_and, if_neg Bool.false_ne_true, lower, upper]
    exact congrArg (fun x => s.onBoot fun b => { b with imageSrc := x }) (whole s.dev.boot.imageSrc)
  have run : exec (.registerWrite 0 0x90 true v) s = .next (s.flashEffect fun s => s.regWrite64 0 0x90 v) := by
    rw [exec_registerWrite, State.flashEffect, State.flashEffect, Fin.val_zero, s.whenP_pos _ may]
    rfl
  refine ⟨_, run, ?_⟩
  rw [State.flashEffect, step]
  rfl

end Physical
end Sys2Proof.Machine
end

section
/-!
CERTIFICATE. A register write changes its register alone.
-/
namespace Sys2Proof.Machine

/-- Settles O51: one lemma for each register, one for the misaligned writes and one for a domain in Pewter. -/
theorem registerWritesChangeTheirRegister : Obligations.RegisterWritesChangeTheirRegister := by
  intro s v w n o r reach
  exact ⟨imageLen_write reach, imageSrc_write reach, resetCause_write reach, recoveryNext_write reach, linkDownReset_write reach,
    keyData_write reach, digestHead_write reach, registerWrite_misaligned reach w, registerWrite_heldOff reach⟩

end Sys2Proof.Machine
end

section
/-!
SUPPORT. What a virtual function's writes leave of the rest of the device (21 R785-R789; 22 R835).
-/
namespace Sys2Proof.Machine

/-- `t` differs from `s` by nothing of another region but the result of a request for a shared pin, of another function, of the boot, or of
what is stored for good. -/
structure State.ForRegion (s t : State) (r : Nat) : Prop where
  others : ∀ p, p ≠ r → (t.region p).sched = (s.region p).sched ∧ (t.region p).rev = (s.region p).rev ∧
    (t.region p).aux = { (s.region p).aux with sharedResult := (t.region p).aux.sharedResult }
  funcs : ∀ k, k ≠ r + 1 → t.func k = s.func k
  boot : t.dev.boot = s.dev.boot
  store : s.KeepsStore t

theorem State.ForRegion.refl (s : State) (r : Nat) : s.ForRegion s r := ⟨fun _ _ => ⟨rfl, rfl, rfl⟩, fun _ _ => rfl, rfl, rfl, rfl, rfl⟩

theorem State.ForRegion.trans {s t u : State} {r : Nat} (h : s.ForRegion t r) (k : t.ForRegion u r) : s.ForRegion u r := by
  obtain ⟨part, fuses, flash⟩ := h.store
  obtain ⟨part', fuses', flash'⟩ := k.store
  refine ⟨fun p other => ?_, fun n other => (k.funcs n other).trans (h.funcs n other), k.boot.trans h.boot, part'.trans part,
    fuses'.trans fuses, flash'.trans flash⟩
  obtain ⟨sched, rev, aux⟩ := h.others p other
  obtain ⟨sched', rev', aux'⟩ := k.others p other
  exact ⟨sched'.trans sched, rev'.trans rev, by rw [aux', aux]⟩

theorem State.ForRegion.of_stay {s t : State} {r : Nat} (stay : s.OthersStay t r) (funcs : t.dev.hst.funcs = s.dev.hst.funcs)
    (boot : t.dev.boot = s.dev.boot) (store : s.KeepsStore t) : s.ForRegion t r :=
  ⟨fun p other => by rw [stay p other]; exact ⟨rfl, rfl, rfl⟩, fun k _ => by rw [State.func, funcs, State.func], boot, store⟩

theorem State.ForRegion.of_event {s t : State} {r : Nat} (stay : s.OthersStay t r) (only : s.EventOnly t) : s.ForRegion t r :=
  .of_stay stay (congrArg (·.dev.hst.funcs) only) (congrArg (·.dev.boot) only)
    ⟨congrArg (·.part) only, congrArg (·.fuses) only, congrArg (·.flash) only⟩

section Commands
variable {s : State} {r : Nat}

theorem State.ForRegion.effect {f : State → State} (h : s.ForRegion (f s) r) : s.ForRegion (s.effect f) r :=
  ⟨h.others, h.funcs, h.boot, rfl, rfl, rfl⟩

theorem State.ForRegion.flashEffect {f : State → State} (h : s.ForRegion (f s) r) : s.ForRegion (s.flashEffect f) r :=
  ⟨h.others, h.funcs, h.boot, rfl, rfl, h.store.2.2⟩

theorem State.ForRegion.ite {c : Prop} [Decidable c] {t u : State} (h : s.ForRegion t r) (k : s.ForRegion u r) :
    s.ForRegion (if c then t else u) r := by
  split
  · exact h
  · exact k

theorem State.ForRegion.whenP {c : Bool} {f : State → State} (h : s.ForRegion (f s) r) : s.ForRegion (s.whenP c f) r := by
  cases c
  · exact .refl s r
  · exact h

/-- A command in a register write that acts where its function reaches the region. -/
theorem State.ForRegion.command {c : State → Bool} {f : State → State} (h : s.ForRegion (f s) r) :
    s.ForRegion (s.after (.next (s.effect fun s => s.whenP (c s) f))) r :=
  State.ForRegion.effect (f := fun s => s.whenP (c s) f) h.whenP

variable (s r)

theorem State.onSched_forRegion (f : RegionSched → RegionSched) : s.ForRegion (s.onSched r f) r := .of_event (s.onSched_othersStay r f) rfl
theorem State.onRAux_forRegion (f : RegionAux → RegionAux) : s.ForRegion (s.onRAux r f) r := .of_event (s.onRegion_othersStay r _) rfl
theorem State.onRev_forRegion (f : RegionRevoke → RegionRevoke) : s.ForRegion (s.onRev r f) r := .of_event (s.onRegion_othersStay r _) rfl
theorem State.onQueue_forRegion (q : Nat) (f : Queue → Queue) : s.ForRegion (s.onQueue r q f) r := s.onSched_forRegion r _

theorem State.regionEvent_forRegion (kind : Nat) (c : Code) (d : Nat) : s.ForRegion (s.regionEvent r kind c d) r :=
  .of_event (s.regionEvent_othersStay r kind c d) (s.regionEvent_only r kind c d)

theorem State.pfEvent_forRegion (kind : Nat) (c : Code) (d : Nat) : s.ForRegion (s.pfEvent kind c d) r :=
  .of_event (s.pfEvent_othersStay kind c d r) (s.pfEvent_only kind c d)

theorem State.wmStep_forRegion (n : Nat) : s.ForRegion (s.wmStep r n) r := by
  refine .of_event ?_ (s.wmStep_only r n)
  unfold State.wmStep
  split
  · exact s.wmCross_othersStay r 1
  · exact (s.wmCross_othersStay r n).trans (State.wmCross_othersStay _ r 1)

theorem State.latchPower_forRegion (n : Nat) (q : PwrReq) : s.ForRegion (s.latchPower n q) r :=
  .of_stay (.of_regions rfl) rfl rfl ⟨rfl, rfl, rfl⟩

theorem State.sharedResult_forRegion (who : Nat) (c : Code) : s.ForRegion (s.sharedResult who c) r := by
  unfold State.sharedResult
  split
  · exact .of_stay (.of_regions rfl) rfl rfl ⟨rfl, rfl, rfl⟩
  · refine ⟨fun p _ => ?_, fun _ _ => rfl, rfl, rfl, rfl, rfl⟩
    by_cases same : p = who - 1
    · subst same
      rw [State.region_onRAux]
      exact ⟨rfl, rfl, rfl⟩
    · rw [State.region_onRAux_other _ _ (Ne.symm same)]
      exact ⟨rfl, rfl, rfl⟩

theorem State.sharedRequest_forRegion (who : Nat) (v : Word) : s.ForRegion (s.sharedRequest who v) r := by
  have result (c : Code) : s.ForRegion (s.sharedResult who c) r := s.sharedResult_forRegion r who c
  have takes (u : State) (f : Shared → Shared) : u.ForRegion ((u.onShared f).sharedResult who Codes.OK) r := by
    have given : u.ForRegion (u.onShared f) r := .of_stay (.of_regions rfl) rfl rfl ⟨rfl, rfl, rfl⟩
    exact given.trans (State.sharedResult_forRegion _ r who _)
  unfold State.sharedRequest
  extract_lets n res idx o key take
  have taken (u : State) : u.ForRegion (take u) r := takes u _
  clear_value take
  split
  · exact result _
  · split
    · exact taken s
    · split
      · exact result _
      · split
        · split
          · exact (s.sharedResult_forRegion r _ _).trans (taken _)
          · exact result _
        · exact result _

theorem State.queueCfg_forRegion (q : Nat) (v : Word) : s.ForRegion (s.queueCfg r q v) r := by
  unfold State.queueCfg
  dsimp only
  split
  · exact .refl s r
  · split
    · split
      · exact .refl s r
      · exact s.onQueue_forRegion r q _
    · split
      · exact .refl s r
      · exact s.onQueue_forRegion r q _

theorem State.doorbell_forRegion (q : Nat) (t : Word) : s.ForRegion (s.doorbell r q t) r := by
  unfold State.doorbell
  dsimp only
  split
  · exact .refl s r
  · split
    · exact s.regionEvent_forRegion r _ _ _
    · split
      · exact s.onQueue_forRegion r q _
      · exact s.regionEvent_forRegion r _ _ _

theorem State.schedCmd_forRegion (v : Word64) (prio : Option Nat) : s.ForRegion (s.schedCmd r v prio) r := by
  unfold State.schedCmd
  dsimp only
  split
  · exact s.onSched_forRegion r _
  · exact .refl s r

theorem State.revoke_forRegion (kind : Nat) (v : Word64) : s.ForRegion (s.revoke r kind v) r := by
  unfold State.revoke
  dsimp only
  split
  · exact .refl s r
  · split
    · exact s.onRev_forRegion r _
    · exact s.onRev_forRegion r _

end Commands

/-! ## Writes in a control window -/

section Window
variable (s : State) (f : FnId) (r : RegionId) (v : Word)

theorem State.halfCmd_forRegion (c : HalfCmd) (o : Nat) : s.ForRegion (s.halfCmd f r c o v) r.val := by
  unfold State.halfCmd
  dsimp only
  split
  · exact s.onRev_forRegion r.val _
  · cases c with
    | cancel => exact .command (s.schedCmd_forRegion r.val _ _)
    | prio => exact .command (s.schedCmd_forRegion r.val _ _)
    | revoke => exact .effect (s.revoke_forRegion r.val _ _).whenP

theorem State.queueRegWrite_forRegion (q : Fin 64) (o : Nat) : s.ForRegion (s.queueRegWrite f r q o v) r.val := by
  unfold State.queueRegWrite
  dsimp only
  split
  · exact State.ForRegion.whenP (f := fun s => s.onQueue r.val q.val _) (s.onQueue_forRegion r.val q.val _)
  · exact State.ForRegion.whenP (f := fun s => s.onQueue r.val q.val _) (s.onQueue_forRegion r.val q.val _)
  · exact .command ((s.queueCfg_forRegion r.val q.val v).trans ((State.wmStep_forRegion _ r.val 0).trans (State.wmStep_forRegion _ r.val 2)))
  · exact State.ForRegion.whenP (f := fun s => s.onQueue r.val q.val _) (s.onQueue_forRegion r.val q.val _)
  · exact State.ForRegion.whenP (f := fun s => s.onQueue r.val q.val _) (s.onQueue_forRegion r.val q.val _)
  · exact .command (s.doorbell_forRegion r.val q.val v)
  · split
    · exact (s.onQueue_forRegion r.val q.val _).trans (State.wmStep_forRegion _ r.val 2)
    · exact .refl s r.val
  · exact .refl s r.val

theorem State.regionPwrReq_forRegion : s.ForRegion (s.after (execRegionPwrReq f r v s)) r.val := by
  refine .command (.whenP ?_)
  split
  · exact s.regionEvent_forRegion r.val _ _ _
  · exact s.latchPower_forRegion r.val _ _

theorem State.attestGo_forRegion : s.ForRegion (s.after (execAttestGo f r v s)) r.val := by
  refine .command ?_
  dsimp only
  split
  · exact (s.onRAux_forRegion r.val _).trans (.of_stay (.of_regions rfl) rfl rfl ⟨rfl, rfl, rfl⟩)
  · exact s.onRAux_forRegion r.val _

theorem State.dbgConsent_forRegion : s.ForRegion (s.after (execRegionDbgConsentWrite f r v s)) r.val :=
  .command ((s.onRAux_forRegion r.val _).trans (.of_stay (.of_regions rfl) rfl rfl ⟨rfl, rfl, rfl⟩))

theorem State.wmWrite_forRegion (n : Nat) : s.ForRegion (s.wmWrite r.val n v) r.val := by
  unfold State.wmWrite
  exact (s.onSched_forRegion r.val _).trans (State.onSched_forRegion _ r.val _)

theorem State.softFlag_forRegion (n : Nat) : s.ForRegion (s.softFlag r.val n v) r.val := by
  unfold State.softFlag State.latchFlag
  exact s.onSched_forRegion r.val _

theorem State.onIrq_forRegion (g : Irq → Irq) {src : IrqSource} (own : src = .event r ∨ src = .digest r ∨ ∃ q, src = .queue r q) :
    s.ForRegion (s.onIrq src g) r.val := by
  rcases own with rfl | rfl | ⟨q, rfl⟩
  · exact s.onSched_forRegion r.val fun x => { x with irqs := Tab.modify {} x.irqs irqEvt g }
  · exact s.onSched_forRegion r.val fun x => { x with irqs := Tab.modify {} x.irqs irqDig g }
  · exact s.onSched_forRegion r.val fun x => { x with irqs := Tab.modify {} x.irqs q.val g }

theorem State.eventBase_forRegion (b : Word64) : s.ForRegion (s.baseWrite (.ring (.event r)) b) r.val :=
  s.onSched_forRegion r.val fun g => { g with evt := g.evt.rebase b }

theorem State.digestBase_forRegion (b : Word64) : s.ForRegion (s.baseWrite (.ring (.digest r)) b) r.val :=
  s.onSched_forRegion r.val fun g => { g with dig := g.dig.rebase b }

theorem State.eventCfg_forRegion : s.ForRegion (s.ringCfg (.event r) v) r.val :=
  (s.onSched_forRegion r.val fun g => { g with evt := g.evt.configure (bitsOf v.toNat 4 0) (v.getLsbD 5) (v.getLsbD 6) }).trans
    (State.wmStep_forRegion _ r.val 1)

theorem State.digestCfg_forRegion : s.ForRegion (s.ringCfg (.digest r) v) r.val :=
  s.onSched_forRegion r.val fun g => { g with dig := g.dig.configure (bitsOf v.toNat 4 0) (v.getLsbD 5) (v.getLsbD 6) }

theorem State.windowWrite_forRegion (o : Nat) : s.ForRegion (s.windowWrite f r o v) r.val := by
  unfold State.windowWrite
  refine .ite (.ite ?watermark (.ite ?crossed (.refl s r.val))) (.ite ?timer (.ite ?weights (.ite ?input (.ite ?nonce (.ite ?flag
    (.ite ?queue (.ite (.ite ?irq (.refl s r.val)) ?register)))))))
  case watermark => exact s.wmWrite_forRegion r v _
  case crossed => exact .command (s.onSched_forRegion r.val _)
  case timer => exact .command (s.onRAux_forRegion r.val _)
  case weights => exact .command (s.onRAux_forRegion r.val _)
  case input => exact .command (s.onRAux_forRegion r.val _)
  case nonce => exact s.onRAux_forRegion r.val _
  case flag => exact .command (s.softFlag_forRegion r v _)
  case queue => exact s.queueRegWrite_forRegion f r v _ _
  case irq => exact s.onIrq_forRegion r _ (.inr (.inr ⟨_, rfl⟩))
  case register =>
    split
    · exact s.regionPwrReq_forRegion f r v
    · exact .ite (.command (s.onRAux_forRegion r.val _)) (.refl s r.val)
    · exact s.halfCmd_forRegion f r v _ _
    · exact s.halfCmd_forRegion f r v _ _
    · exact s.dbgConsent_forRegion f r v
    · exact .command (s.sharedRequest_forRegion r.val _ v)
    · exact .ite (s.onRAux_forRegion r.val _) (.refl s r.val)
    · exact s.halfCmd_forRegion f r v _ _
    · exact s.halfCmd_forRegion f r v _ _
    · exact s.halfCmd_forRegion f r v _ _
    · exact s.halfCmd_forRegion f r v _ _
    · exact s.eventBase_forRegion r _
    · exact s.eventBase_forRegion r _
    · exact s.eventCfg_forRegion r v
    · exact (s.onSched_forRegion r.val _).trans (State.wmStep_forRegion _ r.val 1)
    · exact .ite (.command (s.onRAux_forRegion r.val _)) (.refl s r.val)
    · exact s.digestBase_forRegion r _
    · exact s.digestBase_forRegion r _
    · exact s.digestCfg_forRegion r v
    · exact s.onSched_forRegion r.val _
    · exact s.attestGo_forRegion f r v
    · exact s.onIrq_forRegion r _ (.inl rfl)
    · exact s.onIrq_forRegion r _ (.inr (.inl rfl))
    · exact .refl s r.val

end Window

/-! ## Writes of a virtual function -/

theorem State.onFunc_forRegion (s : State) (r : Nat) (g : Func → Func) : s.ForRegion (s.onFunc (r + 1) g) r := by
  refine ⟨fun _ _ => ⟨rfl, rfl, rfl⟩, fun k other => ?_, rfl, rfl, rfl, rfl⟩
  rw [State.func, State.onFunc_dev, State.func]
  exact Tab.get_modify_other _ _ _ other.symm

theorem State.msixWrite_forRegion (s : State) (r o : Nat) (v : Word) : s.ForRegion (s.msixWrite (r + 1) o v) r := by
  unfold State.msixWrite
  split
  · exact s.onFunc_forRegion r _
  · exact .refl s r

section Virtual
variable (s : State) {f : FnId} (virtual : f ≠ 0)
include virtual

theorem fnRegion_succ : f.val = fnRegion f.val + 1 := by
  have positive : f.val ≠ 0 := fun zero => virtual (Fin.ext zero)
  rw [fnRegion]
  omega

theorem State.regWrite_forRegion (o : Nat) (v : Word) : s.ForRegion (s.regWrite f o v) (fnRegion f.val) := by
  have own := fnRegion_succ virtual
  have window : (Fin.ofNat 32 (fnRegion f.val) : RegionId).val = fnRegion f.val := by
    have small := f.isLt
    exact Nat.mod_eq_of_lt (by omega)
  rw [State.regWrite, if_neg virtual, State.vfWrite]
  refine .ite (.ite ?_ (.refl s _)) (.ite ?_ (.refl s _))
  · have written := s.windowWrite_forRegion f (Fin.ofNat 32 (fnRegion f.val)) v o
    rwa [window] at written
  · have written := s.msixWrite_forRegion (fnRegion f.val) (o - 0x20000) v
    rwa [← own] at written

theorem registerWrite_forRegion {t : State} {o : BitVec 26} {w : Bool} {v : Word64} (run : exec (.registerWrite f o w v) s = .next t) :
    s.ForRegion t (fnRegion f.val) := by
  rw [exec_registerWrite] at run
  obtain rfl := Host.Outcome.next.inj run
  refine .flashEffect (.whenP (.ite (s.pfEvent_forRegion _ _ _ _) (.ite ?_ (s.regWrite_forRegion virtual _ _))))
  have physical : decide (f = 0) = false := decide_eq_false virtual
  rw [State.regWrite64, physical]
  exact (s.regWrite_forRegion virtual _ _).trans (State.regWrite_forRegion _ virtual _ _)

end Virtual
end Sys2Proof.Machine
end

section
/-!
CERTIFICATE. A virtual function's write changes no fuse, boot register or other function, and of another region a shared pin's result alone.
-/
namespace Sys2Proof.Machine

/-- Settles O52, by `registerWrite_forRegion`. -/
theorem virtualFunctionsAreIsolated : Obligations.VirtualFunctionsAreIsolated := by
  intro s t f o w v virtual run
  obtain ⟨others, funcs, boot, store⟩ := registerWrite_forRegion s virtual run
  have own := fnRegion_succ virtual
  exact ⟨fun p _ other => others p other, fun k other => funcs k (own ▸ other), boot, store⟩

end Sys2Proof.Machine
end

section
/-!
SUPPORT. SMBus answers, requests for shared resources, and the pins (02 R40, R45-R56; 03 R79, R80; 24 R884-R887).
-/
namespace Sys2Proof.Machine

/-! ## SMBus -/

section Smbus
variable {s : State}

theorem State.smbusRead_answers {cmd : Nat} {answer : List Byte} (rail : s.dev.pins.mgtVio = true) (powered : s.dev.boot.causeRail = false)
    (content : s.smbusContent cmd = some answer) : s.smbusRead cmd = s.onDbg fun d => { d with
      smbus := some answer
      smbusPec := pec (([0x98, BitVec.ofNat 8 cmd, 0x99] ++ if cmd = 5 || cmd = 6 then [BitVec.ofNat 8 answer.length] else []) ++ answer) } := by
  have up : s.smbusUp = true := by simp [State.smbusUp, rail, powered]
  simp only [State.smbusRead, State.smbusAnswer, content, up, if_true, Option.getD_some, Option.elim_some]

theorem completes_smbusRead {i : Instr} {cmd : Nat} {answer : List Byte} (run : exec i s = .next (s.devEffect (·.smbusRead cmd)))
    (rail : s.dev.pins.mgtVio = true) (powered : s.dev.boot.causeRail = false) (content : s.smbusContent cmd = some answer) :
    Completes i s (SmbusAnswered s (BitVec.ofNat 8 cmd) (if cmd = 5 || cmd = 6 then [BitVec.ofNat 8 answer.length] else []) answer) :=
  completes_of_devEffect run (State.smbusRead_answers rail powered content) rfl

theorem alertResponse_answers (rail : s.dev.pins.mgtVio = true) (powered : s.dev.boot.causeRail = false) (owned : s.dev.shared.alertOwner = 1) :
    Completes .alertResponse s fun t => t = { s with dev := { s.dev with
      aux := { s.dev.aux with alertLow := false }, dbg := { s.dev.dbg with smbus := some [0x4C], smbusPec := pec [0x19, 0x4C] } } } := by
  have up : s.smbusUp = true := by simp [State.smbusUp, rail, powered]
  refine completes_of_devEffect rfl (t := (s.smbusAnswer [0x19] (some [0x4C])).onAux fun a => { a with alertLow := false })
    (if_pos (by rw [owned, up]; rfl)) ?_
  simp only [State.smbusAnswer, up, if_true, Option.elim_some]
  rfl

theorem State.smbusAnswer_none (head : List Byte) : s.smbusAnswer head none = s.onDbg fun d => { d with smbus := none, smbusPec := 0 } := by
  rw [State.smbusAnswer, ite_self]
  rfl

theorem alertResponse_silent (other : s.dev.shared.alertOwner ≠ 1) : Completes .alertResponse s fun t => t = { s with dev := { s.dev with
    dbg := { s.dev.dbg with smbus := none, smbusPec := 0 } } } :=
  completes_of_devEffect rfl ((if_neg (by rw [decide_eq_false other]; exact Bool.false_ne_true)).trans (State.smbusAnswer_none [])) rfl

/-- Without MGT_VIO the bus is not answered. -/
theorem completes_smbusSilent (down : s.dev.pins.mgtVio = false) {c : Instr}
    (command : c ∈ [Instr.mgmtStatus, .temp, .power, .rail, .stage, .lastFault, .deviceId, .alertResponse]) : Completes c s fun t =>
      t = { s with dev := { s.dev with dbg := { s.dev.dbg with smbus := none, smbusPec := 0 } } } := by
  have off : s.smbusUp = false := by simp [State.smbusUp, down]
  have silent (cmd : Nat) : s.smbusRead cmd = s.onDbg fun d => { d with smbus := none, smbusPec := 0 } := by
    simp [State.smbusRead, State.smbusAnswer, off]
  simp only [List.mem_cons, List.not_mem_nil, or_false] at command
  rcases command with rfl | rfl | rfl | rfl | rfl | rfl | rfl | rfl
  · exact completes_of_devEffect rfl (silent 0) rfl
  · exact completes_of_devEffect rfl (silent 1) rfl
  · exact completes_of_devEffect rfl (silent 2) rfl
  · exact completes_of_devEffect rfl (silent 3) rfl
  · exact completes_of_devEffect rfl (silent 4) rfl
  · exact completes_of_devEffect rfl (silent 5) rfl
  · exact completes_of_devEffect rfl (silent 6) rfl
  · exact completes_of_devEffect rfl ((if_neg (by simp [off])).trans (State.smbusAnswer_none [])) rfl

theorem smbusCommandsAnswer : SmbusCommandsAnswer := by
  intro s
  refine ⟨fun rail powered => ?_, fun down c => completes_smbusSilent down⟩
  have status (g : Nat) (code : mgmtStatus s.dev.boot.stage = g) : s.smbusContent 0 = some (leBytes 1 g) := by
    rw [← code]
    rfl
  refine ⟨fun stage => ?_, fun stage => ?_, fun stage => ?_, fun stage => ?_, completes_smbusRead (cmd := 1) rfl rail powered rfl,
    completes_smbusRead (cmd := 2) rfl rail powered rfl, completes_smbusRead (cmd := 3) rfl rail powered rfl, ?_, fun i newest => ?_,
    fun empty => ?_, ?_, alertResponse_answers rail powered, alertResponse_silent⟩
  · refine completes_smbusRead (cmd := 0) rfl rail powered (status 2 ?_)
    rcases stage with h | h <;> rw [h] <;> rfl
  · refine completes_smbusRead (cmd := 0) rfl rail powered (status 1 ?_)
    rcases stage with h | h | h <;> rw [h] <;> rfl
  · refine completes_smbusRead (cmd := 0) rfl rail powered (status 0 ?_)
    rcases stage with h | h | h <;> rw [h] <;> rfl
  · refine completes_smbusRead (cmd := 0) rfl rail powered (status 4 ?_)
    rcases stage with h | h | h | h <;> rw [h] <;> rfl
  · refine completes_smbusRead (cmd := 4) rfl rail powered ?_
    rw [Nat.mul_comm]
    rfl
  · have word : s.lastFaultWord = (Tab.get {} s.dev.faults.log i).id.toNat + 65536 * (Tab.get {} s.dev.faults.log i).code.toNat := by
      rw [State.lastFaultWord, newest, Nat.mul_comm]
      rfl
    have content : s.smbusContent 5 = some (s.smbusLive 4 s.lastFaultWord) := rfl
    rw [word] at content
    exact completes_smbusRead (cmd := 5) rfl rail powered content
  · have word : s.lastFaultWord = 0 := by rw [State.lastFaultWord, empty]
    have content : s.smbusContent 5 = some [0, 0, 0, 0] := by
      show some (s.smbusLive 4 s.lastFaultWord) = _
      rw [word, State.smbusLive, ite_self]
      rfl
    exact completes_smbusRead (cmd := 5) rfl rail powered content
  · exact completes_smbusRead (cmd := 6) rfl rail powered rfl

end Smbus

/-! ## Shared resources -/

theorem Tab.find?_set {α : Type} (t : Tab α) (k : Nat) (v : α) : (Tab.set t k v).find? (fun e => e.1 = k) = some (k, v) := by
  induction t with
  | nil => simp [Tab.set]
  | cons e t ih =>
    obtain ⟨j, a⟩ := e
    rw [Tab.set]
    split
    · simp
    · next other =>
      split
      · simp
      · simpa [other] using ih

/-- A region's request that it may make gives the region the resource. -/
theorem Shared.ownerOf_give {h : Shared} {v : Word} {r : Nat} (region : r < 32) (ok : requestOk v false = true) :
    (h.give (bitsOf v.toNat 7 0) (bitsOf v.toNat 15 8) (r, bitsOf v.toNat 23 16)).ownerOf (bitsOf v.toNat 7 0) (bitsOf v.toNat 15 8) =
      some (r, bitsOf v.toNat 23 16) := by
  have code : (BitVec.ofNat 8 (0x20 + r)).toNat = 0x20 + r := by rw [BitVec.toNat_ofNat]; omega
  have notZero : BitVec.ofNat 8 (0x20 + r) ≠ 0 := fun zero => by simp [zero] at code; omega
  have notOne : BitVec.ofNat 8 (0x20 + r) ≠ 1 := fun one => by simp [one] at code; omega
  have given : (if r = 0x40 then (1 : Byte) else BitVec.ofNat 8 (0x20 + r)) = BitVec.ofNat 8 (0x20 + r) := if_neg (by omega)
  have sync : (if BitVec.ofNat 8 (0x20 + r) = 0 then none else if BitVec.ofNat 8 (0x20 + r) = 1 then some (0x40, 1)
      else some ((BitVec.ofNat 8 (0x20 + r)).toNat - 0x20, 2)) = some (r, 2) := by
    rw [if_neg notZero, if_neg notOne, code, Nat.add_sub_cancel_left]
  simp only [requestOk, Bool.and_eq_true, Bool.or_eq_true, decide_eq_true_eq, Bool.not_false, true_and] at ok
  obtain ⟨-, ⟨⟨res | res, -⟩, feat⟩ | ⟨⟨res, -⟩, -⟩⟩ := ok
  · have two : bitsOf v.toNat 23 16 = 2 := by simpa using feat
    rw [res, two]
    simp only [Shared.give, Shared.ownerOf, given]
    exact sync
  · have two : bitsOf v.toNat 23 16 = 2 := by simpa using feat
    rw [res, two]
    simp only [Shared.give, Shared.ownerOf, given]
    exact sync
  · rw [res]
    simp only [Shared.give, Shared.ownerOf, Tab.find?_set, Option.map_some]

/-- The control cores' request that they may make gives them the resource. -/
theorem Shared.ownerOf_giveHub {h : Shared} {v : Word} (ok : requestOk v true = true) :
    (h.give (bitsOf v.toNat 7 0) (bitsOf v.toNat 15 8) (0x40, bitsOf v.toNat 23 16)).ownerOf (bitsOf v.toNat 7 0) (bitsOf v.toNat 15 8) =
      some (0x40, 1) := by
  simp only [requestOk, Bool.and_eq_true, Bool.or_eq_true, decide_eq_true_eq, Bool.not_true, Bool.false_eq_true, false_and, or_false] at ok
  obtain ⟨-, ⟨res | res, -⟩, -⟩ := ok
  · rw [res]; rfl
  · rw [res]; rfl

theorem Shared.give_hubResult (h : Shared) (res idx : Nat) (o : Nat × Nat) : (h.give res idx o).hubResult = h.hubResult := by
  unfold Shared.give
  extract_lets code
  split <;> rfl

section Requests
variable {s : State} {f : FnId} {r : RegionId} {v : Word}

/-- The state in which requester `who` takes the resource of request `v` for owner `o`. -/
def State.sharedTaken (s : State) (who : Nat) (v : Word) (o : Nat × Nat) : State :=
  (s.onShared fun h => { h.give (bitsOf v.toNat 7 0) (bitsOf v.toNat 15 8) o with
    takes := Tab.set h.takes (bitsOf v.toNat 7 0 * 16 + bitsOf v.toNat 15 8) (s.tick, who) }).sharedResult who Codes.OK

theorem State.sharedRequest_invalid {who : Nat} (bad : requestOk v (who = 0) = false) :
    s.sharedRequest who v = s.sharedResult who Codes.SHARED_REQ_INVALID := if_pos (by rw [bad]; rfl)

section Allowed
variable {who : Nat} {o : Nat × Nat} (owner : o = (if who = 0 then 0x40 else who - 1, bitsOf v.toNat 23 16)) (ok : requestOk v (who = 0) = true)
include owner ok

theorem State.sharedRequest_free (free : s.dev.shared.ownerOf (bitsOf v.toNat 7 0) (bitsOf v.toNat 15 8) = none) :
    s.sharedRequest who v = s.sharedTaken who v o := by
  subst owner
  refine (if_neg (by rw [ok]; exact Bool.false_ne_true)).trans ?_
  rw [free]
  rfl

section Owned
variable {p : Nat × Nat} (owned : s.dev.shared.ownerOf (bitsOf v.toNat 7 0) (bitsOf v.toNat 15 8) = some p) (other : p ≠ o)
include owned other

theorem State.sharedRequest_owned (alone : s.dev.shared.takes = []) : s.sharedRequest who v = s.sharedResult who Codes.RESOURCE_OWNED := by
  subst owner
  refine (if_neg (by rw [ok]; exact Bool.false_ne_true)).trans ?_
  rw [owned, alone]
  exact if_neg other

theorem State.sharedRequest_overtakes {k w : Nat} (lower : who < w) (taken : s.dev.shared.takes.find?
      (fun e => e.1 = bitsOf v.toNat 7 0 * 16 + bitsOf v.toNat 15 8) = some (k, s.dev.clk.tick, w)) :
    s.sharedRequest who v = (s.sharedResult w Codes.RESOURCE_OWNED).sharedTaken who v o := by
  subst owner
  refine (if_neg (by rw [ok]; exact Bool.false_ne_true)).trans ?_
  rw [owned]
  dsimp only
  rw [if_neg other, taken]
  exact if_pos (by simp [lower, State.tick])

end Owned
end Allowed

theorem State.sharedResult_region (c : Code) : s.sharedResult (r.val + 1) c =
    s.onRAux r.val fun a => { a with sharedResult := a.sharedResult.give s.dev.clk.tick c } := if_neg (Nat.succ_ne_zero _)

theorem State.sharedTaken_region (s : State) (ok : requestOk v false = true) :
    (s.sharedTaken (r.val + 1) v (r.val, bitsOf v.toNat 23 16)).dev.shared.ownerOf (bitsOf v.toNat 7 0) (bitsOf v.toNat 15 8) =
      some (r.val, bitsOf v.toNat 23 16) ∧
    ((s.sharedTaken (r.val + 1) v (r.val, bitsOf v.toNat 23 16)).region r.val).aux.sharedResult =
      (s.region r.val).aux.sharedResult.give s.dev.clk.tick Codes.OK ∧
    (∀ p, p ≠ r.val → (s.sharedTaken (r.val + 1) v (r.val, bitsOf v.toNat 23 16)).region p = s.region p) ∧
    s.sharedTaken (r.val + 1) v (r.val, bitsOf v.toNat 23 16) =
      { s with dev := { s.dev with shared := (s.sharedTaken (r.val + 1) v (r.val, bitsOf v.toNat 23 16)).dev.shared }
               fab := { s.fab with regions := (s.sharedTaken (r.val + 1) v (r.val, bitsOf v.toNat 23 16)).fab.regions } } := by
  rw [State.sharedTaken, State.sharedResult_region]
  refine ⟨?_, ?_, fun p other => ?_, rfl⟩
  · exact Shared.ownerOf_give r.isLt ok
  · rw [State.region_onRAux]
    rfl
  · rw [State.region_onRAux_other _ _ other.symm]
    rfl

theorem sharedRequestsGiveOrRefuse : SharedRequestsGiveOrRefuse := by
  intro s f r v
  have owner : (r.val, bitsOf v.toNat 23 16) = (if r.val + 1 = 0 then 0x40 else r.val + 1 - 1, bitsOf v.toNat 23 16) := by
    rw [if_neg (Nat.succ_ne_zero _), Nat.add_sub_cancel]
  have who : decide (r.val + 1 = 0) = false := decide_eq_false (Nat.succ_ne_zero _)
  refine ⟨fun reach ok free => ?_, fun reach bad => ?_, fun reach ok alone ⟨p, owned, other⟩ => ?_,
    fun k w reach ok taken lower ⟨p, owned, other⟩ => ?_, fun reach ok free => ?_⟩
  · obtain ⟨owns, result, -, frame⟩ := State.sharedTaken_region (r := r) s ok
    exact completes_of_effect rfl ((s.whenP_pos _ reach).trans (State.sharedRequest_free owner (by rw [who]; exact ok) free))
      ⟨owns, result, frame⟩
  · refine completes_of_effect rfl ((s.whenP_pos _ reach).trans ((State.sharedRequest_invalid (by rw [who]; exact bad)).trans
      (State.sharedResult_region _))) ⟨?_, rfl⟩
    rw [State.effect_region, State.region_onRAux]
  · refine completes_of_effect rfl ((s.whenP_pos _ reach).trans ((State.sharedRequest_owned owner (by rw [who]; exact ok) owned other alone).trans
      (State.sharedResult_region _))) ⟨?_, rfl⟩
    rw [State.effect_region, State.region_onRAux]
  · let yielded := s.onRAux (w - 1) fun a => { a with sharedResult := a.sharedResult.give s.dev.clk.tick Codes.RESOURCE_OWNED }
    have yields : s.sharedResult w Codes.RESOURCE_OWNED = yielded := if_neg (by omega)
    have first : r.val ≠ w - 1 := by omega
    have step := (s.whenP_pos (fun s => s.sharedRequest (r.val + 1) v) reach).trans
      (State.sharedRequest_overtakes owner (by rw [who]; exact ok) owned other lower taken)
    obtain ⟨owns, result, others, -⟩ := State.sharedTaken_region (r := r) yielded ok
    rw [yields] at step
    refine completes_of_effect rfl step ⟨owns, ?_, ?_⟩
    · rw [State.effect_region, result, State.region_onRAux_other _ _ first.symm]
      rfl
    · rw [State.effect_region, others _ first.symm, State.region_onRAux]
  · refine completes_of_effect rfl ((s.whenP_pos _ reach).trans
      (State.sharedRequest_free (o := (0x40, bitsOf v.toNat 23 16)) rfl ok free)) ⟨?_, ?_, rfl⟩
    · exact Shared.ownerOf_giveHub (h := s.dev.shared) ok
    · exact congrArg (·.give s.dev.clk.tick Codes.OK) (s.dev.shared.give_hubResult _ _ _)

end Requests

theorem sharedOutcomeReadsNextTick : SharedOutcomeReadsNextTick := by
  intro x t u c earlier later
  exact ⟨by simp [LateCode.give, LateCode.read, earlier], by simp [LateCode.give, LateCode.read, later.symm]⟩

/-! ## Pins -/

theorem getLsbD_one_shift {w v i : Nat} (inside : i < w) : ((1 : BitVec w) <<< v).getLsbD i = decide (i = v) := by
  have one : (1 : BitVec w).getLsbD (i - v) = decide (i - v = 0) := by simp; omega
  rw [BitVec.getLsbD_shiftLeft, one]
  rcases lt_trichotomy i v with before | rfl | after
  · simp [before, Nat.ne_of_lt before]
  · simp [inside]
  · simp [inside, Nat.ne_of_gt after, show i - v ≠ 0 by omega, show ¬ i < v by omega]

theorem State.cableOut_pins (s : State) (p : Nat) : (s.cableOut p).dev.pins = s.dev.pins := by
  unfold State.cableOut
  split
  · have told := State.eventAll_only (s.assignFault Codes.PARTNER_LOST none 0 none)
      ((s.assignFault Codes.PARTNER_LOST none 0 none).portRegions p) 6 Codes.PARTNER_LOST
      ((s.assignFault Codes.PARTNER_LOST none 0 none).linkDetailWord p 0)
    have assigned := s.assignFault_only Codes.PARTNER_LOST none 0 none
    simpa [State.declareLoss, State.sendNotice] using (congrArg (·.dev.pins) told).trans (congrArg (·.dev.pins) assigned)
  · rfl

/-- The levels of the cable-present pins after one of them has changed. -/
def cblpresAt (x : BitVec 8) (p : Nat) (high : Bool) : BitVec 8 := if high then x ||| (1 : BitVec 8) <<< p else x &&& ~~~((1 : BitVec 8) <<< p)

theorem getLsbD_cblpresAt (x : BitVec 8) (p : PortId) (high : Bool) :
    (cblpresAt x p.val high).getLsbD p.val = high ∧ ∀ q, q ≠ p.val → (cblpresAt x p.val high).getLsbD q = x.getLsbD q := by
  have bit (i : Nat) : (cblpresAt x p.val high).getLsbD i = if i = p.val then high else x.getLsbD i := by
    by_cases inside : i < 8
    · cases high
      · rw [cblpresAt, if_neg Bool.false_ne_true, BitVec.getLsbD_and, BitVec.getLsbD_not, getLsbD_one_shift inside]
        by_cases same : i = p.val <;> simp [same, inside]
      · rw [cblpresAt, if_pos rfl, BitVec.getLsbD_or, getLsbD_one_shift inside]
        by_cases same : i = p.val <;> simp [same]
    · have other : i ≠ p.val := fun same => inside (same ▸ p.isLt)
      rw [if_neg other, BitVec.getLsbD_of_ge _ _ (Nat.le_of_not_lt inside), BitVec.getLsbD_of_ge _ _ (Nat.le_of_not_lt inside)]
  exact ⟨by rw [bit, if_pos rfl], fun q other => by rw [bit, if_neg other]⟩

section Cable
variable {s : State} {p : PortId} {high : Bool}

theorem exec_cblpresChange (s : State) (p : PortId) (high : Bool) : exec (.cblpresChange p high) s = .next (s.effect fun s =>
    s.whenP (s.uncabled p.val != high) fun s =>
      (s.onPins fun n => { n with cblpres := cblpresAt n.cblpres p.val high }).whenP
        (s.dev.boot.stage ≠ .reset) fun s =>
          if high then (s.pfEvent 6 Codes.CABLE_CHANGE (p.val + b2n high * 2 ^ 3)).cableOut p.val
          else s.pfEvent 6 Codes.CABLE_CHANGE (p.val + b2n high * 2 ^ 3)) := rfl

theorem cblpresChange_sets (p : PortId) (high : Bool) : Completes (.cblpresChange p high) s fun t => t.dev.pins.cblpres.getLsbD p.val = high ∧
    (∀ q, q ≠ p.val → t.dev.pins.cblpres.getLsbD q = s.dev.pins.cblpres.getLsbD q) ∧ s.KeepsStore t := by
  obtain ⟨own, others⟩ := getLsbD_cblpresAt s.dev.pins.cblpres p high
  cases moves : s.uncabled p.val != high
  · have same : s.dev.pins.cblpres.getLsbD p.val = high := by simpa [State.uncabled] using moves
    exact completes_of_effect (exec_cblpresChange s p high) (s.whenP_neg _ moves) ⟨same, fun _ _ => rfl, s.effect_keepsStore _⟩
  · obtain ⟨t, step, pins⟩ : ∃ t, (s.onPins fun n => { n with cblpres := cblpresAt n.cblpres p.val high }).whenP
        (s.dev.boot.stage ≠ .reset) (fun s => if high then (s.pfEvent 6 Codes.CABLE_CHANGE (p.val + b2n high * 2 ^ 3)).cableOut p.val
          else s.pfEvent 6 Codes.CABLE_CHANGE (p.val + b2n high * 2 ^ 3)) = t ∧
        t.dev.pins = (s.onPins fun n => { n with cblpres := cblpresAt n.cblpres p.val high }).dev.pins := by
      refine ⟨_, rfl, ?_⟩
      by_cases stage : s.dev.boot.stage = .reset
      · rw [State.whenP_neg _ _ (by simp [stage])]
      · rw [State.whenP_pos _ _ (by simp [stage])]
        split
        · rw [State.cableOut_pins, State.pfEvent_frame]
        · rw [State.pfEvent_frame]
    have cells : t.dev.pins.cblpres = cblpresAt s.dev.pins.cblpres p.val high := congrArg Pins.cblpres pins
    refine completes_of_effect (exec_cblpresChange s p high) ((s.whenP_pos _ moves).trans step) ⟨?_, fun q other => ?_, s.effect_keepsStore _⟩
    · exact (congrArg (·.getLsbD p.val) cells).trans own
    · exact (congrArg (·.getLsbD q) cells).trans (others q other)

theorem cblpresChange_raises (p : PortId) (was : s.dev.pins.cblpres.getLsbD p.val = true) (stage : s.dev.boot.stage ≠ .reset) :
    Completes (.cblpresChange p false) s fun t =>
      t = State.pfEvent { s with dev := { s.dev with pins := { s.dev.pins with cblpres := t.dev.pins.cblpres } } } 6 Codes.CABLE_CHANGE p.val := by
  let plugged := s.onPins fun n => { n with cblpres := cblpresAt n.cblpres p.val false }
  have step : plugged.whenP (s.dev.boot.stage ≠ .reset) (fun s => if false then
      (s.pfEvent 6 Codes.CABLE_CHANGE (p.val + b2n false * 2 ^ 3)).cableOut p.val
      else s.pfEvent 6 Codes.CABLE_CHANGE (p.val + b2n false * 2 ^ 3)) = plugged.pfEvent 6 Codes.CABLE_CHANGE p.val :=
    State.whenP_pos _ _ (by simp [stage])
  have pins : (plugged.pfEvent 6 Codes.CABLE_CHANGE p.val).dev.pins = plugged.dev.pins := by rw [State.pfEvent_frame]
  refine completes_of_effect (exec_cblpresChange s p false) ((s.whenP_pos _ (by simp [State.uncabled, was])).trans step) ?_
  rw [State.effect_of_frame (State.pfEvent_pending ..) (State.pfEvent_part ..) (State.pfEvent_fuses ..) (State.pfEvent_flash ..)]
  rw [pins]
  rfl

end Cable

theorem pinsAndTickReads : PinsAndTickReads := by
  intro s present f p high
  refine ⟨completes_of_devEffect rfl rfl rfl, fun reach => ?_, cblpresChange_sets p high, cblpresChange_raises p⟩
  refine completes_of_devEffect rfl (s.whenP_pos _ reach) ⟨rfl, Tab.get_set_same .., fun g other => Tab.get_set_other _ _ _ other.symm, rfl⟩

end Sys2Proof.Machine
end

section
/-!
CERTIFICATE. SMBus commands, requests for shared resources, pins and the tick read complete.
-/
namespace Sys2Proof.Machine

/-- Settles O12, by its four parts. -/
theorem pinsAndBusAnswer : Obligations.PinsAndBusAnswer :=
  ⟨smbusCommandsAnswer, sharedRequestsGiveOrRefuse, sharedOutcomeReadsNextTick, pinsAndTickReads⟩

end Sys2Proof.Machine
end

section
/-!
SUPPORT. Frame marks, timers and underruns of a region's vision graphs (17 R650-R671).
-/
namespace Sys2Proof.Machine

/-! ## Updates of one graph's group -/

/-- What of a slot decides whether it holds a graph: its operation and the graph's run. -/
def Slot.graph (sl : Slot) : Op × Option VisRun := (sl.op, sl.run.vis)

/-- A slot with its group's record updated where it has the name. -/
def Slot.grouped (q : Nat) (seq : Word) (f : VisGroupRun → VisGroupRun) (sl : Slot) : Slot :=
  if sl.is q seq then { sl with run := { sl.run with group := f sl.run.group } } else sl

theorem Slot.grouped_graph (q : Nat) (seq : Word) (f : VisGroupRun → VisGroupRun) (sl : Slot) : (sl.grouped q seq f).graph = sl.graph := by
  unfold Slot.grouped
  split <;> rfl

theorem Slot.is_congr {x y : Slot} (same : x.op = y.op) (q : Nat) (seq : Word) : x.is q seq = y.is q seq := by rw [Slot.is, Slot.is, same]

section Group
variable (s : State) (k : OpKey) (f : VisGroupRun → VisGroupRun)

theorem State.onGrp_graph : s.Keeps (RegionSched.seen Slot.graph) (s.onGrp k f) := s.onSlot_keeps k.1 k.2.1 k.2.2

theorem State.slots_onGrp : (s.onGrp k f).slots k.1 = (s.slots k.1).map (Slot.grouped k.2.1 k.2.2 f) := by
  rw [State.slots, State.onGrp, State.onRun, State.onSlot, State.region_onSched, State.slots]
  rfl

theorem State.onGrp_aux (p : Nat) : ((s.onGrp k f).region p).aux = (s.region p).aux := (s.onSched_rest k.1 _ p).1

theorem State.slotOf_onGrp (q : Nat) (seq : Word) : (s.onGrp k f).slotOf k.1 q seq = (s.slotOf k.1 q seq).map (Slot.grouped k.2.1 k.2.2 f) := by
  have named (sl : Slot) : (sl.grouped k.2.1 k.2.2 f).is q seq = sl.is q seq :=
    Slot.is_congr (congrArg Prod.fst (sl.grouped_graph k.2.1 k.2.2 f)) q seq
  rw [State.slotOf, State.slots_onGrp, List.find?_map, State.slotOf]
  simp only [Function.comp_def, named]

theorem State.onGrp_staysOutside : s.StaysOutside (s.onGrp k f) k.1 := s.onSched_staysOutside k.1

end Group

/-- A graph of a later state, or a member of a group, has the operation and the run of one before. -/
theorem mem_filter_of_graph {l m : List Slot} (same : m.map Slot.graph = l.map Slot.graph) {p : Slot → Bool}
    (decided : ∀ x y : Slot, x.graph = y.graph → p x = p y) {x : Slot} (listed : x ∈ m.filter p) : ∃ y ∈ l.filter p, y.graph = x.graph := by
  obtain ⟨member, holds⟩ := List.mem_filter.mp listed
  have image : x.graph ∈ l.map Slot.graph := same ▸ List.mem_map_of_mem member
  obtain ⟨y, before, looks⟩ := List.mem_map.mp image
  exact ⟨y, List.mem_filter.mpr ⟨before, (decided y x looks).trans holds⟩, looks⟩

section Graphs
variable {s t : State} (kept : s.Keeps (RegionSched.seen Slot.graph) t) {r : Nat} {x : Slot}
include kept

theorem mem_graphs_of_keeps (listed : x ∈ t.graphs r) : ∃ y ∈ s.graphs r, y.graph = x.graph := by
  refine mem_filter_of_graph (kept.slots_map r) (fun a b same => ?_) listed
  obtain ⟨op, vis⟩ := Prod.mk.inj same
  rw [op, vis]

theorem mem_visMembers_of_keeps {g : Nat} (listed : x ∈ t.visMembers r g) : ∃ y ∈ s.visMembers r g, y.graph = x.graph := by
  refine mem_filter_of_graph (kept.slots_map r) (fun a b same => ?_) listed
  obtain ⟨op, vis⟩ := Prod.mk.inj same
  rw [op, vis]

end Graphs

/-! ## Timers -/

theorem frameMarkTimer_due {s : State} {r : RegionId} {n : Fin 8} {k : Nat} (on : s.fabricOn = true)
    (owned : s.dev.shared.timers.contains (n.val, (r.val, 2)) = true) (positive : 0 < k) (period : Tab.get 0 (s.region r.val).aux.timerPeriod n.val ≠ 0)
    (due : (s.dev.clk.tick - Tab.get 0 (s.region r.val).aux.timerWrite n.val).toNat = k * (Tab.get 0 (s.region r.val).aux.timerPeriod n.val).toNat) :
    Completes (.frameMarkTimer r n) s fun u =>
        (u.region r.val).aux = { (s.region r.val).aux with marksDue := (2, n.val, s.dev.clk.tick) :: (s.region r.val).aux.marksDue } ∧
        (u.region r.val).sched = (s.region r.val).sched ∧ (∀ j, j ≠ r.val → u.region j = s.region j) ∧
        u = { s with fab := { s.fab with regions := u.fab.regions } } := by
  have nonzero : (Tab.get 0 (s.region r.val).aux.timerPeriod n.val).toNat ≠ 0 := fun zero => period (BitVec.eq_of_toNat_eq zero)
  have mark : s.timerMark r.val n.val = true := by
    have distance : (s.tick - Tab.get 0 (s.region r.val).aux.timerWrite n.val).toNat = _ := due
    simp only [State.timerMark, distance, Nat.mul_mod_left, Bool.and_eq_true, decide_eq_true_eq]
    exact ⟨⟨nonzero, Nat.mul_ne_zero positive.ne' nonzero⟩, trivial⟩
  obtain ⟨t, run, region, others, frame⟩ := completes_onRAux (s := s) (r := r) (i := .frameMarkTimer r n)
    (g := fun a => { a with marksDue := (2, n.val, s.tick) :: a.marksDue }) rfl (by rw [on, owned, mark]; rfl)
  exact ⟨t, run, (congrArg Region.aux region :), (congrArg Region.sched region :), others, frame⟩

/-! ## Marks at a boundary -/

/-- The graph named `k` waits with a mark. -/
def State.Marked (s : State) (k : OpKey) : Prop := MarksBecome s k fun x => x.mark = true

theorem State.Marked.onGrp {s : State} {k : OpKey} (marked : s.Marked k) {j : OpKey} (region : j.1 = k.1) {f : VisGroupRun → VisGroupRun}
    (keeps : ∀ g, g.mark = true → (f g).mark = true) : (s.onGrp j f).Marked k := by
  obtain ⟨y, found, mark⟩ := marked
  refine ⟨y.grouped j.2.1 j.2.2 f, ?_, ?_⟩
  · rw [← region] at found ⊢
    rw [State.slotOf_onGrp, found, Option.map_some]
  · unfold Slot.grouped
    split
    · exact keeps _ mark
    · exact mark

/-- The end of a boundary's marks: every graph remembers the flag that it watches. -/
def State.rememberFlags (s : State) (r : Nat) : State :=
  (s.graphs r).foldl (fun s sl => s.onGrp (sl.key r) fun g => { g with lastFlag := s.flag r sl.op.markIndex }) s

theorem State.rememberFlags_marked {s : State} {k : OpKey} (marked : s.Marked k) : (s.rememberFlags k.1).Marked k :=
  List.foldlRecOn (motive := fun t : State => t.Marked k) _ _ marked fun t h sl _ =>
    h.onGrp (j := sl.key k.1) (f := fun g => { g with lastFlag := t.flag k.1 sl.op.markIndex }) rfl fun _ mark => mark

theorem State.rememberFlags_aux (s : State) (r p : Nat) : ((s.rememberFlags r).region p).aux = (s.region p).aux :=
  List.foldlRecOn (motive := fun t : State => (t.region p).aux = (s.region p).aux) _ _ rfl fun _ h _ _ => (State.onGrp_aux ..).trans h

theorem State.onRAux_keeps {α : Type} (v : RegionSched → α) (s : State) (r : Nat) (f : RegionAux → RegionAux) : s.Keeps v (s.onRAux r f) := by
  refine ⟨fun p => ?_, rfl⟩
  by_cases here : r = p
  · subst here
    rw [State.region_onRAux]
  · rw [State.region_onRAux_other _ _ here]

/-- A mark that arises for the one graph of a region. -/
def State.markAlone (s : State) (r : Nat) (sl : Slot) : State :=
  if s.betweenFrames r sl then s.onGrp (sl.key r) fun g => { g with mark := true }
  else if sl.run.group.formed then s.onVisGroup r sl.op.groupId fun g => { g with marksMissed := satAdd g.marksMissed 1 }
  else s

theorem State.frameMark_alone {s : State} {r : Nat} {sl : Slot} {paced : Op → Bool} (alone : s.graphs r = [sl]) (mine : paced sl.op = true) :
    s.frameMark r paced = s.markAlone r sl := by
  have one : (s.graphs r).filter (fun x => paced x.op) = [sl] := by rw [alone]; exact List.filter_cons_of_pos mine
  have itself : sl.is sl.op.queue sl.op.seq = true := by simp [Slot.is]
  simp only [State.frameMark, one, List.foldl_cons, List.foldl_nil, List.find?_cons, decide_true, Option.any_some, itself, Bool.or_true, Bool.and_true]
  rfl

theorem State.markAlone_graph (s : State) (r : Nat) (sl : Slot) : s.Keeps (RegionSched.seen Slot.graph) (s.markAlone r sl) := by
  unfold State.markAlone
  split
  · exact s.onGrp_graph _ _
  · split
    · exact s.onRAux_keeps _ r _
    · exact .refl s

/-- The regions' records once the marks that have arisen are taken. -/
def State.marksTaken (s : State) (r : Nat) : State := s.onRAux r fun a => { a with marksDue := [] }

theorem State.slots_marksTaken (s : State) (r : Nat) : (s.marksTaken r).slots r = s.slots r := by
  rw [State.slots, State.marksTaken, State.region_onRAux, State.slots]

theorem State.visGroups_marksTaken (s : State) (r : Nat) : ((s.marksTaken r).region r).aux.visGroups = (s.region r).aux.visGroups := by
  rw [State.marksTaken, State.region_onRAux]

theorem State.visGroup_onVisGroup (s : State) (r g : Nat) (f : VisGroup → VisGroup) :
    Tab.get {} ((s.onVisGroup r g f).region r).aux.visGroups g = f (Tab.get {} (s.region r).aux.visGroups g) := by
  rw [State.onVisGroup, State.region_onRAux]
  exact Tab.get_modify_same ..

theorem State.onVisGroup_staysOutside (s : State) (r g : Nat) (f : VisGroup → VisGroup) : s.StaysOutside (s.onVisGroup r g f) r := by
  unfold State.onVisGroup
  exact .of_evt (by rw [State.region_onRAux]) (by rw [State.region_onRAux]) rfl

theorem State.betweenFrames_marksTaken (s : State) (r : Nat) (sl : Slot) : (s.marksTaken r).betweenFrames r sl = s.betweenFrames r sl := by
  simp only [State.betweenFrames, State.visMembers, State.slots_marksTaken]

/-- The marks of watched flags (17 R651). -/
def State.flagMarks (s : State) (r : Nat) : State :=
  let changed (sl : Slot) : Bool := sl.op.markSrc = 3 && s.flag r sl.op.markIndex ≠ sl.run.group.lastFlag
  (dedupNat (((s.graphs r).filter changed).map (·.op.markIndex))).foldl (fun s n => s.frameMark r (fun o => o.markSrc = 3 && o.markIndex = n)) s

/-- Whether a mark that is due arises at the present boundary. -/
def State.arises (s : State) (m : Nat × Nat × Word64) : Bool := m.1 ≠ 1 || m.2.2 ≠ s.tick

theorem State.boundaryMarks_eq (s : State) (r : Nat) : s.boundaryMarks r =
    ((((((s.region r).aux.marksDue.filter s.arises).map (fun m => (m.1, m.2.1))).eraseDups).foldl
      (fun s m => s.frameMark r (fun o => o.markSrc = m.1 && o.markIndex = m.2))
      (s.onRAux r fun a => { a with marksDue := (s.region r).aux.marksDue.filter (fun m => !s.arises m) })).flagMarks r).rememberFlags r := rfl

section Boundary
variable {s : State} {r n : Nat} {sl : Slot} {tk : Word64} (alone : s.graphs r = [sl]) (due : (s.region r).aux.marksDue = [(2, n, tk)])
  (src : sl.op.markSrc = 2) (index : sl.op.markIndex = n)
include alone due src index

/-- The one mark that is due, a timer's, reaches the region's one graph. -/
theorem State.boundaryMarks_timer : s.boundaryMarks r = ((s.marksTaken r).markAlone r sl).rememberFlags r := by
  have still : (s.marksTaken r).graphs r = [sl] := by rw [← alone, State.graphs, State.slots_marksTaken, State.graphs]
  obtain ⟨marked, here⟩ : ∃ t, (s.marksTaken r).markAlone r sl = t := ⟨_, rfl⟩
  have reached : (s.marksTaken r).frameMark r (fun o => o.markSrc = 2 && o.markIndex = n) = marked :=
    (State.frameMark_alone still (by simp [src, index])).trans here
  have unwatched : marked.flagMarks r = marked := by
    have nobody : (marked.graphs r).filter (fun x => x.op.markSrc = 3 && marked.flag r x.op.markIndex ≠ x.run.group.lastFlag) = [] := ?_
    · rw [State.flagMarks, nobody]
      rfl
    refine List.filter_eq_nil_iff.mpr fun x listed => ?_
    obtain ⟨y, before, looks⟩ := mem_graphs_of_keeps (here ▸ (s.marksTaken r).markAlone_graph r sl) listed
    rw [still, List.mem_singleton] at before
    have same : x.op = sl.op := before ▸ (congrArg Prod.fst looks).symm
    simp [same, src]
  have arises : [((2, n, tk) : Nat × Nat × Word64)].filter s.arises = [(2, n, tk)] := rfl
  have none_ : [((2, n, tk) : Nat × Nat × Word64)].filter (fun m => !s.arises m) = [] := rfl
  have one : ([(2, n)] : List (Nat × Nat)).eraseDups = [(2, n)] := rfl
  rw [State.boundaryMarks_eq, due, arises, none_, List.map_singleton, one, List.foldl_cons, List.foldl_nil]
  exact congrArg (State.rememberFlags · r) ((congrArg (State.flagMarks · r) reached).trans (unwatched.trans here.symm))

theorem boundaryMarks_marks (found : s.slotOf r sl.op.queue sl.op.seq = some sl) (idle : s.betweenFrames r sl = true) :
    MarksBecome (s.boundaryMarks r) (r, sl.op.queue, sl.op.seq) (fun x => x.mark = true) := by
  rw [State.boundaryMarks_timer alone due src index]
  refine State.rememberFlags_marked (k := (r, sl.op.queue, sl.op.seq)) ?_
  rw [State.markAlone, if_pos ((s.betweenFrames_marksTaken r sl).trans idle)]
  have itself : sl.is sl.op.queue sl.op.seq = true := by simp [Slot.is]
  refine ⟨sl.grouped sl.op.queue sl.op.seq fun g => { g with mark := true }, ?_, ?_⟩
  · have before : (s.marksTaken r).slotOf r sl.op.queue sl.op.seq = some sl := by rw [State.slotOf, State.slots_marksTaken]; exact found
    refine (State.slotOf_onGrp _ (sl.key r) _ sl.op.queue sl.op.seq).trans ?_
    rw [show (sl.key r).1 = r from rfl, before]
    rfl
  · rw [Slot.grouped, if_pos itself]

theorem boundaryMarks_misses (busy : s.betweenFrames r sl = false) (formed : sl.run.group.formed = true) (own : sl.op.groupId = 0) :
    (Tab.get {} ((s.boundaryMarks r).region r).aux.visGroups 0).marksMissed = satAdd (Tab.get {} (s.region r).aux.visGroups 0).marksMissed 1 := by
  have between : ¬ (s.marksTaken r).betweenFrames r sl = true := by rw [s.betweenFrames_marksTaken r sl, busy]; exact Bool.false_ne_true
  rw [State.boundaryMarks_timer alone due src index, State.rememberFlags_aux, State.markAlone, if_neg between, if_pos formed, own,
    State.visGroup_onVisGroup, State.visGroups_marksTaken]

end Boundary

/-! ## Underruns -/

/-- The members of a group with the underrun noted. -/
def State.underrunNoted (s : State) (r : Nat) (ms : List Slot) : State :=
  ms.foldl (fun s sl => s.onGrp (sl.key r) fun x => { x with underrun := true }) s

theorem State.underrunNoted_graph (s : State) (r : Nat) (ms : List Slot) : s.Keeps (RegionSched.seen Slot.graph) (s.underrunNoted r ms) :=
  .foldl (fun s _ => s.onGrp_graph _ _) ms s

theorem State.underrunNoted_aux (s : State) (r : Nat) (ms : List Slot) (p : Nat) : ((s.underrunNoted r ms).region p).aux = (s.region p).aux :=
  List.foldlRecOn (motive := fun t : State => (t.region p).aux = (s.region p).aux) ms _ rfl fun _ h _ _ => (State.onGrp_aux ..).trans h

theorem State.underrunNoted_staysOutside (s : State) (r : Nat) (ms : List Slot) : s.StaysOutside (s.underrunNoted r ms) r :=
  List.foldlRecOn (motive := fun t : State => s.StaysOutside t r) ms _ (fun outside => ⟨outside, rfl⟩)
    fun t h sl _ => h.trans (t.onGrp_staysOutside (sl.key r) _)

theorem State.underrunNoted_members (s : State) (r : Nat) (ms : List Slot) {x : Slot} (listed : x ∈ (s.underrunNoted r ms).slots r)
    {m : Slot} (member : m ∈ ms) (named : x.is m.op.queue m.op.seq = true) : x.run.group.underrun = true := by
  induction ms using List.reverseRecOn generalizing x with
  | nil => cases member
  | append_singleton ms last ih =>
    have split_ : s.underrunNoted r (ms ++ [last]) = (s.underrunNoted r ms).onGrp (last.key r) fun x => { x with underrun := true } := by
      rw [State.underrunNoted, List.foldl_append]
      rfl
    rw [split_] at listed
    have slots := (s.underrunNoted r ms).slots_onGrp (last.key r) fun x => { x with underrun := true }
    rw [show (last.key r).1 = r from rfl] at slots
    rw [slots] at listed
    obtain ⟨y, before, rfl⟩ := List.mem_map.mp listed
    unfold Slot.grouped at named ⊢
    split
    · rfl
    case isFalse other =>
      rw [if_neg other] at named
      refine ih before ((List.mem_append.mp member).resolve_right fun same => ?_) named
      rw [List.mem_singleton] at same
      exact other (same ▸ named)

/-- The underrun of a group whose first member is `m`, counted. -/
def State.underrunCounted (s : State) (r g : Nat) (m : Slot) (ms : List Slot) : State :=
  (s.underrunNoted r (m :: ms)).onVisGroup r g fun c => { c with
    underruns := satAdd c.underruns 1, framesDropped := if m.op.dropToMark then satAdd c.framesDropped 1 else c.framesDropped }

theorem visGroupUnderrun_counts {s : State} {r : RegionId} {g : Fin 16} {m : Slot} {ms : List Slot} {y : Nat} (on : s.fabricOn = true)
    (boundary : s.atBoundary = true) (group : g.val ≠ 0) (members : s.visMembers r.val g.val = m :: ms) (row : s.waitingRow r.val g.val = some y)
    (limit : m.op.stallLimit + 1 = m.run.group.waits) (first : m.run.group.underrun = false) (stays : m.op.dropToMark = false) :
    Completes (.visGroupUnderrun r g) s fun u =>
        (Tab.get {} (u.region r.val).aux.visGroups g.val).underruns = satAdd (Tab.get {} (s.region r.val).aux.visGroups g.val).underruns 1 ∧
        (Tab.get {} (u.region r.val).aux.visGroups g.val).framesDropped = (Tab.get {} (s.region r.val).aux.visGroups g.val).framesDropped ∧
        (∀ x ∈ u.visMembers r.val g.val, x.run.group.underrun = true) ∧ (EventsOutside s r.val → u.mem = s.mem) ∧ s.KeepsStore u := by
  have may : (s.atBoundary && g.val ≠ 0 && m.op.stallLimit + 1 = m.run.group.waits && !m.run.group.underrun) = true := by
    simp [boundary, group, limit, first]
  obtain ⟨detail, run⟩ : ∃ d, exec (.visGroupUnderrun r g) s =
      .next (s.effect fun _ => (s.underrunCounted r.val g.val m ms).regionEvent r.val 3 Codes.VIS_GROUP_UNDERRUN d) := by
    refine ⟨g.val + (((s.streamsHolding r.val g.val y false).filterMap (fun sl => sl.run.vis.map (·.die))).foldl min 1) * 2 ^ 4 +
      y % 2 ^ 13 * 2 ^ 5, congrArg Host.Outcome.next (congrArg (fun t => s.effect fun _ => t) ((s.whenP_pos _ on).trans ?_))⟩
    dsimp only
    rw [members, row]
    exact (s.whenP_pos _ may).trans (if_neg (by rw [stays]; exact Bool.false_ne_true))
  let noted := s.underrunNoted r.val (m :: ms)
  let counted := s.underrunCounted r.val g.val m ms
  have visGroup : Tab.get {} (counted.region r.val).aux.visGroups g.val = _ := noted.visGroup_onVisGroup r.val g.val _
  rw [s.underrunNoted_aux r.val (m :: ms) r.val] at visGroup
  have aux := (counted.regionEvent_tells r.val 3 Codes.VIS_GROUP_UNDERRUN detail).aux r.val
  have slots : (counted.regionEvent r.val 3 Codes.VIS_GROUP_UNDERRUN detail).slots r.val = noted.slots r.val := by
    rw [counted.regionEvent_keepsSlots r.val 3 Codes.VIS_GROUP_UNDERRUN detail r.val]
    show (noted.onRAux r.val _).slots r.val = _
    rw [State.slots, State.region_onRAux, State.slots]
  have outside : s.StaysOutside counted r.val := (s.underrunNoted_staysOutside r.val (m :: ms)).trans
    (noted.onVisGroup_staysOutside r.val g.val _)
  refine completes_of_effect run rfl ⟨?_, ?_, fun x listed => ?_,
    fun away => ((outside.trans (counted.regionEvent_staysOutside r.val 3 Codes.VIS_GROUP_UNDERRUN detail)) away).2, s.effect_keepsStore _⟩
  · rw [State.effect_region, aux, visGroup]
  · rw [State.effect_region, aux, visGroup, stays]
    rfl
  · have member : x ∈ noted.visMembers r.val g.val := by
      rw [State.visMembers, ← slots]
      exact listed
    obtain ⟨z, before, looks⟩ := mem_visMembers_of_keeps (s.underrunNoted_graph r.val (m :: ms)) member
    rw [members] at before
    refine s.underrunNoted_members r.val (m :: ms) (List.mem_filter.mp member).1 before ?_
    rw [Slot.is_congr (congrArg Prod.fst looks).symm]
    simp [Slot.is]

theorem visTimerWrite_sets {s : State} {r : RegionId} {n : Fin 8} {f : FnId} (v : Word) (reach : s.reaches f.val r.val = true)
    (owned : s.dev.shared.timers.contains (n.val, (r.val, 2)) = true) : Completes (.regionVisTimerWrite f r n v) s fun u =>
      Tab.get 0 (u.region r.val).aux.timerPeriod n.val = v ∧ Tab.get 0 (u.region r.val).aux.timerWrite n.val = s.dev.clk.tick ∧
      (∀ j, j ≠ n.val → Tab.get 0 (u.region r.val).aux.timerPeriod j = Tab.get 0 (s.region r.val).aux.timerPeriod j) ∧
      (∀ j, j ≠ r.val → u.region j = s.region j) ∧ u = { s with fab := { s.fab with regions := u.fab.regions } } := by
  obtain ⟨t, run, region, others, frame⟩ := completes_onRAux (s := s) (r := r) (i := .regionVisTimerWrite f r n v)
    (g := fun a => { a with timerPeriod := Tab.set a.timerPeriod n.val v, timerWrite := Tab.set a.timerWrite n.val s.tick }) rfl
    (by rw [reach, owned]; rfl)
  have period : (t.region r.val).aux.timerPeriod = Tab.set (s.region r.val).aux.timerPeriod n.val v := congrArg (·.aux.timerPeriod) region
  have write : (t.region r.val).aux.timerWrite = Tab.set (s.region r.val).aux.timerWrite n.val s.tick := congrArg (·.aux.timerWrite) region
  exact ⟨t, run, by rw [period, Tab.get_set_same], by rw [write, Tab.get_set_same]; rfl,
    fun j other => by rw [period, Tab.get_set_other _ _ _ other.symm], others, frame⟩

end Sys2Proof.Machine
end

section
/-!
CERTIFICATE. Frame marks, timers, group underruns and SYNC_OUT.
-/
namespace Sys2Proof.Machine

/-- Settles O41: one lemma for each clause; a boundary's marks are those of `State.boundaryMarks_timer`. -/
theorem visionMarksTimersAndGroups : Obligations.VisionMarksTimersAndGroups := by
  intro s r n f v sl m ms g y k tk
  exact ⟨frameMarkTimer_due, fun alone found due src index => ⟨boundaryMarks_marks alone due src index found, boundaryMarks_misses alone due src index⟩,
    visGroupUnderrun_counts, visTimerWrite_sets v, fun none_ => completes_of_effect rfl (s.whenP_neg _ (by rw [none_, Bool.and_false])) rfl,
    completes_of_devEffect rfl rfl rfl⟩

end Sys2Proof.Machine
end

section
/-!
SUPPORT. Packets, lanes, deferrals and changes of the die-to-die bundles (19 R701-R726).
-/
namespace Sys2Proof.Machine

/-! ## Lanes -/

theorem foldl_of_fixed {α β : Type} {f : β → α → β} (l : List α) (fixed : ∀ a ∈ l, ∀ b, f b a = b) (b : β) : l.foldl f b = b := by
  induction l with
  | nil => rfl
  | cons a l ih =>
    rw [List.foldl_cons, fixed a List.mem_cons_self]
    exact ih fun a listed => fixed a (List.mem_cons_of_mem _ listed)

/-- A fold in which one element of the list acts. -/
theorem foldl_of_single {α β : Type} {f : β → α → β} {l : List α} {x : α} (nodup : l.Nodup) (listed : x ∈ l)
    (fixed : ∀ a, a ≠ x → ∀ b, f b a = b) (b : β) : l.foldl f b = f b x := by
  obtain ⟨before, after, rfl⟩ := List.append_of_mem listed
  obtain ⟨-, tail, apart⟩ := List.nodup_append.mp nodup
  rw [List.foldl_append, List.foldl_cons, foldl_of_fixed before fun a h => fixed a (apart a h x List.mem_cons_self),
    foldl_of_fixed after fun a h => fixed a fun same => (List.nodup_cons.mp tail).1 (same ▸ h)]

/-- The failed check of one standing lane. -/
def State.countLane (s : State) (b l : Nat) : State :=
  let s := s.onBundle b fun u => { u with laneErr := Tab.modify 0 u.laneErr l (· + 1) }
  if s.dev.ydi.threshold ≤ Tab.get 0 (s.bundle b).laneErr l then s.retireLane b l else s

theorem State.countLanes_none (s : State) (b : Nat) : s.countLanes b 0 = s :=
  foldl_of_fixed _ (fun l _ s => if_neg (by simp)) s

theorem mem_standing_of_dataLanes {u : Bundle} {l : Nat} (data : l ∈ u.dataLanes) : l ∈ u.standing := List.mem_of_mem_take data

theorem lt_of_mem_standing {u : Bundle} {l : Nat} (stands : l ∈ u.standing) : l < 36 := List.mem_range.mp (List.mem_filter.mp stands).1

theorem State.countLanes_one {s : State} {b l : Nat} (data : l ∈ (s.bundle b).dataLanes) : s.countLanes b (1#36 <<< l) = s.countLane b l := by
  have stands := mem_standing_of_dataLanes data
  have small := lt_of_mem_standing stands
  have bit (i : Nat) (inside : i < 36) : (1#36 <<< l).getLsbD i = decide (i = l) := getLsbD_one_shift inside
  refine (foldl_of_single List.nodup_range (List.mem_range.mpr small) (fun i other t => if_neg ?_) s).trans (if_pos ?_)
  · by_cases inside : i < 36
    · rw [bit i inside, decide_eq_false other, Bool.false_and]
      exact Bool.false_ne_true
    · rw [BitVec.getLsbD_of_ge _ _ (Nat.le_of_not_lt inside), Bool.false_and]
      exact Bool.false_ne_true
  · rw [bit l small, List.contains_iff_mem.mpr stands]
    simp

section Lane
variable {s : State} {b l : Nat}

/-- The bundle once the failed check of a lane is counted. -/
def State.laneCounted (s : State) (b l : Nat) : State := s.onBundle b fun u => { u with laneErr := Tab.modify 0 u.laneErr l (· + 1) }

theorem State.bundle_laneCounted : (s.laneCounted b l).bundle b = { s.bundle b with laneErr := Tab.modify 0 (s.bundle b).laneErr l (· + 1) } :=
  s.bundle_onBundle b _

theorem State.countLane_below (below : Tab.get 0 (s.bundle b).laneErr l + 1 < max 1 s.dev.ydi.errThreshold.toNat) :
    s.countLane b l = s.laneCounted b l := by
  refine if_neg ?_
  rw [s.bundle_onBundle b]
  dsimp only
  rw [Tab.get_modify_same]
  exact Nat.not_le.mpr below

theorem State.countLane_reached (reached : max 1 s.dev.ydi.errThreshold.toNat ≤ Tab.get 0 (s.bundle b).laneErr l + 1) :
    s.countLane b l = (s.laneCounted b l).retireLane b l := by
  refine if_pos ?_
  rw [s.bundle_onBundle b]
  dsimp only
  rw [Tab.get_modify_same]
  exact reached

/-- The retirement of a data lane that waits for its record and for the next frame boundary. -/
def State.laneRetired (s : State) (b l : Nat) : State :=
  { s with flash := { s.flash with unwritten := s.flash.unwritten ++ [(b, l)] } }.onBundle b fun v =>
    { v with retired := v.retired ||| (1#36 <<< l), retiredRun := satAdd v.retiredRun 1, pendingLanes := v.pendingLanes ++ [l] }

theorem State.retireLane_data (data : l ∈ (s.bundle b).dataLanes) (working : (s.bundle b).retired.getLsbD l = false) :
    s.retireLane b l = s.laneRetired b l := by
  have contains : (s.bundle b).dataLanes.contains l = true := List.contains_iff_mem.mpr data
  rw [State.retireLane, working, if_neg Bool.false_ne_true, contains]
  rfl

theorem State.retireLane_again (retired : (s.bundle b).retired.getLsbD l = true) : s.retireLane b l = s := if_pos retired

end Lane

/-! ## Resends -/

theorem attemptsOf_filter (l : List (OpKey × Nat)) (k : OpKey) : attemptsOf (l.filter fun e => e.1 ≠ k) k = 0 := by
  have none_ : (l.filter fun e => e.1 ≠ k).find? (fun e => e.1 = k) = none := by
    refine List.find?_eq_none.mpr fun e listed => ?_
    simpa using (List.mem_filter.mp listed).2
  rw [attemptsOf, none_]
  rfl

theorem attemptsOf_cons (l : List (OpKey × Nat)) (k : OpKey) (n : Nat) : attemptsOf ((k, n) :: l) k = n := by simp [attemptsOf]

/-- The first failed attempt begins a retry of the operation. -/
def State.retryBegun (s : State) (k : OpKey) (n : Nat) : State := if n = 0 then s.retryBegin k else s

theorem State.slotOf_onOp {s : State} {k : OpKey} {sl : Slot} (found : s.slotOf k.1 k.2.1 k.2.2 = some sl) {f : Op → Op}
    (named : ∀ o, (f o).queue = o.queue ∧ (f o).seq = o.seq) : (s.onOp k.1 k.2.1 k.2.2 f).slotOf k.1 k.2.1 k.2.2 = some { sl with op := f sl.op } := by
  rw [State.onOp, State.slotOf_onSlot, found]
  · rfl
  · intro x
    obtain ⟨queue, seq⟩ := named x.op
    simp only [Slot.is, queue, seq]

theorem State.retryBegun_slot {s : State} {k : OpKey} {sl : Slot} (found : s.slotOf k.1 k.2.1 k.2.2 = some sl) (n : Nat) :
    ∃ y, (s.retryBegun k n).slotOf k.1 k.2.1 k.2.2 = some y ∧ y.op.state = sl.op.state ∧ y.rec_ = sl.rec_ := by
  unfold State.retryBegun
  split
  · exact ⟨_, State.slotOf_onOp found fun _ => ⟨rfl, rfl⟩, rfl, rfl⟩
  · exact ⟨sl, found, rfl, rfl⟩

theorem State.retryBegun_regionsOnly (s : State) (k : OpKey) (n : Nat) : s.RegionsOnly (s.retryBegun k n) := by
  unfold State.retryBegun
  split
  · rfl
  · exact .refl s

section Resend
variable {s : State} {b n : Nat} {k : OpKey}

/-- The failed CRC of a packet, with `n` failed attempts before it, is counted. -/
def State.crcCounted (s : State) (b : Nat) (k : OpKey) (n : Nat) : State :=
  (s.onBundle b fun u => { u with crcFail := satAdd u.crcFail 1 }).retryBegun k n

theorem State.ydi_crcCounted : (s.crcCounted b k n).dev.ydi = (s.onBundle b fun u => { u with crcFail := satAdd u.crcFail 1 }).dev.ydi := by
  rw [State.crcCounted, State.retryBegun_regionsOnly]

theorem State.bundle_crcCounted : (s.crcCounted b k n).bundle b = { s.bundle b with crcFail := satAdd (s.bundle b).crcFail 1 } := by
  rw [State.bundle, State.ydi_crcCounted]
  exact s.bundle_onBundle b _

theorem State.crcCounted_frame (s : State) (b : Nat) (k : OpKey) (n : Nat) : s.crcCounted b k n =
    { s with dev := { s.dev with ydi := (s.crcCounted b k n).dev.ydi }, fab := { s.fab with regions := (s.crcCounted b k n).fab.regions } } := by
  rw [State.ydi_crcCounted]
  exact State.retryBegun_regionsOnly _ k n

/-- The packet is tried again, one frame later. -/
def State.resendDue (s : State) (b : Nat) (k : OpKey) (n : Nat) : State :=
  ((s.crcCounted b k n).onBundle b fun u =>
    { u with retrying := (k, n + 1) :: u.retrying.filter (fun e => e.1 ≠ k), deferrals := satAdd u.deferrals 1 }).disturb k.1 k.2.1 k.2.2

/-- The packet has used its attempts. -/
def State.resendExhausted (s : State) (b : Nat) (k : OpKey) (n : Nat) : State :=
  ((s.crcCounted b k n).onBundle b fun u => { u with retrying := u.retrying.filter (fun e => e.1 ≠ k) }).retryEnd k

theorem State.resendDue_slot {sl : Slot} (found : s.slotOf k.1 k.2.1 k.2.2 = some sl) : ∃ y, (s.resendDue b k n).slotOf k.1 k.2.1 k.2.2 = some y ∧
    y.op.state = sl.op.state ∧ y.rec_.disturbance = satAdd sl.rec_.disturbance 1 := by
  obtain ⟨y, at_, state, record⟩ := State.retryBegun_slot (s := s.onBundle b fun u => { u with crcFail := satAdd u.crcFail 1 }) found n
  let due := (s.crcCounted b k n).onBundle b fun u =>
    { u with retrying := (k, n + 1) :: u.retrying.filter (fun e => e.1 ≠ k), deferrals := satAdd u.deferrals 1 }
  exact ⟨_, State.slotOf_onRec (s := due) at_ _, state, by rw [record]⟩

theorem State.bundle_resendExhausted : (s.resendExhausted b k n).bundle b = { s.bundle b with
    crcFail := satAdd (s.bundle b).crcFail 1, retrying := (s.bundle b).retrying.filter fun e => e.1 ≠ k } := by
  have counted := State.bundle_crcCounted (s := s) (b := b) (k := k) (n := n)
  refine ((s.crcCounted b k n).bundle_onBundle b fun u => { u with retrying := u.retrying.filter (fun e => e.1 ≠ k) }).trans ?_
  rw [counted]

theorem State.resendExhausted_slot {sl : Slot} (found : s.slotOf k.1 k.2.1 k.2.2 = some sl) :
    ∃ y, (s.resendExhausted b k n).slotOf k.1 k.2.1 k.2.2 = some y ∧ y.op.state = sl.op.state := by
  obtain ⟨y, at_, state, -⟩ := State.retryBegun_slot (s := s.onBundle b fun u => { u with crcFail := satAdd u.crcFail 1 }) found n
  let spent := (s.crcCounted b k n).onBundle b fun u => { u with retrying := u.retrying.filter (fun e => e.1 ≠ k) }
  exact ⟨_, State.slotOf_onOp (s := spent) at_ fun _ => ⟨rfl, rfl⟩, state⟩

theorem State.resendExhausted_frame (s : State) (b : Nat) (k : OpKey) (n : Nat) : s.resendExhausted b k n =
    { s with dev := { s.dev with ydi := (s.resendExhausted b k n).dev.ydi }, fab := { s.fab with regions := (s.resendExhausted b k n).fab.regions } } := by
  have frame := s.crcCounted_frame b k n
  unfold State.resendExhausted
  generalize s.crcCounted b k n = t at frame
  rw [frame]
  rfl

theorem State.resendExhausted_staysOutside (s : State) (b : Nat) (k : OpKey) (n : Nat) : s.StaysOutside (s.resendExhausted b k n) k.1 := by
  have counting : s.StaysOutside (s.crcCounted b k n) k.1 := by
    unfold State.crcCounted State.retryBegun
    split
    · exact State.onSched_staysOutside (s.onBundle b _) k.1
    · exact .of_regions rfl rfl
  have spending : s.StaysOutside ((s.crcCounted b k n).onBundle b fun u => { u with retrying := u.retrying.filter (fun e => e.1 ≠ k) }) k.1 :=
    counting.trans (.of_regions rfl rfl)
  exact spending.trans (State.onSched_staysOutside _ k.1)

variable (attempts : attemptsOf (s.bundle b).retrying k = n)
include attempts

theorem State.ydiPacket_again (left : n + 1 < max 1 s.dev.ydi.retryBudget.toNat) : s.ydiPacket b false 0 k = s.resendDue b k n := by
  have budget : (s.crcCounted b k n).dev.ydi.budget = max 1 s.dev.ydi.retryBudget.toNat := by
    rw [State.ydi_crcCounted]
    rfl
  have within : ¬ n + 1 ≥ (s.crcCounted b k n).dev.ydi.budget := by rw [budget]; omega
  rw [State.ydiPacket, State.countLanes_none]
  dsimp only
  rw [if_neg Bool.false_ne_true, attempts]
  exact if_neg within

theorem State.ydiPacket_exhausted (used : max 1 s.dev.ydi.retryBudget.toNat ≤ n + 1) : ∃ die d, s.ydiPacket b false 0 k =
    ((((s.resendExhausted b k n).assignFault Codes.DDI_RETRY_EXHAUSTED (some k.1) die none).bothEvent k.1 6 Codes.DDI_RETRY_EXHAUSTED d).latch
      k.1 k.2.1 k.2.2 Codes.DDI_RETRY_EXHAUSTED 0 s.dev.faults.next) := by
  have budget : (s.crcCounted b k n).dev.ydi.budget = max 1 s.dev.ydi.retryBudget.toNat := by
    rw [State.ydi_crcCounted]
    rfl
  have spent : n + 1 ≥ (s.crcCounted b k n).dev.ydi.budget := by rw [budget]; exact used
  let faulted := (s.resendExhausted b k n).assignFault Codes.DDI_RETRY_EXHAUSTED (some k.1) (if 16 ≤ b ∧ b < 32 then 1 else 0) none
  have counter : (s.resendExhausted b k n).dev.faults = s.dev.faults := by
    have only := (s.onBundle b fun u => { u with crcFail := satAdd u.crcFail 1 }).retryBegun_regionsOnly k n
    exact congrArg (·.dev.faults) only
  have id : faulted.lastFault = s.dev.faults.next := (State.lastFault_assign ..).trans (congrArg (·.next) counter)
  refine ⟨if 16 ≤ b ∧ b < 32 then 1 else 0, ydiDetail b none (faulted.bundle b).width.toNat 0, ?_⟩
  rw [State.ydiPacket, State.countLanes_none]
  dsimp only
  rw [if_neg Bool.false_ne_true, attempts, ← id]
  exact if_pos spent

end Resend

theorem State.retryEnd_slot {s : State} {k : OpKey} {sl : Slot} (found : s.slotOf k.1 k.2.1 k.2.2 = some sl) :
    ∃ y, (s.retryEnd k).slotOf k.1 k.2.1 k.2.2 = some y ∧ y.op.state = sl.op.state :=
  ⟨_, State.slotOf_onOp found fun _ => ⟨rfl, rfl⟩, rfl⟩

section Packet
variable {s : State} {b : BundleId} {o : OpRef} {fails : BitVec 36} {l : Nat} (online : s.bundleOnline b.val = true)
  (locked : s.bundleLocked b.val = true)
include online locked

theorem completes_ydiPacket {ok : Bool} {fails : BitVec 36} {t : State} {P : State → Prop} (step : s.ydiPacket b.val ok fails (opKey o) = t)
    (given : P (s.flashEffect fun _ => t)) : Completes (.ydiPacketReceive b ok fails o) s P := by
  subst step
  refine ⟨_, rfl, ?_⟩
  rw [State.flashEffect, s.whenP_pos _ (by rw [online, locked]; rfl)]
  exact given

theorem ydiPacket_whole (fresh : attemptsOf (s.bundle b.val).retrying (o.region.val, o.queue.val, o.seq) = 0) :
    Completes (.ydiPacketReceive b true 0 o) s fun u => u = s := by
  refine completes_ydiPacket online locked ?_ rfl
  rw [State.ydiPacket, State.countLanes_none]
  dsimp only
  rw [if_pos rfl]
  exact if_pos fresh

theorem ydiPacket_laneFails (fresh : attemptsOf (s.bundle b.val).retrying (o.region.val, o.queue.val, o.seq) = 0)
    (one : fails = 1#36 <<< l) (data : l ∈ (s.bundle b.val).dataLanes) : Completes (.ydiPacketReceive b true fails o) s fun u =>
        Tab.get 0 (u.bundle b.val).laneErr l = Tab.get 0 (s.bundle b.val).laneErr l + 1 ∧
        (Tab.get 0 (s.bundle b.val).laneErr l + 1 < max 1 s.dev.ydi.errThreshold.toNat →
          (u.bundle b.val).retired = (s.bundle b.val).retired ∧ u.flash = s.flash) ∧
        (max 1 s.dev.ydi.errThreshold.toNat ≤ Tab.get 0 (s.bundle b.val).laneErr l + 1 → (s.bundle b.val).retired.getLsbD l = false →
          (u.bundle b.val).retired = (s.bundle b.val).retired ||| (1#36 <<< l) ∧ (u.bundle b.val).pendingLanes = (s.bundle b.val).pendingLanes ++ [l] ∧
          u.flash = { s.flash with unwritten := s.flash.unwritten ++ [(b.val, l)] }) ∧
        (u.bundle b.val).width = (s.bundle b.val).width ∧ u.mem = s.mem ∧ u.fab = s.fab := by
  subst one
  have counted : (s.laneCounted b.val l).bundle b.val = _ := State.bundle_laneCounted
  have err : Tab.get 0 ((s.laneCounted b.val l).bundle b.val).laneErr l = Tab.get 0 (s.bundle b.val).laneErr l + 1 := by
    rw [counted]
    exact Tab.get_modify_same ..
  have retrying : ((s.laneCounted b.val l).bundle b.val).retrying = (s.bundle b.val).retrying := by rw [counted]
  have whole (t : State) (lanes : s.countLane b.val l = t) (same : (t.bundle b.val).retrying = (s.bundle b.val).retrying) :
      s.ydiPacket b.val true (1#36 <<< l) (opKey o) = t := by
    rw [State.ydiPacket, State.countLanes_one data, lanes]
    dsimp only
    rw [if_pos rfl]
    exact if_pos ((congrArg (attemptsOf · _) same).trans fresh)
  rcases Nat.lt_or_ge (Tab.get 0 (s.bundle b.val).laneErr l + 1) (max 1 s.dev.ydi.errThreshold.toNat) with below | reached
  · refine completes_ydiPacket online locked (whole _ (State.countLane_below below) retrying) ⟨err,
      fun _ => ⟨(congrArg Bundle.retired counted :), rfl⟩, fun above => absurd above (Nat.not_le.mpr below), (congrArg Bundle.width counted :), rfl, rfl⟩
  · by_cases retired : (s.bundle b.val).retired.getLsbD l = false
    · have lanes := (State.countLane_reached reached).trans
        (State.retireLane_data (s := s.laneCounted b.val l) (by rw [counted]; exact data) (by rw [counted]; exact retired))
      have bundle : ((s.laneCounted b.val l).laneRetired b.val l).bundle b.val =
          { (s.laneCounted b.val l).bundle b.val with
            retired := ((s.laneCounted b.val l).bundle b.val).retired ||| (1#36 <<< l)
            retiredRun := satAdd ((s.laneCounted b.val l).bundle b.val).retiredRun 1
            pendingLanes := ((s.laneCounted b.val l).bundle b.val).pendingLanes ++ [l] } := State.bundle_onBundle _ b.val _
      refine completes_ydiPacket online locked (whole _ lanes ((congrArg Bundle.retrying bundle :).trans retrying))
        ⟨(congrArg (fun u : Bundle => Tab.get 0 u.laneErr l) bundle :).trans err, fun below => absurd below (Nat.not_lt.mpr reached),
          fun _ _ => ⟨?_, ?_, rfl⟩, ?_, rfl, rfl⟩
      · exact (congrArg Bundle.retired bundle :).trans (by rw [counted])
      · exact (congrArg Bundle.pendingLanes bundle :).trans (by rw [counted])
      · exact (congrArg Bundle.width bundle :).trans (by rw [counted])
    · have lanes := (State.countLane_reached reached).trans
        (State.retireLane_again (s := s.laneCounted b.val l) (by rw [counted]; exact eq_true_of_ne_false retired))
      exact completes_ydiPacket online locked (whole _ lanes retrying) ⟨err, fun below => absurd below (Nat.not_lt.mpr reached),
        fun _ working => absurd working retired, (congrArg Bundle.width counted :), rfl, rfl⟩

section Crc
variable {sl : Slot} (found : s.slotAt o = some sl) (runs : sl.op.state = .running)
include found runs

theorem ydiPacket_resends (left : attemptsOf (s.bundle b.val).retrying (o.region.val, o.queue.val, o.seq) + 1 < max 1 s.dev.ydi.retryBudget.toNat) :
    Completes (.ydiPacketReceive b false 0 o) s fun u =>
          (u.bundle b.val).crcFail = satAdd (s.bundle b.val).crcFail 1 ∧ (u.bundle b.val).deferrals = satAdd (s.bundle b.val).deferrals 1 ∧
          attemptsOf (u.bundle b.val).retrying (o.region.val, o.queue.val, o.seq) =
            attemptsOf (s.bundle b.val).retrying (o.region.val, o.queue.val, o.seq) + 1 ∧
          (∃ y, u.slotAt o = some y ∧ y.op.state = .running ∧ y.rec_.disturbance = satAdd sl.rec_.disturbance 1) ∧ u.mem = s.mem ∧ s.KeepsStore u := by
  obtain ⟨n, attempts⟩ : ∃ n, attemptsOf (s.bundle b.val).retrying (opKey o) = n := ⟨_, rfl⟩
  have before : attemptsOf (s.bundle b.val).retrying (o.region.val, o.queue.val, o.seq) = n := attempts
  rw [before] at left ⊢
  have counted := State.bundle_crcCounted (s := s) (b := b.val) (k := opKey o) (n := n)
  obtain ⟨z, disturbed, state, deferrals⟩ := State.resendDue_slot (b := b.val) (k := opKey o) (n := n) found
  have bundle : (s.resendDue b.val (opKey o) n).bundle b.val = _ := (s.crcCounted b.val (opKey o) n).bundle_onBundle b.val _
  have frame := s.crcCounted_frame b.val (opKey o) n
  refine completes_ydiPacket online locked (State.ydiPacket_again attempts left) ⟨?_, ?_, ?_,
    ⟨z, disturbed, state.trans runs, deferrals⟩, congrArg (·.mem) frame, rfl, rfl, congrArg (·.flash) frame⟩
  · exact (congrArg Bundle.crcFail bundle :).trans (by rw [counted])
  · exact (congrArg Bundle.deferrals bundle :).trans (by rw [counted])
  · exact (congrArg (fun u : Bundle => attemptsOf u.retrying (opKey o)) bundle :).trans (attemptsOf_cons _ _ _)

theorem ydiPacket_ends (used : max 1 s.dev.ydi.retryBudget.toNat ≤ attemptsOf (s.bundle b.val).retrying (o.region.val, o.queue.val, o.seq) + 1) :
    Completes (.ydiPacketReceive b false 0 o) s fun u =>
          EndLatched u (o.region.val, o.queue.val, o.seq) Codes.DDI_RETRY_EXHAUSTED s.dev.faults.next ∧
          attemptsOf (u.bundle b.val).retrying (o.region.val, o.queue.val, o.seq) = 0 ∧ (EventsOutside s o.region.val → u.mem = s.mem) ∧ s.KeepsStore u := by
  obtain ⟨n, attempts⟩ : ∃ n, attemptsOf (s.bundle b.val).retrying (opKey o) = n := ⟨_, rfl⟩
  have before : attemptsOf (s.bundle b.val).retrying (o.region.val, o.queue.val, o.seq) = n := attempts
  rw [before] at used
  obtain ⟨die, detail, step⟩ := State.ydiPacket_exhausted attempts used
  obtain ⟨z, slot, state⟩ := State.resendExhausted_slot (b := b.val) (k := opKey o) (n := n) found
  have bundle := State.bundle_resendExhausted (s := s) (b := b.val) (k := opKey o) (n := n)
  have frame := s.resendExhausted_frame b.val (opKey o) n
  have calm := s.resendExhausted_staysOutside b.val (opKey o) n
  obtain ⟨spent, same⟩ : ∃ t, s.resendExhausted b.val (opKey o) n = t := ⟨_, rfl⟩
  rw [same] at step slot bundle frame calm
  obtain ⟨told, faulting⟩ : ∃ t, (spent.assignFault Codes.DDI_RETRY_EXHAUSTED (some (opKey o).1) die none).bothEvent (opKey o).1 6
      Codes.DDI_RETRY_EXHAUSTED detail = t := ⟨_, rfl⟩
  have only : spent.EventOnly told := by
    rw [← faulting]
    exact (spent.assignFault_only _ _ _ _).trans (State.eventAll_only _ _ _ _ _)
  have slots : spent.KeepsSlots told := by
    rw [← faulting]
    exact (spent.assignFault_keepsSlots _ _ _ _).trans (State.eventAll_keepsSlots _ _ _ _ _)
  have quiet : spent.StaysOutside told (opKey o).1 := by
    rw [← faulting]
    exact (spent.assignFault_staysOutside _ _ _ _ _).trans (State.eventAll_staysOutside _ _ _ _ _)
  rw [faulting] at step
  have still : z.op.state ≠ .latched := by rw [state, runs]; decide
  refine completes_ydiPacket online locked step ⟨State.latch_ends ((slots.slotOf _ _ _).trans slot) still _ _ _, ?_,
    fun outside => ((calm.trans quiet) outside).2, rfl, rfl, ?_⟩
  · have ydi : told.dev.ydi = spent.dev.ydi := (congrArg (·.dev.ydi) only :)
    have bundles : told.bundle b.val = spent.bundle b.val := by rw [State.bundle, ydi, State.bundle]
    exact (congrArg (fun u : Bundle => attemptsOf u.retrying (opKey o)) (bundles.trans bundle) :).trans (attemptsOf_filter _ _)
  · exact (congrArg (·.flash) only :).trans (congrArg (·.flash) frame)

end Crc

end Packet

theorem bundlesCheckTheirPackets : BundlesCheckTheirPackets := by
  intro s b l fails o sl online locked
  exact ⟨ydiPacket_whole online locked, ydiPacket_laneFails online locked, fun found runs =>
    ⟨ydiPacket_resends online locked found runs, ydiPacket_ends online locked found runs⟩⟩

/-! ## A store that crosses -/

/-- Neither the network's record nor the bundles' has changed. -/
structure State.SameNet (s t : State) : Prop where
  noc : t.dev.noc = s.dev.noc
  ydi : t.dev.ydi = s.dev.ydi

theorem State.SameNet.refl (s : State) : s.SameNet s := ⟨rfl, rfl⟩

theorem State.SameNet.trans {s t u : State} (h : s.SameNet t) (k : t.SameNet u) : s.SameNet u := ⟨k.noc.trans h.noc, k.ydi.trans h.ydi⟩

theorem State.SameNet.foldl {α : Type} {f : State → α → State} (step : ∀ (s : State) (a : α), s.SameNet (f s a)) (l : List α) (s : State) :
    s.SameNet (l.foldl f s) := List.foldlRecOn l f (.refl s) fun _ h a _ => h.trans (step _ a)

theorem State.SameNet.whenP {s : State} {c : Bool} {f : State → State} (h : s.SameNet (f s)) : s.SameNet (s.whenP c f) := by
  cases c
  · exact .refl s
  · exact h

theorem State.EventOnly.sameNet {s t : State} (only : s.EventOnly t) : s.SameNet t :=
  ⟨(congrArg (·.dev.noc) only :), (congrArg (·.dev.ydi) only :)⟩

theorem State.memFault_sameNet (s : State) (r a : Nat) : s.SameNet (s.memFault r a) :=
  ((s.memCount_only r a).trans (State.eventAll_only _ [r] _ _ _)).sameNet

theorem State.foldStore_sameNet (s : State) (key : OpKey) (va n v : Nat) (fails : Bool) : s.SameNet (s.foldStore key va n v fails) := ⟨rfl, rfl⟩

theorem State.rowOutputs_sameNet (s : State) (key : OpKey) (row : Row) (dst : List Nat) (res : RowResult) (m : Nat) :
    s.SameNet (s.rowOutputs key row dst res m).1 := by
  let written : State := { s with mem := (s.mem.writeCells (dst.zip ((res.out.take m).flatMap (leBytes row.outSize)))).1 }
  have writes : s.SameNet written := ⟨rfl, rfl⟩
  exact writes.trans (.foldl (fun s _ => s.foldStore_sameNet ..) _ written)

theorem State.abandonRow_sameNet (s : State) (k th : Nat) : s.SameNet (s.abandonRow k th) := by
  unfold State.abandonRow
  split
  case h_1 h _ =>
    refine State.SameNet.whenP ?_
    extract_lets x row cut
    have cutting : s.SameNet cut := by
      unfold cut
      split
      · split
        · exact .refl s
        · exact (s.rowOutputs_sameNet ..).trans ⟨rfl, rfl⟩
      · exact .refl s
    exact cutting.trans ⟨rfl, rfl⟩
  case h_2 => exact .refl s

theorem State.trapOf_sameNet (s : State) (key : OpKey) (k th : Nat) (code : Code) (fault : BitVec 16) :
    s.SameNet (s.trapOf key k th code fault) := by
  unfold State.trapOf
  split
  case h_1 sl _ =>
    extract_lets ts trapped
    have trapping : s.SameNet trapped := ⟨rfl, rfl⟩
    split
    · exact trapping.trans (.foldl (fun (s : State) (t : Nat × Nat) => s.abandonRow_sameNet t.1 t.2) _ _)
    · exact trapping
  case h_2 => exact .refl s

theorem State.threadWrite_sameNet (s : State) (r : Nat) (p : Packet) (v : Nat) {trapped : State → BitVec 16 → State}
    (traps : ∀ (s : State) (id : BitVec 16), s.SameNet (trapped s id)) : s.SameNet (s.threadWrite r p v trapped) := by
  unfold State.threadWrite
  extract_lets cells counted m written
  have writing : s.SameNet written := (s.countCorrected_only _).sameNet.trans ⟨rfl, rfl⟩
  split
  · exact (writing.trans (written.memFault_sameNet r _)).trans (traps _ _)
  · exact writing

theorem State.perform_sameNet (s : State) (r : Nat) {p : Packet} (store : p.kind = 1) (route : Option Nat) : s.SameNet (s.perform r p route) := by
  unfold State.perform
  extract_lets k th trapIf a key accepted
  have traps (s : State) (c : Code) (id : BitVec 16) : s.SameNet (trapIf s c id) := by
    unfold trapIf
    extract_lets folded recorded
    have folding : s.SameNet folded := by
      unfold folded
      rw [if_pos store]
      exact s.foldStore_sameNet ..
    have recording : s.SameNet recorded := by
      unfold recorded
      split
      · exact folding.trans ⟨rfl, rfl⟩
      · exact folding
    exact recording.trans (recorded.trapOf_sameNet ..)
  have accepting : s.SameNet accepted := by
    have only := s.accept_regionsOnly key (s.domainOf a)
    exact ⟨(congrArg (·.dev.noc) only :), (congrArg (·.dev.ydi) only :)⟩
  clear_value trapIf accepted
  split
  · exact accepting.trans (traps _ _ _)
  · split
    · exact accepting.trans (traps _ _ _)
    · exact accepting.trans (accepted.threadWrite_sameNet r p _ fun s id => traps s _ id)

/-! ## Crossings -/

theorem State.bundle_onBundle_other (s : State) {b c : Nat} (f : Bundle → Bundle) (other : c ≠ b) : (s.onBundle b f).bundle c = s.bundle c := by
  rw [State.bundle, State.onBundle_dev]
  exact Tab.get_modify_other _ _ _ other.symm

theorem State.bundle_congr {s t : State} (same : t.dev.ydi = s.dev.ydi) (c : Nat) : t.bundle c = s.bundle c := by
  rw [State.bundle, same, State.bundle]

/-- Whether a packet of an operation that waits for a bundle crosses it now. -/
def State.crossable (s : State) (b : Nat) (k : OpKey) (d : Deferral) : Bool :=
  d.bundle = b && (d.key / 65536, d.packet.queue, d.packet.seq) = k && d.slot = s.slot && d.since < s.frame && !s.blocked b d.die d.slot s.frame true

/-- What an operation's packet that a bundle blocked does in its slot. -/
def State.crossing (s : State) (b : Nat) (k : OpKey) : State :=
  match s.dev.noc.deferred.find? (s.crossable b k) with
  | some d => s.crossDeferred d
  | none => s.whenP (s.crossesNow k b) fun s => s.deferrals k b 1

theorem State.deferrals_slot {s : State} {k : OpKey} {sl : Slot} (found : s.slotOf k.1 k.2.1 k.2.2 = some sl) (b n : Nat) :
    (s.deferrals k b n).slotOf k.1 k.2.1 k.2.2 = some { sl with rec_ := { sl.rec_ with disturbance := satAdd sl.rec_.disturbance n } } :=
  State.slotOf_onRec (s := s.onBundle b _) found _

section Crossing
variable {s : State} {b : BundleId} {o : OpRef} {x : Deferral}

theorem ydiDeferredCross_resent (resent : attemptsOf (s.bundle b.val).retrying (o.region.val, o.queue.val, o.seq) ≠ 0) :
    Completes (.ydiDeferredCross b o) s fun u => u = s := by
  have again : ¬ attemptsOf (s.bundle b.val).retrying (opKey o) = 0 := resent
  exact completes_of_effect rfl (s.whenP_neg _ (by rw [decide_eq_false again, Bool.and_false])) rfl

variable (on : s.fabricOn = true) (boundary : s.atBoundary = true) (present : s.bundlePresent b.val = true) (locked : s.bundleLocked b.val = true)
  (fresh : attemptsOf (s.bundle b.val).retrying (o.region.val, o.queue.val, o.seq) = 0)
include on boundary present locked fresh

theorem completes_crossing {t : State} {P : State → Prop} (step : s.crossing b.val (opKey o) = t) (given : P (s.effect fun _ => t)) :
    Completes (.ydiDeferredCross b o) s P := by
  have none_ : attemptsOf (s.bundle b.val).retrying (opKey o) = 0 := fresh
  refine completes_of_effect rfl ((s.whenP_pos _ ?_).trans step) given
  rw [on, boundary, present, locked, decide_eq_true none_]
  rfl

theorem ydiDeferredCross_counts (empty : s.dev.noc.deferred = []) (crosses : s.crossesNow (o.region.val, o.queue.val, o.seq) b.val = true) :
    Completes (.ydiDeferredCross b o) s fun u =>
        u.bundle b.val = { s.bundle b.val with deferrals := satAdd (s.bundle b.val).deferrals 1 } ∧ Disturbed s u (o.region.val, o.queue.val, o.seq) ∧
        (∀ c, c ≠ b.val → u.bundle c = s.bundle c) ∧ u.mem = s.mem ∧ s.KeepsStore u := by
  have step : s.crossing b.val (opKey o) = s.deferrals (opKey o) b.val 1 := by
    rw [State.crossing, empty]
    exact s.whenP_pos _ crosses
  refine completes_crossing on boundary present locked fresh step ⟨?_, fun sl found => ?_,
    fun c other => ?_, rfl, s.effect_keepsStore _⟩
  · exact s.bundle_onBundle b.val _
  · exact ⟨_, State.deferrals_slot (k := opKey o) found b.val 1, rfl, rfl⟩
  · exact s.bundle_onBundle_other _ other

theorem ydiDeferredCross_stores (one : s.dev.noc.deferred = [x]) (bundle : x.bundle = b.val)
    (name : (x.key / 65536, x.packet.queue, x.packet.seq) = (o.region.val, o.queue.val, o.seq)) (slot : x.slot = s.slot) (later : x.since < s.frame)
    (free : s.blocked b.val x.die x.slot s.frame true = false) (store : x.packet.kind = 1) : Completes (.ydiDeferredCross b o) s fun u =>
          u.dev.noc.deferred = [] ∧
          u.bundle b.val = { s.bundle b.val with
            deferrals := satAdd (s.bundle b.val).deferrals (max 1 (s.blockedFrames b.val x.die x.slot x.since true)) } ∧
          (∀ c, c ≠ b.val → u.bundle c = s.bundle c) ∧ s.KeepsStore u := by
  have waits : s.crossable b.val (opKey o) x = true := by
    have named : (x.key / 65536, x.packet.queue, x.packet.seq) = opKey o := name
    rw [State.crossable, decide_eq_true bundle, decide_eq_true named, decide_eq_true slot, decide_eq_true later, free]
    rfl
  have step : s.crossing b.val (opKey o) = s.crossDeferred x := by
    rw [State.crossing, one, List.find?_cons_of_pos waits]
  let taken := s.onNoc fun n => { n with deferred := n.deferred.erase x }
  let counted := taken.deferrals (x.key / 65536, x.packet.queue, x.packet.seq) x.bundle
    (max 1 (taken.blockedFrames x.bundle x.die x.slot x.since true))
  have launched : s.crossDeferred x = counted.perform (x.key / 65536) x.packet (some (x.key % 65536)) := by
    rw [State.crossDeferred]
    exact if_neg (by rw [store]; decide)
  have net := counted.perform_sameNet (x.key / 65536) store (some (x.key % 65536))
  rw [← launched] at net
  refine completes_crossing on boundary present locked fresh step ⟨?_, ?_,
    fun c other => ?_, s.effect_keepsStore _⟩
  · refine (congrArg Noc.deferred net.noc).trans ?_
    show s.dev.noc.deferred.erase x = []
    rw [one]
    simp
  · refine (State.bundle_congr net.ydi b.val).trans ?_
    rw [← bundle]
    exact taken.bundle_onBundle x.bundle _
  · refine (State.bundle_congr net.ydi c).trans ?_
    exact taken.bundle_onBundle_other _ (bundle ▸ other)

end Crossing

/-! ## Changes at a frame boundary -/

theorem State.ydiReport_only (s : State) (code : Code) (b : Nat) (lane : Option Nat) : s.EventOnly (s.ydiReport code b lane) :=
  (s.assignFault_only _ _ _ _).trans (State.pfEvent_only _ _ _ _)

theorem State.ydiReport_fab (s : State) (code : Code) (b : Nat) (lane : Option Nat) : (s.ydiReport code b lane).fab = s.fab := by
  rw [State.ydiReport, State.pfEvent_fab]
  rfl

theorem State.ydiReport_mem (s : State) (code : Code) (b : Nat) (lane : Option Nat) : (s.ydiReport code b lane).mem = s.mem := by
  rw [State.ydiReport, State.pfEvent_mem, State.assignFault_mem]

theorem State.latch_sameNet (s : State) (r q : Nat) (seq : Word) (c : Code) (result : Word) (id : BitVec 16) :
    s.SameNet (s.latch r q seq c result id) := ⟨rfl, rfl⟩

theorem State.loseDie_ydi (s : State) (m b : Nat) : (s.loseDie m b).dev.ydi = s.dev.ydi := by
  unfold State.loseDie
  extract_lets faulted id told lost
  have telling : s.SameNet told := ((s.assignFault_only _ _ _ _).trans (State.eventAll_only _ _ _ _ _)).sameNet
  have losing : s.SameNet lost := telling.trans ⟨rfl, rfl⟩
  exact (losing.trans (.foldl (fun (s : State) (k : OpKey) => s.latch_sameNet k.1 k.2.1 k.2.2 Codes.DDI_DIE_LOST 0 id) _ lost)).ydi

theorem State.losePath_ydi (s : State) (b : Nat) : (s.losePath b).dev.ydi = s.dev.ydi := by
  unfold State.losePath
  extract_lets faulted id told
  have telling : s.SameNet told := ((s.assignFault_only _ _ _ _).trans (State.eventAll_only _ _ _ _ _)).sameNet
  have ending : (told.endAll Codes.DDI_PATH_LOST id).dev.ydi = told.dev.ydi := (congrArg (·.dev.ydi) (told.endAll_ending _ _) :)
  exact ending.trans telling.ydi

theorem State.afterOffline_ydi (s : State) (b : Nat) : (s.afterOffline b).dev.ydi = s.dev.ydi := by
  unfold State.afterOffline
  split
  · split
    · split
      · rfl
      · exact s.loseDie_ydi _ b
    · exact s.losePath_ydi b
  · rfl

/-- The width that a bundle takes at a frame boundary. -/
def Bundle.nextWidth (u : Bundle) : Nat := if u.sidebandPending || u.sideband then 0 else min u.width.toNat (widthCode u.working.length)

/-- A bundle that has taken what waited on it. -/
def State.bundleChanged (s : State) (b : Nat) : State := s.onBundle b fun v => { v with
  width := BitVec.ofNat 2 (s.bundle b).nextWidth, changeFrame := some s.frame, pendingLanes := [], sidebandPending := false
  sideband := v.sideband || v.sidebandPending }

section Change
variable (s : State) (b : Nat)

theorem State.bundle_bundleChanged : (s.bundleChanged b).bundle b = { s.bundle b with
    width := BitVec.ofNat 2 (s.bundle b).nextWidth, changeFrame := some s.frame, pendingLanes := [], sidebandPending := false
    sideband := (s.bundle b).sideband || (s.bundle b).sidebandPending } := s.bundle_onBundle b _

theorem State.applyBundleChange_ydi : (s.applyBundleChange b).dev.ydi = (s.bundleChanged b).dev.ydi := by
  unfold State.applyBundleChange
  extract_lets u w changed left spared reported lane degraded
  have reporting : (s.bundleChanged b).SameNet reported := .foldl (fun s l => (s.ydiReport_only _ b (some l)).sameNet) spared changed
  have degrading : (s.bundleChanged b).SameNet degraded := reporting.trans (reported.ydiReport_only _ b _).sameNet
  clear_value reported degraded
  split
  · split
    · exact (State.afterOffline_ydi _ b).trans degrading.ydi
    · exact degrading.ydi
  · exact reporting.ydi

theorem State.applyBundleChange_on (on : (s.bundle b).nextWidth ≠ 0) : (s.applyBundleChange b).fab = s.fab ∧ (s.applyBundleChange b).mem = s.mem := by
  unfold State.applyBundleChange
  extract_lets u w changed left spared reported lane degraded
  have reporting : reported.fab = s.fab ∧ reported.mem = s.mem :=
    List.foldlRecOn (motive := fun t : State => t.fab = s.fab ∧ t.mem = s.mem) spared _ ⟨rfl, rfl⟩ fun t h l _ =>
      ⟨(t.ydiReport_fab _ b _).trans h.1, (t.ydiReport_mem _ b _).trans h.2⟩
  have degrading : degraded.fab = s.fab ∧ degraded.mem = s.mem :=
    ⟨(reported.ydiReport_fab _ b _).trans reporting.1, (reported.ydiReport_mem _ b _).trans reporting.2⟩
  have wide : w ≠ 0 := on
  clear_value reported degraded
  rw [if_neg wide]
  split
  · exact degrading
  · exact reporting

end Change

section Boundary
variable {s : State} {b : BundleId} {w l n : Nat} {v : Word} {t : List (Nat × Nat)}

theorem completes_bundleChange (frame : s.atFrame = true) (online : s.bundleOnline b.val = true)
    (waits : (!(s.bundle b.val).pendingLanes.isEmpty || (s.bundle b.val).sidebandPending) = true) {P : State → Prop}
    (given : P (s.effect fun s => s.applyBundleChange b.val)) : Completes (.bundleWidthChange b) s P := by
  refine completes_of_effect rfl (s.whenP_pos _ ?_) given
  rw [frame, online, waits]
  rfl

theorem bundleWidthChange_narrows (frame : s.atFrame = true) (online : s.bundleOnline b.val = true) (waits : (s.bundle b.val).pendingLanes ≠ [])
    (paired : (s.bundle b.val).sidebandPending = false) (kept : (s.bundle b.val).sideband = false)
    (width : w = min (s.bundle b.val).width.toNat (widthCode (s.bundle b.val).working.length)) : Completes (.bundleWidthChange b) s fun u =>
        (u.bundle b.val).width = BitVec.ofNat 2 w ∧ (u.bundle b.val).changeFrame = some s.frame ∧ (u.bundle b.val).pendingLanes = [] ∧ (u.bundle b.val).retired = (s.bundle b.val).retired ∧
        (∀ c, c ≠ b.val → u.bundle c = s.bundle c) ∧ (w ≠ 0 → u.fab = s.fab ∧ u.mem = s.mem) ∧ s.KeepsStore u := by
  have next : (s.bundle b.val).nextWidth = w := by rw [Bundle.nextWidth, paired, kept, width]; rfl
  have bundle := (State.bundle_congr (s.applyBundleChange_ydi b.val) b.val).trans (s.bundle_bundleChanged b.val)
  rw [next] at bundle
  refine completes_bundleChange frame online (by simp [waits]) ⟨(congrArg Bundle.width bundle :), (congrArg Bundle.changeFrame bundle :),
    (congrArg Bundle.pendingLanes bundle :), (congrArg Bundle.retired bundle :), fun c other => ?_,
    fun wide => s.applyBundleChange_on b.val (next ▸ wide), s.effect_keepsStore _⟩
  exact (State.bundle_congr (s.applyBundleChange_ydi b.val) c).trans (s.bundle_onBundle_other _ other)

theorem bundleWidthChange_offline (frame : s.atFrame = true) (online : s.bundleOnline b.val = true) (failed : (s.bundle b.val).sidebandPending = true) :
    Completes (.bundleWidthChange b) s fun u => (u.bundle b.val).width = 0 ∧ (u.bundle b.val).sideband = true ∧ s.KeepsStore u := by
  have next : (s.bundle b.val).nextWidth = 0 := by rw [Bundle.nextWidth, failed]; rfl
  have bundle := (State.bundle_congr (s.applyBundleChange_ydi b.val) b.val).trans (s.bundle_bundleChanged b.val)
  rw [next, failed, Bool.or_true] at bundle
  exact completes_bundleChange frame online (by rw [failed, Bool.or_true]) ⟨(congrArg Bundle.width bundle :), (congrArg Bundle.sideband bundle :),
    s.effect_keepsStore _⟩

theorem bundleSidebandFail_waits (online : s.bundleOnline b.val = true) : Completes (.bundleSidebandFail b) s fun u =>
      u.bundle b.val = { s.bundle b.val with sidebandPending := true } ∧ u = { s with dev := { s.dev with ydi := { s.dev.ydi with bundles := u.dev.ydi.bundles } } } :=
  completes_of_effect rfl (s.whenP_pos _ online) ⟨s.bundle_onBundle b.val _, rfl⟩

theorem laneRecordWrite_records (slot : s.bgFree 0 12 s.slot = true) (oldest : s.flash.unwritten = (n, l) :: t) : Completes .laneRecordWrite s fun u =>
      u.flash.unwritten = t ∧ Tab.get 0 u.flash.retired n = Tab.get 0 s.flash.retired n ||| (1#36 <<< l) ∧
      (∀ c, c ≠ n → Tab.get 0 u.flash.retired c = Tab.get 0 s.flash.retired c) ∧
      u = { s with flash := { s.flash with unwritten := t, retired := u.flash.retired }, dev := (s.bgServed 0 12 .wearLevelling).dev } := by
  let recorded : State := { s.bgServed 0 12 .wearLevelling with
    flash := { s.flash with unwritten := t, retired := Tab.modify 0 s.flash.retired n fun x => x ||| (1#36 <<< l) } }
  have others (c : Nat) (other : c ≠ n) : Tab.get 0 recorded.flash.retired c = Tab.get 0 s.flash.retired c :=
    Tab.get_modify_other 0 s.flash.retired (fun x => x ||| (1#36 <<< l)) other.symm
  refine ⟨s.flashEffect fun _ => recorded, congrArg Host.Outcome.next (congrArg (fun t => s.flashEffect fun _ => t) ((s.whenP_pos _ slot).trans ?_)), rfl,
    Tab.get_modify_same 0 s.flash.retired n fun x => x ||| (1#36 <<< l), others, rfl⟩
  rw [oldest]

theorem get_laneErr_cleared (l : Tab Bundle) (k : Nat) :
    Tab.get ({} : Bundle) (l.map fun e => (e.1, { e.2 with laneErr := [] })) k = { Tab.get ({} : Bundle) l k with laneErr := [] } := by
  induction l with
  | nil => rfl
  | cons e l ih =>
    simp only [List.map_cons, Tab.get, ih]
    split <;> rfl

theorem ydiErrorWindow_begins (frame : s.atFrame = true) (window : s.frame % 2 ^ s.dev.ydi.windowLog2.toNat = 0) (waits : s.dev.ydi.cfgNext = some v) :
    Completes .ydiErrorWindow s fun u =>
      (∀ c, (u.bundle c) = { s.bundle c with laneErr := [] }) ∧ u.dev.ydi.errThreshold = v.extractLsb' 0 8 ∧
      u.dev.ydi.windowLog2 = v.extractLsb' 8 4 ∧ u.dev.ydi.retryBudget = v.extractLsb' 12 4 ∧ u.dev.ydi.cfgNext = none ∧
      u = { s with dev := { s.dev with ydi := u.dev.ydi } } := by
  let begun := s.onYdi fun y =>
    { y with bundles := y.bundles.map fun e => (e.1, { e.2 with laneErr := [] }), errThreshold := v.extractLsb' 0 8, windowLog2 := v.extractLsb' 8 4
             retryBudget := v.extractLsb' 12 4, cfgNext := none }
  refine completes_of_effect (t := begun) rfl ((s.whenP_pos _ (by simp [frame, window])).trans ?_) ⟨get_laneErr_cleared _, rfl, rfl, rfl, rfl, rfl⟩
  simp only [State.onYdi, State.onDev, waits, begun]

end Boundary

theorem bundlesChangeAtBoundaries : BundlesChangeAtBoundaries := by
  intro s b o v w l n t x
  exact ⟨ydiDeferredCross_resent, fun on boundary present locked fresh => ⟨ydiDeferredCross_counts on boundary present locked fresh,
    ydiDeferredCross_stores on boundary present locked fresh⟩, bundleSidebandFail_waits, bundleWidthChange_narrows, bundleWidthChange_offline,
    laneRecordWrite_records, fun reach => completes_of_effect rfl (s.whenP_pos _ reach) rfl, ydiErrorWindow_begins⟩

end Sys2Proof.Machine
end

section
/-!
CERTIFICATE. Die-to-die bundles check packets, retry, retire lanes and change at boundaries.
-/
namespace Sys2Proof.Machine

/-- Settles O43, by its two parts: the packets, and the changes. -/
theorem bundlesCarryAndChange : Obligations.BundlesCarryAndChange := ⟨bundlesCheckTheirPackets, bundlesChangeAtBoundaries⟩

end Sys2Proof.Machine
end

section
/-!
SUPPORT. A dispatch that gives the operation's slot the run of its unit.
-/
namespace Sys2Proof.Machine

theorem State.EventOnly.foldl {α : Type} {f : State → α → State} (step : ∀ (s : State) (a : α), s.EventOnly (f s a)) (l : List α) (s : State) :
    s.EventOnly (l.foldl f s) := List.foldlRecOn l f (.refl s) fun _ h a _ => h.trans (step _ a)

theorem State.flushDues_only (s : State) (r : Nat) : s.EventOnly (s.flushDues r) :=
  (s.onSched_only r _).trans (.foldl (fun s d => s.putDue_only r d) _ _)

theorem State.EventOnly.site {s t : State} (h : s.EventOnly t) (k : Nat) : t.site k = s.site k := by
  rw [h]
  rfl

theorem State.dispatchMark_site (s : State) (r : Nat) (sl : Slot) (doms : List Nat) (k : Nat) : (s.dispatchMark r sl doms).site k = s.site k := by
  unfold State.dispatchMark State.trace
  extract_lets
  split <;> rfl

/-- The mark of a dispatch leaves the run of the operation's unit. -/
theorem State.dispatchMark_keeps_run (s : State) (r : Nat) (sl : Slot) (doms : List Nat) :
    s.Keeps (RegionSched.seen fun x => (x.name, x.run)) (s.dispatchMark r sl doms) := by
  unfold State.dispatchMark
  extract_lets q seq captured marked
  have marking : captured.Keeps (RegionSched.seen fun x => (x.name, x.run)) marked := captured.onSlot_keeps r q seq fun x => by
    simp only [Slot.name]
    split <;> rfl
  exact ((s.onSlot_keeps r q seq).trans marking).trans (marked.trace_keeps ..)

section Run
variable {s t : State} {o : OpRef} {sl : Slot} {doms : List Nat} {f : UnitRun → UnitRun} (found : s.slotAt o = some sl)
  (same : t.fab.regions = (s.dispatchMark o.region.val sl doms).fab.regions)
include found same

/-- An operation that dispatches and takes the run of its unit runs with it, with what was owed written to the rings. -/
theorem runsNow_of_onRun :
    RunsNow s (s.effect fun _ => (t.onRun o.region.val o.queue.val o.seq f).flushDues o.region.val) o ∧
    ∃ y, (s.effect fun _ => (t.onRun o.region.val o.queue.val o.seq f).flushDues o.region.val).slotAt o = some y ∧ y.run = f sl.run := by
  obtain ⟨x, marked, runs⟩ := State.dispatchMark_runs found doms
  have run := (s.dispatchMark_keeps_run o.region.val sl doms).slotOf_map (q := o.queue.val) (seq := o.seq)
    (fun n => n.1.1 = o.queue.val && n.1.2 = o.seq) (fun _ => rfl) o.region.val
  rw [marked, show s.slotOf _ _ _ = _ from found, Option.map_some, Option.map_some, Option.some_inj, Prod.mk.injEq] at run
  have placed : t.slotOf o.region.val o.queue.val o.seq = some x := ((State.KeepsSlots.of_regions same).slotOf _ _ _).trans marked
  have running := State.slotOf_onSlot t o.region.val o.queue.val o.seq (f := fun sl => { sl with run := f sl.run }) fun _ => rfl
  rw [placed, Option.map_some] at running
  have flushed := (State.flushDues_keeps (s := t.onRun o.region.val o.queue.val o.seq f) (u := id) o.region.val).slotOf_map
    (q := o.queue.val) (seq := o.seq) (fun x => x.is o.queue.val o.seq) (fun _ => rfl) o.region.val
  rw [Option.map_id, id, id, State.onRun, running] at flushed
  refine ⟨⟨_, flushed, runs.running, runs.dispatched, fun z here => ?_, s.effect_keepsStore _⟩, _, flushed, congrArg f run.2⟩
  obtain rfl := Option.some.inj (found.symm.trans here)
  exact ⟨runs.words, runs.first⟩

end Run

end Sys2Proof.Machine
end

section
/-!
CERTIFICATE. A MATRIX is refused by its checks or takes its site's array.
-/
namespace Sys2Proof.Machine

section Dispatch
variable {s : State} {o : OpRef} {sl : Slot} (may : Dispatches s o .matrix sl) (fresh : sl.run.matrix = none)
include fresh

/-- A MATRIX without starting values, where no word is damaged, takes its site's array with every bank at 0. -/
theorem State.dispatchMatrix_runs (passed : s.matrixRefused o.region.val sl.op = none) (open_ : s.matrixBarred sl.op = none)
    (plain : sl.op.accIn = false) (clean : s.mem.marks = []) : ∃ m, m.group = 0 ∧ m.repeats = 0 ∧ m.accDone = false ∧
      m.banks = List.replicate sl.op.outputs (some 0) ∧ s.dispatchMatrix o.region.val sl = s.matrixRun o.region.val sl m := by
  have start (key : OpKey) : s.matStart key sl.op 0 = (s, List.replicate sl.op.outputs (some 0)) := by simp [State.matStart, plain]
  unfold State.dispatchMatrix
  simp only [fresh, passed, open_, State.badUnits_clean clean, start]
  exact ⟨_, rfl, rfl, rfl, rfl, rfl⟩

include may

theorem matrix_refused {e : Code × BitVec 16} (refused : s.matrixRefused o.region.val sl.op = some e) :
    Completes (.matrix o) s fun u => EndedWith s u o e.1 e.2 := by
  have step : s.dispatchMatrix o.region.val sl = s.finishNow o.region.val sl e.1 e.2 := by
    unfold State.dispatchMatrix
    simp only [fresh, refused]
  exact completes_dispatch rfl may step (endedWith_finishNow rfl (Dispatches.found may) _ _)

theorem matrix_takesArray (passed : s.matrixRefused o.region.val sl.op = none) (open_ : s.matrixBarred sl.op = none)
    (plain : sl.op.accIn = false) (clean : s.mem.marks = []) : Completes (.matrix o) s fun u =>
      RunsNow s u o ∧ (u.site sl.op.matSite).mat.array = some (o.region.val, sl.op.queue, sl.op.seq) ∧ MemoryStays s u o.region.val ∧
      (∃ m, MatrixBecomes u (o.region.val, sl.op.queue, sl.op.seq) m ∧ m.group = 0 ∧ m.repeats = 0 ∧ m.accDone = false ∧
        m.banks = List.replicate sl.op.outputs (some 0)) ∧
      ∀ k, k ≠ sl.op.matSite → u.site k = s.site k := by
  obtain ⟨m, group, repeats, done, banks, step⟩ := State.dispatchMatrix_runs fresh passed open_ plain clean
  obtain ⟨queue, seq⟩ := State.name_of_slotOf (Dispatches.found may)
  unfold State.matrixRun at step
  rw [queue, seq] at step
  extract_lets k marked taken at step
  let ran := taken.onRun o.region.val o.queue.val o.seq fun u => { u with matrix := some m }
  have marking : s.Keeps RegionSched.dues taken := (s.dispatchMark_keeps_dues ..).trans (.of_fab rfl rfl)
  have dues : s.Keeps RegionSched.dues ran := marking.trans (taken.onSlot_keeps_dues ..)
  have mem : ran.mem = s.mem := s.dispatchMark_mem ..
  have site (j : Nat) : (s.effect fun _ => ran.flushDues o.region.val).site j = taken.site j := (ran.flushDues_only o.region.val).site j
  obtain ⟨runs, y, here, run⟩ := runsNow_of_onRun (f := fun u => { u with matrix := some m }) (Dispatches.found may) (t := taken) rfl
  refine completes_dispatch rfl may step ⟨runs, ?_, memoryStays_of_keeps dues mem, ⟨m, ⟨y, ?_, congrArg UnitRun.matrix run⟩, group, repeats, done, banks⟩,
    fun j other => ?_⟩
  · rw [site]
    simp only [taken, k, State.site_onSite, Slot.key]
  · rw [queue, seq]
    exact here
  · rw [site]
    exact (State.site_onSite_other _ _ other.symm).trans (State.dispatchMark_site ..)

end Dispatch

/-- Settles O38: one lemma for a MATRIX that a check ends, and one for a MATRIX that takes its array. -/
theorem matricesTakeTheirArray : Obligations.MatricesTakeTheirArray := fun _ _ _ may fresh =>
  ⟨fun _ => matrix_refused may fresh, matrix_takesArray may fresh⟩

end Sys2Proof.Machine
end

section
/-!
SUPPORT. What a unit reads of bytes that can be reached, and how an operation ends that met no status.
-/
namespace Sys2Proof.Machine

theorem Reached.sub {s : State} {l m : List Nat} (reach : Reached s l) (inside : ∀ a ∈ m, a ∈ l) : Reached s m :=
  ⟨reach.1, fun a listed => reach.2 a (inside a listed)⟩

theorem Reached.open {s : State} {l : List Nat} (reach : Reached s l) (idle : ∀ a ∈ l, s.busyByte a = false) : s.Open l := fun a listed =>
  let ⟨lock, on⟩ := reach.2 a listed
  ⟨on, lock, idle a listed⟩

theorem State.AcceptOnly.reached {s t : State} (h : s.AcceptOnly t) {l : List Nat} (reach : Reached s l) : Reached t l := by
  refine ⟨by rw [h.mem, reach.1], fun a listed => ?_⟩
  obtain ⟨lock, on⟩ := reach.2 a listed
  have places := h.only.samePlaces
  exact ⟨(places.islandAt a).trans lock, by rw [places.domainOf, places.ivory, on]⟩

theorem Reached.reachFails {s : State} {l : List Nat} (reach : Reached s l) (k : OpKey) {a : Nat} (listed : a ∈ l) : s.reachFails k a = none :=
  let ⟨lock, on⟩ := reach.2 a listed
  State.reachFails_none k lock on

section Read
variable {s : State} {l : List Nat} (reach : Reached s l) (k : OpKey)
include reach

theorem State.meet_reached : s.AcceptOnly (s.meet k l) := by
  unfold State.meet
  extract_lets accepted
  have accepting : s.AcceptOnly accepted := List.foldlRecOn _ _ (.refl s) fun _ h _ _ => h.trans (State.accept_acceptOnly _ k _)
  have unmet : l.filterMap (accepted.reachFails k) = [] :=
    List.filterMap_eq_nil_iff.2 fun _ listed => Reached.reachFails (accepting.reached reach) k listed
  rw [unmet]
  exact accepting

/-- A read of bytes that can be reached delivers each of them, whatever keeps its site busy. -/
theorem State.unitRead_reached : s.unitRead k l = (s.meet k l, l.map fun a => some (s.mem.read s.free a)) := by
  have met := State.meet_reached reach k
  have still : (s.meet k l).mem.marks = [] := (met.reached reach).1
  have whole (a : Nat) : (s.meet k l).mem.bad [a] = none := by
    rw [Mem.bad, still]
    rfl
  rw [State.unitRead, State.badUnits_clean still, State.countCorrected_clean still]
  refine Prod.ext rfl (List.map_congr_left fun a listed => ?_)
  rw [Reached.reachFails (met.reached reach) k listed, whole, met.mem, met.free]
  rfl

end Read

/-- What a matrix unit reads of an area whose bytes can be reached. -/
theorem State.matRead_reached {s : State} (key : OpKey) {k base : Nat} {offs : List Nat} (reach : Reached s (offs.map (s.areaAddr k base))) :
    ∃ t, s.AcceptOnly t ∧ s.matRead key k base offs = (t, offs.map fun i => (s.mem.read s.free (s.areaAddr k base i)).toNat) := by
  refine ⟨_, State.meet_reached reach key, ?_⟩
  rw [State.matRead, State.unitRead_reached reach key]
  simp only [List.map_map]
  rfl

/-- An operation that has met no status ends with OK. -/
theorem State.latchEnd_unmet {s : State} {k : OpKey} {sl : Slot} (found : s.slotOf k.1 k.2.1 k.2.2 = some sl) (open_ : sl.op.state ≠ .latched)
    (unmet : sl.rec_.pendingStatus = 0) : EndLatched (s.latchEnd k Codes.OK 0) k Codes.OK 0 := by
  have noted : s.noted k = (Codes.OK, sl.rec_.pendingFault) := by
    rw [State.noted, found]
    exact congrArg (·, _) unmet
  have own (spin : Bool) : firstStatus spin (Codes.OK, 0) (Codes.OK, sl.rec_.pendingFault) = (Codes.OK, 0) := if_neg (Nat.lt_irrefl _)
  unfold State.latchEnd
  rw [noted]
  dsimp only
  rw [own]
  exact State.latch_ends found open_ _ _ _

end Sys2Proof.Machine
end

section
/-!
SUPPORT. The operation in a site's array or shadow set, and its banks on their way to the shadow set (13 R521-R523).
-/
namespace Sys2Proof.Machine

section Site
variable {s : State} {h : Option OpKey} {key : OpKey} {sl : Slot} {m : MatRun} (is : MatrixIn s h key sl m)
include is

theorem MatrixIn.matIn : s.matIn h = some (key, sl, m) := by
  obtain ⟨-, rfl, found, run, -⟩ := is
  simp [State.matIn, found, run]

theorem MatrixIn.slotOf_onMat (f : MatRun → MatRun) :
    (s.onMat key f).slotOf key.1 key.2.1 key.2.2 = some { sl with run := { sl.run with matrix := some (f m) } } := by
  obtain ⟨-, -, found, run, -⟩ := is
  have mapped := State.slotOf_onSlot s key.1 key.2.1 key.2.2 (f := fun sl => { sl with run := { sl.run with matrix := sl.run.matrix.map f } }) fun _ => rfl
  rw [found, Option.map_some, run, Option.map_some] at mapped
  exact mapped

theorem MatrixIn.onMat (f : MatRun → MatRun) : MatrixIn (s.onMat key f) h key { sl with run := { sl.run with matrix := some (f m) } } (f m) :=
  let ⟨on, held, _, _, running⟩ := is
  ⟨on, held, MatrixIn.slotOf_onMat is f, rfl, running⟩

theorem MatrixIn.becomes : MatrixBecomes s key m :=
  let ⟨_, _, found, run, _⟩ := is
  ⟨sl, found, run⟩

end Site

/-- Ended banks move where the shadow set is empty, and stay where it is not. -/
theorem State.toShadow_of_done {s : State} {k : Nat} {key : OpKey} {sl : Slot} {m : MatRun} (is : MatrixIn s (s.site k).mat.array key sl m)
    (done : m.accDone = true) : s.toShadow k = if (s.site k).mat.shadow.isNone then
      s.onSite k fun x => { x with mat := { x.mat with array := none, shadow := some key } } else s := by
  unfold State.toShadow
  rw [MatrixIn.matIn is]
  simp only [done, Bool.true_and]

section Shadow
variable {s : State} {x : SiteRef} {key : OpKey} {sl : Slot} {m : MatRun} (is : MatrixIn s (s.site (siteRefKey x)).mat.array key sl m)
include is

theorem matrixAccumulationEnd_moves (ongoing : m.accDone = false) (all : m.group = m.groups sl.op) :
    Completes (.matrixAccumulationEnd x) s fun u =>
      MatrixBecomes u key { m with accDone := true } ∧
      ((s.site (siteRefKey x)).mat.shadow = none →
        (u.site (siteRefKey x)).mat = { (s.site (siteRefKey x)).mat with array := none, shadow := some key }) ∧
      ((s.site (siteRefKey x)).mat.shadow ≠ none → (u.site (siteRefKey x)).mat = (s.site (siteRefKey x)).mat) ∧ u.mem = s.mem := by
  have ended := MatrixIn.onMat is fun m => { m with accDone := true }
  have moved := State.toShadow_of_done (k := siteRefKey x) ended rfl
  have ⟨on, _, _, _, running⟩ := is
  refine completes_of_effect (t := (s.onMat key fun m => { m with accDone := true }).toShadow (siteRefKey x)) rfl ?_ ?_
  · rw [s.whenP_pos _ on, MatrixIn.matIn is]
    exact s.whenP_pos _ (by simp [running, ongoing, all])
  rw [moved]
  split
  · next empty =>
    refine ⟨MatrixIn.becomes ended, fun _ => congrArg Site.mat (State.site_onSite ..), fun held => absurd (Option.isNone_iff_eq_none.1 empty) held, rfl⟩
  · next held => exact ⟨MatrixIn.becomes ended, fun empty => absurd (Option.isNone_iff_eq_none.2 empty) held, fun _ => rfl, rfl⟩

theorem shadowSetFree_moves (done : m.accDone = true) (empty : (s.site (siteRefKey x)).mat.shadow = none) :
    Completes (.shadowSetFree x) s fun u =>
      u.site (siteRefKey x) = { s.site (siteRefKey x) with mat := { (s.site (siteRefKey x)).mat with array := none, shadow := some key } } ∧
      (∀ k, k ≠ siteRefKey x → u.site k = s.site k) ∧ u = { s with fab := { s.fab with sites := u.fab.sites } } := by
  have ⟨on, _, _, _, _⟩ := is
  refine completes_of_effect rfl ((s.whenP_pos _ on).trans ((State.toShadow_of_done is done).trans (if_pos (by rw [empty]; rfl))))
    ⟨by simp, fun k other => ?_, rfl⟩
  exact State.site_onSite_other _ _ other.symm

end Shadow

end Sys2Proof.Machine
end

section
/-!
SUPPORT. One promotion group of an I8 product (13 R499, R509, R510).
-/
namespace Sys2Proof.Machine

theorem int_ofInt (a : Int) : (Num.ofInt a).int = a := by
  simp only [Num.ofInt, Num.int, decide_eq_true_eq]
  split <;> omega

theorem int_mulNum_ofInt (a b : Int) : (mulNum (.ofInt a) (.ofInt b)).int = a * b := by
  rcases lt_or_ge a 0 with ha | ha <;> rcases lt_or_ge b 0 with hb | hb
  · simp [mulNum, Num.ofInt, Num.int, ha, hb, abs_of_neg]
  · simp [mulNum, Num.ofInt, Num.int, ha, hb, abs_of_neg, abs_of_nonneg]
  · simp [mulNum, Num.ofInt, Num.int, ha, hb, abs_of_neg, abs_of_nonneg]
  · simp [mulNum, Num.ofInt, Num.int, not_lt.2 ha, not_lt.2 hb, abs_of_nonneg ha, abs_of_nonneg hb]

theorem matValue_i8 (v : Byte) : matValue 0 v.toNat = .ofInt v.toInt := by
  have value : signedOf 8 v.toNat = v.toInt := by
    have small := v.isLt
    simp only [signedOf, BitVec.toInt_eq_toNat_cond]
    split <;> split <;> omega
  exact congrArg Num.ofInt value

theorem State.AcceptOnly.areaAddr {s t : State} (h : s.AcceptOnly t) : t.areaAddr = s.areaAddr := by
  rw [h.only]
  rfl

/-- A row of 32 I8 operands of an area. -/
def i8Row (s : State) (k base start : Nat) : List Num := (List.range 32).map fun i => .ofInt (i8At s k base (start + i))

section Product
variable {s : State} {o : Op} (plain : o.exact = false) (a : o.aFmt = 0) (b : o.bFmt = 0)
include plain a b

/-- The two rows of a step whose bytes can be reached. -/
theorem State.stepOperands_i8 (key : OpKey) (t : Nat) (reach : Reached s ((List.range 32).flatMap fun i =>
      [s.areaAddr o.matSite o.aOff (t * o.aStride + i), s.areaAddr o.matSite o.bOff (t * o.bStride + i)])) :
    ∃ u, s.AcceptOnly u ∧ s.stepOperands key o [] t =
      (u, i8Row s o.matSite o.aOff (t * o.aStride), i8Row s o.matSite o.bOff (t * o.bStride)) := by
  have first : Reached s ((upFrom (t * o.aStride) 32).map (s.areaAddr o.matSite o.aOff)) := Reached.sub reach fun x listed => by
    simp only [upFrom, List.map_map, List.mem_map] at listed
    obtain ⟨i, inside, rfl⟩ := listed
    exact List.mem_flatMap.2 ⟨i, inside, List.mem_cons_self⟩
  have second : Reached s ((upFrom (t * o.bStride) 32).map (s.areaAddr o.matSite o.bOff)) := Reached.sub reach fun x listed => by
    simp only [upFrom, List.map_map, List.mem_map] at listed
    obtain ⟨i, inside, rfl⟩ := listed
    exact List.mem_flatMap.2 ⟨i, inside, List.mem_cons_of_mem _ List.mem_cons_self⟩
  obtain ⟨u, taken, readA⟩ := State.matRead_reached key first
  obtain ⟨w, took, readB⟩ := State.matRead_reached (s := u) (k := o.matSite) (base := o.bOff) key
    (by rw [taken.areaAddr]; exact taken.reached second)
  rw [taken.areaAddr, taken.mem, taken.free] at readB
  refine ⟨w, taken.trans took, ?_⟩
  have gran : Quant.inGran [] = 0 := rfl
  simp only [State.stepOperands, plain, a, b, gran, fmtBytes, Bool.false_eq_true, Bool.false_and, reduceIte, OfNat.zero_ne_ofNat, readA, readB, sidePatterns]
  simp [upFrom, matValue_i8, i8Row, i8At]

/-- The rows of a group's steps whose bytes can be reached. -/
theorem State.groupOperands_i8 (key : OpKey) (ts : List Nat) (reach : Reached s (ts.flatMap fun t => (List.range 32).flatMap fun i =>
      [s.areaAddr o.matSite o.aOff (t * o.aStride + i), s.areaAddr o.matSite o.bOff (t * o.bStride + i)])) :
    ∃ u, s.AcceptOnly u ∧ s.groupOperands key o [] ts =
      (u, ts.map fun t => (i8Row s o.matSite o.aOff (t * o.aStride), i8Row s o.matSite o.bOff (t * o.bStride))) := by
  induction ts using List.reverseRecOn with
  | nil => exact ⟨s, .refl s, rfl⟩
  | append_singleton ts t ih =>
    obtain ⟨u, taken, rows⟩ := ih (Reached.sub reach fun x listed => by
      rw [List.flatMap_append]
      exact List.mem_append_left _ listed)
    have last : Reached s ((List.range 32).flatMap fun i =>
        [s.areaAddr o.matSite o.aOff (t * o.aStride + i), s.areaAddr o.matSite o.bOff (t * o.bStride + i)]) :=
      Reached.sub reach fun x listed => by
        rw [List.flatMap_append, List.flatMap_singleton]
        exact List.mem_append_right _ listed
    obtain ⟨w, took, row⟩ := State.stepOperands_i8 (s := u) plain a b key t (by rw [taken.areaAddr]; exact taken.reached last)
    have same : i8Row u = i8Row s := by
      unfold i8Row i8At
      rw [taken.areaAddr, taken.mem, taken.free]
    rw [same] at row
    refine ⟨w, taken.trans took, ?_⟩
    unfold State.groupOperands at rows ⊢
    rw [List.foldl_append, rows, List.map_append]
    simp only [List.foldl_cons, List.foldl_nil, row, List.map_cons, List.map_nil]

/-- The exact product sum of one output over a group's steps (13 R509). -/
def i8Sum (s : State) (o : Op) (ts : List Nat) (e : Nat) : Int :=
  (ts.map fun t => i8At s o.matSite o.aOff (t * o.aStride + e / 32) * i8At s o.matSite o.bOff (t * o.bStride + e % 32)).sum

/-- The terms of one output over a group's steps. -/
def i8Terms (s : State) (o : Op) (ts : List Nat) (e : Nat) : List Num :=
  ts.map fun t => mulNum ((i8Row s o.matSite o.aOff (t * o.aStride)).getD (e / 32) .nan) ((i8Row s o.matSite o.bOff (t * o.bStride)).getD (e % 32) .nan)

omit plain a b in
theorem sum_i8Terms {ts : List Nat} {e : Nat} (few : e < 1024) : ((i8Terms s o ts e).map Num.int).sum = i8Sum s o ts e := by
  have entry (k base start : Nat) {i : Nat} (h : i < 32) : (i8Row s k base start).getD i .nan = .ofInt (i8At s k base (start + i)) := by
    simp [i8Row, List.getD_eq_getElem?_getD, h]
  unfold i8Terms i8Sum
  rw [List.map_map]
  refine congrArg List.sum (List.map_congr_left fun t _ => ?_)
  rw [Function.comp, entry _ _ _ (by omega), entry _ _ _ (by omega), int_mulNum_ofInt]

end Product

/-- What is asked of one promotion group of an I8 product: the operation, its run, and the steps of the group. -/
structure I8Group (s : State) (o : Op) (m : MatRun) (ts : List Nat) : Prop where
  kind : o.matKind = .product
  plain : o.exact = false
  integer : o.floating = false
  a : o.aFmt = 0
  b : o.bFmt = 0
  quant : m.quant = []
  rows : m.rows = 32
  more : m.group * 16 < o.kLen
  steps : ts = upFrom (m.group * 16) (min 16 (o.kLen - m.group * 16))
  reach : Reached s (ts.flatMap fun t => (List.range 32).flatMap fun i =>
    [s.areaAddr o.matSite o.aOff (t * o.aStride + i), s.areaAddr o.matSite o.bOff (t * o.bStride + i)])

section Group
variable {s : State} {o : Op} {m : MatRun} {ts : List Nat} (is : I8Group s o m ts)
include is

theorem I8Group.unit : m.unit o = 16 := by simp [MatRun.unit, is.plain, is.kind, is.rows, is.a]

theorem I8Group.terms : o.terms = o.kLen := by simp [Op.terms, is.kind]

theorem I8Group.outputs : o.outputs = 1024 := by simp [Op.outputs, is.kind, is.plain]

theorem I8Group.ongoing : m.group < m.groups o := by
  have more := is.more
  have count : m.groups o = (o.kLen + 16 - 1) / 16 := by simp [MatRun.groups, is.kind, is.unit, is.terms]
  rw [count]
  omega

/-- One output of the group: its bank with its sum, where that is in range. -/
theorem I8Group.promote {v : Int} (bank : Option Int) {e : Nat} (few : e < o.outputs)
    (value : v = bank.getD 0 + shift48 (i8Sum s o ts e) (o.inShift - m.repeats)) (range : -(2 ^ 47) ≤ v ∧ v < 2 ^ 47) :
    o.promote m.repeats bank (i8Terms s o ts e) = some (some v) := by
  have inside : -(2 ^ 47) ≤ v ∧ v ≤ 2 ^ 47 - 1 := ⟨range.1, by omega⟩
  simp only [Op.promote, is.plain, is.integer, sum_i8Terms (is.outputs ▸ few), Bool.false_eq_true, if_false]
  rw [← value, inX48, if_pos inside]

/-- The group of every output, where each sum is in range. -/
theorem I8Group.promoteAll (key : OpKey) {sum : Nat → Int}
    (value : ∀ e, sum e = (m.banks.getD e (some 0)).getD 0 + shift48 (i8Sum s o ts e) (o.inShift - m.repeats))
    (range : ∀ e, e < o.outputs → -(2 ^ 47) ≤ sum e ∧ sum e < 2 ^ 47) :
    ∃ u p, s.AcceptOnly u ∧ s.promoteAll key o m = (u, p) ∧ p.banks = (List.range o.outputs).map fun e => some (some (sum e)) := by
  obtain ⟨u, taken, rows⟩ := State.groupOperands_i8 is.plain is.a is.b key ts is.reach
  have steps := is.steps
  rw [← is.unit, ← is.terms] at steps
  unfold State.promoteAll
  simp only [is.kind, is.quant, ← steps, rows, is.plain, Bool.false_eq_true, if_false]
  refine ⟨u, _, taken, rfl, List.ext_getElem (by simp) fun e _ inside => ?_⟩
  have few : e < o.outputs := by simpa using inside
  simp only [List.getElem_map, List.getElem_zipIdx, List.getElem_range, List.map_map, Nat.zero_add]
  exact is.promote _ few (value e) (range e few)

/-- A group whose sums are in range gives the run its banks and the next group. -/
theorem I8Group.promotion (key : OpKey) (k : Nat) {sum : Nat → Int}
    (value : ∀ e, sum e = (m.banks.getD e (some 0)).getD 0 + shift48 (i8Sum s o ts e) (o.inShift - m.repeats))
    (range : ∀ e, e < o.outputs → -(2 ^ 47) ≤ sum e ∧ sum e < 2 ^ 47) :
    ∃ u f g, s.AcceptOnly u ∧ s.promotion k key o m = (u.onMat key f).onMat key g ∧ (g (f m)).group = m.group + 1 ∧
      (g (f m)).repeats = m.repeats ∧ (g (f m)).banks = (List.range o.outputs).map fun e => some (sum e) := by
  obtain ⟨u, p, taken, all, banks⟩ := is.promoteAll key value range
  have whole : p.banks.any (·.isNone) = false := by simp [banks]
  unfold State.promotion
  simp only [all, whole, Bool.false_eq_true, if_false]
  exact ⟨u, _, _, taken, rfl, rfl, rfl, by simp [banks]⟩

end Group

theorem matrixPromotion_adds {s : State} {x : SiteRef} {key : OpKey} {sl : Slot} {m : MatRun} {ts : List Nat} {sum : Nat → Int}
    (is : MatrixIn s (s.site (siteRefKey x)).mat.array key sl m) (ongoing : m.accDone = false) (group : I8Group s sl.op m ts)
    (value : ∀ e, sum e = (m.banks.getD e (some 0)).getD 0 + shift48 (i8Sum s sl.op ts e) (sl.op.inShift - m.repeats))
    (range : ∀ e, e < sl.op.outputs → -(2 ^ 47) ≤ sum e ∧ sum e < 2 ^ 47) : Completes (.matrixPromotion x) s fun u =>
      (∃ n, MatrixBecomes u key n ∧ n.group = m.group + 1 ∧ n.repeats = m.repeats ∧
        n.banks = (List.range sl.op.outputs).map fun e => some (sum e)) ∧
      u.mem = s.mem ∧ (∀ k, u.site k = s.site k) ∧ s.KeepsStore u := by
  obtain ⟨u, f, g, taken, step, next, repeats, banks⟩ := group.promotion key (siteRefKey x) value range
  have becomes : MatrixBecomes ((u.onMat key f).onMat key g) key (g (f m)) := by
    have ⟨_, _, found, run, _⟩ := is
    have same := taken.seen.slotOf_map (fun y => y.is key.2.1 key.2.2) (fun _ => rfl) key.1
    rw [found, Option.map_some, Option.map_eq_some_iff] at same
    obtain ⟨y, here, alike⟩ := same
    have first := State.slotOf_onSlot u key.1 key.2.1 key.2.2 (f := fun sl => { sl with run := { sl.run with matrix := sl.run.matrix.map f } }) fun _ => rfl
    have second := State.slotOf_onSlot (u.onMat key f) key.1 key.2.1 key.2.2
      (f := fun sl => { sl with run := { sl.run with matrix := sl.run.matrix.map g } }) fun _ => rfl
    rw [here, Option.map_some] at first
    rw [State.onMat, State.onRun, first, Option.map_some] at second
    have held : y.run.matrix = some m := (congrArg (·.run.matrix) alike).trans run
    exact ⟨_, second, by rw [held]; rfl⟩
  have ⟨on, _, _, _, running⟩ := is
  refine completes_of_effect (t := (u.onMat key f).onMat key g) rfl ?_ ⟨⟨_, becomes, next, repeats, banks⟩, taken.mem, fun k => taken.only.site k, s.effect_keepsStore _⟩
  rw [s.whenP_pos _ on, MatrixIn.matIn is]
  exact (s.whenP_pos _ (by simp [running, ongoing, group.ongoing])).trans step

end Sys2Proof.Machine
end

section
/-!
SUPPORT. The drain of raw outputs (13 R503, R522): eight bytes of each, 256 of each row.
-/
namespace Sys2Proof.Machine

theorem range_flatMap_map {α : Type} {c : Nat} (pos : 0 < c) (f : Nat → Nat → α) (n : Nat) :
    (List.range n).flatMap (fun r => (List.range c).map (f r)) = (List.range (n * c)).map fun i => f (i / c) (i % c) := by
  induction n with
  | zero => simp
  | succ n ih =>
    rw [List.range_succ, List.flatMap_append, ih, List.flatMap_singleton, Nat.succ_mul, List.range_add, List.map_append, List.map_map]
    refine congrArg _ (List.map_congr_left fun i inside => ?_)
    have small := List.mem_range.1 inside
    rw [Function.comp, Nat.mul_comm n c, Nat.mul_add_div pos, Nat.mul_add_mod, Nat.div_eq_of_lt small, Nat.mod_eq_of_lt small, Nat.add_zero]

theorem zipIdx_map_range {α : Type} (f : Nat → α) (n : Nat) : ((List.range n).map f).zipIdx = (List.range n).map fun i => (f i, i) :=
  List.ext_getElem (by simp) fun i _ _ => by simp

theorem take_drop_map_range {α : Type} (f : Nat → α) {n j c : Nat} (h : j + c ≤ n) :
    (((List.range n).map f).drop j).take c = (List.range c).map fun r => f (j + r) :=
  List.ext_getElem (by simp; omega) fun i _ _ => by simp

/-- Byte i of the raw outputs. -/
def rawByte (sum : Nat → Int) (i : Nat) : Byte := BitVec.ofNat 8 (patternOf 48 (sum (i / 8)) / 256 ^ (i % 8))

/-- Where byte i of the raw outputs goes. -/
def State.rawAddr (s : State) (o : Op) (i : Nat) : Nat := s.areaAddr o.matSite o.outOff (i / 256 * o.outStride + i % 256)

/-- What is asked of the drain of raw outputs: the operation, its run, and that its rows are whole. -/
structure RawDrain (o : Op) (m : MatRun) (sum : Nat → Int) : Prop where
  raw : o.outKind = 1
  quant : m.quant = []
  banks : m.banks = (List.range o.outputs).map fun e => some (sum e)
  whole : o.outputs % 32 = 0

section Drain
variable {o : Op} {m : MatRun} {sum : Nat → Int} (is : RawDrain o m sum) (s : State)
include is

theorem RawDrain.outRows : o.outRows * 32 = o.outputs := by
  have whole := is.whole
  unfold Op.outRows
  omega

theorem RawDrain.drainOne (r : Nat) {e : Nat} (few : e < o.outputs) : s.drainOne r o m e = { bits := patternOf 48 (sum e), hits := [] } := by
  have bank : m.banks.getD e (some 0) = some (sum e) := by simp [is.banks, List.getD_eq_getElem?_getD, few]
  simp only [State.drainOne, is.raw, bank, if_true, State.x48Bits]

/-- The bytes of one row. -/
theorem RawDrain.rowBytes (r : Nat) {j : Nat} (inside : j < o.outRows) :
    s.rowBytes o [] ((((List.range o.outputs).map (s.drainOne r o m)).drop (32 * j)).take 32) =
      (List.range 256).map fun b => rawByte sum (j * 256 + b) := by
  have count := is.outRows
  have width : o.outWidth [] 1 = 8 := by simp [Op.outWidth, is.raw]
  have row : (((List.range o.outputs).map (s.drainOne r o m)).drop (32 * j)).take 32 =
      (List.range 32).map fun i => { bits := patternOf 48 (sum (32 * j + i)), hits := [] } := by
    rw [take_drop_map_range _ (by omega)]
    refine List.map_congr_left fun i listed => is.drainOne s r ?_
    have small := List.mem_range.1 listed
    omega
  have bytes := range_flatMap_map (c := 8) (by omega) (fun i b => BitVec.ofNat 8 (patternOf 48 (sum (32 * j + i)) / 256 ^ b)) 32
  rw [row, State.rowBytes, width]
  simp only [is.raw, Nat.one_ne_zero, decide_false, Bool.false_and, Bool.false_eq_true, if_false, List.flatMap_map, leBytes]
  refine bytes.trans (List.map_congr_left fun i _ => ?_)
  have at_ : (j * 256 + i) / 8 = 32 * j + i / 8 ∧ (j * 256 + i) % 8 = i % 8 := by omega
  rw [rawByte, at_.1, at_.2]

/-- The drain writes each byte of the raw outputs to its place. -/
theorem RawDrain.drainRows (key : OpKey) : ∃ outs bs, s.drainRows key o m none =
    ((s.unitWrite key ((List.range (o.outputs * 8)).map fun i => (s.rawAddr o i, rawByte sum i))).1, outs, bs) := by
  have count := is.outRows
  have lines : (List.range o.outRows).map (fun j => s.rowBytes o [] ((((List.range o.outputs).map (s.drainOne key.1 o m)).drop (32 * j)).take 32)) =
      (List.range o.outRows).map fun j => (List.range 256).map fun b => rawByte sum (j * 256 + b) :=
    List.map_congr_left fun j inside => is.rowBytes s key.1 (List.mem_range.1 inside)
  have cells := range_flatMap_map (c := 256) (by omega)
    (fun j b => (s.areaAddr o.matSite o.outOff (j * o.outStride + b), rawByte sum (j * 256 + b))) o.outRows
  have all : o.outRows * 256 = o.outputs * 8 := by omega
  have place (i : Nat) : i / 256 * 256 + i % 256 = i := Nat.div_add_mod' i 256
  simp only [all, place] at cells
  unfold State.drainRows
  simp only [is.raw, is.quant, lines, OfNat.one_ne_ofNat, if_false, Option.map_none, Option.getD_none, List.take_length, zipIdx_map_range,
    List.flatMap_map, List.map_map, Function.comp_def, cells]
  exact ⟨_, _, rfl⟩

end Drain

end Sys2Proof.Machine
end

section
/-!
CERTIFICATE. Matrix banks add exactly, move to the shadow set and drain.
-/
namespace Sys2Proof.Machine

theorem State.site_onSite_of {α : Type} (s : State) (k j : Nat) {f : Site → Site} (v : Site → α) (kept : ∀ x, v (f x) = v x) :
    v ((s.onSite k f).site j) = v (s.site j) := by
  by_cases same : k = j
  · subst same
    rw [State.site_onSite, kept]
  · rw [State.site_onSite_other _ _ same]

/-- What a matrix site holds decides neither where bytes are nor whether they can be written. -/
theorem State.onSite_mat_open {s : State} {l : List Nat} (reach : s.Open l) (k : Nat) (f : MatSite → MatSite) :
    (s.onSite k fun x => { x with mat := f x.mat }).Open l := by
  have places : s.SamePlaces (s.onSite k fun x => { x with mat := f x.mat }) := ⟨rfl, fun j => s.site_onSite_of k j Site.island fun _ => rfl, rfl⟩
  have busy (a : Nat) : (s.onSite k fun x => { x with mat := f x.mat }).busyByte a = s.busyByte a := by
    have spin (j : Nat) := s.site_onSite_of k j (f := fun x => { x with mat := f x.mat }) Site.spin fun _ => rfl
    unfold State.busyByte State.busySite
    rw [spin, places.isSpin]
    rfl
  intro a listed
  obtain ⟨on, lock, idle⟩ := reach a listed
  exact ⟨by rw [places.domainOf, places.ivory, on], (places.islandAt a).trans lock, (busy a).trans idle⟩

/-- The drain of raw outputs whose bytes can all be written: digests and acceptances are noted, and the operation ends with OK. -/
theorem RawDrain.drain {o : Op} {m : MatRun} {sum : Nat → Int} (is : RawDrain o m sum) {s : State} (key : OpKey) (clean : s.mem.marks = [])
    (reach : s.Open ((List.range (o.outputs * 8)).map (s.rawAddr o))) : ∃ u, s.drain key o m = u.latchEnd key Codes.OK 0 ∧
      s.Keeps (RegionSched.seen Slot.course) u ∧ (∀ k, u.site k = s.site k) ∧
      u.mem = (s.mem.writeCells ((List.range (o.outputs * 8)).map fun i => (s.rawAddr o i, rawByte sum i))).1 := by
  obtain ⟨outs, bs, rows⟩ := is.drainRows s key
  have addrs : ((List.range (o.outputs * 8)).map fun i => (s.rawAddr o i, rawByte sum i)).map (·.1) = (List.range (o.outputs * 8)).map (s.rawAddr o) := by
    rw [List.map_map]
    rfl
  rw [← addrs] at reach
  have accepted := State.meet_open reach key
  have plain (t : State) : t.applyStats key o [] outs = t := by
    have off : Quant.statEn [] = false := rfl
    unfold State.applyStats
    rw [off]
    rfl
  unfold State.drain
  simp only [rows, is.quant, plain, State.unitWrite_open reach clean key]
  have noted : s.Keeps (RegionSched.seen Slot.course) _ := accepted.seen.seen_comp Slot.course
  generalize s.meet key _ = t at accepted noted ⊢
  have written (f : Mem → Mem) : t.Keeps (RegionSched.seen Slot.course) (t.onMem f).bump := .of_fab rfl rfl
  refine ⟨_, rfl, (noted.trans (written _)).trans (State.addTensor_keeps ..), fun k => accepted.only.site k, ?_⟩
  exact congrArg (fun m => (Mem.writeCells m _).1) accepted.mem

section End
variable {s : State} {x : SiteRef} {key : OpKey} {sl : Slot} {m : MatRun} {sum : Nat → Int}

theorem matrixDrainEnd_writes (held : MatrixIn s (s.site (siteRefKey x)).mat.shadow key sl m) (done : m.accDone = true)
    (is : RawDrain sl.op m sum) (unmet : sl.rec_.pendingStatus = 0) (once : ((List.range (sl.op.outputs * 8)).map (s.rawAddr sl.op)).Nodup)
    (reach : Reached s ((List.range (sl.op.outputs * 8)).map (s.rawAddr sl.op)))
    (idle : ∀ i, i < sl.op.outputs * 8 → s.busyByte (s.rawAddr sl.op i) = false) : Completes (.matrixDrainEnd x) s fun u =>
      (∃ y, u.slotOf key.1 key.2.1 key.2.2 = some y ∧ y.op.state = .latched ∧ y.rec_.status = Codes.OK) ∧
      (u.site (siteRefKey x)).mat = { (s.site (siteRefKey x)).mat with shadow := none } ∧
      (∀ e i, e < sl.op.outputs → i < 8 → ∀ n,
        u.mem.read n (s.areaAddr sl.op.matSite sl.op.outOff (e / 32 * sl.op.outStride + (e % 32 * 8 + i))) =
          BitVec.ofNat 8 (patternOf 48 (sum e) / 256 ^ i)) ∧
      (∀ n a, a ∉ (List.range (sl.op.outputs * 8)).map (s.rawAddr sl.op) → u.mem.read n a = s.mem.read n a) ∧ s.KeepsStore u := by
  let emptied := s.onSite (siteRefKey x) fun x => { x with mat := { x.mat with shadow := none } }
  let cells := (List.range (sl.op.outputs * 8)).map fun i => (s.rawAddr sl.op i, rawByte sum i)
  have ⟨on, _, found, _, running⟩ := held
  have writable : s.Open ((List.range (sl.op.outputs * 8)).map (s.rawAddr sl.op)) := Reached.open reach fun a listed => by
    obtain ⟨i, inside, rfl⟩ := List.mem_map.1 listed
    exact idle i (List.mem_range.1 inside)
  obtain ⟨u, drained, course, sites, mem⟩ := is.drain key (s := emptied) reach.1 (State.onSite_mat_open writable _ fun m => { m with shadow := none })
  have same := course.slotOf_map (fun c => c.1 = key.2.1 && c.2.1 = key.2.2) (fun _ => rfl) key.1
  rw [show emptied.slotOf _ _ _ = _ from found, Option.map_some, Option.map_eq_some_iff] at same
  obtain ⟨y, here, alike⟩ := same
  simp only [Slot.course, Prod.mk.injEq] at alike
  obtain ⟨-, -, state, -, pending⟩ := alike
  obtain ⟨z, ended, latched, status, -⟩ := State.latchEnd_unmet (k := key) here (by simp [state, running]) (pending.trans unmet)
  have written : (u.latchEnd key Codes.OK 0).mem = (s.mem.writeCells cells).1 := mem
  have site : (u.latchEnd key Codes.OK 0).site (siteRefKey x) = u.site (siteRefKey x) := rfl
  generalize u.latchEnd key Codes.OK 0 = t at ended drained written site
  refine completes_of_effect (t := t) rfl ?_ ⟨⟨z, ended, latched, status⟩, ?_, fun e i few small n => ?_, fun n a outside => ?_, s.effect_keepsStore _⟩
  · rw [s.whenP_pos _ on]
    dsimp only
    rw [MatrixIn.matIn held]
    exact (s.whenP_pos _ (by simp [running, done])).trans drained
  · rw [State.effect_site, site, sites]
    exact congrArg Site.mat (State.site_onSite ..)
  · have inside : 8 * e + i < sl.op.outputs * 8 := by omega
    have cell : (s.rawAddr sl.op (8 * e + i), rawByte sum (8 * e + i)) ∈ cells := List.mem_map_of_mem (List.mem_range.2 inside)
    have at_ : (8 * e + i) / 8 = e ∧ (8 * e + i) % 8 = i ∧ (8 * e + i) / 256 = e / 32 ∧ (8 * e + i) % 256 = e % 32 * 8 + i := by omega
    have read := Mem.read_writeCells_same reach.1 (l := cells) (by rw [List.map_map]; exact once) cell n
    rw [State.rawAddr, rawByte, at_.1, at_.2.1, at_.2.2.1, at_.2.2.2] at read
    rw [State.effect_mem, written, read]
  · rw [State.effect_mem, written]
    refine Mem.read_writeCells_other _ _ _ _ fun c listed => ?_
    obtain ⟨i, inside, rfl⟩ := List.mem_map.1 listed
    rintro rfl
    exact outside (List.mem_map_of_mem inside)

end End

/-- Settles O39: one lemma for a promotion group, one for the end of accumulation, one for a freed shadow set, and one for the drain. -/
theorem matrixBanksAddMoveAndDrain : Obligations.MatrixBanksAddMoveAndDrain := by
  intro s x key sl m ts sum
  refine ⟨?promotes, matrixAccumulationEnd_moves, shadowSetFree_moves, ?drains⟩
  case promotes =>
    intro is ongoing kind plain integer a b quant rows more steps reach value range
    exact matrixPromotion_adds is ongoing ⟨kind, plain, integer, a, b, quant, rows, more, steps, reach⟩ value range
  case drains =>
    intro is done raw quant banks unmet whole once reach idle
    exact matrixDrainEnd_writes is done ⟨raw, quant, banks, whole⟩ unmet once reach idle

end Sys2Proof.Machine
end

section
/-!
SUPPORT. An instruction that issues: what it changes beside its thread, and what its trap leaves (09 R302, R309, R310, R314).
-/
namespace Sys2Proof.Machine

/-- An instruction that issues takes its effect. -/
theorem Issues.runs {s : State} {t : Tid} {w : Nat} {rs : List Nat} (is : Issues s t w rs) (f : State → State) :
    s.issueAs t w true rs f = f (s.issued (tidKey t) t.th.val) := by
  obtain ⟨ready, ⟨a, fetched, whole, word⟩, free⟩ := is
  exact State.issueAs_runs f ready fetched whole word free

theorem tidKey_mod (t : Tid) : tidKey t % 256 = t.site.val := by
  have small := t.site.isLt
  unfold tidKey siteKey
  omega

theorem State.thread_congr {s u : State} {k : Nat} (h : (u.site k).threads = (s.site k).threads) (th : Nat) : u.thread k th = s.thread k th := by
  rw [State.thread, State.thread, h]

/-- A thread that issues and is updated changes itself alone, beside what the site notes of the issue and a free value. -/
theorem onlyThread_onThread (s : State) (t : Tid) (n : Nat) (f : Thread → Thread) :
    OnlyThread { s with free := n } (s.effect fun _ => { (s.issued (tidKey t) t.th.val).onThread (tidKey t) t.th.val f with free := n }) t := by
  refine ⟨fun th other => ?_, ?_, fun k other => ?_, rfl⟩
  · have kept := State.thread_onThread_other (s.issued (tidKey t) t.th.val) (k := tidKey t) (th := t.th.val) (j := tidKey t) (i := th) f
      (fun h => other h.2.symm)
    rw [State.thread_issued] at kept
    exact kept
  · have at_ := (s.issued (tidKey t) t.th.val).site_onThread (tidKey t) t.th.val f
    rw [State.issued, State.site_onSite] at at_
    exact at_
  · exact (State.site_onSite_other _ _ other.symm).trans (State.site_onSite_other _ _ other.symm)

theorem thread_issued_onThread (s : State) (t : Tid) (n : Nat) (f : Thread → Thread) :
    (s.effect fun _ => { (s.issued (tidKey t) t.th.val).onThread (tidKey t) t.th.val f with free := n }).thread (tidKey t) t.th.val =
      f (s.thread (tidKey t) t.th.val) := by
  have at_ := State.thread_onThread (s.issued (tidKey t) t.th.val) (tidKey t) t.th.val f
  rw [State.thread_issued] at at_
  exact at_

/-! ## Traps -/

/-- Two states whose threads belong to the same tasks at the same pcs, with the same slots and the same runs in them. -/
structure State.SameTasks (s t : State) : Prop where
  slots : s.Keeps (RegionSched.seen fun x => (x.name, x.run)) t
  thread : ∀ k th, (t.thread k th).pc = (s.thread k th).pc ∧ (t.thread k th).key = (s.thread k th).key

theorem State.SameTasks.refl (s : State) : s.SameTasks s := ⟨.refl s, fun _ _ => ⟨rfl, rfl⟩⟩

theorem State.SameTasks.trans {s t u : State} (h : s.SameTasks t) (l : t.SameTasks u) : s.SameTasks u :=
  ⟨h.slots.trans l.slots, fun k th => ⟨(l.thread k th).1.trans (h.thread k th).1, (l.thread k th).2.trans (h.thread k th).2⟩⟩

theorem State.SameTasks.foldl {α : Type} {f : State → α → State} (step : ∀ (s : State) (a : α), s.SameTasks (f s a)) (l : List α) (s : State) :
    s.SameTasks (l.foldl f s) := List.foldlRecOn l f (.refl s) fun _ h a _ => h.trans (step _ a)

theorem State.foldStore_sameTasks (s : State) (key : OpKey) (va n v : Nat) (fails : Bool) : s.SameTasks (s.foldStore key va n v fails) :=
  ⟨s.onSlot_keeps _ _ _, fun _ _ => ⟨rfl, rfl⟩⟩

theorem State.rowOutputs_sameTasks (s : State) (key : OpKey) (row : Row) (dst : List Nat) (res : RowResult) (m : Nat) :
    s.SameTasks (s.rowOutputs key row dst res m).1 := by
  unfold State.rowOutputs
  extract_lets outs w
  refine .trans (t := { s with mem := w.1 }) ⟨.of_fab rfl rfl, fun _ _ => ⟨rfl, rfl⟩⟩ ?_
  exact .foldl (fun (s : State) (v : Nat × Nat) => s.foldStore_sameTasks _ _ _ _ _) _ _

/-- An update of a site whose threads stay, or of which one exits, leaves whose threads they are. -/
theorem State.freeUnit_sameTasks (s : State) (k th : Nat) : s.SameTasks (s.onSite k fun x =>
    { x with sfu := { x.sfu with holder := none }, threads := Tab.modify {} x.threads th fun y => { y with state := .exited } }) := by
  refine ⟨.of_fab rfl rfl, fun j i => ?_⟩
  by_cases site : k = j
  · subst site
    unfold State.thread
    rw [State.site_onSite]
    by_cases same : th = i
    · subst same
      simp only [Tab.get_modify_same]
      exact ⟨trivial, rfl⟩
    · simp only [Tab.get_modify_other _ _ _ same]
      exact ⟨trivial, trivial⟩
  · unfold State.thread
    rw [State.site_onSite_other _ _ site]
    exact ⟨rfl, rfl⟩

theorem State.abandonRow_sameTasks (s : State) (k th : Nat) : s.SameTasks (s.abandonRow k th) := by
  unfold State.abandonRow
  split
  · unfold State.whenP
    split
    · refine .trans ?_ (State.freeUnit_sameTasks _ k th)
      split
      · split
        · exact .refl s
        · exact (s.rowOutputs_sameTasks ..).trans ⟨.of_fab rfl rfl, fun _ _ => ⟨rfl, rfl⟩⟩
      · exact .refl s
    · exact .refl s
  · exact .refl s

theorem State.abandonRow_unheld {s : State} {k : Nat} (free : (s.site k).sfu.holder = none) (th : Nat) : s.abandonRow k th = s := by
  unfold State.abandonRow
  rw [free]

/-- A thread whose turn it is belongs to a task that runs. -/
theorem State.threadReady_runs {s : State} {k th : Nat} (ready : s.threadReady k th = true) : ∃ x y, s.threadSlot k th = some x ∧
    x.op.state = .running ∧ x.run.task = some y := by
  simp only [State.threadReady, Bool.and_eq_true, decide_eq_true_eq] at ready
  have issues := List.find?_some ready.2
  simp only [State.threadIssues, Bool.and_eq_true] at issues
  have runs := issues.1.2
  unfold State.taskRuns at runs
  split at runs
  · next x found =>
    simp only [Bool.and_eq_true, decide_eq_true_eq, Option.any_eq_true] at runs
    obtain ⟨running, y, task, -⟩ := runs
    exact ⟨x, y, found, running, task⟩
  · cases runs

/-- A trap that is the first of its task. -/
theorem TaskRun.trapped_first {y : TaskRun} (fresh : y.trap = none) (code : Code) (index now : Nat) (fault : BitVec 16) :
    y.trapped code index now fault = { y with trap := some (code, index, now), trapFault := fault } := by
  unfold TaskRun.trapped
  rw [fresh]

theorem State.vecNow_issued (s : State) (k th : Nat) : (s.issued k th).vecNow k = s.vecNext k := by
  have at_ : ((s.issued k th).site k).nextVec = s.vecNext k + 1 := congrArg Site.nextVec (State.site_onSite ..)
  have above : s.vecFirst ≤ s.vecNext k := Nat.le_max_left ..
  have first : (s.issued k th).vecFirst = s.vecFirst := rfl
  rw [State.vecNow, at_, first]
  omega

/-- A trap stops its task, with its code and the vector tick in which it happened, and writes nothing where no row is held. -/
theorem trapsWith_trap {s : State} {t : Tid} {w : Nat} {rs : List Nat} (is : Issues s t w rs) (fresh : NoTrap s t) (code : Code) (fault : BitVec 16) :
    TrapsWith s (s.effect fun _ => (s.issued (tidKey t) t.th.val).trap (tidKey t) t.th.val code fault) t code := by
  obtain ⟨ready, -, -⟩ := is
  obtain ⟨x, y, found, running, task⟩ := State.threadReady_runs ready
  let key := (s.thread (tidKey t) t.th.val).key
  have placed : (s.issued (tidKey t) t.th.val).slotOf key.1 key.2.1 key.2.2 = some x := found
  unfold State.trap State.trapOf
  rw [State.thread_issued, placed, State.vecNow_issued]
  dsimp only
  rw [if_pos running, task, Option.map_some, Option.getD_some]
  let stopped := (s.issued (tidKey t) t.th.val).onRun key.1 key.2.1 key.2.2 fun u =>
    { u with task := u.task.map fun z => z.trapped code (y.threads.idxOf (tidKey t, t.th.val)) (s.vecNext (tidKey t)) fault }
  have slot := State.slotOf_onSlot (s.issued (tidKey t) t.th.val) key.1 key.2.1 key.2.2 (f := fun sl => { sl with run := { sl.run with
    task := sl.run.task.map fun z => z.trapped code (y.threads.idxOf (tidKey t, t.th.val)) (s.vecNext (tidKey t)) fault } }) fun _ => rfl
  rw [placed, Option.map_some, task, Option.map_some, TaskRun.trapped_first (fresh x y found task)] at slot
  have stops : stopped.SameTasks (y.threads.foldl (fun s t => s.abandonRow t.1 t.2) stopped) :=
    .foldl (fun (s : State) (t : Nat × Nat) => s.abandonRow_sameTasks t.1 t.2) _ _
  have same := stops.slots.slotOf_map (q := key.2.1) (seq := key.2.2) (fun n => n.1.1 = key.2.1 && n.1.2 = key.2.2) (fun _ => rfl) key.1
  rw [show stopped.slotOf _ _ _ = _ from slot, Option.map_some, Option.map_eq_some_iff] at same
  obtain ⟨z, here, alike⟩ := same
  obtain ⟨pc, belongs⟩ := stops.thread (tidKey t) t.th.val
  have mine : (stopped.thread (tidKey t) t.th.val) = s.thread (tidKey t) t.th.val := State.thread_issued ..
  have unheld (free : ∀ k, (s.site k).sfu.holder = none) : y.threads.foldl (fun s t => s.abandonRow t.1 t.2) stopped = stopped := by
    have kept (k : Nat) : (stopped.site k).sfu.holder = none := (s.site_onSite_of (tidKey t) k
      (f := fun x => { x with lastIssued := t.th.val, nextVec := s.vecNext (tidKey t) + 1 }) (fun x => x.sfu.holder) fun _ => rfl).trans (free k)
    exact List.foldlRecOn (motive := fun u => u = stopped) _ _ rfl fun u same p _ => by rw [same, State.abandonRow_unheld (kept p.1)]
  refine ⟨⟨z, _, _, ?_, (congrArg (·.2.task) alike :), rfl⟩, fun free => ?_, pc.trans (congrArg Thread.pc mine), s.effect_keepsStore _⟩
  · rw [mine] at belongs
    let u := y.threads.foldl (fun s t => s.abandonRow t.1 t.2) stopped
    have named : u.slotOf (u.thread (tidKey t) t.th.val).key.1 (u.thread (tidKey t) t.th.val).key.2.1 (u.thread (tidKey t) t.th.val).key.2.2 = some z := by
      rw [belongs]
      exact here
    exact named
  · rw [State.effect_mem]
    exact (congrArg State.mem (unheld free)).trans rfl

end Sys2Proof.Machine
end

section
/-!
SUPPORT. The special-function unit of a vector site: what it denies, and what an instruction that it takes gives (15 R571-R577).
-/
namespace Sys2Proof.Machine

/-- Whether a region's functions are those of minimal mode. -/
def State.minimal (s : State) (r : Nat) : Bool := ((s.regionDef? r).map (·.sfuMinimal)).getD false

theorem State.minimal_iff (s : State) (r : Nat) : s.minimal r = true ↔ ∃ d, s.regionDef? r = some d ∧ d.sfuMinimal = true := by
  unfold State.minimal
  cases s.regionDef? r <;> simp

theorem State.minimal_false {s : State} {r : Nat} (full : ∀ d, s.regionDef? r = some d → d.sfuMinimal = false) : s.minimal r = false := by
  unfold State.minimal
  cases found : s.regionDef? r with
  | none => rfl
  | some d => exact full d found

/-- A unit without a fault denies what its mode excludes and, in a Sepia image, GELU_ERF. -/
theorem State.sfuDenied_of_unit {s : State} {t : Tid} (vector : siteType t.site.val = .vector) (sound : (s.site (tidKey t)).sfuFault = none)
    (r op : Nat) : s.sfuDenied (tidKey t) r op =
      if s.minimal r && op ≠ 0xA0 && op ≠ 0xA1 then some (Codes.SFU_MODE_DENIED, 0)
      else if op = 0xA6 && s.image.sepia then some (Codes.SFU_UNAVAILABLE, 0) else none := by
  unfold State.sfuDenied
  rw [tidKey_mod]
  dsimp only
  rw [sound, if_neg (by simp [vector])]
  rfl

theorem State.site_issued (s : State) (k th : Nat) : (s.issued k th).site k = { s.site k with lastIssued := th, nextVec := s.vecNext k + 1 } :=
  State.site_onSite ..

theorem State.sfuDenied_issued (s : State) (k th r op : Nat) : (s.issued k th).sfuDenied k r op = s.sfuDenied k r op := by
  unfold State.sfuDenied
  rw [State.site_issued]
  rfl

theorem SfuFn.opcode_lt (fn : SfuFn) : fn.opcode < 256 := by cases fn <;> decide

theorem sfuFnOf_opcode (fn : SfuFn) : sfuFnOf fn.opcode = fn := by cases fn <;> rfl

theorem SfuFn.opcode_ne_softmax (fn : SfuFn) : fn.opcode ≠ 0xA8 := by cases fn <;> decide

/-- A unit that takes a function does not deny it. -/
theorem UnitTakes.undenied {s : State} {t : Tid} {fn : SfuFn} (takes : UnitTakes s t fn) :
    s.sfuDenied (tidKey t) (s.thread (tidKey t) t.th.val).region fn.opcode = none := by
  obtain ⟨vector, sound, -, mode, erf⟩ := takes
  rw [State.sfuDenied_of_unit vector sound, if_neg, if_neg]
  · cases fn <;> simp_all [SfuFn.opcode]
  · intro denied
    simp only [Bool.and_eq_true, decide_eq_true_eq, State.minimal_iff] at denied
    obtain ⟨⟨minimal, notExp⟩, notLog⟩ := denied
    rcases mode minimal with rfl | rfl
    · exact notExp rfl
    · exact notLog rfl

section Op
variable {s : State} {t : Tid} {w : Nat} {rs : List Nat}

/-- What a unit that denies the opcode of a word gives for it. -/
theorem State.sfuOp_denied {e : Code × BitVec 16}
    (denied : s.sfuDenied (tidKey t) (s.thread (tidKey t) t.th.val).region (wOp w) = some e) :
    (s.issued (tidKey t) t.th.val).sfuOp (tidKey t) t.th.val w = (s.issued (tidKey t) t.th.val).trap (tidKey t) t.th.val e.1 e.2 := by
  unfold State.sfuOp
  rw [State.thread_issued, State.sfuDenied_issued, denied]

theorem State.holder_issued (s : State) (k th : Nat) : ((s.issued k th).site k).sfu = (s.site k).sfu := by rw [State.site_issued]

/-- A unit that is held lets the thread wait. -/
theorem State.sfuOp_held (passes : s.sfuDenied (tidKey t) (s.thread (tidKey t) t.th.val).region (wOp w) = none)
    (held : (s.site (tidKey t)).sfu.holder ≠ none) : (s.issued (tidKey t) t.th.val).sfuOp (tidKey t) t.th.val w =
      (s.issued (tidKey t) t.th.val).onThread (tidKey t) t.th.val fun x => { x with state := .stallSfu (BitVec.ofNat 64 w) } := by
  unfold State.sfuOp
  rw [State.thread_issued, State.sfuDenied_issued, passes, State.holder_issued]
  exact if_pos (Option.isSome_iff_ne_none.2 held)

/-- A free unit takes the word. -/
theorem State.sfuOp_free (passes : s.sfuDenied (tidKey t) (s.thread (tidKey t) t.th.val).region (wOp w) = none)
    (free : (s.site (tidKey t)).sfu.holder = none) : (s.issued (tidKey t) t.th.val).sfuOp (tidKey t) t.th.val w =
      if wOp w = 0xA8 then (s.issued (tidKey t) t.th.val).rowStart (tidKey t) t.th.val w
      else (s.issued (tidKey t) t.th.val).sfuElement (tidKey t) t.th.val w := by
  unfold State.sfuOp
  rw [State.thread_issued, State.sfuDenied_issued, passes, State.holder_issued, free]
  rfl

end Op

end Sys2Proof.Machine
end

section
/-!
CERTIFICATE. Special functions: results on their way, modes, a held unit.
-/
namespace Sys2Proof.Machine

/-- What an elementwise instruction that the unit takes gives its thread. -/
def State.elementSent (s : State) (t : Tid) (fn : SfuFn) (rd ra : Reg) (f32 : Bool) (x : Thread) : Thread :=
  { x with
    pc := x.pc + 8
    outstanding := x.outstanding ++ [{
      reg := rd.toNat, pair := false, sfu := true,
      value := some (BitVec.ofNat 64
        (if s.image.sepia then sfuSepia fn f32 (s.reg t ra).toNat else sfuFull s.free fn f32 (s.reg t ra).toNat)) }] }

section Elementwise
variable {s : State} {t : Tid} {fn : SfuFn} {rd ra : Reg} {f32 : Bool}
  (is : Issues s t (enc fn.opcode rd.toNat ra.toNat 0 0 (if f32 then 1 else 0)) [rd.toNat, ra.toNat])
include is

theorem State.sfu1_issues : s.sfu1 t fn rd ra f32 = (s.issued (tidKey t) t.th.val).sfuOp (tidKey t) t.th.val
    (enc fn.opcode rd.toNat ra.toNat 0 0 (if f32 then 1 else 0)) := by
  have flag : b2n f32 = if f32 then 1 else 0 := rfl
  unfold State.sfu1
  rw [flag]
  exact Issues.runs is _

theorem State.sfu1_sends (takes : UnitTakes s t fn) : s.sfu1 t fn rd ra f32 =
    { (s.issued (tidKey t) t.th.val).onThread (tidKey t) t.th.val (s.elementSent t fn rd ra f32) with free := s.free + 1 } := by
  have code := fn.opcode_lt
  have imm : (if f32 then 1 else 0) < 2 ^ 32 := by split <;> decide
  have flag : bitAt (if f32 then 1 else 0) 0 = f32 := by cases f32 <;> rfl
  have ⟨_, _, free, _, _⟩ := takes
  have passes := UnitTakes.undenied takes
  rw [← wOp_enc (rd := rd.toNat) (ra := ra.toNat) (rb := 0) (rc := 0) (imm := if f32 then 1 else 0) code] at passes
  rw [State.sfu1_issues is, State.sfuOp_free passes free, wOp_enc code, if_neg fn.opcode_ne_softmax]
  unfold State.sfuElement
  simp only [State.thread_issued, wOp_enc code, wRd_enc code rd.isLt, wRa_enc code rd.isLt ra.isLt,
    wImm_enc code rd.isLt ra.isLt (by decide : 0 < 64) (by decide : 0 < 64) imm, sfuFnOf_opcode, flag]
  rfl

end Elementwise

/-- An elementwise instruction of a function that the unit takes. -/
theorem functionForm_of_exec {op : Nat} {fn : SfuFn} {c : Tid → Reg → Reg → Bool → Instr} (code : fn.opcode = op)
    (run : ∀ t rd ra f32 s, exec (c t rd ra f32) s = .next (s.effect (·.sfu1 t fn rd ra f32))) : FunctionForm op fn c := by
  subst code
  intro s t rd ra f32 is takes
  exact completes_of_effect (run ..) (State.sfu1_sends is takes)
    ⟨thread_issued_onThread s t (s.free + 1) _, onlyThread_onThread s t (s.free + 1) _⟩

section Refusals
variable {s : State} {t : Tid} {fn : SfuFn} {rd ra : Reg} {f32 : Bool} {c : Instr} {code : Code}
  (run : exec c s = .next (s.effect (·.sfu1 t fn rd ra f32)))
  (is : Issues s t (enc fn.opcode rd.toNat ra.toNat 0 0 (if f32 then 1 else 0)) [rd.toNat, ra.toNat])
include run is

/-- An elementwise instruction that the unit denies traps. -/
theorem function_traps (fresh : NoTrap s t)
    (denied : s.sfuDenied (tidKey t) (s.thread (tidKey t) t.th.val).region fn.opcode = some (code, 0)) :
    Completes c s fun u => TrapsWith s u t code := by
  rw [← wOp_enc (rd := rd.toNat) (ra := ra.toNat) (rb := 0) (rc := 0) (imm := if f32 then 1 else 0) fn.opcode_lt] at denied
  exact completes_of_effect run ((State.sfu1_issues is).trans (State.sfuOp_denied denied)) (trapsWith_trap is fresh code 0)

/-- An elementwise instruction that meets a held unit waits for it. -/
theorem function_waits (passes : s.sfuDenied (tidKey t) (s.thread (tidKey t) t.th.val).region fn.opcode = none)
    (held : (s.site (tidKey t)).sfu.holder ≠ none) : Completes c s fun u =>
      ∃ w, u.thread (tidKey t) t.th.val = { s.thread (tidKey t) t.th.val with state := .stallSfu w } ∧ OnlyThread s u t := by
  rw [← wOp_enc (rd := rd.toNat) (ra := ra.toNat) (rb := 0) (rc := 0) (imm := if f32 then 1 else 0) fn.opcode_lt] at passes
  exact completes_of_effect run ((State.sfu1_issues is).trans (State.sfuOp_held passes held))
    ⟨_, thread_issued_onThread s t s.free _, onlyThread_onThread s t s.free _⟩

end Refusals

/-- A result that has come is written to its register. -/
theorem sfuResult_writes {s : State} {t : Tid} {rd : Reg} {p : Pending} {v : Word64} (on : s.fabricOn = true) (reg : p.reg = rd.toNat)
    (single : p.pair = false) (sfu : p.sfu = true) (value : p.value = some v) (due : p.due ≤ s.runSlots)
    (only : (s.thread (tidKey t) t.th.val).outstanding = [p]) : Completes (.sfuResult t rd) s fun u =>
      (u.thread (tidKey t) t.th.val).reg rd.toNat = v.setWidth 32 ∧ (u.thread (tidKey t) t.th.val).outstanding = [] ∧
      (∀ n, n ≠ rd.toNat → (u.thread (tidKey t) t.th.val).reg n = (s.thread (tidKey t) t.th.val).reg n) ∧ u.mem = s.mem := by
  let x := s.thread (tidKey t) t.th.val
  have came : x.outstanding.find? (fun p => p.reg = rd.toNat && p.sfu == true && p.value.isSome && p.due ≤ s.runSlots) = some p := by
    rw [only]
    simp [reg, sfu, value, due]
  have written : (s.returnTo t rd true).thread (tidKey t) t.th.val = { x.setReg rd.toNat (v.setWidth 32) with outstanding := [] } := by
    rw [State.returnTo, State.thread_onThread, came]
    simp only [value, single, reg, only, Option.getD_some, Bool.false_eq_true, if_false, List.erase_cons_head, BitVec.ofNat_toNat, x]
  refine completes_of_effect rfl (s.whenP_pos _ on) ?_
  have thread : (s.effect fun _ => s.returnTo t rd true).thread (tidKey t) t.th.val = _ := written
  rw [thread]
  exact ⟨Tab.get_set_same .., rfl, fun n other => Tab.get_set_other _ _ _ other.symm, rfl⟩

/-- Settles O30: one lemma for every elementwise instruction that the unit takes, one for each way in which it is not taken, and one for a
result. -/
theorem specialFunctionForms : Obligations.SpecialFunctionForms := by
  refine ⟨functionForm_of_exec rfl fun _ _ _ _ _ => rfl, functionForm_of_exec rfl fun _ _ _ _ _ => rfl,
    functionForm_of_exec rfl fun _ _ _ _ _ => rfl, functionForm_of_exec rfl fun _ _ _ _ _ => rfl, functionForm_of_exec rfl fun _ _ _ _ _ => rfl, functionForm_of_exec rfl fun _ _ _ _ _ => rfl,
    functionForm_of_exec rfl fun _ _ _ _ _ => rfl, functionForm_of_exec rfl fun _ _ _ _ _ => rfl, ?recip, ?geluErf, ?result⟩
  case recip =>
    intro s t rd ra f32 is fresh
    refine ⟨fun scalar => function_traps (fn := .recip) rfl is fresh ?_, fun vector sound minimal => function_traps (fn := .recip) rfl is fresh ?_,
      fun vector sound held full => function_waits (fn := .recip) rfl is ?_ held⟩
    · rw [State.sfuDenied, tidKey_mod]
      exact if_pos scalar
    · rw [State.sfuDenied_of_unit vector sound, (s.minimal_iff _).2 minimal]
      rfl
    · rw [State.sfuDenied_of_unit vector sound, State.minimal_false full]
      rfl
  case geluErf =>
    intro s t rd ra f32 is fresh vector sound sepia full
    refine function_traps (fn := .geluErf) rfl is fresh ?_
    rw [State.sfuDenied_of_unit vector sound, State.minimal_false full, sepia]
    rfl
  case result =>
    intro s t rd p v on reg single sfu value due only
    exact sfuResult_writes on reg single sfu value due only

end Sys2Proof.Machine
end

section
/-!
SUPPORT. A list of bytes written to a list of addresses, where no error is stored.
-/
namespace Sys2Proof.Machine

theorem mem_zip_getD {l : List Nat} {bs : List Byte} (same : bs.length = l.length) {i : Nat} (inside : i < l.length) :
    (l.getD i 0, bs.getD i 0) ∈ l.zip bs := by
  have within : i < (l.zip bs).length := by
    rw [List.length_zip]
    omega
  have entry : (l.zip bs)[i] = (l.getD i 0, bs.getD i 0) := by
    simp [List.getElem_zip, List.getD_eq_getElem?_getD, inside, same]
  exact entry ▸ List.getElem_mem within

section Bytes
variable {m : Mem} {l : List Nat} {bs : List Byte}

theorem Mem.read_writeBytes (clean : m.marks = []) (once : l.Nodup) (same : bs.length = l.length) {i : Nat} (inside : i < l.length) (n : Nat) :
    (m.writeCells (l.zip bs)).1.read n (l.getD i 0) = bs.getD i 0 :=
  Mem.read_writeCells_same clean (by rwa [List.map_fst_zip (Nat.le_of_eq same.symm)]) (mem_zip_getD same inside) n

theorem Mem.read_writeBytes_other {a : Nat} (outside : a ∉ l) (n : Nat) : (m.writeCells (l.zip bs)).1.read n a = m.read n a :=
  Mem.read_writeCells_other _ _ _ _ fun _ listed same => outside (same ▸ (List.of_mem_zip listed).1)

end Bytes

end Sys2Proof.Machine
end

section
/-!
SUPPORT. The result of a row, and what the writes of its outputs leave (15 R594-R596).
-/
namespace Sys2Proof.Machine

theorem length_rowElems (size n : Nat) (l : List Byte) : (rowElems size n l).length = n := by
  induction n generalizing l with
  | zero => rfl
  | succ n ih => rw [rowElems, List.length_cons, ih]

theorem length_rowCompute_out (k : Nat) (row : Row) (xs : List Nat) : (rowCompute k row xs).out.length = xs.length := by
  unfold rowCompute
  extract_lets gi go nan ts sat top
  split
  · simp
  · next ps sum _ => simp [ps, ts]

theorem RowResult.length_bytes (x : RowResult) : x.bytes.length = 32 := by simp [RowResult.bytes]

/-- What the stores of a row in its task's fold digest leave: all but the regions' records, and of those the event rings. -/
structure State.FoldOnly (s t : State) : Prop where
  only : s.RegionsOnly t
  evt : s.Keeps RegionSched.evt t

theorem State.onSlot_keeps_evt (s : State) (r q : Nat) (seq : Word) (f : Slot → Slot) : s.Keeps RegionSched.evt (s.onSlot r q seq f) :=
  s.onSched_keeps r

theorem State.foldStores_only {α : Type} (key : OpKey) (va n v : α → Nat) (l : List α) (s : State) :
    s.FoldOnly (l.foldl (fun s a => s.foldStore key (va a) (n a) (v a) false) s) :=
  List.foldlRecOn l _ ⟨.refl s, .refl s⟩ fun t h _ _ => ⟨h.only.trans rfl, h.evt.trans (t.onSlot_keeps_evt ..)⟩

theorem State.FoldOnly.mem {s t : State} (h : s.FoldOnly t) : t.mem = s.mem := by rw [h.only]

/-- Outputs that fill their destination are written there. -/
theorem State.rowOutputs_writes (s : State) (key : OpKey) (row : Row) (dst : List Nat) (res : RowResult) {m : Nat} (all : res.out.length = m)
    (clean : s.mem.marks = []) : ∃ u, s.rowOutputs key row dst res m = (u, none) ∧
      ({ s with mem := (s.mem.writeCells (dst.zip (res.out.flatMap (leBytes row.outSize)))).1 } : State).FoldOnly u := by
  have taken : res.out.take m = res.out := List.take_of_length_le (Nat.le_of_eq all)
  unfold State.rowOutputs
  have whole := s.mem.writeCells_clean (dst.zip (res.out.flatMap (leBytes row.outSize))) clean
  rw [taken]
  dsimp only
  rw [whole.2]
  generalize (s.mem.writeCells _).1 = written
  refine ⟨_, rfl, ?_⟩
  exact State.foldStores_only key (fun (v : Nat × Nat) => row.dst + v.2 * row.outSize) (fun _ => row.outSize) (fun v => v.1) res.out.zipIdx
    { s with mem := written }

theorem State.rowAreas_sites (s : State) (x : Tab Site) (k r : Nat) (row : Row) :
    ({ s with fab := { s.fab with sites := x } } : State).rowAreas k r row = s.rowAreas k r row := rfl

/-- What a row shows of its site: the threads, who holds the unit, and the rows counted. -/
def Site.rowView (x : Site) : Tab Thread × Option (Nat × Nat × Nat × Nat × Word) × BitVec 16 := (x.threads, x.sfu.holder, x.sfu.rows)

/-- A saturated row is counted and raised; where the event ring lies outside, no byte of memory changes. -/
theorem State.raiseRange_only (s : State) (k r d : Nat) (outside : EventsOutside s r) :
    (((s.onSite k fun q => { q with sfu := { q.sfu with rangeEvents := satAdd q.sfu.rangeEvents 1 } }).regionEvent r 2 Codes.SFU_RANGE d).site k).rowView =
      (s.site k).rowView ∧
    ((s.onSite k fun q => { q with sfu := { q.sfu with rangeEvents := satAdd q.sfu.rangeEvents 1 } }).regionEvent r 2 Codes.SFU_RANGE d).mem = s.mem := by
  let counted := s.onSite k fun q => { q with sfu := { q.sfu with rangeEvents := satAdd q.sfu.rangeEvents 1 } }
  have raised := counted.regionEvent_only r 2 Codes.SFU_RANGE d
  obtain ⟨-, mem⟩ := counted.regionEvent_staysOutside r 2 Codes.SFU_RANGE d outside
  exact ⟨(congrArg Site.rowView (raised.site k)).trans (s.site_onSite_of k k Site.rowView fun _ => rfl), mem⟩

/-- What is asked of a row that completes: its areas, that no word is damaged, and that its outputs and its record fill their places. -/
structure RowFits (s : State) (k : Nat) (x : Thread) (row : Row) (src dst rec_ : List Nat) : Prop where
  areas : s.rowAreas k x.region row = .ok (src, dst, rec_)
  once : (dst ++ rec_).Nodup
  clean : s.mem.marks = []
  outside : EventsOutside s x.region
  out : dst.length = row.n * row.outSize
  record : rec_.length = 32

/-- The result of a row in memory. -/
def State.rowResult (s : State) (row : Row) (src : List Nat) : RowResult :=
  rowCompute s.free row (rowElems row.inSize row.n (src.map (s.mem.read s.free)))

/-- Memory with the outputs and the record of a row. -/
def State.rowMem (s : State) (row : Row) (src dst rec_ : List Nat) : Mem :=
  ((s.mem.writeCells (dst.zip ((s.rowResult row src).out.flatMap (leBytes row.outSize)))).1.writeCells (rec_.zip (s.rowResult row src).bytes)).1

section Finish
variable {s : State} {k th w : Nat} {row : Row} {src dst rec_ : List Nat}

theorem State.rowFinish_writes (word : row = (s.thread k th).row w) (fits : RowFits s k (s.thread k th) row src dst rec_) :
    ∃ u : State, s.rowFinish k th w = u.advance k th ∧ u.mem = s.rowMem row src dst rec_ ∧
      (u.site k).rowView = (Tab.modify {} (s.site k).threads th fun y => { y with state := .running }, none, (s.site k).sfu.rows + 1) := by
  subst word
  unfold State.rowFinish
  extract_lets x r row freed running
  have areas : running.rowAreas k r row = .ok (src, dst, rec_) := (State.rowAreas_sites s _ k r row).trans fits.areas
  have whole : running.mem.bad src = none := by simp [Mem.bad, show running.mem.marks = [] from fits.clean]
  rw [areas]
  dsimp -zeta only
  rw [whole]
  dsimp -zeta only
  extract_lets res o bumped cells written counted folded ranged raised
  have fills : res.out.length = row.n := by rw [length_rowCompute_out, length_rowElems]
  obtain ⟨stored, outputs, storing⟩ := running.rowOutputs_writes x.key row dst res fills fits.clean
  have first : o = (stored, none) := outputs
  have bytes : bumped.mem = (s.mem.writeCells (dst.zip (res.out.flatMap (leBytes row.outSize)))).1 :=
    (congrArg (fun o : State × Option Nat => o.1.mem) first).trans storing.mem
  have still : bumped.mem.marks = [] := by
    rw [bytes]
    exact (s.mem.writeCells_clean _ fits.clean).1
  have stands : cells.2 = none := (bumped.mem.writeCells_clean _ still).2
  rw [first, stands]
  dsimp -zeta only
  have folding : counted.FoldOnly folded := State.foldStores_only x.key (fun i => row.rec_ + 8 * i) (fun _ => 8) (fun i => leAt res.bytes (8 * i) 8) _ _
  have view : (folded.site k).rowView = (Tab.modify {} (s.site k).threads th fun y => { y with state := .running }, none, (s.site k).sfu.rows + 1) := by
    have site : written.site k = running.site k :=
      (congrArg (fun o : State × Option Nat => o.1.site k) first).trans (storing.only.site k)
    rw [folding.only.site]
    unfold counted
    rw [State.site_onSite, site]
    unfold running State.onThread freed
    rw [State.site_onSite, State.site_onSite]
    rfl
  have evt : (folded.region r).sched.evt = (s.region r).sched.evt := (folding.evt.sched r).trans
    ((congrArg (fun o : State × Option Nat => (o.1.region r).sched.evt) first).trans (storing.evt.sched r))
  have outside : EventsOutside folded r := by
    unfold EventsOutside
    rw [evt]
    exact fits.outside
  have mem : folded.mem = s.rowMem row src dst rec_ := folding.mem.trans (congrArg (fun m => (Mem.writeCells m (rec_.zip res.bytes)).1) bytes)
  refine ⟨raised, rfl, ?_⟩
  unfold raised
  split
  · exact ⟨mem, view⟩
  · have ⟨seen, stays⟩ := folded.raiseRange_only k r (k % 256 + k / 256 * 2 ^ 8 + res.sat % 2 ^ 16 * 2 ^ 9) outside
    exact ⟨stays.trans mem, seen.trans view⟩

/-- The bytes of a row's outputs fill its destination. -/
theorem State.length_rowBytes (s : State) (row : Row) (src : List Nat) :
    ((s.rowResult row src).out.flatMap (leBytes row.outSize)).length = row.n * row.outSize := by
  rw [length_flatMap_of_length_eq (n := row.outSize) fun v => length_leBytes _ v, State.rowResult, length_rowCompute_out, length_rowElems]

section Memory
variable {x : Thread} (fits : RowFits s k x row src dst rec_)
include fits

theorem RowFits.read_dst {j : Nat} (inside : j < dst.length) (n : Nat) : (s.rowMem row src dst rec_).read n (dst.getD j 0) =
    ((s.rowResult row src).out.flatMap (leBytes row.outSize)).getD j 0 := by
  obtain ⟨once, -, apart⟩ := List.nodup_append.1 fits.once
  have listed : dst.getD j 0 ∈ dst := by
    rw [List.getD_eq_getElem?_getD, List.getElem?_eq_getElem inside]
    exact List.getElem_mem inside
  rw [State.rowMem, Mem.read_writeBytes_other fun here => apart _ listed _ here rfl]
  exact Mem.read_writeBytes fits.clean once ((s.length_rowBytes row src).trans fits.out.symm) inside n

theorem RowFits.read_record {j : Nat} (inside : j < 32) (n : Nat) :
    (s.rowMem row src dst rec_).read n (rec_.getD j 0) = (s.rowResult row src).bytes.getD j 0 := by
  obtain ⟨-, once, -⟩ := List.nodup_append.1 fits.once
  exact Mem.read_writeBytes (s.mem.writeCells_clean _ fits.clean).1 once ((RowResult.length_bytes _).trans fits.record.symm)
    (by rw [fits.record]; exact inside) n

omit fits in
theorem State.read_rowMem_other {a : Nat} (outside : a ∉ dst ++ rec_) (n : Nat) : (s.rowMem row src dst rec_).read n a = s.mem.read n a := by
  rw [List.mem_append, not_or] at outside
  rw [State.rowMem, Mem.read_writeBytes_other outside.2, Mem.read_writeBytes_other outside.1]

end Memory

end Finish

end Sys2Proof.Machine
end

section
/-!
CERTIFICATE. A SOFTMAX writes its outputs and its record and nothing else.
-/
namespace Sys2Proof.Machine

theorem State.sfu_onThread (s : State) (k th : Nat) (f : Thread → Thread) : ((s.onThread k th f).site k).sfu = (s.site k).sfu := by
  rw [State.site_onThread]

theorem State.sfu_advance (s : State) (k th : Nat) : ((s.advance k th).site k).sfu = (s.site k).sfu := s.sfu_onThread k th _

theorem State.thread_advance (s : State) (k th : Nat) : (s.advance k th).thread k th = { s.thread k th with pc := (s.thread k th).pc + 8 } :=
  s.thread_onThread k th _

/-- A free unit takes a SOFTMAX that it does not deny. -/
theorem State.sfuOp_softmax {s : State} {k th w : Nat} (passes : s.sfuDenied k (s.thread k th).region (wOp w) = none)
    (free : (s.site k).sfu.holder = none) (op : wOp w = 0xA8) : s.sfuOp k th w = s.rowStart k th w := by
  unfold State.sfuOp
  rw [passes, free]
  exact if_pos op

/-- A row of no elements is counted, and its thread goes on. -/
theorem State.rowStart_empty {s : State} {k th w : Nat} (empty : ((s.thread k th).row w).n = 0) : s.rowStart k th w =
    (s.onSite k fun q => { q with sfu := { q.sfu with rows := q.sfu.rows + 1 } }).advance k th := if_pos empty

theorem State.rowStart_holds {s : State} {k th w : Nat} (some_ : ((s.thread k th).row w).n ≠ 0) {l : List Nat × List Nat × List Nat}
    (areas : s.rowAreas k (s.thread k th).region ((s.thread k th).row w) = .ok l) : s.rowStart k th w =
      (s.onSite k fun q => { q with sfu := { q.sfu with holder := some (th, wRa w, wRb w, wRc w, BitVec.ofNat 32 (wImm w)) } }).onThread k th
        fun y => { y with state := .softmax } := by
  unfold State.rowStart
  dsimp only
  rw [if_neg some_, areas]

/-- An update of what a site holds of its unit leaves the site's threads. -/
theorem State.thread_onSfu (s : State) (k j th : Nat) (f : Sfu → Sfu) :
    (s.onSite k fun q => { q with sfu := f q.sfu }).thread j th = s.thread j th := by
  rw [State.thread, s.site_onSite_of k j (f := fun q => { q with sfu := f q.sfu }) Site.threads fun _ => rfl, State.thread]

/-- The word of a SOFTMAX (09 R321). -/
def softmaxWord (ra rb rc : Reg) (n : BitVec 16) (i o m : Bool) : Nat :=
  enc 0xA8 0 ra.toNat rb.toNat rc.toNat (n.toNat + (if i then 2 ^ 16 else 0) + (if o then 2 ^ 17 else 0) + (if m then 2 ^ 18 else 0))

section Word
variable (ra rb rc : Reg) (n : BitVec 16) (i o m : Bool)

theorem softmaxWord_imm : (wImm (softmaxWord ra rb rc n i o m)) % 65536 = n.toNat ∧ wImm (softmaxWord ra rb rc n i o m) < 2 ^ 32 := by
  have small := n.isLt
  have bounds : n.toNat + (if i then 2 ^ 16 else 0) + (if o then 2 ^ 17 else 0) + (if m then 2 ^ 18 else 0) < 2 ^ 32 := by
    split <;> split <;> split <;> omega
  rw [softmaxWord, wImm_enc (by decide) (by decide) ra.isLt rb.isLt rc.isLt bounds]
  refine ⟨?_, bounds⟩
  split <;> split <;> split <;> omega

theorem softmaxWord_op : wOp (softmaxWord ra rb rc n i o m) = 0xA8 := wOp_enc (by decide)

theorem row_softmaxWord (x : Thread) : (x.row (softmaxWord ra rb rc n i o m)).n = n.toNat := (softmaxWord_imm ra rb rc n i o m).1

end Word

section Issue
variable {s : State} {t : Tid} {ra rb rc : Reg} {n : BitVec 16} {i o m : Bool}
  (is : Issues s t (softmaxWord ra rb rc n i o m) [ra.toNat, ra.toNat + 1, rb.toNat, rb.toNat + 1, rc.toNat, rc.toNat + 1])
  (evenA : ra.toNat % 2 = 0) (evenB : rb.toNat % 2 = 0) (evenC : rc.toNat % 2 = 0) (takes : UnitTakes s t .exp2)
  (full : ∀ d, s.regionDef? (s.thread (tidKey t) t.th.val).region = some d → d.sfuMinimal = false)
include is evenA evenB evenC takes full

/-- A SOFTMAX that the unit takes starts its row. -/
theorem completes_softmax {P : State → Prop} {u : State}
    (step : (s.issued (tidKey t) t.th.val).rowStart (tidKey t) t.th.val (softmaxWord ra rb rc n i o m) = u) (given : P (s.effect fun _ => u)) :
    Completes (.softmax t ra rb rc n i o m) s P := by
  obtain ⟨vector, sound, free, -, -⟩ := takes
  have word : enc 0xA8 0 ra.toNat rb.toNat rc.toNat (n.toNat + b2n i * 2 ^ 16 + b2n o * 2 ^ 17 + b2n m * 2 ^ 18) = softmaxWord ra rb rc n i o m := by
    cases i <;> cases o <;> cases m <;> rfl
  have legal : (ra.toNat % 2 = 0 && rb.toNat % 2 = 0 && rc.toNat % 2 = 0) = true := by simp [evenA, evenB, evenC]
  have passes : s.sfuDenied (tidKey t) (s.thread (tidKey t) t.th.val).region (wOp (softmaxWord ra rb rc n i o m)) = none := by
    rw [softmaxWord_op, State.sfuDenied_of_unit vector sound, State.minimal_false full]
    rfl
  have run : exec (.softmax t ra rb rc n i o m) s = .next (s.effect (·.issueAs t (softmaxWord ra rb rc n i o m) true
      (pairRegs ra.toNat ++ pairRegs rb.toNat ++ pairRegs rc.toNat) fun s => s.sfuOp (tidKey t) t.th.val (softmaxWord ra rb rc n i o m))) := by
    rw [← word, ← legal]
    rfl
  refine completes_of_effect run ((Issues.runs is _).trans ?_) given
  rw [State.sfuOp_free passes free, if_pos (softmaxWord_op ..), step]

theorem softmax_empty (empty : n = 0) : Completes (.softmax t ra rb rc n i o m) s fun u =>
    u.thread (tidKey t) t.th.val = { s.thread (tidKey t) t.th.val with pc := (s.thread (tidKey t) t.th.val).pc + 8 } ∧
    (u.site (tidKey t)).sfu = { (s.site (tidKey t)).sfu with rows := (s.site (tidKey t)).sfu.rows + 1 } ∧ u.mem = s.mem := by
  have none_ : (((s.issued (tidKey t) t.th.val).thread (tidKey t) t.th.val).row (softmaxWord ra rb rc n i o m)).n = 0 := by
    rw [row_softmaxWord, empty]
    rfl
  refine completes_softmax is evenA evenB evenC takes full (State.rowStart_empty none_) ⟨?_, ?_, rfl⟩
  · refine (State.thread_advance ..).trans ?_
    rw [State.thread_onSfu _ _ _ _ fun q => { q with rows := q.rows + 1 }, State.thread_issued]
  · rw [State.effect_site, State.sfu_advance, State.site_onSite, State.holder_issued]

theorem softmax_holds {l : List Nat × List Nat × List Nat} (some_ : n ≠ 0)
    (areas : s.rowAreas (tidKey t) (s.thread (tidKey t) t.th.val).region
      ((s.thread (tidKey t) t.th.val).row (softmaxWord ra rb rc n i o m)) = .ok l) : Completes (.softmax t ra rb rc n i o m) s fun u =>
    u.thread (tidKey t) t.th.val = { s.thread (tidKey t) t.th.val with state := .softmax } ∧
    (∃ x, (u.site (tidKey t)).sfu.holder = some (t.th.val, ra.toNat, rb.toNat, rc.toNat, x) ∧ x.toNat % 65536 = n.toNat ∧
      (u.site (tidKey t)).sfu = { (s.site (tidKey t)).sfu with holder := some (t.th.val, ra.toNat, rb.toNat, rc.toNat, x) }) ∧
    u.mem = s.mem := by
  have filled : (((s.issued (tidKey t) t.th.val).thread (tidKey t) t.th.val).row (softmaxWord ra rb rc n i o m)).n ≠ 0 := by
    rw [row_softmaxWord]
    exact fun zero => some_ (BitVec.eq_of_toNat_eq zero)
  have placed : (s.issued (tidKey t) t.th.val).rowAreas (tidKey t) ((s.issued (tidKey t) t.th.val).thread (tidKey t) t.th.val).region
      (((s.issued (tidKey t) t.th.val).thread (tidKey t) t.th.val).row (softmaxWord ra rb rc n i o m)) = .ok l := by
    rw [State.thread_issued]
    exact areas
  have regs : wRa (softmaxWord ra rb rc n i o m) = ra.toNat ∧ wRb (softmaxWord ra rb rc n i o m) = rb.toNat ∧
      wRc (softmaxWord ra rb rc n i o m) = rc.toNat :=
    ⟨wRa_enc (by decide) (by decide) ra.isLt, wRb_enc (by decide) (by decide) ra.isLt rb.isLt,
      wRc_enc (by decide) (by decide) ra.isLt rb.isLt rc.isLt⟩
  obtain ⟨count, few⟩ := softmaxWord_imm ra rb rc n i o m
  have started := State.rowStart_holds filled placed
  rw [regs.1, regs.2.1, regs.2.2] at started
  let holder : Nat × Nat × Nat × Nat × Word := (t.th.val, ra.toNat, rb.toNat, rc.toNat, BitVec.ofNat 32 (wImm (softmaxWord ra rb rc n i o m)))
  have sfu : (((((s.issued (tidKey t) t.th.val).onSite (tidKey t) fun q => { q with sfu := { q.sfu with holder := some holder } }).onThread (tidKey t) t.th.val
      fun y => { y with state := .softmax })).site (tidKey t)).sfu = { (s.site (tidKey t)).sfu with holder := some holder } := by
    rw [State.sfu_onThread, State.site_onSite, State.holder_issued]
  refine completes_softmax is evenA evenB evenC takes full started ⟨?_, ⟨_, congrArg Sfu.holder sfu, ?_, sfu⟩, rfl⟩
  · refine (State.thread_onThread ..).trans ?_
    rw [State.thread_onSfu _ _ _ _ fun q => { q with holder := some holder }, State.thread_issued]
  · rw [BitVec.toNat_ofNat, Nat.mod_eq_of_lt few, count]

end Issue

theorem State.thread_of_modify {u : State} {k th : Nat} {l : Tab Thread} {f : Thread → Thread} (threads : (u.site k).threads = Tab.modify {} l th f) :
    u.thread k th = f (Tab.get {} l th) := by
  rw [State.thread, threads, Tab.get_modify_same]

theorem softmaxComplete_writes {s : State} {t : Tid} {src dst rec_ : List Nat} {row : Row} {h : Nat × Nat × Nat × Nat × Word}
    (on : s.fabricOn = true) (runs : s.taskRuns (tidKey t) t.th.val = true) (held : (s.site (tidKey t)).sfu.holder = some h) (mine : h.1 = t.th.val)
    (word : row = (s.thread (tidKey t) t.th.val).row (rowWord h)) (fits : RowFits s (tidKey t) (s.thread (tidKey t) t.th.val) row src dst rec_) :
    Completes (.softmaxComplete t) s fun u =>
      (∀ j, j < dst.length → ∀ k, u.mem.read k (dst.getD j 0) = ((s.rowResult row src).out.flatMap (leBytes row.outSize)).getD j 0) ∧
      (∀ j, j < 32 → ∀ k, u.mem.read k (rec_.getD j 0) = (s.rowResult row src).bytes.getD j 0) ∧
      (∀ k a, a ∉ dst ++ rec_ → u.mem.read k a = s.mem.read k a) ∧
      u.thread (tidKey t) t.th.val =
        { s.thread (tidKey t) t.th.val with state := .running, pc := (s.thread (tidKey t) t.th.val).pc + 8 } ∧
      (u.site (tidKey t)).sfu.holder = none ∧ (u.site (tidKey t)).sfu.rows = (s.site (tidKey t)).sfu.rows + 1 := by
  obtain ⟨u, ends, mem, view⟩ := State.rowFinish_writes word fits
  simp only [Site.rowView, Prod.mk.injEq] at view
  obtain ⟨threads, holder, rows⟩ := view
  have thread := State.thread_of_modify threads
  refine completes_of_effect (t := u.advance (tidKey t) t.th.val) rfl ?_ ⟨fun j inside k => ?_, fun j inside k => ?_, fun k a outside => ?_, ?_, ?_, ?_⟩
  · rw [held]
    exact (s.whenP_pos _ (by simp [on, mine, runs])).trans ends
  · exact (congrArg (fun m => Mem.read m k _) mem).trans (fits.read_dst inside k)
  · exact (congrArg (fun m => Mem.read m k _) mem).trans (fits.read_record inside k)
  · exact (congrArg (fun m => Mem.read m k _) mem).trans (State.read_rowMem_other outside k)
  · exact (State.thread_advance ..).trans (by rw [thread]; rfl)
  · rw [State.effect_site, State.sfu_advance, holder]
  · rw [State.effect_site, State.sfu_advance, rows]

/-- A freed unit takes the one row of no elements that waits for it. -/
theorem sfuUnitFree_resumes {s : State} {t : Tid} {x : SiteRef} {ra rb rc : Reg} {n : BitVec 16} {i o m : Bool} (on : s.fabricOn = true)
    (free : (s.site (siteRefKey x)).sfu.holder = none) (here : siteRefKey x = tidKey t)
    (waits : s.stalledSfu (tidKey t) = [(t.th.val, softmaxWord ra rb rc n i o m)]) (runs : s.taskRuns (tidKey t) t.th.val = true) (empty : n = 0)
    (vector : siteType t.site.val = .vector) (sound : (s.site (tidKey t)).sfuFault = none)
    (full : ∀ d, s.regionDef? (s.thread (tidKey t) t.th.val).region = some d → d.sfuMinimal = false) :
    Completes (.sfuUnitFree x) s fun u =>
      u.thread (tidKey t) t.th.val =
        { s.thread (tidKey t) t.th.val with state := .running, pc := (s.thread (tidKey t) t.th.val).pc + 8 } ∧
      (u.site (tidKey t)).sfu.holder = none ∧ u.mem = s.mem := by
  generalize word : softmaxWord ra rb rc n i o m = w at waits
  let noted := s.onSite (tidKey t) fun q => { q with lastIssued := t.th.val }
  let resumed := noted.onThread (tidKey t) t.th.val fun y => { y with state := .running }
  have op : wOp w = 0xA8 := word ▸ softmaxWord_op ra rb rc n i o m
  have kept : noted.thread (tidKey t) t.th.val = s.thread (tidKey t) t.th.val := by
    rw [State.thread, s.site_onSite_of (tidKey t) (tidKey t) (f := fun q => { q with lastIssued := t.th.val }) Site.threads fun _ => rfl, State.thread]
  have thread : resumed.thread (tidKey t) t.th.val = { s.thread (tidKey t) t.th.val with state := .running } := by
    rw [State.thread_onThread, kept]
  have fault : (resumed.site (tidKey t)).sfuFault = none := by
    rw [State.site_onThread, State.site_onSite]
    exact sound
  have unheld : (resumed.site (tidKey t)).sfu.holder = none := by
    rw [State.sfu_onThread, State.site_onSite, ← here]
    exact free
  have passes : resumed.sfuDenied (tidKey t) (resumed.thread (tidKey t) t.th.val).region (wOp w) = none := by
    rw [thread, op, State.sfuDenied_of_unit vector fault, State.minimal_false (s := resumed) full]
    rfl
  have none_ : ((resumed.thread (tidKey t) t.th.val).row w).n = 0 := by
    rw [← word, row_softmaxWord, empty]
    rfl
  let counted := (resumed.onSite (tidKey t) fun q => { q with sfu := { q.sfu with rows := q.sfu.rows + 1 } }).advance (tidKey t) t.th.val
  have step : resumed.sfuOp (tidKey t) t.th.val w = counted := by
    rw [State.sfuOp_softmax passes unheld op]
    exact State.rowStart_empty none_
  have turn : ((s.site (tidKey t)).sfu.holder.isSome || !s.taskRuns (tidKey t) t.th.val) = false := by
    rw [← here, free, here, runs]
    rfl
  refine completes_of_effect (t := counted) rfl ((s.whenP_pos _ on).trans ?_) ⟨?_, ?_, rfl⟩
  · rw [here]
    dsimp only
    rw [waits, List.foldl_cons, List.foldl_nil, turn]
    exact step
  · refine (State.thread_advance ..).trans ?_
    rw [State.thread_onSfu _ _ _ _ fun q => { q with rows := q.rows + 1 }, thread]
  · refine (congrArg Sfu.holder (State.sfu_advance ..)).trans ?_
    rw [State.site_onSite]
    exact unheld

/-- Settles O31: one lemma for each start of a row, one for its completion, and one for the freed unit. -/
theorem softmaxRowsAreWritten : Obligations.SoftmaxRowsAreWritten := by
  intro s t ra rb rc n i o m w src dst rec_ row h word
  subst word
  refine ⟨fun is evenA evenB evenC takes full => ⟨softmax_empty is evenA evenB evenC takes full,
    fun some_ areas => softmax_holds is evenA evenB evenC takes full some_ areas⟩, ?completes, ?resumes⟩
  case completes =>
    intro on runs held mine word areas once clean outside _ out record
    exact softmaxComplete_writes on runs held mine word ⟨areas, once, clean, outside, out, record⟩
  case resumes =>
    intro x on free here waits runs empty vector sound full
    exact sfuUnitFree_resumes on free here waits runs empty vector sound full

end Sys2Proof.Machine
end

section
/-!
SUPPORT. The graph on a vision engine, updates of its run, and what the end of a node leaves (17 R650-R656, R669).
-/
namespace Sys2Proof.Machine

/-! ## The graph on an engine -/

/-- A graph that an engine runs, with its name and its slot. -/
structure State.Runs (s : State) (die : Nat) (stereo : Bool) (k : OpKey) (sl : Slot) (v : VisRun) : Prop where
  on : s.fabricOn = true
  graph : s.graphOn die stereo = some (k, sl, v)
  found : s.slotOf k.1 k.2.1 k.2.2 = some sl
  vis : sl.run.vis = some v
  key : sl.key k.1 = k
  running : sl.op.state = .running
  engine : v.stereo = stereo

theorem OnEngine.runs {s : State} {d : DieId} {stereo : Bool} {k : OpKey} {sl : Slot} {v : VisRun} (is : OnEngine s d stereo k sl v) :
    s.Runs d.val stereo k sl v := by
  obtain ⟨on, graph, found, vis⟩ := is
  have held := graph
  unfold State.graphOn at held
  obtain ⟨r, -, inRegion⟩ := List.exists_of_findSome?_eq_some held
  obtain ⟨x, -, here⟩ := List.exists_of_findSome?_eq_some inRegion
  split at here
  · next w run =>
    split at here
    · next fits =>
      simp only [Option.some.injEq, Prod.mk.injEq] at here
      obtain ⟨rfl, rfl, rfl⟩ := here
      simp only [Bool.and_eq_true, decide_eq_true_eq, beq_iff_eq] at fits
      exact ⟨on, graph, found, vis, rfl, fits.1.1, fits.2⟩
    · cases here
  · cases here

/-! ## Updates of slots -/

/-- The states differ in the regions' slots alone, and flag updates that wait stay. -/
structure State.SlotsOnly (s t : State) : Prop where
  only : s.RegionsOnly t
  flags : s.Keeps RegionSched.flagUpds t

theorem State.SlotsOnly.refl (s : State) : s.SlotsOnly s := ⟨.refl s, .refl s⟩

theorem State.SlotsOnly.trans {s t u : State} (h : s.SlotsOnly t) (l : t.SlotsOnly u) : s.SlotsOnly u :=
  ⟨h.only.trans l.only, h.flags.trans l.flags⟩

theorem State.onSlot_slotsOnly (s : State) (r q : Nat) (seq : Word) (f : Slot → Slot) : s.SlotsOnly (s.onSlot r q seq f) :=
  ⟨rfl, s.onSched_keeps r⟩

theorem State.graphEnd_slotsOnly (s : State) (k : OpKey) (v : VisRun) : s.SlotsOnly (s.graphEnd k v) :=
  ((s.onSlot_slotsOnly ..).trans (State.onSlot_slotsOnly ..)).trans (State.onSlot_slotsOnly ..)

theorem State.frameEnd_slotsOnly (s : State) (k : OpKey) (frames : Nat) (v : VisRun) : s.SlotsOnly (s.frameEnd k frames v) := by
  unfold State.frameEnd
  extract_lets next moved
  have moving : s.SlotsOnly moved := s.onSlot_slotsOnly ..
  split
  · exact moving.trans (moved.graphEnd_slotsOnly k next)
  · exact moving

/-! ## The end of a node -/

/-- The end of a node is counted at its engine, and changes the graph's slot beside. -/
theorem State.nodeEnd_counts (s : State) (k : OpKey) (o : Op) (v : VisRun) (status : Code) (fault : BitVec 16) :
    (s.countNode v status).SlotsOnly (s.nodeEnd k o v status fault) := by
  unfold State.nodeEnd
  extract_lets counted failed ended stopped
  split
  · exact (counted.onSlot_slotsOnly ..).trans (State.graphEnd_slotsOnly ..)
  · split
    · exact counted.onSlot_slotsOnly ..
    · exact counted.frameEnd_slotsOnly ..

theorem State.countNode_form (s : State) (v : VisRun) (status : Code) : ∃ x, s.countNode v status = { s with fab := { s.fab with dies := x } } :=
  ⟨_, rfl⟩

/-- What the end of a node leaves of its engine's registers. -/
def Counted (stereo : Bool) (status : Code) (d e : DieRegs) : Prop :=
  if stereo then e.steNodes = d.steNodes + 1 ∧ e.steStatus = (if status = Codes.OK then d.steStatus else status)
  else e.featNodes = d.featNodes + 1 ∧ e.featStatus = (if status = Codes.OK then d.featStatus else status)

section NodeEnd
variable (s : State) (k : OpKey) (o : Op) (v : VisRun) (status : Code) (fault : BitVec 16)

theorem State.nodeEnd_mem : (s.nodeEnd k o v status fault).mem = s.mem := by
  rw [(s.nodeEnd_counts k o v status fault).only]
  rfl

theorem State.nodeEnd_flags (r : Nat) : ((s.nodeEnd k o v status fault).region r).sched.flagUpds = (s.region r).sched.flagUpds :=
  (s.nodeEnd_counts k o v status fault).flags.sched r

theorem State.nodeEnd_die : Counted v.stereo status (s.die v.die) ((s.nodeEnd k o v status fault).die v.die) := by
  have die : (s.nodeEnd k o v status fault).die v.die = (s.countNode v status).die v.die := by
    rw [(s.nodeEnd_counts k o v status fault).only]
    rfl
  rw [die, State.countNode, State.die_onDie, Counted]
  cases v.stereo <;> exact ⟨rfl, rfl⟩

end NodeEnd

end Sys2Proof.Machine
end

section
/-!
SUPPORT. Rows on their way through a node, where no word of memory is damaged (16 R608-R611).
-/
namespace Sys2Proof.Machine

/-- What rows on their way change: memory and the regions' records; the runs of their slots stay, and no word is damaged by them. -/
structure State.RowsMove (s t : State) : Prop where
  only : t = { s with mem := t.mem, fab := { s.fab with regions := t.fab.regions } }
  slots : s.Keeps (RegionSched.seen fun x => (x.name, x.run)) t
  clean : s.mem.marks = [] → t.mem.marks = []

theorem State.RowsMove.refl (s : State) : s.RowsMove s := ⟨rfl, .refl s, id⟩

theorem State.RowsMove.trans {s t u : State} (h : s.RowsMove t) (l : t.RowsMove u) : s.RowsMove u :=
  ⟨by rw [l.only, h.only], h.slots.trans l.slots, fun clean => l.clean (h.clean clean)⟩

theorem State.RowsMove.shared {s t : State} (h : s.RowsMove t) : t.dev.shared = s.dev.shared := by rw [h.only]

/-- A slot found before is found after, with the same run. -/
theorem State.RowsMove.slot {s t : State} (h : s.RowsMove t) {k : OpKey} {sl : Slot} (found : s.slotOf k.1 k.2.1 k.2.2 = some sl) :
    ∃ y, t.slotOf k.1 k.2.1 k.2.2 = some y ∧ y.run = sl.run := by
  have same := h.slots.slotOf_map (fun n => n.1.1 = k.2.1 && n.1.2 = k.2.2) (fun _ => rfl) k.1
  rw [found, Option.map_some, Option.map_eq_some_iff] at same
  obtain ⟨y, here, alike⟩ := same
  exact ⟨y, here, (congrArg Prod.snd alike :)⟩

/-- An update of one slot beside its name and its run. -/
theorem State.onSlot_rowsMove (s : State) (r q : Nat) (seq : Word) {f : Slot → Slot}
    (kept : ∀ sl, ((f sl).name, (f sl).run) = (sl.name, sl.run) := by exact fun _ => rfl) : s.RowsMove (s.onSlot r q seq f) :=
  ⟨rfl, s.onSlot_keeps r q seq kept, id⟩

theorem State.note_rowsMove (s : State) (k : OpKey) (c : Code) (f : BitVec 16) : s.RowsMove (s.note k c f) := s.onSlot_rowsMove _ _ _

theorem State.accept_rowsMove (s : State) (k : OpKey) (n : Nat) : s.RowsMove (s.accept k n) := by
  unfold State.accept State.acceptAt
  split
  · exact s.onSlot_rowsMove _ _ _
  · exact .refl s

theorem State.RowsMove.foldl {α : Type} {f : State → α → State} (step : ∀ (s : State) (a : α), s.RowsMove (f s a)) (l : List α) (s : State) :
    s.RowsMove (l.foldl f s) := List.foldlRecOn l f (.refl s) fun _ h a _ => h.trans (step _ a)

theorem State.meet_rowsMove (s : State) (k : OpKey) (l : List Nat) : s.RowsMove (s.meet k l) ∧ (s.meet k l).mem = s.mem := by
  unfold State.meet
  extract_lets accepted
  have accepting : s.RowsMove accepted := .foldl (fun (s : State) n => s.accept_rowsMove k n) _ s
  have noting := State.RowsMove.foldl (fun (s : State) (e : Code × BitVec 16) => s.note_rowsMove k e.1 e.2) (l.filterMap (accepted.reachFails k)) accepted
  refine ⟨accepting.trans noting, ?_⟩
  have first : accepted.mem = s.mem := by
    refine List.foldlRecOn (motive := fun t : State => t.mem = s.mem) _ _ rfl fun t h n _ => ?_
    rw [t.accept_regionsOnly k n]
    exact h
  exact List.foldlRecOn (motive := fun t : State => t.mem = s.mem) _ _ first fun _ h _ _ => h

section Row
variable {s : State} (clean : s.mem.marks = []) (k : OpKey)
include clean

theorem State.unitRead_rowsMove (l : List Nat) : s.RowsMove (s.unitRead k l).1 ∧ (s.unitRead k l).1.mem = s.mem := by
  obtain ⟨moves, mem⟩ := s.meet_rowsMove k l
  have still : (s.meet k l).mem.marks = [] := by rw [mem, clean]
  have form : (s.unitRead k l).1 = s.meet k l := by
    unfold State.unitRead
    rw [State.badUnits_clean still]
    dsimp only
    rw [State.countCorrected_clean still]
  rw [form]
  exact ⟨moves, mem⟩

theorem State.unitWrite_rowsMove (l : List (Nat × Byte)) : s.RowsMove (s.unitWrite k l).1 := by
  unfold State.unitWrite
  extract_lets met fine noted good addrs merged torn cleared written
  obtain ⟨moves, mem⟩ := s.meet_rowsMove k (l.map (·.1))
  have noting : met.RowsMove noted := by
    unfold noted
    split
    · exact met.note_rowsMove ..
    · exact .refl met
  have noted_ := moves.trans noting
  have counted : merged = noted := State.countMerged_clean noted addrs (noted_.clean clean)
  have unharmed : cleared = noted := by
    unfold cleared
    rw [counted, State.badUnits_clean (noted_.clean clean)]
  have writing : noted.RowsMove written := by
    unfold written
    rw [unharmed]
    exact ⟨rfl, .of_fab rfl rfl, fun still => (Mem.writeCells_clean _ _ still).1⟩
  exact noted_.trans writing

end Row

theorem State.visAdd_rowsMove (s : State) (r : Nat) (v : VisRun) (flag n : Nat) : s.RowsMove (s.visAdd r v flag n) ∧ (s.visAdd r v flag n).mem = s.mem := by
  unfold State.visAdd
  split
  · exact ⟨.refl s, rfl⟩
  · exact ⟨⟨rfl, s.onSched_keeps r, id⟩, rfl⟩

/-! ## The run of a node -/

/-- The run stands at the same node with the same parameters, in the same frame. -/
structure VisRun.SameNode (v w : VisRun) : Prop where
  params : w.params = v.params
  node : w.node = v.node
  nodes : w.nodes = v.nodes
  frame : w.frame = v.frame
  inFrame : w.inFrame = v.inFrame

theorem VisRun.SameNode.refl (v : VisRun) : v.SameNode v := ⟨rfl, rfl, rfl, rfl, rfl⟩

theorem VisRun.SameNode.trans {v w x : VisRun} (h : v.SameNode w) (l : w.SameNode x) : v.SameNode x :=
  ⟨l.params.trans h.params, l.node.trans h.node, l.nodes.trans h.nodes, l.frame.trans h.frame, l.inFrame.trans h.inFrame⟩

theorem VisRun.SameNode.kind {v w : VisRun} (h : v.SameNode w) : nodeKind w w.node = nodeKind v v.node := by
  rw [nodeKind, nodeKind, nodeWord, nodeWord, h.nodes, h.node]

theorem State.releaseRows_moves (s : State) (r : Nat) (v : VisRun) (p : VPlane) (upTo : Nat) : s.RowsMove (s.releaseRows r v p upTo).1 ∧
    (s.releaseRows r v p upTo).1.mem = s.mem ∧ v.SameNode (s.releaseRows r v p upTo).2 ∧ (s.releaseRows r v p upTo).2.taken = v.taken := by
  unfold State.releaseRows
  split
  · obtain ⟨moves, mem⟩ := s.visAdd_rowsMove r v p.release (upTo - v.rowsReleased)
    exact ⟨moves, mem, ⟨rfl, rfl, rfl, rfl, rfl⟩, rfl⟩
  · exact ⟨.refl s, rfl, .refl v, rfl⟩

/-- A PYRAMID or a DETECT after it has taken its next source row. -/
def State.rowTaken (s : State) (k : OpKey) (v : VisRun) : State × VisRun :=
  let q := s.takeRow k (planeAt v.params 0) v.r0Src v.taken.length
  (q.1, { v with taken := v.taken ++ [q.2] })

/-- A PYRAMID after it has written its next row, whose flag counts where the destination streams. -/
def State.rowWritten (s : State) (k : OpKey) (v : VisRun) : State :=
  let src := planeAt v.params 0
  let dst := planeAt v.params 4
  let s := s.putRow k dst dst.esize v.r0Dst v.rowsOut (pyrRow v.taken src.width src.height v.rowsOut)
  if dst.streamed then s.visAdd k.1 v dst.fill 1 else s

theorem State.pyrStep_cases (s : State) (k : OpKey) (o : Op) (v : VisRun) : s.pyrStep k o v = none ∨ s.pyrStep k o v = some (s.rowTaken k v) ∨
    s.pyrStep k o v = some ((s.rowWritten k v).releaseRows k.1 { v with rowsOut := v.rowsOut + 1 } (planeAt v.params 0) (2 * (v.rowsOut + 1) - 2)) := by
  unfold State.pyrStep
  extract_lets src dst need q put counted
  split
  · exact .inl rfl
  · split
    · split
      · exact .inr (.inl rfl)
      · exact .inl rfl
    · split
      · exact .inr (.inr rfl)
      · exact .inl rfl

theorem State.detStep_cases (s : State) (k : OpKey) (o : Op) (v : VisRun) : s.detStep k o v = none ∨
    s.detStep k o v = some ((s.rowTaken k v).1.releaseRows k.1 (s.rowTaken k v).2 (planeAt v.params 0) ((s.rowTaken k v).2.taken.length - 30)) := by
  dsimp only [State.detStep, State.rowTaken]
  split
  · exact .inl rfl
  · split
    · exact .inr rfl
    · exact .inl rfl

section Steps
variable {s : State} (clean : s.mem.marks = []) (k : OpKey) (o : Op) (v : VisRun)
include clean

theorem State.rowTaken_moves : s.RowsMove (s.rowTaken k v).1 ∧ (s.rowTaken k v).1.mem = s.mem := by
  dsimp only [State.rowTaken, State.takeRow]
  exact State.unitRead_rowsMove clean k _

theorem State.rowWritten_moves : s.RowsMove (s.rowWritten k v) := by
  unfold State.rowWritten
  extract_lets src dst put
  have putting : s.RowsMove put := by
    unfold put State.putRow
    exact State.unitWrite_rowsMove clean k _
  split
  · exact putting.trans (put.visAdd_rowsMove ..).1
  · exact putting

theorem State.pyrStep_moves {x : State × VisRun} (step : s.pyrStep k o v = some x) : s.RowsMove x.1 ∧ v.SameNode x.2 := by
  rcases s.pyrStep_cases k o v with stalls | takes | writes
  · rw [stalls] at step
    cases step
  · rw [takes, Option.some.injEq] at step
    rw [← step]
    exact ⟨(State.rowTaken_moves clean k v).1, ⟨rfl, rfl, rfl, rfl, rfl⟩⟩
  · rw [writes, Option.some.injEq] at step
    rw [← step]
    obtain ⟨moves, -, same, -⟩ := (s.rowWritten k v).releaseRows_moves k.1 { v with rowsOut := v.rowsOut + 1 } (planeAt v.params 0) (2 * (v.rowsOut + 1) - 2)
    exact ⟨(State.rowWritten_moves clean k v).trans moves, same.params, same.node, same.nodes, same.frame, same.inFrame⟩

/-- A step of a DETECT takes one row, and writes none. -/
theorem State.detStep_moves {x : State × VisRun} (step : s.detStep k o v = some x) : s.RowsMove x.1 ∧ v.SameNode x.2 ∧ x.1.mem = s.mem ∧
    ∃ row, x.2.taken = v.taken ++ [row] := by
  rcases s.detStep_cases k o v with stalls | takes
  · rw [stalls] at step
    cases step
  · rw [takes, Option.some.injEq] at step
    rw [← step]
    obtain ⟨taking, stays⟩ := State.rowTaken_moves clean k v
    obtain ⟨moves, mem, same, taken⟩ := (s.rowTaken k v).1.releaseRows_moves k.1 (s.rowTaken k v).2 (planeAt v.params 0)
      ((s.rowTaken k v).2.taken.length - 30)
    exact ⟨taking.trans moves, ⟨same.params, same.node, same.nodes, same.frame, same.inFrame⟩, mem.trans stays, _, taken⟩

end Steps

/-- One step of the running node. -/
def State.nodeStep (s : State) (k : OpKey) (o : Op) (v : VisRun) : Option (State × VisRun) :=
  match nodeKind v v.node with
  | some .pyramid => s.pyrStep k o v
  | some .detect => s.detStep k o v
  | _ => none

theorem State.nodeSteps_succ (s : State) (k : OpKey) (o : Op) (v : VisRun) (n : Nat) :
    s.nodeSteps k o v (n + 1) = match s.nodeStep k o v with
      | some x => x.1.nodeSteps k o x.2 n
      | none => (s, v) := rfl

theorem State.nodeStep_moves {s : State} (clean : s.mem.marks = []) (k : OpKey) (o : Op) (v : VisRun) {x : State × VisRun}
    (step : s.nodeStep k o v = some x) : s.RowsMove x.1 ∧ v.SameNode x.2 := by
  unfold State.nodeStep at step
  split at step
  · exact State.pyrStep_moves clean k o v step
  · obtain ⟨moves, same, -⟩ := State.detStep_moves clean k o v step
    exact ⟨moves, same⟩
  · cases step

theorem State.nodeSteps_moves {s : State} (clean : s.mem.marks = []) (k : OpKey) (o : Op) (v : VisRun) (n : Nat) :
    s.RowsMove (s.nodeSteps k o v n).1 ∧ v.SameNode (s.nodeSteps k o v n).2 := by
  induction n generalizing s v with
  | zero => exact ⟨.refl s, .refl v⟩
  | succ n ih =>
    rw [State.nodeSteps_succ]
    split
    · next x step =>
      obtain ⟨moves, same⟩ := State.nodeStep_moves clean k o v step
      obtain ⟨rest, still⟩ := ih (moves.clean clean) x.2
      exact ⟨moves.trans rest, same.trans still⟩
    · exact ⟨.refl s, .refl v⟩

/-- Steps of a DETECT write no memory, and add to the rows that it has taken. -/
theorem State.nodeSteps_detect {s : State} (clean : s.mem.marks = []) (k : OpKey) (o : Op) (v : VisRun) (n : Nat)
    (kind : nodeKind v v.node = some .detect) :
    (s.nodeSteps k o v n).1.mem = s.mem ∧ v.taken <+: (s.nodeSteps k o v n).2.taken := by
  induction n generalizing s v with
  | zero => exact ⟨rfl, List.prefix_refl _⟩
  | succ n ih =>
    rw [State.nodeSteps_succ]
    split
    · next x step =>
      rw [State.nodeStep, kind] at step
      obtain ⟨moves, same, mem, row, taken⟩ := State.detStep_moves clean k o v step
      obtain ⟨rest, more⟩ := ih (moves.clean clean) x.2 (same.kind.trans kind)
      exact ⟨rest.trans mem, (taken ▸ List.prefix_append _ _ : v.taken <+: x.2.taken).trans more⟩
    · exact ⟨rfl, List.prefix_refl _⟩

end Sys2Proof.Machine
end

section
/-!
SUPPORT. The start of a node (16 R603, R627-R629; 17 R645, R653), where no word of memory is damaged.
-/
namespace Sys2Proof.Machine

/-- A graph's slot without the status that its node before met. -/
def State.statusCleared (s : State) (k : OpKey) : State := s.onRec k.1 k.2.1 k.2.2 fun c => { c with pendingStatus := 0, pendingFault := 0 }

theorem State.statusCleared_rowsMove (s : State) (k : OpKey) : s.RowsMove (s.statusCleared k) := s.onSlot_rowsMove _ _ _

theorem State.statusCleared_flags (s : State) (k : OpKey) (r : Nat) :
    ((s.statusCleared k).region r).sched.flagUpds = (s.region r).sched.flagUpds := (s.onSlot_slotsOnly ..).flags.sched r

/-- The domains of a node's operands. -/
def State.nodeDomains (s : State) (r : Nat) (kind : VisKind) (b : List Byte) : List Nat :=
  dedupNat ((visOperands kind b).map fun x => s.domainOf (s.visPhys r x.base))

/-- The run of a node that starts on its parameter block. -/
def State.startedRun (s : State) (r : Nat) (v : VisRun) (b : List Byte) : VisRun :=
  let src := planeAt b 0
  let r0 := if nodeGroup v v.node then (v.stream.map (·.r0)).getD (s.flag r src.release) else s.flag r src.release
  { v with params := b, r0Src := r0, r0Dst := s.flag r (planeAt b 4).fill, taken := [], rowsOut := 0, rowsReleased := 0, nodeState := .busy }

/-- A node that has taken the output buffer of its die. -/
def State.nodeRuns (s : State) (die : Nat) (kind : VisKind) (k : OpKey) (b : List Byte) : State :=
  let s := (s.nodeDomains k.1 kind b).foldl (fun s n => s.accept k n) s
  s.onShared fun h => { h with visBuf := Tab.set h.visBuf die (k.1, if kind == .stereo then 2 else 1) }

/-- A node that runs goes on as far as its rows allow, where a plane of it streams. -/
def State.nodeFlows (s : State) (k : OpKey) (o : Op) (v : VisRun) : State :=
  let s := s.onVis k fun _ => v
  if v.streams then
    let q := s.nodeGo k o v
    q.1.onVis k fun _ => q.2
  else s

/-- A node that starts with its parameter block: it ends at once, or runs. -/
def State.nodeChecked (s : State) (die : Nat) (kind : VisKind) (k : OpKey) (o : Op) (v : VisRun) (b : List Byte) : State :=
  if visEmpty kind b then (s.doneFlagAdd k.1 { v with params := b }).nodeEnd k o v Codes.OK 0
  else
    match s.visRefused k.1 die (kind == .stereo) kind b (o.groupId ≠ 0) (nodeGroup v v.node) with
    | some c => s.nodeEnd k o v c 0
    | none =>
      let accepted := (s.nodeDomains k.1 kind b).foldl (fun s n => s.accept k n) s
      if (s.nodeDomains k.1 kind b).any (fun n => !accepted.serves (accepted.acceptedOf k) n) then accepted.nodeEnd k o v Codes.DEST_CLOSED 0
      else (s.nodeRuns die kind k b).nodeFlows k o ((s.nodeRuns die kind k b).startedRun k.1 v b)

theorem State.nodeStart_checks {s : State} {die : Nat} {kind : VisKind} {k : OpKey} {sl : Slot} {v : VisRun} {b : List Byte}
    (is : s.Runs die (kind == .stereo) k sl v) (boundary : s.atBoundary = true) (inFrame : v.inFrame = true) (idle : v.nodeState = .idle)
    (here : nodeKind v v.node = some kind) (clean : s.mem.marks = []) (block : s.visBlock k.1 (nodeParams v v.node) = some b) :
    s.nodeStart die kind = (s.statusCleared k).nodeChecked die kind k sl.op v b := by
  have same : (s.statusCleared k).visBlock k.1 (nodeParams v v.node) = some b := block
  have still : (s.statusCleared k).mem.marks = [] := clean
  have undamaged (l : List Nat) : (s.statusCleared k).badUnits k l = s.statusCleared k := State.badUnits_clean still k l
  unfold State.nodeStart
  extract_lets stereo
  rw [is.graph]
  dsimp -zeta only
  rw [s.whenP_pos _ (by simp [boundary, inFrame, idle, here])]
  extract_lets o r cleared checked
  have first : checked = s.statusCleared k := by
    unfold checked
    split
    · exact undamaged _
    · rfl
  clear_value checked
  subst first
  rw [same]
  rfl

end Sys2Proof.Machine
end

section
/-!
SUPPORT. Every start of a node (16 R603, R627-R629): an empty one, one that a check refuses, and one that runs.
-/
namespace Sys2Proof.Machine

theorem Counted.ok {kind : VisKind} {d e : DieRegs} (h : Counted (kind == .stereo) Codes.OK d e) :
    if kind = .stereo then e.steNodes = d.steNodes + 1 ∧ e.steStatus = d.steStatus else e.featNodes = d.featNodes + 1 ∧ e.featStatus = d.featStatus := by
  simpa [Counted] using h

theorem Counted.failed {kind : VisKind} {c : Code} {d e : DieRegs} (h : Counted (kind == .stereo) c d e) (bad : c ≠ Codes.OK) :
    if kind = .stereo then e.steNodes = d.steNodes + 1 ∧ e.steStatus = c else e.featNodes = d.featNodes + 1 ∧ e.featStatus = c := by
  simpa [Counted, bad] using h

/-- A node's done flag, where done_en is set, waits for the boundary; nothing else changes. -/
theorem State.doneFlagAdd_adds (s : State) (r : Nat) (v : VisRun) : s.RowsMove (s.doneFlagAdd r v) ∧ (s.doneFlagAdd r v).mem = s.mem ∧
    ((s.doneFlagAdd r v).region r).sched.flagUpds = (s.region r).sched.flagUpds ++ (if bitAt (wordAt v.params 14) 8 then
      [{ source := 3, sub := 2 * v.die + (if v.stereo then 1 else 0), flag := bitsOf (wordAt v.params 14) 7 0, op := 1, value := 1 }] else []) := by
  unfold State.doneFlagAdd
  extract_lets w
  split
  · obtain ⟨moves, mem⟩ := s.visAdd_rowsMove r v (bitsOf w 7 0) 1
    refine ⟨moves, mem, ?_⟩
    rw [State.visAdd, if_neg (by decide), State.latchFlag, State.region_onSched]
    rfl
  · exact ⟨.refl s, rfl, (List.append_nil _).symm⟩

theorem State.RowsMove.die {s t : State} (h : s.RowsMove t) (d : Nat) : t.die d = s.die d := by
  rw [h.only]
  rfl

theorem State.onVis_graph {s : State} {k : OpKey} {y : Slot} {v : VisRun} (found : s.slotOf k.1 k.2.1 k.2.2 = some y) (run : y.run.vis = some v)
    (f : VisRun → VisRun) : (s.onVis k f).slotOf k.1 k.2.1 k.2.2 = some { y with run := { y.run with vis := some (f v) } } := by
  have mapped := State.slotOf_onSlot s k.1 k.2.1 k.2.2 (f := fun sl => { sl with run := { sl.run with vis := sl.run.vis.map f } }) fun _ => rfl
  rw [found, Option.map_some, run, Option.map_some] at mapped
  exact mapped

/-- Domains that are on serve whatever has accepted. -/
theorem State.serves_of_ivory {s : State} {n : Nat} (on : s.ivory n = true) (l : List (Nat × Nat)) : s.serves l n = true := by
  simp [State.serves, on]

theorem of_mem_dedupNat {l : List Nat} {x : Nat} (h : x ∈ dedupNat l) : x ∈ l := by
  have inside : ∀ y ∈ dedupNat l, y ∈ l := by
    unfold dedupNat
    refine List.foldlRecOn (motive := fun t : List Nat => ∀ y ∈ t, y ∈ l) _ _ (fun y none_ => absurd none_ List.not_mem_nil) fun t h a listed => ?_
    intro y member
    split at member
    · exact h y member
    · rcases List.mem_append.1 member with earlier | last
      · exact h y earlier
      · exact List.mem_singleton.1 last ▸ listed
  exact inside x h

section Regions
variable (s : State) (x : Tab Region) (r : Nat)

/-- The checks of a node read nothing that the regions' records hold. -/
theorem State.visRefused_regions (die : Nat) (stereo : Bool) (kind : VisKind) (b : List Byte) (member group : Bool) :
    ({ s with fab := { s.fab with regions := x } } : State).visRefused r die stereo kind b member group =
      s.visRefused r die stereo kind b member group := by
  let t : State := { s with fab := { s.fab with regions := x } }
  have placed : t.visPlaced r = s.visPlaced r := rfl
  have span : t.visSpan r = s.visSpan r := rfl
  have pieces : t.visPieces r = s.visPieces r := rfl
  have bytes : t.protectedByte = s.protectedByte := funext (State.RegionsOnly.samePlaces (s := s) (t := t) rfl).protectedByte
  have protected_ : t.visProtected r = s.visProtected r := funext fun y => by rw [State.visProtected, State.visProtected, pieces, bytes]
  have seg : t.segOf r = s.segOf r := rfl
  have fails : t.visWindowFails r kind = s.visWindowFails r kind := rfl
  have counts : t.visCountsOk r kind b = s.visCountsOk r kind b := rfl
  have routed : t.visRouted r die stereo = s.visRouted r die stereo := rfl
  have buffer : t.visBuffer die = s.visBuffer die := rfl
  change t.visRefused r die stereo kind b member group = _
  unfold State.visRefused
  rw [placed, span, protected_, pieces, seg, fails, counts, routed, buffer]

end Regions

/-- A node that passes its checks, whose operands' domains are on, runs. -/
theorem State.nodeChecked_runs {s : State} {die : Nat} {kind : VisKind} {k : OpKey} {o : Op} {v : VisRun} {b : List Byte} (some_ : visEmpty kind b = false)
    (passes : s.visRefused k.1 die (kind == .stereo) kind b (o.groupId ≠ 0) (nodeGroup v v.node) = none)
    (on : ∀ x ∈ visOperands kind b, s.ivory (s.domainOf (s.visPhys k.1 x.base)) = true) :
    (s.statusCleared k).nodeChecked die kind k o v b =
      ((s.statusCleared k).nodeRuns die kind k b).nodeFlows k o (((s.statusCleared k).nodeRuns die kind k b).startedRun k.1 v b) := by
  have same : (s.statusCleared k).visRefused k.1 die (kind == .stereo) kind b (o.groupId ≠ 0) (nodeGroup v v.node) = none :=
    (s.visRefused_regions ..).trans passes
  let doms := (s.statusCleared k).nodeDomains k.1 kind b
  let accepted := doms.foldl (fun s n => s.accept k n) (s.statusCleared k)
  have cleared : s.RegionsOnly (s.statusCleared k) := rfl
  have accepting : (s.statusCleared k).RegionsOnly accepted :=
    List.foldlRecOn _ _ (.refl _) fun t h n _ => h.trans (t.accept_regionsOnly k n)
  have served : doms.any (fun n => !accepted.serves (accepted.acceptedOf k) n) = false := by
    rw [List.any_eq_false]
    intro n listed
    obtain ⟨x, operand, rfl⟩ := List.mem_map.1 (of_mem_dedupNat listed)
    have at_ : (s.statusCleared k).domainOf ((s.statusCleared k).visPhys k.1 x.base) = s.domainOf (s.visPhys k.1 x.base) :=
      cleared.samePlaces.domainOf _
    have ivory : accepted.ivory (s.domainOf (s.visPhys k.1 x.base)) = true := by
      rw [(cleared.trans accepting).samePlaces.ivory]
      exact on x operand
    rw [at_, State.serves_of_ivory ivory]
    decide
  unfold State.nodeChecked
  rw [some_, same]
  exact if_neg (Bool.eq_false_iff.1 served)

section Node
variable {s : State} {d : DieId} {kind : VisKind} {c : Instr} {k : OpKey} {sl : Slot} {v : VisRun} {b : List Byte}
  (run : exec c s = .next (s.effect fun s => s.whenP s.fabricOn fun s => s.nodeStart d.val kind))
  (is : s.Runs d.val (kind == .stereo) k sl v) (boundary : s.atBoundary = true) (inFrame : v.inFrame = true) (idle : v.nodeState = .idle)
  (here : nodeKind v v.node = some kind) (clean : s.mem.marks = []) (block : s.visBlock k.1 (nodeParams v v.node) = some b)
include run is boundary inFrame idle here clean block

/-- A command that starts a node gives what the node's checks give. -/
theorem completes_node {P : State → Prop} {t : State} (step : (s.statusCleared k).nodeChecked d.val kind k sl.op v b = t)
    (given : P (s.effect fun _ => t)) : Completes c s P :=
  completes_of_effect run ((s.whenP_pos _ is.on).trans ((State.nodeStart_checks is boundary inFrame idle here clean block).trans step)) given

theorem node_empty (empty : visEmpty kind b = true) : Completes c s fun u =>
    (if kind = .stereo then (u.die v.die).steNodes = (s.die v.die).steNodes + 1 ∧ (u.die v.die).steStatus = (s.die v.die).steStatus
     else (u.die v.die).featNodes = (s.die v.die).featNodes + 1 ∧ (u.die v.die).featStatus = (s.die v.die).featStatus) ∧
    (u.region k.1).sched.flagUpds = (s.region k.1).sched.flagUpds ++ (if bitAt (wordAt b 14) 8 then
      [{ source := 3, sub := 2 * v.die + (if v.stereo then 1 else 0), flag := bitsOf (wordAt b 14) 7 0, op := 1, value := 1 }] else []) ∧
    u.mem = s.mem ∧ s.KeepsStore u := by
  obtain ⟨moves, mem, flags⟩ := (s.statusCleared k).doneFlagAdd_adds k.1 { v with params := b }
  have before := (s.statusCleared_rowsMove k).trans moves
  let flagged := (s.statusCleared k).doneFlagAdd k.1 { v with params := b }
  have counted := flagged.nodeEnd_die k sl.op v Codes.OK 0
  rw [before.die, is.engine] at counted
  refine completes_node run is boundary inFrame idle here clean block (t := flagged.nodeEnd k sl.op v Codes.OK 0) (if_pos empty)
    ⟨counted.ok, ?_, (flagged.nodeEnd_mem ..).trans mem, s.effect_keepsStore _⟩
  rw [s.statusCleared_flags] at flags
  exact (flagged.nodeEnd_flags ..).trans flags

theorem node_refused {e : Code} (some_ : visEmpty kind b = false)
    (refused : s.visRefused k.1 d.val (kind == .stereo) kind b (sl.op.groupId ≠ 0) (nodeGroup v v.node) = some e) (bad : e ≠ Codes.OK) :
    Completes c s fun u =>
      (if kind = .stereo then (u.die v.die).steNodes = (s.die v.die).steNodes + 1 ∧ (u.die v.die).steStatus = e
       else (u.die v.die).featNodes = (s.die v.die).featNodes + 1 ∧ (u.die v.die).featStatus = e) ∧ u.mem = s.mem ∧ s.KeepsStore u := by
  have same : (s.statusCleared k).visRefused k.1 d.val (kind == .stereo) kind b (sl.op.groupId ≠ 0) (nodeGroup v v.node) = some e :=
    (s.visRefused_regions ..).trans refused
  have step : (s.statusCleared k).nodeChecked d.val kind k sl.op v b = (s.statusCleared k).nodeEnd k sl.op v e 0 := by
    unfold State.nodeChecked
    rw [some_, same]
    rfl
  have counted := (s.statusCleared k).nodeEnd_die k sl.op v e 0
  rw [(s.statusCleared_rowsMove k).die, is.engine] at counted
  exact completes_node run is boundary inFrame idle here clean block step
    ⟨counted.failed bad, (State.nodeEnd_mem ..).trans rfl, s.effect_keepsStore _⟩

end Node

/-- What a node that has taken the output buffer keeps of the graph's slot. -/
theorem State.nodeRuns_slot {s : State} {k : OpKey} {sl : Slot} (found : s.slotOf k.1 k.2.1 k.2.2 = some sl) (die : Nat) (kind : VisKind)
    (b : List Byte) : (∃ y, (s.nodeRuns die kind k b).slotOf k.1 k.2.1 k.2.2 = some y ∧ y.run = sl.run) ∧ (s.nodeRuns die kind k b).mem = s.mem ∧
      Tab.get (0, 0) (s.nodeRuns die kind k b).dev.shared.visBuf die = (k.1, if kind = .stereo then 2 else 1) := by
  let accepted := (s.nodeDomains k.1 kind b).foldl (fun s n => s.accept k n) s
  have accepting : s.RowsMove accepted := .foldl (fun (s : State) n => s.accept_rowsMove k n) _ s
  have only : s.RegionsOnly accepted := List.foldlRecOn _ _ (.refl _) fun t h n _ => h.trans (t.accept_regionsOnly k n)
  have mem : accepted.mem = s.mem := by rw [only]
  refine ⟨accepting.slot found, mem, (Tab.get_set_same ..).trans ?_⟩
  by_cases stereo : kind = .stereo <;> simp [stereo]

/-- A run that goes on stands at the same node, busy or waiting for a row. -/
theorem State.nodeGo_moves {s : State} (clean : s.mem.marks = []) (k : OpKey) (o : Op) (v : VisRun) : s.RowsMove (s.nodeGo k o v).1 ∧
    v.SameNode (s.nodeGo k o v).2 ∧ (s.nodeGo k o v).2.nodeState ≠ .idle := by
  obtain ⟨moves, same⟩ := State.nodeSteps_moves clean k o v ((planeAt v.params 0).height + (planeAt v.params 4).height + 1)
  refine ⟨moves, ⟨same.params, same.node, same.nodes, same.frame, same.inFrame⟩, ?_⟩
  dsimp only [State.nodeGo]
  split <;> decide

/-- A node that runs stands at its node with its run, and where no plane streams it is busy and has written nothing. -/
theorem State.nodeFlows_becomes {s : State} (clean : s.mem.marks = []) {k : OpKey} {y : Slot} {v w : VisRun} (o : Op)
    (found : s.slotOf k.1 k.2.1 k.2.2 = some y) (run : y.run.vis = some v) (busy : w.nodeState ≠ .idle) :
    GraphBecomes (s.nodeFlows k o w) k (fun x => w.SameNode x ∧ x.nodeState ≠ .idle) ∧ (s.nodeFlows k o w).dev.shared = s.dev.shared ∧
      (w.streams = false → GraphBecomes (s.nodeFlows k o w) k (fun x => x = w) ∧ (s.nodeFlows k o w).mem = s.mem) := by
  let moved := s.onVis k fun _ => w
  have here : moved.slotOf k.1 k.2.1 k.2.2 = some _ := State.onVis_graph found run fun _ => w
  cases flows : w.streams with
  | false =>
    have form : s.nodeFlows k o w = moved := if_neg (by simp [flows])
    rw [form]
    exact ⟨⟨_, w, here, rfl, .refl w, busy⟩, rfl, fun _ => ⟨⟨_, w, here, rfl, rfl⟩, rfl⟩⟩
  | true =>
    have form : s.nodeFlows k o w = (moved.nodeGo k o w).1.onVis k fun _ => (moved.nodeGo k o w).2 := if_pos flows
    obtain ⟨moves, same, state⟩ := State.nodeGo_moves (s := moved) clean k o w
    obtain ⟨z, at_, run⟩ := moves.slot here
    have last := State.onVis_graph at_ (congrArg UnitRun.vis run) fun _ => (moved.nodeGo k o w).2
    rw [form]
    exact ⟨⟨_, _, last, rfl, same, state⟩, moves.shared, fun still => by cases still⟩

section Flow
variable {s : State} {d : DieId} {kind : VisKind} {c : Instr} {k : OpKey} {sl : Slot} {v : VisRun} {b : List Byte}
  (run : exec c s = .next (s.effect fun s => s.whenP s.fabricOn fun s => s.nodeStart d.val kind))
  (is : s.Runs d.val (kind == .stereo) k sl v) (boundary : s.atBoundary = true) (inFrame : v.inFrame = true) (idle : v.nodeState = .idle)
  (here : nodeKind v v.node = some kind) (clean : s.mem.marks = []) (block : s.visBlock k.1 (nodeParams v v.node) = some b)
include run is boundary inFrame idle here clean block

theorem node_runs (some_ : visEmpty kind b = false)
    (passes : s.visRefused k.1 d.val (kind == .stereo) kind b (sl.op.groupId ≠ 0) (nodeGroup v v.node) = none)
    (on : ∀ x ∈ visOperands kind b, s.ivory (s.domainOf (s.visPhys k.1 x.base)) = true) : Completes c s fun u =>
      GraphBecomes u k (fun w => w.params = b ∧ w.node = v.node ∧ w.frame = v.frame ∧ w.inFrame = true ∧ w.nodeState ≠ .idle) ∧
      Tab.get (0, 0) u.dev.shared.visBuf d.val = (k.1, if kind = .stereo then 2 else 1) ∧
      ((∀ p e o, .plane p e o ∈ visOperands kind b → p.streamed = false) →
        GraphBecomes u k (fun w => w.nodeState = .busy ∧ w.taken = []) ∧ u.mem = s.mem) ∧ s.KeepsStore u := by
  obtain ⟨y, cleared, yRun⟩ := (s.statusCleared_rowsMove k).slot is.found
  obtain ⟨⟨z, found, zRun⟩, mem, buffer⟩ := State.nodeRuns_slot cleared d.val kind b
  let started := ((s.statusCleared k).nodeRuns d.val kind k b).startedRun k.1 v b
  obtain ⟨becomes, shared, still⟩ := State.nodeFlows_becomes (w := started) (mem ▸ clean) sl.op found
    ((congrArg UnitRun.vis (zRun.trans yRun)).trans is.vis) (by decide : NodeState.busy ≠ .idle)
  refine completes_node run is boundary inFrame idle here clean block (State.nodeChecked_runs some_ passes on)
    ⟨?_, (congrArg (fun h => Tab.get (0, 0) h.visBuf d.val) shared).trans buffer, fun plain => ?_, s.effect_keepsStore _⟩
  · obtain ⟨x, w, at_, holds, same, state⟩ := becomes
    exact ⟨x, w, at_, holds, same.params, same.node, same.frame, same.inFrame.trans inFrame, state⟩
  · have operands : (visOperands kind b).any (fun x => match x with
        | .plane p _ _ => p.streamed
        | .list _ _ _ => false) = false := by
      rw [List.any_eq_false]
      rintro (⟨p, e, o⟩ | ⟨l, n, o⟩) listed
      · simp [plain p e o listed]
      · simp
    have held : nodeKind started started.node = some kind := here
    have flat : started.streams = false := by
      rw [VisRun.streams, held]
      exact operands
    obtain ⟨⟨x, w, at_, holds, rfl⟩, stays⟩ := still flat
    exact ⟨⟨x, _, at_, holds, rfl, rfl⟩, stays.trans mem⟩

end Flow

theorem nodeStarts_of_exec {kind : VisKind} {c : DieId → Instr}
    (run : ∀ d s, exec (c d) s = .next (s.effect fun s => s.whenP s.fabricOn fun s => s.nodeStart d.val kind)) : NodeStarts kind c := by
  intro s d k sl v b is boundary inFrame idle here clean block
  have runs := OnEngine.runs is
  exact ⟨node_empty (run d s) runs boundary inFrame idle here clean block,
    fun e some_ refused bad => node_refused (run d s) runs boundary inFrame idle here clean block some_ refused bad,
    node_runs (run d s) runs boundary inFrame idle here clean block⟩

theorem visionNodesStart : VisionNodesStart :=
  ⟨nodeStarts_of_exec fun _ _ => rfl, nodeStarts_of_exec fun _ _ => rfl, nodeStarts_of_exec fun _ _ => rfl, nodeStarts_of_exec fun _ _ => rfl,
    nodeStarts_of_exec fun _ _ => rfl⟩

end Sys2Proof.Machine
end

section
/-!
SUPPORT. A VISION_GRAPH dispatches, and starts a frame (17 R648-R655).
-/
namespace Sys2Proof.Machine

section Dispatch
variable {s : State} {o : OpRef} {sl : Slot} (may : Dispatches s o .visionGraph sl) (fresh : sl.run.vis = none)
include may

/-- A graph that ends where it dispatches. -/
theorem visionGraph_ends {c : Code} (step : s.dispatchVision o.region.val sl = s.finishNow o.region.val sl c 0) :
    Completes (.visionGraph o) s fun u => EndedWith s u o c 0 :=
  completes_dispatch rfl may step (endedWith_finishNow rfl (Dispatches.found may) _ _)

include fresh

theorem visionGraph_empty (none_ : sl.op.nodeCount = 0 ∨ sl.op.frameCount = 0) :
    Completes (.visionGraph o) s fun u => EndedWith s u o Codes.OK 0 := by
  refine visionGraph_ends may ?_
  unfold State.dispatchVision
  simp only [fresh]
  exact if_pos none_

theorem visionGraph_refused {c : Code} (some_ : ¬ (sl.op.nodeCount = 0 ∨ sl.op.frameCount = 0))
    (refused : s.graphChecked o.region.val sl.op = .error c) : Completes (.visionGraph o) s fun u => EndedWith s u o c 0 := by
  refine visionGraph_ends may ?_
  unfold State.dispatchVision
  simp only [fresh, refused, if_neg some_]

theorem visionGraph_runs {nodes : List (List Byte)} (some_ : ¬ (sl.op.nodeCount = 0 ∨ sl.op.frameCount = 0))
    (checked : s.graphChecked o.region.val sl.op = .ok nodes) (open_ : s.engineBarred sl.op = none) (clean : s.mem.marks = [])
    (alone : sl.op.groupId = 0) : Completes (.visionGraph o) s fun u => RunsNow s u o ∧
      GraphBecomes u (o.region.val, o.queue.val, o.seq) (fun w => w = { die := sl.op.visDie, stereo := sl.op.visStereo, nodes := nodes }) ∧
      MarksBecome u (o.region.val, o.queue.val, o.seq) (fun g => g.formed = true ∧ g.mark = false) ∧ MemoryStays s u o.region.val := by
  obtain ⟨queue, seq⟩ := State.name_of_slotOf (Dispatches.found may)
  let marked := s.dispatchMark o.region.val sl [visDomain sl.op.visDie sl.op.visStereo]
  let f (u : UnitRun) : UnitRun := { u with
    vis := some { die := sl.op.visDie, stereo := sl.op.visStereo, nodes := nodes }
    group := { formed := sl.op.groupId = 0, lastFlag := marked.flag o.region.val sl.op.markIndex } }
  have whole (l : List Nat) : s.mem.bad l = none := by simp [Mem.bad, clean]
  have step : s.dispatchVision o.region.val sl = marked.onRun o.region.val o.queue.val o.seq f := by
    unfold State.dispatchVision
    simp only [fresh, if_neg some_, checked, open_, whole, if_pos alone, ← queue, ← seq]
    rfl
  have dues : s.Keeps RegionSched.dues (marked.onRun o.region.val o.queue.val o.seq f) :=
    (s.dispatchMark_keeps_dues ..).trans (marked.onSlot_keeps_dues ..)
  have mem : (marked.onRun o.region.val o.queue.val o.seq f).mem = s.mem := s.dispatchMark_mem ..
  obtain ⟨runs, y, here, run⟩ := runsNow_of_onRun (f := f) (Dispatches.found may) (t := marked) rfl
  exact completes_dispatch rfl may step ⟨runs, ⟨y, _, here, congrArg UnitRun.vis run, rfl⟩,
    ⟨y, here, (congrArg (·.group.formed) run).trans (decide_eq_true alone), (congrArg (·.group.mark) run).trans rfl⟩, memoryStays_of_keeps dues mem⟩

end Dispatch

/-- The run of a graph that starts a frame. -/
def State.frameRun (s : State) (r : Nat) (v : VisRun) : VisRun :=
  { v with inFrame := true, node := 0, nodeState := .idle, dead := [], stream := s.groupStream r v }

/-- A graph without a group after its frame has started, beside SYNC_OUT. -/
def State.frameBegun (s : State) (k : OpKey) : State :=
  (s.onVis k (s.frameRun k.1)).onGrp k fun g => { g with mark := false, waits := 0, underrun := false }

section Frame
variable {s : State} {d : DieId} {stereo : Bool} {k : OpKey} {sl : Slot} {v : VisRun} (is : s.Runs d.val stereo k sl v)
include is

theorem State.startFrame_alone (alone : sl.op.groupId = 0) :
    s.startFrame k.1 sl = if sl.op.syncOut then (s.frameBegun k).pulseSyncOut else s.frameBegun k := by
  unfold State.startFrame
  dsimp only
  rw [if_pos alone, List.foldl_cons, List.foldl_nil, is.key]
  rfl

theorem State.frameBegun_slot : (s.frameBegun k).slotOf k.1 k.2.1 k.2.2 = some { sl with run := { sl.run with
    vis := some (s.frameRun k.1 v), group := { sl.run.group with mark := false, waits := 0, underrun := false } } } := by
  have begun := State.onVis_graph is.found is.vis (s.frameRun k.1)
  have grouped := State.slotOf_onSlot (s.onVis k (s.frameRun k.1)) k.1 k.2.1 k.2.2 (f := fun x => { x with run := { x.run with
    group := { x.run.group with mark := false, waits := 0, underrun := false } } }) fun _ => rfl
  rw [begun, Option.map_some] at grouped
  exact grouped

/-- A frame of a graph without a group starts. -/
theorem visFrameStart_starts (boundary : s.atBoundary = true) (alone : sl.op.groupId = 0) (between : s.betweenFrames k.1 sl = true)
    (marked : sl.op.markSrc = 0 ∨ sl.run.group.mark = true) : Completes (.visFrameStart d stereo) s fun u =>
      GraphBecomes u k (fun w => w = { v with inFrame := true, node := 0, nodeState := .idle, dead := [], stream := s.groupStream k.1 v }) ∧
      MarksBecome u k (fun g => g.mark = false ∧ g.waits = 0) ∧
      u.dev.pins.syncOutHigh = (s.dev.pins.syncOutHigh || sl.op.syncOut) ∧ u.mem = s.mem ∧ s.KeepsStore u := by
  have slot := State.frameBegun_slot is
  have step := State.startFrame_alone is alone
  have starts {t : State} (last : s.startFrame k.1 sl = t) : (s.whenP s.fabricOn fun s => match s.graphOn d.val stereo with
      | some (k, sl, _) => s.whenP (s.atBoundary && s.betweenFrames k.1 sl && (sl.op.markSrc = 0 || sl.run.group.mark)) fun s => s.startFrame k.1 sl
      | none => s) = t := by
    rw [s.whenP_pos _ is.on, is.graph]
    exact (s.whenP_pos _ (by simpa [boundary, between] using marked)).trans last
  cases sync : sl.op.syncOut with
  | true =>
    rw [if_pos sync] at step
    exact completes_of_effect rfl (starts step) ⟨⟨_, _, slot, rfl, rfl⟩, ⟨_, slot, rfl, rfl⟩, (Bool.or_true _).symm, rfl, s.effect_keepsStore _⟩
  | false =>
    rw [if_neg (by simp [sync])] at step
    exact completes_of_effect rfl (starts step) ⟨⟨_, _, slot, rfl, rfl⟩, ⟨_, slot, rfl, rfl⟩, (Bool.or_false _).symm, rfl, s.effect_keepsStore _⟩

end Frame

end Sys2Proof.Machine
end

section
/-!
SUPPORT. A node's rows go on, and a MATCH ends (16 R609, R625, R626, R629).
-/
namespace Sys2Proof.Machine

/-- A DETECT whose next row has come takes it. -/
theorem State.detStep_takes {s : State} {k : OpKey} {o : Op} {v : VisRun} (more : v.taken.length < (planeAt v.params 0).height)
    (ready : s.rowReady k.1 o v (planeAt v.params 0) v.taken.length = true) : ∃ x, s.detStep k o v = some x := by
  unfold State.detStep
  extract_lets src q next
  rw [if_neg (Nat.not_le.2 more), if_pos ready]
  exact ⟨_, rfl⟩

/-- A DETECT whose next row has come goes on with it, and writes no memory. -/
theorem State.nodeGo_detect {s : State} (clean : s.mem.marks = []) (k : OpKey) {o : Op} {v : VisRun} (kind : nodeKind v v.node = some .detect)
    (more : v.taken.length < (planeAt v.params 0).height) (ready : s.rowReady k.1 o v (planeAt v.params 0) v.taken.length = true) :
    (s.nodeGo k o v).1.mem = s.mem ∧ v.taken <+: (s.nodeGo k o v).2.taken ∧ v.taken.length < (s.nodeGo k o v).2.taken.length := by
  obtain ⟨x, step⟩ := State.detStep_takes more ready
  obtain ⟨moves, same, mem, row, taken⟩ := State.detStep_moves clean k o v step
  have first : s.nodeStep k o v = some x := by rw [State.nodeStep, kind, step]
  have steps : s.nodeSteps k o v ((planeAt v.params 0).height + (planeAt v.params 4).height + 1) =
      x.1.nodeSteps k o x.2 ((planeAt v.params 0).height + (planeAt v.params 4).height) := by rw [State.nodeSteps_succ, first]
  obtain ⟨stays, rest⟩ := State.nodeSteps_detect (moves.clean clean) k o x.2 ((planeAt v.params 0).height + (planeAt v.params 4).height)
    (same.kind.trans kind)
  dsimp only [State.nodeGo]
  rw [steps]
  rw [taken] at rest
  refine ⟨stays.trans mem, (List.prefix_append _ _).trans rest, ?_⟩
  have longer := rest.length_le
  rw [List.length_append, List.length_singleton] at longer
  omega

section Wait
variable {s : State} {d : DieId} {k : OpKey} {sl : Slot} {v : VisRun} (is : s.Runs d.val false k sl v) (inFrame : v.inFrame = true)
include is inFrame

theorem streamRowWaitEnd_takes (waits : v.nodeState = .waitRow) (kind : nodeKind v v.node = some .detect) (clean : s.mem.marks = [])
    (more : v.taken.length < (planeAt v.params 0).height) (ready : s.rowReady k.1 sl.op v (planeAt v.params 0) v.taken.length = true) :
    Completes (.streamRowWaitEnd d false) s fun u =>
      GraphBecomes u k (fun w => v.taken <+: w.taken ∧ v.taken.length < w.taken.length ∧ w.nodeState ≠ .idle ∧ w.params = v.params) ∧
      u.mem = s.mem ∧ s.KeepsStore u := by
  obtain ⟨moves, same, state⟩ := State.nodeGo_moves clean k sl.op v
  obtain ⟨mem, grows, longer⟩ := State.nodeGo_detect clean k kind more ready
  obtain ⟨y, here, run⟩ := moves.slot is.found
  have slot := State.onVis_graph here ((congrArg UnitRun.vis run).trans is.vis) fun _ => (s.nodeGo k sl.op v).2
  refine completes_of_effect (t := (s.nodeGo k sl.op v).1.onVis k fun _ => (s.nodeGo k sl.op v).2) rfl ?_
    ⟨⟨_, _, slot, rfl, grows, longer, state, same.params⟩, mem, s.effect_keepsStore _⟩
  rw [s.whenP_pos _ is.on, is.graph]
  exact s.whenP_pos _ (by simp [inFrame, waits])

end Wait

/-! ## MATCH -/

theorem Reached.linAddrs {s : State} {a n m : Nat} (reach : Reached s (s.linAddrs a n)) (fewer : m ≤ n) : Reached s (s.linAddrs a m) :=
  Reached.sub reach fun x listed => by
    obtain ⟨y, member, rfl⟩ := List.mem_map.1 listed
    refine List.mem_map_of_mem (mem_upFrom.2 ?_)
    have bounds := mem_upFrom.1 member
    omega

/-- What accepts an operation does not move a graph's lists. -/
theorem State.AcceptOnly.listAddrs {s t : State} (h : s.AcceptOnly t) : t.visPhys = s.visPhys ∧ t.linAddrs = s.linAddrs := by
  rw [h.only]
  exact ⟨rfl, rfl⟩

/-- The bytes that an undamaged read of reached bytes delivers. -/
theorem map_getD_delivered (f : Nat → Byte) (l : List Nat) : (l.map fun a => some (f a)).map (·.getD 0) = l.map f := by
  rw [List.map_map]
  rfl

/-- A list whose bytes can be reached is read as it stands. -/
theorem State.takeList_reached {s : State} {k : OpKey} {l : VList} {n : Nat} (reach : Reached s (s.linAddrs (s.visPhys k.1 l.base) (16 + l.cap * n))) :
    ∃ t, s.AcceptOnly t ∧ s.takeList k l n = (t, listRecords s (s.visPhys k.1 l.base) l.cap n) := by
  let a := s.visPhys k.1 l.base
  let count := min l.cap (leNat (s.mem.gather s.free (s.linAddrs a 16) |>.take 4))
  have header : Reached s (s.linAddrs a 16) := Reached.linAddrs reach (Nat.le_add_right ..)
  have met := State.meet_reached header k
  have body : Reached (s.meet k (s.linAddrs a 16)) ((s.linAddrs a (16 + count * n)).drop 16) :=
    met.reached (Reached.sub (Reached.linAddrs reach (Nat.add_le_add_left (Nat.mul_le_mul_right _ (Nat.min_le_left ..)) _))
      fun _ listed => List.mem_of_mem_drop listed)
  have counted : min l.cap (leNat ((((s.linAddrs a 16).map fun x => some (s.mem.read s.free x)).take 4).map (·.getD 0))) = count := by
    rw [List.map_take, map_getD_delivered]
    rfl
  refine ⟨_, met.trans (State.meet_reached body k), ?_⟩
  unfold State.takeList
  dsimp only
  rw [State.unitRead_reached header k]
  dsimp only
  rw [counted, State.unitRead_reached body k]
  dsimp only
  rw [map_getD_delivered, met.mem, met.free]
  rfl

/-- The records that a MATCH writes (16 R625, R626). -/
def State.matchBytes (s : State) (r : Nat) (v : VisRun) : List Byte :=
  let qs := listRecords s (s.visPhys r (listAt v.params 4).base) (listAt v.params 4).cap 32
  let ts := listRecords s (s.visPhys r (listAt v.params 8).base) (listAt v.params 8).cap 32
  listBytes 0 ((List.range qs.length).map (matchRecord qs ts (bitsOf (wordAt v.params 12) 8 0) (bitAt (wordAt v.params 12) 9)))

/-- The addresses of a list that a MATCH reads, by the word of its parameters. -/
def State.matchSource (s : State) (r : Nat) (v : VisRun) (i : Nat) : List Nat :=
  s.linAddrs (s.visPhys r (listAt v.params i).base) (16 + (listAt v.params i).cap * 32)

/-- Where a MATCH writes its records. -/
def State.matchTarget (s : State) (r : Nat) (v : VisRun) : List Nat :=
  s.linAddrs (s.visPhys r (listAt v.params 0).base) (s.matchBytes r v).length

theorem State.length_linAddrs (s : State) (a n : Nat) : (s.linAddrs a n).length = n := by simp [State.linAddrs, upFrom]

section Match
variable {s : State} {k : OpKey} {v : VisRun} (target : Reached s (s.matchTarget k.1 v)) (idle : ∀ a ∈ s.matchTarget k.1 v, s.busyByte a = false)
  (queries : Reached s (s.matchSource k.1 v 4)) (trains : Reached s (s.matchSource k.1 v 8))
include target idle queries trains

/-- A MATCH that reaches its lists writes its records. -/
theorem State.nodeWork_matching : ∃ t, s.AcceptOnly t ∧
    s.nodeWork k v .matching = (t.onMem fun m => (m.writeCells ((s.matchTarget k.1 v).zip (s.matchBytes k.1 v))).1, s.matchBytes k.1 v) := by
  obtain ⟨t, first, qs⟩ := State.takeList_reached queries
  have moved := first.listAddrs
  have still : Reached t (t.linAddrs (t.visPhys k.1 (listAt v.params 8).base) (16 + (listAt v.params 8).cap * 32)) := by
    rw [moved.1, moved.2]
    exact first.reached trains
  obtain ⟨u, second, ts⟩ := State.takeList_reached still
  have same : listRecords t (t.visPhys k.1 (listAt v.params 8).base) (listAt v.params 8).cap 32 =
      listRecords s (s.visPhys k.1 (listAt v.params 8).base) (listAt v.params 8).cap 32 := by
    rw [listRecords, listRecords, moved.1, moved.2, first.mem, first.free]
  have both := first.trans second
  have addrs : ((s.matchTarget k.1 v).zip (s.matchBytes k.1 v)).map (·.1) = s.matchTarget k.1 v :=
    List.map_fst_zip (Nat.le_of_eq (s.length_linAddrs ..))
  have writable : u.Open (((s.matchTarget k.1 v).zip (s.matchBytes k.1 v)).map (·.1)) := by
    rw [addrs]
    exact both.stays_open (Reached.open target idle)
  have writes := State.unitWrite_open writable (both.reached target).1 k
  have put : u.putList k (listAt v.params 0) (s.matchBytes k.1 v) = (u.unitWrite k ((s.matchTarget k.1 v).zip (s.matchBytes k.1 v))).1 := by
    rw [State.putList, both.listAddrs.1, both.listAddrs.2]
    rfl
  have work : s.nodeWork k v .matching = (u.putList k (listAt v.params 0) (s.matchBytes k.1 v), s.matchBytes k.1 v) := by
    unfold State.nodeWork
    dsimp only
    rw [qs]
    dsimp only
    rw [ts, same]
    rfl
  refine ⟨_, both.trans (State.meet_open writable k), ?_⟩
  rw [work, put, writes]

end Match

/-- A status that nothing has met stays unmet where slots keep their course. -/
theorem State.noted_unmet {s t : State} {k : OpKey} {sl : Slot} (same : s.Keeps (RegionSched.seen Slot.course) t)
    (found : s.slotOf k.1 k.2.1 k.2.2 = some sl) (unmet : sl.rec_.pendingStatus = 0) : (t.noted k).1 = Codes.OK := by
  have slots := same.slotOf_map (fun c => c.1 = k.2.1 && c.2.1 = k.2.2) (fun _ => rfl) k.1
  rw [found, Option.map_some, Option.map_eq_some_iff] at slots
  obtain ⟨y, here, alike⟩ := slots
  simp only [Slot.course, Prod.mk.injEq] at alike
  obtain ⟨-, -, -, -, pending⟩ := alike
  rw [State.noted, here]
  exact pending.trans unmet

/-- A node that waits for no row goes on as it is. -/
theorem State.nodeGo_matching (s : State) (k : OpKey) (o : Op) {v : VisRun} (kind : nodeKind v v.node = some .matching) (busy : v.nodeState = .busy) :
    s.nodeGo k o v = (s, v) := by
  have none_ : s.nodeStep k o v = none := by rw [State.nodeStep, kind]
  have done : v.rowsDone = true := by rw [VisRun.rowsDone, kind]
  unfold State.nodeGo
  dsimp only
  rw [State.nodeSteps_succ, none_]
  dsimp only
  rw [done, if_pos rfl, ← busy]

theorem State.AcceptOnly.die {s t : State} (h : s.AcceptOnly t) (d : Nat) : t.die d = s.die d := by
  rw [h.only]
  rfl

theorem State.die_onMem (s : State) (f : Mem → Mem) (d : Nat) : (s.onMem f).die d = s.die d := rfl

section MatchEnd
variable {s : State} {d : DieId} {k : OpKey} {sl : Slot} {v : VisRun} (is : s.Runs d.val false k sl v) (inFrame : v.inFrame = true)
  (busy : v.nodeState = .busy) (kind : nodeKind v v.node = some .matching) (unmet : sl.rec_.pendingStatus = 0)
  (target : Reached s (s.matchTarget k.1 v)) (idle : ∀ a ∈ s.matchTarget k.1 v, s.busyByte a = false)
  (queries : Reached s (s.matchSource k.1 v 4)) (trains : Reached s (s.matchSource k.1 v 8))
include is busy kind unmet target idle queries trains

/-- The end of a MATCH whose lists can be reached: its records are written, and it is counted with OK. -/
theorem State.nodeFinish_matching : (s.nodeFinish k sl.op v).mem = (s.mem.writeCells ((s.matchTarget k.1 v).zip (s.matchBytes k.1 v))).1 ∧
    Counted false Codes.OK (s.die v.die) ((s.nodeFinish k sl.op v).die v.die) := by
  obtain ⟨t, accepts, work⟩ := State.nodeWork_matching target idle queries trains
  let written := t.onMem fun m => (m.writeCells ((s.matchTarget k.1 v).zip (s.matchBytes k.1 v))).1
  have course : s.Keeps (RegionSched.seen Slot.course) written := (accepts.seen.seen_comp Slot.course).trans (t.onMem_keeps _)
  let digested := written.onRec k.1 k.2.1 k.2.2 fun c => c.addTensor v.tensors (s.matchBytes k.1 v)
  let flagged := digested.doneFlagAdd k.1 v
  have finish : s.nodeFinish k sl.op v = flagged.nodeEnd k sl.op { v with tensors := v.tensors + 1 } Codes.OK 0 := by
    have done : v.rowsDone = true := by rw [VisRun.rowsDone, kind]
    have released : written.releaseRows k.1 v (planeAt v.params 0) 0 = (written, v) := if_neg (by simp)
    have none_ : (if VisKind.matching = .pyramid ∨ VisKind.matching = .detect then (planeAt v.params 0).height else 0) = 0 := if_neg (by decide)
    unfold State.nodeFinish
    rw [State.nodeGo_matching s k sl.op kind busy]
    dsimp only
    rw [done, kind]
    dsimp only
    rw [work, none_]
    dsimp only
    rw [released]
    exact if_pos (State.noted_unmet course is.found unmet)
  obtain ⟨moves, mem, -⟩ := digested.doneFlagAdd_adds k.1 v
  have counted := flagged.nodeEnd_die k sl.op { v with tensors := v.tensors + 1 } Codes.OK 0
  have die : flagged.die v.die = s.die v.die := by
    have noted : digested.die v.die = written.die v.die := (written.onSlot_rowsMove _ _ _).die _
    have stays : written.die v.die = t.die v.die := t.die_onMem _ _
    rw [moves.die, noted, stays, accepts.die]
  rw [finish]
  refine ⟨(flagged.nodeEnd_mem ..).trans (mem.trans (congrArg (fun m => (Mem.writeCells m _).1) accepts.mem)), ?_⟩
  rw [die] at counted
  rw [← is.engine]
  exact counted

include inFrame

theorem visNodeComplete_matching (once : (s.matchTarget k.1 v).Nodup) : Completes (.visNodeComplete d false) s fun u =>
    (∀ i, i < (s.matchBytes k.1 v).length → ∀ n, u.mem.read n ((s.matchTarget k.1 v).getD i 0) = (s.matchBytes k.1 v).getD i 0) ∧
    (∀ n a, a ∉ s.matchTarget k.1 v → u.mem.read n a = s.mem.read n a) ∧
    (u.die v.die).featNodes = (s.die v.die).featNodes + 1 ∧ (u.die v.die).featStatus = (s.die v.die).featStatus ∧ s.KeepsStore u := by
  obtain ⟨mem, counted⟩ := State.nodeFinish_matching is busy kind unmet target idle queries trains
  have length : (s.matchBytes k.1 v).length = (s.matchTarget k.1 v).length := (s.length_linAddrs ..).symm
  refine completes_of_effect (t := s.nodeFinish k sl.op v) rfl ?_
    ⟨fun i inside n => ?_, fun n a outside => ?_, counted.1, counted.2, s.effect_keepsStore _⟩
  · rw [s.whenP_pos _ is.on, is.graph]
    exact s.whenP_pos _ (by simp [inFrame, busy])
  · rw [State.effect_mem, mem]
    exact Mem.read_writeBytes target.1 once length (length ▸ inside) n
  · rw [State.effect_mem, mem]
    exact Mem.read_writeBytes_other outside n

end MatchEnd

end Sys2Proof.Machine
end

section
/-!
CERTIFICATE. Vision nodes start, and graphs run their frames.
-/
namespace Sys2Proof.Machine

theorem visionGraphsRunTheirFrames : VisionGraphsRunTheirFrames := by
  intro s o sl d st k v nodes c bs l
  refine ⟨?dispatches, ?starts, ?matches_, ?goesOn⟩
  case dispatches =>
    intro may fresh
    exact ⟨visionGraph_empty may fresh, fun nodes_ frames refused => visionGraph_refused may fresh (not_or.2 ⟨nodes_, frames⟩) refused,
      fun nodes_ frames checked open_ clean alone => visionGraph_runs may fresh (not_or.2 ⟨nodes_, frames⟩) checked open_ clean alone⟩
  case starts =>
    intro is boundary alone between marked
    exact visFrameStart_starts (OnEngine.runs is) boundary alone between marked
  case matches_ =>
    rintro is inFrame busy kind unmet rfl rfl once idle reach
    exact visNodeComplete_matching (OnEngine.runs is) inFrame busy kind unmet
      (Reached.sub reach fun _ listed => List.mem_append_left _ (List.mem_append_left _ listed)) idle
      (Reached.sub reach fun _ listed => List.mem_append_left _ (List.mem_append_right _ listed))
      (Reached.sub reach fun _ listed => List.mem_append_right _ listed) once
  case goesOn =>
    intro is inFrame waits kind clean more ready
    exact streamRowWaitEnd_takes (OnEngine.runs is) inFrame waits kind clean more ready

/-- Settles O40: the five kinds of node start by one lemma over their checks, and each command of a graph has a lemma of its own. -/
theorem visionNodesAndGraphs : Obligations.VisionNodesAndGraphs := ⟨visionNodesStart, visionGraphsRunTheirFrames⟩

end Sys2Proof.Machine
end
